-- ==== Sys2Proof/Word.lean ====
section
/-! DEFINITION. The word types of the part: 32-bit registers (R11), bytes of records, frames and containers (R9),
a register field as an address and a bit range, and the row of a register table. -/

set_option Elab.async false

namespace Sys2Proof.Machine

/-- A 32-bit register word. -/
abbrev Word := BitVec 32

/-- One byte of a record, a frame or a container. -/
abbrev Byte := BitVec 8

/-- A register field `[hi:lo]` of the register at `addr` (spec/00_scope.md, "Numbers and units"). -/
structure Fld where
  addr : Nat
  hi : Nat
  lo : Nat
  deriving DecidableEq, Repr

/-- The access types of Table 0.4 (R11). -/
inductive Access where
  | ro | rw | rw1c | wo | sig
  deriving DecidableEq, Repr

/-- One row of a register map: the addresses `first`, `first + 4`, ..., `last`, their access type, their value at
the end of RESET (R17), and the bits a plain write may change. -/
structure RegRow where
  first : Nat
  last : Nat
  access : Access
  reset : Word
  mask : Word
  deriving DecidableEq, Repr

end Sys2Proof.Machine
end

