-- ==== Sys2Proof/Obs.lean ====
section
/-! DEFINITION. What the analogue, optical and network sides of the part measure or receive, as the operands that
carry it into the model (log entry 1): plain structures used by `Instr`. -/

set_option Elab.async false

namespace Sys2Proof

/-- What the crystal and `REF_IN` show when the crystal is judged (R60), in 0.001 ppm: the crystal's amplitude lost; `REF_IN`
edges without a gap longer than 1 us; `REF_IN` measured against the crystal; the witness (0 none, 1 PTP, 2 `PPS_IN`) and the crystal
offset that it shows. -/
structure XoObs where
  amplitude : Bool
  edges : Bool
  ref : Int
  witness : Fin 3
  ofs : Int
  deriving DecidableEq, Repr

/-- The CRC-32C sent with a waveform bank, and the two that the front-end die computes over it (R63). -/
structure BankCheck where
  sent : Machine.Word
  first : Machine.Word
  second : Machine.Word
  deriving DecidableEq, Repr

/-- What the receiver pins of a fibre show over the window of one trace (R86, R103), in volts, P minus N: the four coherent inputs
every 2 ns from 126 ns before the instant of bin 0 of the lowest tone fired, the two Raman inputs every 8 ns from the sample at or before
the instant of bin 0; and the receiver noise of a look, as a mean power in the square of a code (R141). -/
structure TraceVolts where
  xi : List Rat
  xq : List Rat
  yi : List Rat
  yq : List Rat
  ras : List Rat
  rst : List Rat
  noise : Rat
  deriving DecidableEq, Repr

/-- One track at a track update (R137): whether clusters are associated with it, and the position in cm and speed in 0.01 m/s that
they give. -/
structure TrackObs where
  id : Nat
  seen : Bool
  pos : Int
  speed : Int
  deriving DecidableEq, Repr

/-- A cluster of a track-source detector that has persisted for 1 s (R137). -/
structure TrackCand where
  pos : Int
  speed : Int
  deriving DecidableEq, Repr

/-- An estimate of one polarisation in the units of its registers: gain and phase 1e-5, skew 0.01 ps, DC 1/16 code. -/
structure IqEst where
  gain : Int
  phase : Int
  skew : Int
  dcI : Int
  dcQ : Int
  deriving DecidableEq, Repr

/-- What an I/Q estimator gets from a trace (R108): the estimate, whether a sample of the trace is overranged, its mean power in dBFS,
and the estimated image rejection in dB. -/
structure IqObs where
  est : IqEst
  ovr : Bool
  power : Rat
  img : Nat
  deriving DecidableEq, Repr

/-- What an auxiliary modulator sees over the three conversion periods of an output (R171, R172): its differential input in volts, in
even steps, the reference between `AXREF_P` and `AXREF_N`, and whether the saturation detector has fired. -/
structure AuxConv where
  input : List Rat
  ref : Rat
  sat : Bool
  deriving DecidableEq, Repr

/-- What an auxiliary channel delivers (R171, R172): an output of one conversion, or with chopping of a pair whose second member has the
input polarity reversed; or a loss in its Landing of a number of microseconds. -/
inductive AuxSample where
  | value (a b : AuxConv)
  | lost (us : Nat)
  deriving DecidableEq, Repr

/-- What the planner measures for a run (R198, R203, R204): per Lichen monitor the ratio D(T_w, k) / D(T_now, k_now) at the present
step, from the coefficient it fits, and at the next lower step, from the replicas on the trim supply, and per task its share of its
engine's time. -/
structure PlanObs where
  ratio : List (Nat × Rat)
  lower : List (Nat × Rat)
  shares : List (Nat × Rat)
  deriving DecidableEq, Repr

/-- A dark neighbour at an off-test (R288): above (n + 1) or below (n - 1) the lit channel, its drain codes at the lit
sample and at the test capture, and whether it changed state between them. -/
structure NbrObs where
  above : Bool
  first : Int
  second : Int
  changed : Bool
  deriving DecidableEq, Repr

/-- Another channel during a drive of the matrix test (R293): its current code, and its drain codes before and during the
drive. -/
structure MatrixObs where
  chan : Nat
  cur : Int
  before : Int
  during : Int
  deriving DecidableEq, Repr

/-- How a frame reached the part (R330, R335): port, source MAC address, PRP trailer sequence where it has a trailer, and
the sender's IP address and UDP port; whether it found the port's receive Landing holding two frames (R36). -/
structure Carrier where
  port : Fin 2
  mac : Nat
  trailer : Option Nat
  addr : List Machine.Byte
  uport : Nat
  full : Bool
  deriving DecidableEq, Repr

/-- What a BIST slice shows at its end count (R385, R387, R394): the seal, with the counter value shifted in; the CRC-16 of the
region's state at the save and after the restore; and the scan address and bit that a repeat in diagnosis mode locates where the
slice fails. -/
structure SliceEnd where
  misr : BitVec 64
  saved : BitVec 16
  restored : BitVec 16
  addr : Nat
  bit : Nat
  deriving DecidableEq, Repr

/-- A fault that a March test or error correction finds in an array (R396): row, column and bit, whether the repair takes a
spare column, and how many spares of that kind fail their own test first. -/
structure MemFault where
  row : Nat
  col : Nat
  bit : Nat
  byCol : Bool
  badSpares : Nat
  deriving DecidableEq, Repr

/-- What a check of the key store finds (R360, R380): the area of Table 12.12 (1 role key, 2 replay counter, 3 helper data, 4
wrapped key, 5 Cloister logic), the role where the area has one, and whether the error was corrected. -/
structure StoreFault where
  area : Nat
  role : Nat
  corrected : Bool
  deriving DecidableEq, Repr

/-- A signal-die unit 32 + `unit` whose BIST fails at boot (R394, Table 13.10). -/
structure BootBist where
  unit : Fin 5
  slice : Nat
  addr : Nat
  bit : Nat
  how : Nat
  deriving DecidableEq, Repr

end Sys2Proof
end

