-- ==== Sys2Proof/Syntax.lean ====
section
/-! DEFINITION. The commands of the part, one constructor per row of spec/opcode_table.json. A command is a happening: an access
of the host, a datagram, a signed operation, an edge on a pin, the end of a period, or what the analogue, optical and thermal
side measures; measured quantities are operands (log entry 1). Operand types bound what is an index; `Instr.wf` bounds the rest. -/

set_option Elab.async false

namespace Sys2Proof

inductive Instr where
  /-- REGISTER_WRITE (R11): A write to a register that has no row of its own sets its fields as its access type defines. -/
  | registerWrite (a : Machine.Word) (v : Machine.Word)
  /-- SPI_READ (R350): An SPI READ frame returns a status byte, then the data words and a CRC-8. -/
  | spiRead (a : Machine.Word) (n : Machine.Byte) (crc : Machine.Byte)
  /-- SPI_WRITE (R350): An SPI WRITE frame writes up to 64 words and returns a status byte and a CRC-8. -/
  | spiWrite (a : Machine.Word) (data : List Machine.Word) (crc : Machine.Byte)
  /-- SPI_ENVELOPE (R350): An SPI ENVELOPE frame passes a signed envelope to the Cloister and reports its receipt. -/
  | spiEnvelope (b : List Machine.Byte) (crc : Machine.Byte)
  /-- SPI_FRAME_ABORT (R352): A request cut short by SPI_CS_N rising before its CRC has arrived has no effect. -/
  | spiFrameAbort
  /-- LOWER_WORD_READ (R16): Reading the lower word of a 64-bit register pair latches the upper word. -/
  | lowerWordRead (i : Fin 8)
  /-- RECORD_DATA_READ (R354): A read of NET_RDATA returns the next word of the oldest record; the eighth read takes the record and advances the SPI chain. -/
  | recordDataRead
  /-- SEAL_DATA_READ (R370): A read of word 0 of CLS_SEAL_D latches the whole SPI-path seal until word 55 is read or 100 ms pass. -/
  | sealDataRead (i : Fin 56)
  /-- WINDOW_REPLY_TIMEOUT (R54): An access to a window whose die does not reply within 50 us ends with the access-error indication. -/
  | windowReplyTimeout
  /-- HEARTBEAT_TIMEOUT (R30): With no valid die-link heartbeat for 20 ms, the signal die treats the sensing die as absent. -/
  | heartbeatTimeout
  /-- HEARTBEAT_RECEIVED (R30): A valid die-link heartbeat arrives at the signal die. -/
  | heartbeatReceived
  /-- HOLDING_BUFFER_DRAIN (R52): When the die link returns, the signal die delivers its held records in order. -/
  | holdingBufferDrain
  /-- PACER_CALIBRATION_RETURN (R31): When timebase calibration returns, the Pacer slews its device-time copy back to device time. -/
  | pacerCalibrationReturn
  /-- EPOCH_ROLL (R43): When a source's sequence reaches 0xF000_0000, the part increments the epoch and emits EPOCH_START with reason 0x03. -/
  | epochRoll
  /-- GAP_RECORD (R46): When queue space returns, the part queues a GAP_RECORD that carries the source's missing sequence range. -/
  | gapRecord (src : Nat)
  /-- REF_IN_QUALIFIED (R55): After REF_IN has been good for 10 s under AUTO, the timebase moves to lock onto it. -/
  | refInQualified (fofs : Int)
  /-- TIMEBASE_LOCK (R56): The synthesiser completes its lock, its dividers are reset together, and the new timebase state is recorded. -/
  | timebaseLock
  /-- HOLDOVER_ENTER (R58): REF_IN stops being good in LOCKED_REF, and the timebase enters HOLDOVER within 2 us. -/
  | holdoverEnter (offFreq : Bool) (corr : Int)
  /-- HOLDOVER_EXIT (R59): After REF_IN has been good for 10 s, holdover ends and the DPLL slews back to REF_IN. -/
  | holdoverExit
  /-- XO_FAIL (R60): The crystal is declared failed, and the part relocks directly to REF_IN or goes UNLOCKED. -/
  | xoFail (o : XoObs)
  /-- TIMEBASE_UNLOCK (R78): Loss of synthesiser lock or UNLOCKED stops emission within 1 us and sends active fibres to WAIT_READY. -/
  | timebaseUnlock (cause : Fin 3)
  /-- WFM_ERROR (R63): A waveform word fails its integrity check in playback; the shot ends and the tone is restored. -/
  | wfmError (f : Fin 2) (tone : Fin 4) (load : Option BankCheck)
  /-- PROBE_CYCLE_START (R66): A probe cycle of a fibre starts; the cycle number rises and the shots of the cycle fire. -/
  | probeCycleStart (f : Fin 2)
  /-- PROBE_SWITCH (R67): A new PROBE section takes effect at the fibre's cycle boundary. -/
  | probeSwitch (f : Fin 2)
  /-- LASER_READY (R70): The laser monitor mean has stayed inside the ready window for 100 ms, and the fibre moves to START. -/
  | laserReady (f : Fin 2) (avg : Fin 4096)
  /-- LASER_NOT_READY (R71): The laser is not ready within the ready timeout of WAIT_READY. -/
  | laserNotReady (f : Fin 2) (avg : Fin 4096)
  /-- PMON_OUT (R71): The laser monitor has stayed outside its window for 100 ms; the fibre goes to WAIT_READY or LOCKOUT. -/
  | pmonOut (f : Fin 2) (avg : Fin 4096)
  /-- CHECK_BURST (R73): A 16-cycle tone 0 check burst at reduced amplitude starts on schedule in START, APR or HELD. -/
  | checkBurst (f : Fin 2)
  /-- APR_CHECK (R144): The result of a check burst arrives, and the fibre advances its pass count or moves state. -/
  | aprCheck (f : Fin 2)
  /-- CHECK_RESULT_TIMEOUT (R72): A check with no result within 100 ms of its burst's end counts as failed. -/
  | checkResultTimeout (f : Fin 2)
  /-- OPEN_END_INDICATION (R74): The front-end die receives an open-end report and ends full-power emission on the fibre. -/
  | openEndIndication (f : Fin 2)
  /-- CONTINUITY_CONFIRMATION (R75): The front-end die receives the Gallery's per-cycle continuity confirmation. -/
  | continuityConfirmation (f : Fin 2)
  /-- CONFIRMATION_TIMEOUT (R75): No continuity confirmation for CONFIRM ms sends the fibre to APR with trigger 0x02. -/
  | confirmationTimeout (f : Fin 2)
  /-- FORCE (R76): PRB_APR_CMD FORCE moves a fibre in START, FULL or APR into APR with the forced mark. -/
  | force (f : Fin 2)
  /-- RESTORE (R76): PRB_APR_CMD RESTORE moves HELD to FULL or LOCKOUT to WAIT_READY. -/
  | restore (f : Fin 2)
  /-- APR_LOCKOUT (R77): A readback mismatch of SOA, laser enable or DAC sends the fibre to LOCKOUT within 10 us. -/
  | aprLockout (f : Fin 2)
  /-- PPS_IN_EDGE (R79): A PPS_IN rising edge is timestamped and judged for qualification, acceptance or as extra. -/
  | ppsInEdge (high : Nat)
  /-- PPS_LOST (R80): Three missing expected edges in QUALIFIED, or 3 s without an edge in UNQUALIFIED, give LOST. -/
  | ppsLost
  /-- PPS_OUT_RISE (R81): PPS_OUT rises at each whole second of valid device time. -/
  | ppsOutRise
  /-- PPS_OUT_FALL (R81): PPS_OUT falls after OUT_W us. -/
  | ppsOutFall
  /-- LANDING_HIGH (R104): A Landing's fill reaches the high mark after being below it. -/
  | landingHigh (f : Fin 2) (raman : Bool) (fill : Nat)
  /-- LANDING_DROP_START (R105): A sample arrives at a full Landing, and the Landing begins to drop. -/
  | landingDropStart (f : Fin 2) (raman : Bool)
  /-- LANDING_OVERFLOW (R105): A drop ends; the overlapped traces are lost whole and the loss is reported. -/
  | landingOverflow (f : Fin 2) (raman : Bool)
  /-- CHZ_HANDOVER_START (R98): A candidate channelizer begins in parallel with the incumbent at the start of a trace window. -/
  | chzHandoverStart (c : Fin 3) (f : Fin 2)
  /-- CHZ_HANDOVER (R98): The comparison of trace n completes, and on a match delivery passes to the candidate. -/
  | chzHandover (c : Fin 3) (agree : Bool)
  /-- CHZ_FAIL (R99): An ACTIVE channelizer fails an integrity check or stalls and is retired. -/
  | chzFail (c : Fin 3) (stall : Bool)
  /-- CHZ_TAKEOVER (R99): A spare channelizer takes over with the first trace starting at least 100 us after the failure. -/
  | chzTakeover (c : Fin 3) (f : Fin 2)
  /-- IQ_ESTIMATE_UPDATE (R109): The blind I/Q estimator updates from a FULL trace and applies new coefficients at a cycle start. -/
  | iqEstimateUpdate (f : Fin 2) (y : Bool) (o : IqObs)
  /-- IQ_HOLD_EXIT (R110): After the estimate has stayed within range for 10 s, HOLD gives way to CONVERGING. -/
  | iqHoldExit (f : Fin 2) (y : Bool)
  /-- IQ_RECONVERGE (R110): After rejection has stayed below 50 dB for 10 s, TRACKING gives way to CONVERGING. -/
  | iqReconverge (f : Fin 2) (y : Bool)
  /-- OVERRANGE (R114): At most once per second per converter, overranged traces are recorded and counted. -/
  | overrange (a : Fin 12)
  /-- SNAPSHOT_ARM (R118): ACQ_SNAP_CMD ARM arms a capture of the next cycle, clearing DONE and LOST. -/
  | snapshotArm
  /-- SNAPSHOT_DONE (R118): A snapshot capture ends, and DONE and SNAP are set. -/
  | snapshotDone (volts : List (List Rat))
  /-- ACQ_CLEAR_PEAK (R117): ACQ_CLR PEAKf or RPEAKf clears a Landing peak fill. -/
  | acqClearPeak (p0 : Bool) (p1 : Bool) (r0 : Bool) (r1 : Bool)
  /-- ACQ_CLEAR_COUNTS (R117): ACQ_CLR COUNTS clears the drop, loss and overrange counters. -/
  | acqClearCounts
  /-- TRACE_PROCESSED (R119): The Gallery completes the processing of a trace according to its emission kind. -/
  | traceProcessed (f : Fin 2) (n : Nat) (v : TraceVolts)
  /-- REF_LOST (R121): When more than half the shots of a second carry NOREF, the reference state becomes LOST. -/
  | refLost (f : Fin 2)
  /-- REF_OK (R121): When the NOREF share of a whole second falls to 10 %, the reference is recorded OK. -/
  | refOk (f : Fin 2)
  /-- ZONE_VALID (R127): A SETTLING zone meets its settling conditions and becomes VALID. -/
  | zoneValid (f : Fin 2) (z : Fin 256)
  /-- ZONE_DEGRADED (R128): A zone's DEGRADED flag is set or cleared from the dead and NOREF shares of the last second. -/
  | zoneDegraded (f : Fin 2) (z : Fin 256)
  /-- MAP_INTERVAL (R132): At each map interval, band-energy cell levels are formed and detectors test the cells. -/
  | mapInterval (f : Fin 2) (z : Fin 256)
  /-- EVENT_HEARTBEAT (R135): Every heartbeat interval, an open event records its peak. -/
  | eventHeartbeat (f : Fin 2) (z : Fin 256) (id : Nat)
  /-- ZONE_STORM_END (R136): STORM ends after would-be openings stay below half the limit for 5 s. -/
  | zoneStormEnd (f : Fin 2) (z : Fin 256)
  /-- TRACK_UPDATE (R137): At 10 Hz the tracker associates clusters and updates, creates, confirms and ends tracks. -/
  | trackUpdate (f : Fin 2) (obs : List TrackObs) (cands : List TrackCand)
  /-- ALIAS_SET (R145): The guard-bin margin over 1 s is within 10 dB, and the alias flag is set. -/
  | aliasSet (f : Fin 2)
  /-- ALIAS_CLEAR (R145): The guard-bin margin has exceeded 13 dB for 10 s, and the alias flag is cleared. -/
  | aliasClear (f : Fin 2)
  /-- DIM_PERMIT_SEND (R148): Every 100 ms the sensing die sends a dim permit for each link that has been healthy and untriggered for its hold. -/
  | dimPermitSend
  /-- DIM_PERMIT_RECEIVED (R148): The signal die receives a dim permit and may run the head at its standby level. -/
  | dimPermitReceived (l : Fin 64)
  /-- REVOKE_RECEIVED (R148): The signal die receives a revoke and runs the head at its lit level. -/
  | revokeReceived (l : Fin 64)
  /-- PERMIT_AGE_EXPIRY (R148): A link's last dim permit becomes older than 250 ms, and the head returns to its lit level. -/
  | permitAgeExpiry (l : Fin 64)
  /-- DATA_STREAM_SEND (R337): A data-stream datagram is assembled, chained and transmitted to a destination. -/
  | dataStreamSend (d : Fin 4) (p : Fin 8) (f : Fin 2) (z : Fin 256) (j : Fin 8) (first : Nat) (count : Nat) (late : Bool)
  /-- ACU_CLEAR_COUNTS (R154): ACU_CLR COUNTS clears the zone counters. -/
  | acuClearCounts
  /-- RAMAN_DARK_MEASURE (R156): Once per second the dark level of each Raman converter is measured. -/
  | ramanDarkMeasure (f : Fin 2) (as : List Rat) (st : List Rat)
  /-- RAMAN_DARK (R156): After 60 s without a new dark level, the fibre's Raman bins are marked NODATA. -/
  | ramanDark (f : Fin 2)
  /-- RAMAN_UPDATE (R158): Every U seconds, Raman averages, temperatures, the anchor and fused offsets are updated. -/
  | ramanUpdate (f : Fin 2)
  /-- ANCHOR_STALE (R160): HOLD lasting longer than the stale limit makes the anchor STALE. -/
  | anchorStale (f : Fin 2)
  /-- BETA_UPDATE (R166): Every hour the part refits beta_T and resolves the fused offsets. -/
  | betaUpdate (f : Fin 2)
  /-- FUSED_OUTPUT (R164): Every second the part reports each fused cell's temperature. -/
  | fusedOutput (f : Fin 2)
  /-- FUSED_REBASE (R168): A FUSED cell loses phase continuity and enters REBASE. -/
  | fusedRebase (f : Fin 2) (z : Fin 256) (c : Fin 4096) (cause : Fin 3)
  /-- AUX_OUTPUT (R172): An auxiliary channel delivers a filtered, linearised output. -/
  | auxOutput (c : Fin 8) (o : AuxSample)
  /-- AUX_OPEN (R176): Compliance or saturation with burn-out declares the channel open and FAULT. -/
  | auxOpen (c : Fin 8) (cause : Fin 3)
  /-- AUX_RESTORED (R176): After the open condition has been absent for 1 s, the channel re-settles. -/
  | auxRestored (c : Fin 8)
  /-- AUX_DWELL (R174): In SHARED mode a dwell ends and the excitation sources move to the next channel. -/
  | auxDwell
  /-- AUX_OVERRANGE (R180): At most once per second per channel, overranges are recorded. -/
  | auxOverrange (c : Fin 8)
  /-- PLANNER_RUN (R203): The margin planner runs, takes the lowest predicted slack and performs one action. -/
  | plannerRun (obs : PlanObs)
  /-- RUN_NOW (R203): GAL_CMD RUN_NOW starts an immediate planner run. -/
  | runNow (obs : PlanObs)
  /-- FAST_PATH (R205): A slack alarm or Landing high mark raises the Stair every 10 ms, moves a task or requests the rate profile. -/
  | fastPath (obs : PlanObs)
  /-- SLACK_WINDOW (R196): A 10 ms utilisation window of a unit ends and its slack is measured. -/
  | slackWindow (u : Fin 23) (util : Nat) (tj : Int)
  /-- TASK_MOVE_START (R189): At the end of a cycle the incumbent snapshots the task state and the candidate loads it. -/
  | taskMoveStart
  /-- TASK_MOVE (R189): Four cycles of outputs have been compared, and on a match the candidate takes the task. -/
  | taskMove (bad : Option Nat)
  /-- MOVE_DEFERRED (R190): A planned move that cannot start within 1 s waits and is recorded. -/
  | moveDeferred
  /-- ENGINE_FAIL (R192): A committed or candidate engine fails and is retired. -/
  | engineFail (e : Fin 20) (cause : Nat)
  /-- TASK_RESTART (R192): Within 5 ms the failed engine's tasks restart with cleared state on a spare. -/
  | taskRestart (formed : List Nat)
  /-- STAIR_FAULT (R201): The core supply is measured low for 1 ms or above 0.90 V. -/
  | stairFault (high : Bool) (mv : Nat)
  /-- GAL_CLEAR_COUNTS (R210): GAL_CLR COUNTS clears GAL_CNT and GAL_STAIR.MAX. -/
  | galClearCounts
  /-- XFER_BEGIN (R230): CFG_XFER_CTL BEGIN puts a slot in WRITING for a transfer of LENGTH bytes. -/
  | xferBegin (slot : Fin 4) (len : Nat)
  /-- XFER_DATA (R230): A write to CFG_XFER_DATA appends 4 container bytes. -/
  | xferData (w : Machine.Word)
  /-- XFER_COMMIT (R230): CFG_XFER_CTL COMMIT starts verification of steps 1-7. -/
  | xferCommit
  /-- XFER_ABORT (R230): CFG_XFER_CTL ABORT ends the transfer, and the slot reads INVALID. -/
  | xferAbort
  /-- CFG_XFER_DONE (R230): Transfer verification completes, and the slot becomes VALID or INVALID. -/
  | cfgXferDone
  /-- SWITCH (R234): CFG_CMD SWITCH starts a hitless switch to a VALID slot. -/
  | switch (slot : Fin 4) (persist : Bool)
  /-- CANCEL (R234): CFG_CMD CANCEL abandons a switch in LOADING or WAITING. -/
  | cancel
  /-- ERASE (R230): CFG_CMD ERASE sets a slot to EMPTY. -/
  | erase (slot : Fin 4)
  /-- COMMIT_RB (R231): CFG_CMD COMMIT_RB raises the profile counter to the active slot's rollback value. -/
  | commitRb
  /-- CFG_CTL_WRITE (R233): A signed OWNER write to CFG_CTL stores the pin selection and the preferred slot. -/
  | cfgCtlWrite (pinEn : Bool) (pref : Fin 4)
  /-- SWITCH_LOADED (R234): Verification and the shadow planes complete, and the switch enters WAITING. -/
  | switchLoaded
  /-- SWITCH_COMMIT (R237): The safety sequencer finds the commit condition holding and exchanges the signal-die planes in one step. -/
  | switchCommit
  /-- CFG_SWITCH_DONE (R237): After the signal die acknowledges, the sensing sections change at the next cycle boundary. -/
  | cfgSwitchDone
  /-- SWITCH_TIMEOUT (R235): WAITING exceeds the switch timeout, and the switch is abandoned. -/
  | switchTimeout
  /-- ASPECT_COMMAND (R257): LMP_CMD SET applies a commanded demand to a head. -/
  | aspectCommand (h : Fin 32) (v : Fin 32)
  /-- LEVEL_COMMAND (R257): LMP_CMD LEVEL selects the DAY or NIGHT level set of a head. -/
  | levelCommand (h : Fin 32) (level : Fin 4)
  /-- ASPECT_CHANGE_STEP (R260): The next step of an aspect change applies its adds and removes, T_step after the last. -/
  | aspectChangeStep (h : Fin 32)
  /-- DWELL_EXPIRY (R259): The minimum dwell passes, and a held less-restrictive demand starts. -/
  | dwellExpiry (h : Fin 32)
  /-- PWM_PERIOD_START (R246): A channel's PWM period starts, and its on-phase and pending level changes apply. -/
  | pwmPeriodStart (n : Fin 64)
  /-- DIM_RAMP_STEP (R251): The next of 16 dim ramp steps applies a lower duty count. -/
  | dimRampStep (n : Fin 64)
  /-- FLASH_ON_EDGE (R252): A flash group's on-edge starts a new PWM period of every flashing channel. -/
  | flashOnEdge (g : Fin 8) (anti : Bool)
  /-- FLASH_OFF_EDGE (R253): A flash group's off-edge ends any on-phase in progress. -/
  | flashOffEdge (g : Fin 8) (anti : Bool)
  /-- LMP_CLEAR_COUNTS (R267): LMP_CLR COUNTS clears LMP_HCNT of every head. -/
  | lmpClearCounts
  /-- LIT_SAMPLE (R279): A lit sample is captured in an on-phase and counted towards failure. -/
  | litSample (n : Fin 64) (cur : Int) (drain : Int) (full : Bool) (inserted : Bool)
  /-- OVERCURRENT_TRIP (R280): The shunt comparator trips, drives the gate low within 2 us and fails the channel. -/
  | overcurrentTrip (n : Fin 64) (cur : Int) (drain : Int)
  /-- DARK_SAMPLE (R281): Every 1 ms a dark channel's shunt and drain are captured. -/
  | darkSample (n : Fin 64) (cur : Int) (drain : Int)
  /-- COLD_TEST (R282): Once per second a dark channel receives a cold current or pulse test. -/
  | coldTest (n : Fin 64) (cur : Int) (drain : Int) (absorbed : Bool)
  /-- OFF_TEST (R283): Once per second a lit channel receives an off-test. -/
  | offTest (n : Fin 64) (cur : Int) (drain : Int) (nbrs : List NbrObs) (absorbed : Bool)
  /-- TEST_OVERDUE (R286): A due test kind older than the test maximum interval is recorded overdue. -/
  | testOverdue (n : Fin 64) (kind : Fin 4)
  /-- BANK_SUPPLY_SAMPLE (R287): Every 100 us each bank's LVb is captured. -/
  | bankSupplySample (b : Fin 4) (code : Int)
  /-- BANK_SUPPLY_RESTORED (R287): LVb stays 1 V above the threshold for 100 ms, and the SUPPLY failures clear. -/
  | bankSupplyRestored (b : Fin 4)
  /-- CALIBRATION_WINDOW (R273): Every 50 ms one path of a proved channel is calibrated in a 12 us off-phase window. -/
  | calibrationWindow (n : Fin 64) (ld : Bool) (gain : Int) (ofs : Int)
  /-- CONVERTER_CHECK (R275): Every 10 ms each supervision converter converts its internal 1.250 V check. -/
  | converterCheck (c : Fin 2) (err : Int) (gain : Int) (ofs : Int) (rate : Nat)
  /-- USER_SLOT_TRIGGER (R269): A user slot's timer or edge trigger captures its input. -/
  | userSlotTrigger (i : Fin 512) (code : Int) (busy : Bool)
  /-- SUP_MISSED (R269): Skipped user triggers are recorded at most once per second per converter. -/
  | supMissed (c : Fin 2)
  /-- REFERENCE_SETTLED (R271): 2 ms after a reference change, the converter's results stop being marked SETTLING. -/
  | referenceSettled (c : Fin 2)
  /-- SUP_REF (R271): An external reference out of window for 1 ms is replaced by INTERNAL, or is restored after 1 s. -/
  | supRef (c : Fin 2) (ok : Bool)
  /-- LIGHT (R292): LMP_PCMD LIGHT lights a channel as a COMMISSION test pattern. -/
  | light (n : Fin 64)
  /-- DARK_ALL (R292): LMP_PCMD DARK_ALL ends every pattern. -/
  | darkAll
  /-- MATRIX (R293): LMP_PCMD MATRIX starts the matrix test of every proved channel. -/
  | matrix
  /-- MATRIX_DRIVE_STEP (R293): Each 2 ms the matrix test drives the next channel and captures the others. -/
  | matrixDriveStep (drive : Int) (obs : List MatrixObs)
  /-- LAMP_CLEAR (R289): LMP_PCMD CLEAR ends the failure of a channel whose failing condition is absent. -/
  | lampClear (n : Fin 64)
  /-- LAMP_CLEAR_ALL (R289): LMP_PCMD CLEAR_ALL clears every clearable lamp failure. -/
  | lampClearAll
  /-- AUTO_RECOVERY (R289): A failed channel that passes for the recovery time recovers by itself. -/
  | autoRecovery (n : Fin 64)
  /-- PROVING_CLEAR_COUNTS (R296): LMP_PCLR COUNTS clears the absorbed-test counts. -/
  | provingClearCounts
  /-- SUP_CLEAR_COUNTS (R298): SUP_CLR COUNTS clears the skipped-trigger counts. -/
  | supClearCounts
  /-- TEST_PULSE (R302): A test-pulse source emits its low pulse and its readback is judged. -/
  | testPulse (k : Fin 4) (lo : Nat) (hi : Nat)
  /-- TPO_RETRY (R303): An overloaded source tries again once every 1 s. -/
  | tpoRetry (k : Fin 4) (ok : Bool)
  /-- INPUT_SAMPLE (R304): Every 100 us each safety input is sampled, masked samples repeating the last. -/
  | inputSample (i : Fin 32) (level : Bool)
  /-- INPUT_FILTERED (R304): A sample level held for the filter time changes the filtered level and the logical state. -/
  | inputFiltered (i : Fin 32)
  /-- DEBOUNCE_EXPIRY (R304): The filtered level has been high for the debounce time, and the input goes ON. -/
  | debounceExpiry (i : Fin 32)
  /-- INPUT_CAPTURE (R305): A tested input's capture is judged over its last four captures. -/
  | inputCapture (i : Fin 32) (src : Fin 4) (level : Bool) (after : Bool)
  /-- DISCREPANCY_EXPIRY (R307): Pair inputs that disagree longer than the discrepancy time give fault DISCREPANCY. -/
  | discrepancyExpiry (p : Fin 16)
  /-- OUTPUT_OFF_TEST (R311): Every off-test interval an on output is opened for W_so and must read below 2 V. -/
  | outputOffTest (o : Fin 8) (mv : Nat)
  /-- OUTPUT_READBACK_SAMPLE (R311): Every 100 us every output's readback is sampled. -/
  | outputReadbackSample (o : Fin 8) (mv : Nat)
  /-- CUTOFF_TEST (R311): Every 60 s with an output on, the cut-off switch opens for 300 us and every on output must read low. -/
  | cutoffTest (mv : List Nat)
  /-- OUTPUT_OVERLOAD (R312): A current above 0.7 A for 1 ms, or thermal shutdown, switches and locks the output. -/
  | outputOverload (o : Fin 8) (mv : Nat)
  /-- EDM_SAMPLE (R313): Every 100 us each EDM input is sampled and the WELDED and EDM_LOST rules are judged. -/
  | edmSample (o : Fin 8) (level : Bool)
  /-- BRAKE_DECAY_CHECK (R314): T_dec after a release or an application, the coil current is checked. -/
  | brakeDecayCheck (k : Fin 2) (cur : Nat)
  /-- BRAKE_SWITCH_TEST (R315): Every switch test interval each gate of an applied brake is turned on alone for 2 ms. -/
  | brakeSwitchTest (k : Fin 2) (hi : Nat) (lo : Nat)
  /-- BRAKE_TEST_START (R316): A brake test latches the position and raises TQREQk. -/
  | brakeTestStart (k : Fin 2)
  /-- BRAKE_TEST_END (R316): The test duration ends or the window is exceeded, and TQREQk falls. -/
  | brakeTestEnd (k : Fin 2)
  /-- BRAKE_TEST_RETRY (R317): 60 s after a failed test, the part repeats it. -/
  | brakeTestRetry (k : Fin 2)
  /-- BRAKE_TEST_LAPSED (R317): No test has completed for twice the interval, and TEST_LAPSED is declared. -/
  | brakeTestLapsed (k : Fin 2)
  /-- TORQUE_OFF_DELAY (R300): After a test aborted by a release demand, the brake gates go on when the torque-off delay ends. -/
  | torqueOffDelay (k : Fin 2)
  /-- SIO_CLEAR (R308): SIO_CMD CLEAR clears an input, output, brake or source fault that is no longer present. -/
  | sioClear (kind : Fin 4) (i : Fin 32)
  /-- SIO_CLEAR_ALL (R308): SIO_CMD CLEAR_ALL clears every clearable safety fault. -/
  | sioClearAll
  /-- BRK_TEST_REQUEST (R316): SIO_CMD BRK_TEST requests a test of a brake. -/
  | brkTestRequest (k : Fin 2)
  /-- SIO_ACK (R321): SIO_CMD ACK ends the RST_STUCK indication. -/
  | sioAck
  /-- SIO_CLEAR_COUNTS (R328): SIO_CLR COUNTS clears the input fault counts. -/
  | sioClearCounts
  /-- DEGRADED_EXPIRED (R318): The degraded timer expires, and the part enters SAFE. -/
  | degradedExpired
  /-- DEGRADED_TIMER_DISCARD (R318): 60 s after a warm reset with no degraded condition, the kept remaining time is discarded. -/
  | degradedTimerDiscard
  /-- SAFE_STOP (R319): SAFE_STOP_N held low for 2 ms forces SAFE. -/
  | safeStop
  /-- SAFE_STOP_RELEASE (R319): SAFE_STOP_N returns high, and its SAFE cause clears. -/
  | safeStopRelease
  /-- SAFE_OUT_PULSE (R321): SAFE_OUT shows its indication as pulse groups repeated every 2 s. -/
  | safeOutPulse
  /-- PEER_MISMATCH (R324): A peer item that differs longer than the cross-check time gives PEER_MISMATCH at F3. -/
  | peerMismatch
  /-- LINK_DOWN (R329): A port's link is lost through LOS, module absence, PCS lock or PHY report. -/
  | linkDown (p : Fin 2) (cause : Fin 4)
  /-- LINK_UP (R329): A port's link comes up. -/
  | linkUp (p : Fin 2)
  /-- PRP_SUPERVISION (R330): Every 2 s the part sends PRP supervision frames. -/
  | prpSupervision
  /-- PTP_SYNC (R333): A Sync yields an offset, and the servo steps or slews device time. -/
  | ptpSync (b : List Machine.Byte) (fu : Option (List Machine.Byte))
  /-- ANNOUNCE (R331): An Announce message feeds the best master clock algorithm. -/
  | announce (b : List Machine.Byte)
  /-- ANNOUNCE_TIMEOUT (R331): The master is lost, and device time goes to PPS or HOLDOVER. -/
  | announceTimeout (ferr : Nat)
  /-- DELAY_REQ (R331): A Delay_Req is sent at the interval the master requests. -/
  | delayReq
  /-- DELAY_RESP (R331): A Delay_Resp updates the path delay. -/
  | delayResp (b : List Machine.Byte)
  /-- TIME_LOCKED (R332): With the offset within 1 us for 10 s, device time becomes LOCKED. -/
  | timeLocked
  /-- MGMT_READ (R338): A management READ datagram is answered with READ_REPLY. -/
  | mgmtRead (k : Carrier) (b : List Machine.Byte)
  /-- MGMT_ENVELOPE (R338): A management ENVELOPE datagram passes a signed envelope to the Cloister. -/
  | mgmtEnvelope (k : Carrier) (b : List Machine.Byte)
  /-- BORNAK_DATA (R345): A received Bornak DATA frame is checked and, when accepted, replaces the data in force. -/
  | bornakData (k : Carrier) (b : List Machine.Byte)
  /-- BORNAK_REQ (R348): A received REQ is answered with an ACK within 1 ms. -/
  | bornakReq (k : Carrier) (b : List Machine.Byte)
  /-- BORNAK_ACK (R344): A received ACK that meets the rules makes a new anchor. -/
  | bornakAck (k : Carrier) (b : List Machine.Byte)
  /-- BORNAK_REQ_SEND (R344): Every T_e/2 the consumer sends a REQ. -/
  | bornakReqSend (c : Fin 64)
  /-- BORNAK_DATA_SEND (R348): The producer sends a DATA frame every transmit period or on a payload change. -/
  | bornakDataSend (c : Fin 64)
  /-- BORNAK_EXPIRY (R346): The data in force reach age T_e, substitutes take over and the consumer goes to RESYNC. -/
  | bornakExpiry (c : Fin 64)
  /-- BORNAK_WAIT_TIMEOUT (R346): No DATA is accepted within T_e of the anchor, and WAIT returns to RESYNC. -/
  | bornakWaitTimeout (c : Fin 64)
  /-- BNK_ERRORS (R355): At most once per second, risen Bornak error counts are recorded. -/
  | bnkErrors (c : Fin 64)
  /-- NET_CLEAR_COUNTS (R358): NET_CLR COUNTS clears every NET_ counter. -/
  | netClearCounts
  /-- BNK_CLEAR_COUNTS (R358): BNK_CLR COUNTS clears the counters of every connection. -/
  | bnkClearCounts
  /-- CHAIN_SEAL (R369): After each whole second the part sends a signed chain seal to each sealing destination. -/
  | chainSeal (d : Fin 4)
  /-- SPI_SEAL (R370): Every second the part writes the signed SPI-path seal to CLS_SEAL_D. -/
  | spiSeal
  /-- ENVELOPE_DECIDED (R363): The Cloister decides an envelope through its steps, commits the replay counter and replies. -/
  | envelopeDecided (o : PlanObs)
  /-- SIGNED_WRITE (R364): Envelope operation WRITE writes a register when the role is permitted. -/
  | signedWrite (role : Fin 4) (a : Machine.Word) (v : Machine.Word) (o : PlanObs)
  /-- SIGNED_READ (R363): Envelope operation READ returns up to 64 words. -/
  | signedRead (role : Fin 4) (a : Machine.Word) (n : Fin 64)
  /-- KEY_SET (R363): KEY_SET installs, replaces or removes a role key. -/
  | keySet (signer : Fin 4) (role : Fin 4) (key : Option (List Machine.Byte))
  /-- ATTEST (R371): ATTEST returns the signed attestation report. -/
  | attest (role : Fin 4) (nonce : List Machine.Byte)
  /-- LEDGER_READ (R407): LEDGER_READ returns chunks of a counter area or journal entries. -/
  | ledgerRead (role : Fin 4) (area : Fin 10) (count : Fin 24) (first : Nat)
  /-- LIFECYCLE (R376): LIFECYCLE arms or makes a life-cycle transition. -/
  | lifecycle (role : Fin 4) (target : Fin 5)
  /-- FW_BEGIN (R375): FW_BEGIN starts a firmware transfer to the image that is not running. -/
  | fwBegin (role : Fin 4) (img : Fin 2) (len : Nat)
  /-- FW_APPEND (R375): CLS_FW_CTL APPEND appends a chunk of CLS_FW_BUF to the image. -/
  | fwAppend (n : Fin 16384)
  /-- FW_COMMIT (R375): FW_COMMIT starts verification of the transferred image. -/
  | fwCommit (role : Fin 4)
  /-- CLS_FW (R375): Verification of a firmware image completes within 2 s. -/
  | clsFw
  /-- FW_ACTIVATE (R375): FW_ACTIVATE makes an image preferred from the next reset. -/
  | fwActivate (role : Fin 4) (img : Fin 2)
  /-- FW_CONFIRM (R373): FW_CONFIRM confirms a trial image. -/
  | fwConfirm (role : Fin 4)
  /-- FW_COMMIT_RB (R375): FW_COMMIT_RB raises anti-rollback counter 0 to the confirmed image's value. -/
  | fwCommitRb (role : Fin 4)
  /-- TRIAL_CONFIRM (R373): A trial image confirms itself after 600 s without an F3 or F4. -/
  | trialConfirm
  /-- KEY_STORE_CHECK (R360): Every 10 min each key-store item is checked and corrected. -/
  | keyStoreCheck (found : List StoreFault)
  /-- ROTATION_STEP (R389): An engine rotation step tests the reserve and hands the reserve role on. -/
  | rotationStep
  /-- CHZ_ROTATION_STEP (R390): A channelizer rotation step tests the spare and hands a fibre to it. -/
  | chzRotationStep
  /-- BIST_SLICE (R385): A logic BIST slice of a unit starts, with its state saved where needed. -/
  | bistSlice (u : Fin 37) (stop : Option (Fin 2))
  /-- BIST_SLICE_END (R385): A slice reaches its end count, and its seal is compared and the state restored. -/
  | bistSliceEnd (r : SliceEnd)
  /-- SIGNAL_DIE_SLICE (R393): Every 375 ms one slice of a signal-die unit runs. -/
  | signalDieSlice (u : Fin 5) (r : SliceEnd)
  /-- TEST_NOW (R389): TST_CMD NOW brings a unit's rotation step forward. -/
  | testNow (u : Fin 256)
  /-- TST_CLEAR_COUNTS (R412): TST_CLR COUNTS clears TST_CNT. -/
  | tstClearCounts
  /-- MARCH_ROW (R395): A transparent March C- test runs on the next row of an array. -/
  | marchRow (a : Nat) (bad : Option MemFault)
  /-- SCRUB (R395): Error correction scrubs the words of an array. -/
  | scrub (a : Nat) (fix : Option MemFault)
  /-- LICHEN_READ (R398): Every 60 s each Lichen monitor is read. -/
  | lichenRead (m : Fin 48) (reading : Option Nat) (tj : Int)
  /-- LICHEN_HOURLY (R398): Each hour the part keeps the monitors' hourly means with temperature and step. -/
  | lichenHourly
  /-- LICHEN_DAILY (R399): Each day a normalised drift value per DELAY monitor is kept in the ledger. -/
  | lichenDaily
  /-- LICHEN_FORECAST (R401): Once a day the planner computes the end-of-margin forecast. -/
  | lichenForecast
  /-- COUNTER_IMAGE_WRITE (R403): Every 10 min the counter image is written to the next slot. -/
  | counterImageWrite (bad : Option Nat)
  /-- JOURNAL_WRITE (R404): A kept record is written to the journal within 1 s. -/
  | journalWrite (bad : Option Nat)
  /-- LAMP_AGEING (R406): Monthly, a lamp channel's mean current departing 10 % from its reference is recorded. -/
  | lampAgeing (n : Fin 64)
  /-- RELEASE (R416): MOD_CMD RELEASE moves HOLD to RUN when its conditions hold. -/
  | release
  /-- HOLD (R413): MOD_CMD HOLD moves the run family to HOLD. -/
  | hold
  /-- EXIT_SAFE (R427): MOD_CMD EXIT_SAFE moves SAFE to HOLD when no cause remains. -/
  | exitSafe
  /-- COMMISSION (R417): MOD_CMD COMMISSION starts a commissioning session from HOLD. -/
  | commission
  /-- END (R417): MOD_CMD END ends the commissioning session. -/
  | endCommissioning
  /-- COMMISSION_TIMEOUT (R417): 4 h without an accepted MAINTAINER envelope ends COMMISSION. -/
  | commissionTimeout
  /-- QUIESCE (R428): MOD_CMD QUIESCE starts the preparation of the part for removal. -/
  | quiesce
  /-- QUIESCE_DONE (R428): The QUIESCE sequence completes and QDONE is set. -/
  | quiesceDone
  /-- RESET (R418): MOD_CMD RESET performs a warm reset. -/
  | reset
  /-- MOD_CLEAR_COUNTS (R432): MOD_CLR COUNTS clears MOD_FCNT. -/
  | modClearCounts
  /-- VFIELD_RISE (R415): VFIELD rises above 8.6 V and the part starts its power-on sequence. -/
  | vfieldRise (v : Nat)
  /-- RESET_EXIT (R413): With supplies valid and RST_N released, the part leaves RESET for BOOT. -/
  | resetExit (rmaN : Bool)
  /-- BOOT_COMPLETE (R372): The image starts and the signal-die boot BIST passes, so BOOT ends, the epoch opens and LOAD begins. -/
  | bootComplete (found : List StoreFault) (bad : Option BootBist)
  /-- LOAD_COMPLETE (R413): The slot is selected and verified and the planes are loaded, so LOAD ends in HOLD or SAFE. -/
  | loadComplete (pins : Fin 4) (settled : Bool)
  /-- RST_N_ASSERT (R419): RST_N held low for 10 ms is accepted. -/
  | rstNAssert
  /-- RST_N_RELEASE (R419): RST_N high for 10 ms releases RESET. -/
  | rstNRelease
  /-- RST_STUCK (R420): RST_N low for 8 s is declared stuck; the part boots and ignores the pin. -/
  | rstStuck
  /-- RST_N_REARM (R420): After RST_N has been high for 1 s, the pin is accepted again. -/
  | rstNRearm
  /-- F4_HOLD_EXPIRY (R421): 10 s after an F4 the part leaves RESET and boots. -/
  | f4HoldExpiry
  /-- FAULT_HANDLING (R424): A level handler takes the next queued fault and performs its action. -/
  | faultHandling (signal : Bool) (lvl : Fin 3)
  /-- VFIELD_HIGH (R435): VFIELD above 62 V for 1 ms is recorded. -/
  | vfieldHigh (peak : Nat)
  /-- VFIELD_HIGH_END (R435): VFIELD below 61 V for 1 s clears the high flag. -/
  | vfieldHighEnd (v : Nat)
  /-- HOLDUP_CHARGED (R439): VHOLD reaches 22 V and the capacitance is estimated. -/
  | holdupCharged (cap : Nat) (vhold : Nat)
  /-- HOLDUP_TIMEOUT (R439): HOLD_OK not reached within 500 ms of the start of charging records HOLDUP_LOW. -/
  | holdupTimeout (cap : Nat) (vhold : Nat)
  /-- VAUX_FAULT (R437): VAUX33 outside 5 % for 10 ms is recorded. -/
  | vauxFault (cause : Fin 2) (mv : Nat)
  /-- VSO_LOW (R438): VSO below 18.0 V for 10 ms is recorded. -/
  | vsoLow (v : Nat)
  /-- TJ_HIGH (R442): A die above 125 C for 1 s gives a degraded condition. -/
  | tjHigh (die : Fin 4) (t : Int)
  /-- TJ_HIGH_END (R442): Every die below 120 C for 10 s ends TJ_HIGH. -/
  | tjHighEnd (die : Fin 4) (t : Int)
  /-- TEMPERATURE_STOP (R442): A die reaching its stop threshold is stopped as Table 15.3 gives. -/
  | temperatureStop (die : Fin 4) (t : Int)
  /-- SUPPLY_LOSS (R440): VFIELD below 8.0 V for 10 us gives the supply-loss indication; the part runs from VHOLD and goes safe. -/
  | supplyLoss (whole : Bool)
  /-- COLD_RESET (R440): At the end of the seal, or 4.5 ms after the indication, the part enters a cold reset. -/
  | coldReset
  /-- PWR_CLEAR_PEAK (R461): PWR_CLR PEAK clears the VFIELD peak and PWR_TMAX. -/
  | pwrClearPeak
  /-- CONVERTER_HANDSHAKE_STALL (R275): A supervision converter holds a handshake for more than 20 us, fails with cause 0x02, and the other converter takes its proving slots within 1 ms. -/
  | converterHandshakeStall (c : Fin 2)
  /-- TEST_PULSE_SOURCE_OVERLOAD (R303): An overloaded test-pulse source switches off within 1 ms, and its inputs read low. -/
  | testPulseSourceOverload (k : Fin 4)
  /-- ENCODER_EDGE (R316): An edge on BENCAk or BENCBk changes the brake position count SIO_BPOSk.POS, or registers a quadrature error. -/
  | encoderEdge (k : Fin 2) (dir : Fin 3)
  /-- PEER_CAUSE_CLEARED (R426): After all peer items have matched for the cross-check time, the PEER cause clears from MOD_SCAUSE and the mismatch flag clears. -/
  | peerCauseCleared
  /-- VSO_RESTORED (R438): VSO returns to 18.0 V or above, PWR_STAT.VSO_OK sets, and VSO_LOW is recorded with byte 0 = 0x00. -/
  | vsoRestored (v : Nat)
  /-- VAUX_RESTORED (R437): VAUX33 returns within 5 %, VAUX_OK sets, and VAUX_FAULT is recorded with byte 0 = 0x00. -/
  | vauxRestored (mv : Nat)
  /-- FRONT_END_TEMPERATURE_RESUME (R442): After a temperature stop, the front-end die reads below 120 C for 10 s, its synthesiser restarts and the timebase relocks. -/
  | frontEndTemperatureResume (t : Int)
  /-- REF_IN_BAD (R55): REF_IN stops being good outside LOCKED_REF; REF_OK clears, the event flags set, and any 10 s qualification count restarts. -/
  | refInBad (offFreq : Bool)
  /-- ARP_ICMP_ND_REQUEST (R335): An ARP, ICMP echo or IPv6 neighbour-discovery request arrives and the part answers it in transmit class 3. -/
  | arpIcmpNdRequest (c : Carrier) (kind : Fin 3) (target : List Machine.Byte) (payload : List Machine.Byte)
  /-- SPI_UNKNOWN_COMMAND (R351): An SPI frame with an unknown command byte is answered BAD_COMMAND and counted in NET_SPI.BADCMD. -/
  | spiUnknownCommand (cmd : Machine.Byte)
  deriving DecidableEq, Repr

end Sys2Proof
end

