-- ==== Sys2Proof/WellFormed.lean ====
section
/-! DEFINITION. Which commands are well formed: every operand fits the field, record byte or frame that carries it. The meanings
are total, and give a next state for an ill-formed command too; statements need no well-formedness. -/

namespace Sys2Proof

/-- A signed number that n bits hold. -/
def fitsS (n : Nat) (z : Int) : Bool := decide (-(2 ^ (n - 1) : Int) ≤ z) && decide (z < 2 ^ (n - 1))

/-- The bounds of an operand structure, one Bool each. -/
def TrackObs.wf (t : TrackObs) : Bool := t.id < 2 ^ 16 && fitsS 32 t.pos && fitsS 16 t.speed
def TrackCand.wf (t : TrackCand) : Bool := fitsS 32 t.pos && fitsS 16 t.speed
def XoObs.wf (o : XoObs) : Bool := fitsS 32 o.ref && fitsS 32 o.ofs
def IqObs.wf (o : IqObs) : Bool := o.img < 2 ^ 8
def PlanObs.wf (o : PlanObs) : Bool :=
  o.ratio.all (fun p => decide (p.1 < 48)) && o.lower.all (fun p => decide (p.1 < 48)) && o.shares.all (fun p => decide (p.1 < 128))
def MatrixObs.wf (o : MatrixObs) : Bool := o.chan < 64
def Carrier.wf (k : Carrier) : Bool :=
  k.mac < 2 ^ 48 && k.trailer.all (fun t => decide (t < 2 ^ 16)) && (k.addr.length == 4 || k.addr.length == 16) && k.uport < 2 ^ 16
def StoreFault.wf (f : StoreFault) : Bool := 1 ≤ f.area && f.area ≤ 5 && f.role ≤ 4
def BootBist.wf (b : BootBist) : Bool := b.slice < 2 ^ 16 && b.addr < 2 ^ 16 && b.bit < 2 ^ 8 && b.how < 2 ^ 8
def MemFault.wf (m : MemFault) : Bool := m.row < 2 ^ 16 && m.col < 2 ^ 16 && m.bit < 2 ^ 8
def SliceEnd.wf (r : SliceEnd) : Bool := r.addr < 2 ^ 32 && r.bit < 2 ^ 8
/-- What a command's operands have to satisfy, one entry each; a command with none is well formed as it stands. -/
def Instr.bounds : Instr → List Bool
  | .gapRecord src => [src < 2 ^ 16]
  | .refInQualified fofs => [fitsS 32 fofs]
  | .holdoverEnter _ corr => [fitsS 16 corr]
  | .xoFail o => [o.wf]
  | .ppsInEdge high => [high < 2 ^ 64]
  | .landingHigh _ _ fill => [fill < 2 ^ 16]
  | .iqEstimateUpdate _ _ o => [o.wf]
  | .snapshotDone volts => [volts.all (fun v => v.length == 2048)]
  | .traceProcessed _ n _ => [n < 2 ^ 64]
  | .eventHeartbeat _ _ id => [id < 2 ^ 32]
  | .trackUpdate _ obs cands => [obs.all TrackObs.wf, cands.all TrackCand.wf]
  | .dataStreamSend _ _ _ _ _ first count _ => [first < 2 ^ 32, count < 2 ^ 16]
  | .ramanDarkMeasure _ as st => [as.length = 125, st.length = 125]
  | .plannerRun obs => [obs.wf]
  | .runNow obs => [obs.wf]
  | .fastPath obs => [obs.wf]
  | .engineFail _ cause => [cause = 1 ∨ cause = 2 ∨ cause = 5]
  | .taskRestart formed => [formed.all (· < 2 ^ 16)]
  | .stairFault _ mv => [mv < 2 ^ 16]
  | .xferBegin _ len => [len < 2 ^ 24]
  | .matrixDriveStep _ obs => [obs.all MatrixObs.wf]
  | .testPulse _ lo hi => [lo < 2 ^ 16, hi < 2 ^ 16]
  | .outputOffTest _ mv => [mv < 2 ^ 16]
  | .outputReadbackSample _ mv => [mv < 2 ^ 16]
  | .cutoffTest mv => [mv.length = 8 ∧ mv.all (· < 2 ^ 16)]
  | .outputOverload _ mv => [mv < 2 ^ 16]
  | .brakeDecayCheck _ cur => [cur < 2 ^ 16]
  | .brakeSwitchTest _ hi lo => [hi < 2 ^ 16, lo < 2 ^ 16]
  | .ptpSync b fu => [b.length = 44, fu.all (fun u => u.length == 44)]
  | .announce b => [b.length = 64]
  | .delayResp b => [b.length = 54]
  | .mgmtRead k _ => [k.wf]
  | .mgmtEnvelope k _ => [k.wf]
  | .bornakData k _ => [k.wf]
  | .bornakReq k _ => [k.wf]
  | .bornakAck k _ => [k.wf]
  | .envelopeDecided o => [o.wf]
  | .signedWrite _ _ _ o => [o.wf]
  | .keySet _ _ key => [key.all (fun k => k.length == 97)]
  | .attest _ nonce => [nonce.length = 32]
  | .ledgerRead _ _ _ first => [first < 2 ^ 32]
  | .fwBegin _ _ len => [len < 2 ^ 32]
  | .keyStoreCheck found => [found.all StoreFault.wf]
  | .bistSliceEnd r => [r.wf]
  | .signalDieSlice _ r => [r.wf]
  | .marchRow a bad => [0x400 ≤ a ∧ a < 0x800, bad.all MemFault.wf]
  | .scrub a fix => [0x400 ≤ a ∧ a < 0x800, fix.all MemFault.wf]
  | .lichenRead _ reading tj => [reading.all (· < 2 ^ 32), fitsS 16 tj]
  | .vfieldRise v => [v < 2 ^ 16]
  | .bootComplete found bad => [found.all StoreFault.wf, bad.all BootBist.wf]
  | .vfieldHigh peak => [peak < 2 ^ 16]
  | .vfieldHighEnd v => [v < 2 ^ 16]
  | .holdupCharged _ vhold => [vhold < 2 ^ 16]
  | .holdupTimeout _ vhold => [vhold < 2 ^ 16]
  | .vauxFault _ mv => [mv < 2 ^ 16]
  | .vsoLow v => [v < 2 ^ 16]
  | .tjHigh _ t => [fitsS 16 t]
  | .tjHighEnd _ t => [fitsS 16 t]
  | .temperatureStop _ t => [fitsS 16 t]
  | .vsoRestored v => [v < 2 ^ 16]
  | .vauxRestored mv => [mv < 2 ^ 16]
  | .frontEndTemperatureResume t => [fitsS 16 t]
  | .arpIcmpNdRequest c _ target _ => [c.wf, target.length = 4 ∨ target.length = 16]
  | .registerWrite .. | .spiRead .. | .spiWrite .. | .spiEnvelope .. | .spiFrameAbort .. | .lowerWordRead ..
  | .recordDataRead .. | .sealDataRead .. | .windowReplyTimeout .. | .heartbeatTimeout .. | .heartbeatReceived ..
  | .holdingBufferDrain .. | .pacerCalibrationReturn .. | .epochRoll .. | .timebaseLock .. | .holdoverExit ..
  | .timebaseUnlock .. | .wfmError .. | .probeCycleStart .. | .probeSwitch .. | .laserReady .. | .laserNotReady ..
  | .pmonOut .. | .checkBurst .. | .aprCheck .. | .checkResultTimeout .. | .openEndIndication ..
  | .continuityConfirmation .. | .confirmationTimeout .. | .force .. | .restore .. | .aprLockout .. | .ppsLost ..
  | .ppsOutRise .. | .ppsOutFall .. | .landingDropStart .. | .landingOverflow .. | .chzHandoverStart ..
  | .chzHandover .. | .chzFail .. | .chzTakeover .. | .iqHoldExit .. | .iqReconverge .. | .overrange ..
  | .snapshotArm .. | .acqClearPeak .. | .acqClearCounts .. | .refLost .. | .refOk .. | .zoneValid .. | .zoneDegraded ..
  | .mapInterval .. | .zoneStormEnd .. | .aliasSet .. | .aliasClear .. | .dimPermitSend .. | .dimPermitReceived ..
  | .revokeReceived .. | .permitAgeExpiry .. | .acuClearCounts .. | .ramanDark .. | .ramanUpdate .. | .anchorStale ..
  | .betaUpdate .. | .fusedOutput .. | .fusedRebase .. | .auxOutput .. | .auxOpen .. | .auxRestored .. | .auxDwell ..
  | .auxOverrange .. | .slackWindow .. | .taskMoveStart .. | .taskMove .. | .moveDeferred .. | .galClearCounts ..
  | .xferData .. | .xferCommit .. | .xferAbort .. | .cfgXferDone .. | .switch .. | .cancel .. | .erase .. | .commitRb ..
  | .cfgCtlWrite .. | .switchLoaded .. | .switchCommit .. | .cfgSwitchDone .. | .switchTimeout .. | .aspectCommand ..
  | .levelCommand .. | .aspectChangeStep .. | .dwellExpiry .. | .pwmPeriodStart .. | .dimRampStep .. | .flashOnEdge ..
  | .flashOffEdge .. | .lmpClearCounts .. | .litSample .. | .overcurrentTrip .. | .darkSample .. | .coldTest ..
  | .offTest .. | .testOverdue .. | .bankSupplySample .. | .bankSupplyRestored .. | .calibrationWindow ..
  | .converterCheck .. | .userSlotTrigger .. | .supMissed .. | .referenceSettled .. | .supRef .. | .light ..
  | .darkAll .. | .matrix .. | .lampClear .. | .lampClearAll .. | .autoRecovery .. | .provingClearCounts ..
  | .supClearCounts .. | .tpoRetry .. | .inputSample .. | .inputFiltered .. | .debounceExpiry .. | .inputCapture ..
  | .discrepancyExpiry .. | .edmSample .. | .brakeTestStart .. | .brakeTestEnd .. | .brakeTestRetry ..
  | .brakeTestLapsed .. | .torqueOffDelay .. | .sioClear .. | .sioClearAll .. | .brkTestRequest .. | .sioAck ..
  | .sioClearCounts .. | .degradedExpired .. | .degradedTimerDiscard .. | .safeStop .. | .safeStopRelease ..
  | .safeOutPulse .. | .peerMismatch .. | .linkDown .. | .linkUp .. | .prpSupervision .. | .announceTimeout ..
  | .delayReq .. | .timeLocked .. | .bornakReqSend .. | .bornakDataSend .. | .bornakExpiry .. | .bornakWaitTimeout ..
  | .bnkErrors .. | .netClearCounts .. | .bnkClearCounts .. | .chainSeal .. | .spiSeal .. | .signedRead ..
  | .lifecycle .. | .fwAppend .. | .fwCommit .. | .clsFw .. | .fwActivate .. | .fwConfirm .. | .fwCommitRb ..
  | .trialConfirm .. | .rotationStep .. | .chzRotationStep .. | .bistSlice .. | .testNow .. | .tstClearCounts ..
  | .lichenHourly .. | .lichenDaily .. | .lichenForecast .. | .counterImageWrite .. | .journalWrite .. | .lampAgeing ..
  | .release .. | .hold .. | .exitSafe .. | .commission .. | .endCommissioning .. | .commissionTimeout .. | .quiesce ..
  | .quiesceDone .. | .reset .. | .modClearCounts .. | .resetExit .. | .loadComplete .. | .rstNAssert ..
  | .rstNRelease .. | .rstStuck .. | .rstNRearm .. | .f4HoldExpiry .. | .faultHandling .. | .supplyLoss ..
  | .coldReset .. | .pwrClearPeak .. | .converterHandshakeStall .. | .testPulseSourceOverload .. | .encoderEdge ..
  | .peerCauseCleared .. | .refInBad .. | .spiUnknownCommand .. => []

/-- Well-formed commands. -/
def Instr.wf (i : Instr) : Bool := i.bounds.all id

end Sys2Proof
end

