-- ==== Sys2Proof/Config.lean ====
section
/-! DEFINITION. What an implementation fixes and the spec leaves open: opaque constants with no body, so that no
proof can see their values. Free values (log entry 4) are drawn from `freeValue` by a counter of State. -/

namespace Sys2Proof.Machine

/-- The depth of the common record queue (R46, R354): the spec gives no number. -/
opaque Config.recordQueueDepth : Nat

/-- A free value: the n-th value that the spec leaves unstated (log entry 4). -/
opaque Config.freeValue : Nat → Nat

/-! The functions of real arithmetic that the sensing paths compute (log entry 96): uninterpreted, so that no statement
rests on a rounding of the part. Angles are in turns. -/

/-- Cosine and sine of an angle in turns. -/
opaque Config.cosTurn : Rat → Rat
opaque Config.sinTurn : Rat → Rat

/-- The ratio of a circle's circumference to its diameter, as the part has it. -/
opaque Config.pi : Rat

/-- The code of a 14-bit probe DAC for a fraction of full scale (R62; the spec gives no rounding, log entry 97). -/
opaque Config.dacCode : Rat → Int

/-- The angle of (x, y) in turns, in (-1/2, 1/2]. -/
opaque Config.argTurn : (x y : Rat) → Rat

/-- Ten to a power, the decimal and the natural logarithm of a positive number, the square root of one that is not negative. -/
opaque Config.exp10 : Rat → Rat
opaque Config.log10 : Rat → Rat
opaque Config.ln : Rat → Rat
opaque Config.sqrt : Rat → Rat

/-- The tap i of the channelizer's low-pass filter (R95, R96): the spec gives its length, symmetry and response, and no taps. -/
opaque Config.chzTap : Nat → Rat

/-- How the part rounds a filtered or compressed value to its 16 bits (R96, R101): the spec gives the width. -/
opaque Config.round16 : Rat → Int

/-- A sample stream delayed by a part of a picosecond, given in 0.01 ps (R108). -/
opaque Config.delayed : (skew : Rat) → List Rat → List Rat

/-- How far a first-order estimator with time constant `tau` moves in `dt`, both in ns, as a share of the way (R109). -/
opaque Config.firstOrder : (dt tau : Rat) → Rat

/-- The static phase offset of a tone at a bin in turns, from the strong samples of the last 0.25 s as (tone, phase in turns) (R124). -/
opaque Config.toneOffset : List (Nat × Rat) → (tone : Nat) → Rat

/-- The fourth-order Butterworth band-pass between two edges at a sample rate, all in Hz (R132), as the coefficients of its inputs
and of its earlier outputs. -/
opaque Config.bandPass : (low high rate : Rat) → List Rat × List Rat

/-- The output of the sinc3 filter over the three conversion periods of an output (R172), from the input over them in even steps. -/
opaque Config.sinc3 : List Rat → Rat

/-- The fit of R166: the strain per kelvin that the changes of (R_c, strain) of some cells give. -/
opaque Config.betaFit : List (List (Rat × Rat)) → Rat

/-- The standard deviation of a track's position in 0.1 m, from its position in cm and speed in 0.01 m/s (Table 4.7): the spec gives no
formula. -/
opaque Config.trackSigma : Int → Int → Nat

/-- A Lichen reading normalised to step 6 and 85 C junction, in 0.01 % of the factory value (R399), from its step and its junction
temperature in 0.1 C: the coefficients are fitted. -/
opaque Config.lichenNormal : (monitor reading step : Nat) → (tj : Int) → Int

/-- The fit A t^n of a monitor's daily values (R401), as the drift it gives for a day since delivery. -/
opaque Config.driftFit : List Int → (day : Nat) → Rat

/-- The Lichen ratio of a monitor at a temperature and step for a drift (R198, R401). -/
opaque Config.delayRatio : (monitor tw step : Nat) → (drift : Rat) → Rat

/-- The seal that ROM holds for a region type, the kind of slice (short or not) and a slice (R385). -/
opaque Config.goldenSeal : (region : Nat) → (short : Bool) → (slice : Nat) → BitVec 64

/-! The cryptographic functions that the spec takes from their standards by name (log entry 14): uninterpreted. -/

/-- SHA-384 of a byte string. -/
opaque Config.sha384 : List Byte → List Byte

/-- ECDSA over P-384: whether (r, s) verifies over a hash against a public key (SEC 1 uncompressed). -/
opaque Config.ecdsaVerify : (key hash r s : List Byte) → Bool

/-- ECDSA over P-384 with the private key held under a name (0 identity key, 1 seal key): r and s. -/
opaque Config.ecdsaSign : (key : Nat) → (device hash : List Byte) → List Byte

/-- The public key of the part under a name (0 identity, 1 seal, 2 wrap), from its device identity. -/
opaque Config.publicKey : (key : Nat) → (device : List Byte) → List Byte

/-- Key unwrap of R213: the content key from the key-wrap block, for the part with this identity. -/
opaque Config.unwrapKey : (device block : List Byte) → Option (List Byte)

/-- AES-256-GCM decryption: plaintext from key, IV, additional data, ciphertext and tag; none where the tag fails. -/
opaque Config.gcmOpen : (key iv aad text tag : List Byte) → Option (List Byte)

/-- AES-256-CMAC of a message under a key. -/
opaque Config.cmac : (key msg : List Byte) → List Byte

/-- HMAC-SHA-384 or the other keyed tag that a chapter names, under a key. -/
opaque Config.hmac384 : (key msg : List Byte) → List Byte

/-! What the part holds from manufacture (log entry 31): its own values. -/

/-- The unique number (R20), 128 bits. -/
opaque Config.uniqueNumber : Nat

/-- The factory MAC address (R356). -/
opaque Config.factoryMac : Nat

/-- The identity certificate, DER (R359). -/
opaque Config.certificate : List Byte

/-- The vendor firmware key (R359), SEC 1 uncompressed. -/
opaque Config.vendorKey : List Byte

/-- The firmware image that both image slots hold from manufacture; it verifies. -/
opaque Config.factoryImage : List Byte

/-! Firmware images: the spec gives their checks (R372) and no layout (log entry 32). -/

/-- Whether an image's signature verifies against the vendor firmware key. -/
opaque Config.imageSigned : List Byte → Bool

/-- An image's rollback value. -/
opaque Config.imageRollback : List Byte → Nat

/-- Major, minor and build of an image, as `DEV_FW` [30:0] holds them (R23). -/
opaque Config.imageVersion : List Byte → Nat

end Sys2Proof.Machine
end

