-- ==== Sys2Proof/Machine/Codes.lean ====
section
/-! DEFINITION. Record codes with their severity (bits [15:12]) and the fault level each code carries (R40,
Tables 1.8, 2.14, 3.x ... 15.x of spec/). Where a code's level depends on the happening, `lvl` is the first
level its table gives and the declaring rule says which applies. -/

set_option Elab.async false

namespace Sys2Proof.Machine

/-- A record code (R39: bits [15:12] severity, [11:0] code) and its fault level F0-F4 (R40). -/
structure Code where
  val : Nat
  lvl : Nat
  deriving DecidableEq, Repr


/-! ### 01_architecture.md -/

def Code.GAP_DATA : Code := ⟨0x1001, 0⟩
def Code.GAP_RECORD : Code := ⟨0x2002, 0⟩
def Code.EPOCH_START : Code := ⟨0x0003, 0⟩
def Code.EPOCH_LOW : Code := ⟨0x1005, 0⟩
def Code.EPOCH_EXHAUSTED : Code := ⟨0x3006, 3⟩
def Code.TAIL_UNKNOWN : Code := ⟨0x2007, 0⟩

/-! ### 02_probe_and_timebase.md -/

def Code.HOLDOVER_ENTER : Code := ⟨0x1040, 0⟩
def Code.HOLDOVER_EXIT : Code := ⟨0x0041, 0⟩
def Code.TIMEBASE_UNLOCK : Code := ⟨0x2042, 1⟩
def Code.TIMEBASE_LOCK : Code := ⟨0x0043, 0⟩
def Code.XO_FAIL : Code := ⟨0x2044, 1⟩
def Code.LASER_READY : Code := ⟨0x0050, 0⟩
def Code.LASER_NOT_READY : Code := ⟨0x2051, 1⟩
def Code.PMON_OUT : Code := ⟨0x2052, 1⟩
def Code.APR_ENTER : Code := ⟨0x3060, 0⟩
def Code.APR_CHECK : Code := ⟨0x0061, 0⟩
def Code.APR_EXIT : Code := ⟨0x3062, 0⟩
def Code.APR_LOCKOUT : Code := ⟨0x3063, 1⟩
def Code.RESTORE_REFUSED : Code := ⟨0x1064, 0⟩
def Code.PPS_QUALIFIED : Code := ⟨0x0070, 0⟩
def Code.PPS_LOST : Code := ⟨0x1071, 0⟩
def Code.PPS_NOISY : Code := ⟨0x1072, 0⟩
def Code.WFM_ERROR : Code := ⟨0x2080, 1⟩
def Code.PROBE_SWITCH : Code := ⟨0x0081, 0⟩

/-! ### 03_coherent_acquisition.md -/

def Code.LANDING_HIGH : Code := ⟨0x1090, 0⟩
def Code.LANDING_OVERFLOW : Code := ⟨0x2091, 1⟩
def Code.OVERRANGE : Code := ⟨0x1092, 0⟩
def Code.IQ_TRACKING : Code := ⟨0x0093, 0⟩
def Code.IQ_RANGE : Code := ⟨0x2094, 1⟩
def Code.CHZ_HANDOVER : Code := ⟨0x0095, 0⟩
def Code.CHZ_MISMATCH : Code := ⟨0x2096, 1⟩
def Code.CHZ_FAIL : Code := ⟨0x2097, 1⟩
def Code.NO_CHANNELIZER : Code := ⟨0x2098, 1⟩

/-! ### 04_acoustic_channels.md -/

def Code.ZONE_VALID : Code := ⟨0x0100, 0⟩
def Code.ZONE_INVALID : Code := ⟨0x1101, 0⟩
def Code.ZONE_SETTLING : Code := ⟨0x0102, 0⟩
def Code.ZONE_DEGRADED : Code := ⟨0x1103, 0⟩
def Code.EVENT_OPEN : Code := ⟨0x1110, 0⟩
def Code.EVENT_HEARTBEAT : Code := ⟨0x0111, 0⟩
def Code.EVENT_CLOSE : Code := ⟨0x0112, 0⟩
def Code.ZONE_STORM : Code := ⟨0x1113, 0⟩
def Code.ZONE_STORM_END : Code := ⟨0x0114, 0⟩
def Code.FIBRE_BREAK : Code := ⟨0x3120, 0⟩
def Code.FIBRE_CONTINUOUS : Code := ⟨0x0121, 0⟩
def Code.ALIAS_SET : Code := ⟨0x1122, 0⟩
def Code.ALIAS_CLEAR : Code := ⟨0x0123, 0⟩
def Code.REF_LOST : Code := ⟨0x2124, 1⟩
def Code.REF_OK : Code := ⟨0x0125, 0⟩
def Code.TRACK_START : Code := ⟨0x0130, 0⟩
def Code.TRACK_CONFIRM : Code := ⟨0x0131, 0⟩
def Code.TRACK_UPDATE : Code := ⟨0x0132, 0⟩
def Code.TRACK_END : Code := ⟨0x0133, 0⟩
def Code.TRACK_LIMIT : Code := ⟨0x1134, 0⟩
def Code.LINK_BRIGHT : Code := ⟨0x0140, 0⟩
def Code.LINK_DIM : Code := ⟨0x0141, 0⟩
def Code.LINK_UNCOVERED : Code := ⟨0x2142, 0⟩

/-! ### 05_temperature.md -/

def Code.RAMAN_ANCHOR : Code := ⟨0x0150, 0⟩
def Code.ANCHOR_HOLD : Code := ⟨0x2151, 1⟩
def Code.ANCHOR_STALE : Code := ⟨0x2152, 1⟩
def Code.RAMAN_DARK : Code := ⟨0x1153, 0⟩
def Code.TEMP_ESTIMATE_RANGE : Code := ⟨0x2154, 1⟩
def Code.BETA_UPDATE : Code := ⟨0x0155, 0⟩
def Code.FUSED_LOCK : Code := ⟨0x0156, 0⟩
def Code.FUSED_REBASE : Code := ⟨0x1157, 0⟩
def Code.STRAIN_SUSPECT : Code := ⟨0x2158, 0⟩
def Code.AUX_OPEN : Code := ⟨0x2160, 1⟩
def Code.AUX_RESTORED : Code := ⟨0x0161, 0⟩
def Code.AUX_OVERRANGE : Code := ⟨0x1162, 0⟩
def Code.AUX_TABLE : Code := ⟨0x1163, 0⟩

/-! ### 06_gallery.md -/

def Code.STAIR_STEP : Code := ⟨0x0170, 0⟩
def Code.SLACK_LOW : Code := ⟨0x1171, 0⟩
def Code.TASK_MOVE : Code := ⟨0x0172, 0⟩
def Code.MOVE_MISMATCH : Code := ⟨0x2173, 1⟩
def Code.MOVE_ABANDONED : Code := ⟨0x1174, 0⟩
def Code.MOVE_DEFERRED : Code := ⟨0x1175, 0⟩
def Code.ENGINE_FAIL : Code := ⟨0x2176, 1⟩
def Code.SPARE_LOW : Code := ⟨0x2177, 1⟩
def Code.NO_MARGIN : Code := ⟨0x2178, 1⟩
def Code.RATE_PROFILE : Code := ⟨0x1179, 0⟩
def Code.FABRIC_UNPLACEABLE : Code := ⟨0x217A, 1⟩
def Code.STAIR_FAULT : Code := ⟨0x217B, 2⟩

/-! ### 07_bitstream_and_profiles.md -/

def Code.CFG_LOADED : Code := ⟨0x0190, 0⟩
def Code.CFG_CLAMP : Code := ⟨0x1191, 0⟩
def Code.CFG_CLAMP_SAFETY : Code := ⟨0x3192, 0⟩
def Code.CFG_SECTION_REFUSED : Code := ⟨0x2193, 1⟩
def Code.CFG_PROFILE_REFUSED : Code := ⟨0x3194, 1⟩
def Code.CFG_BAD_CONTAINER : Code := ⟨0x2195, 1⟩
def Code.CFG_BAD_SIGNATURE : Code := ⟨0x4196, 1⟩
def Code.CFG_FALLBACK : Code := ⟨0x3197, 1⟩
def Code.CFG_SWITCH_START : Code := ⟨0x0198, 0⟩
def Code.CFG_SWITCH_DONE : Code := ⟨0x1199, 0⟩
def Code.CFG_SWITCH_ABANDONED : Code := ⟨0x219A, 0⟩
def Code.CFG_CMD_REFUSED : Code := ⟨0x119B, 0⟩
def Code.CFG_ROLLBACK : Code := ⟨0x019C, 0⟩
def Code.CFG_XFER_DONE : Code := ⟨0x019D, 0⟩

/-! ### 08_aspects_and_drive.md -/

def Code.ASPECT_DEMAND : Code := ⟨0x01A0, 0⟩
def Code.ASPECT_SHOWN : Code := ⟨0x31A1, 0⟩
def Code.HEAD_FALLBACK : Code := ⟨0x31A3, 0⟩
def Code.HEAD_FALLBACK_END : Code := ⟨0x11A4, 0⟩
def Code.ASPECT_UNKNOWN : Code := ⟨0x21A5, 1⟩
def Code.HEAD_LEVEL : Code := ⟨0x01A6, 0⟩
def Code.FLASH_REPHASE : Code := ⟨0x11A7, 0⟩
def Code.REG_LIMIT : Code := ⟨0x21A8, 1⟩

/-! ### 09_lamp_proving.md -/

def Code.LAMP_FAIL : Code := ⟨0x31B0, 1⟩
def Code.LAMP_RESTORED : Code := ⟨0x11B1, 0⟩
def Code.TEST_OVERDUE : Code := ⟨0x21B2, 2⟩
def Code.BANK_SUPPLY : Code := ⟨0x31B3, 1⟩
def Code.CAL_FAIL : Code := ⟨0x21B4, 1⟩
def Code.MATRIX_DONE : Code := ⟨0x01B5, 0⟩
def Code.PATTERN_END : Code := ⟨0x11B6, 0⟩
def Code.SUP_BAND : Code := ⟨0x11C0, 0⟩
def Code.SUP_REF : Code := ⟨0x11C1, 0⟩
def Code.SUP_FAIL : Code := ⟨0x21C2, 1⟩  -- F1; F3 with no converter left
def Code.SUP_MISSED : Code := ⟨0x11C3, 0⟩

/-! ### 10_safety_io.md -/

def Code.SI_STATE : Code := ⟨0x01D0, 0⟩
def Code.SI_FAULT : Code := ⟨0x31D1, 1⟩  -- F1, or F2 (R308)
def Code.SI_CLEARED : Code := ⟨0x11D2, 0⟩
def Code.TPO_FAIL : Code := ⟨0x31D3, 2⟩
def Code.SO_STATE : Code := ⟨0x31D4, 0⟩
def Code.SO_FAULT : Code := ⟨0x31D5, 1⟩  -- F1, F2 or F3 (R311-R313)
def Code.BRK_STATE : Code := ⟨0x31D6, 0⟩
def Code.BRK_FAULT : Code := ⟨0x31D7, 1⟩  -- F1, F2 or F3 (R314-R317)
def Code.BRK_TEST : Code := ⟨0x01D8, 0⟩
def Code.DEGRADED_START : Code := ⟨0x11D9, 0⟩
def Code.DEGRADED_END : Code := ⟨0x01DA, 0⟩
def Code.DEGRADED_EXPIRED : Code := ⟨0x31DB, 3⟩
def Code.SAFE_STOP : Code := ⟨0x31DC, 3⟩  -- F3 asserted, F0 released
def Code.PEER_MISMATCH : Code := ⟨0x31DD, 3⟩
def Code.PEER_LOST : Code := ⟨0x31DE, 2⟩  -- F2; F0 when resynchronised (R423)

/-! ### 11_network_and_bornak.md -/

def Code.LINK_UP : Code := ⟨0x01E0, 0⟩
def Code.LINK_DOWN : Code := ⟨0x11E1, 0⟩
def Code.TIME_STATE : Code := ⟨0x01E2, 0⟩
def Code.TIME_STEP : Code := ⟨0x11E3, 0⟩
def Code.TX_DROP : Code := ⟨0x11E4, 0⟩
def Code.MGMT_BAD : Code := ⟨0x11E5, 0⟩
def Code.BNK_STATE : Code := ⟨0x31E6, 0⟩
def Code.BNK_ERRORS : Code := ⟨0x11E7, 0⟩
def Code.BNK_AUTH : Code := ⟨0x41E8, 0⟩
def Code.BNK_UNKNOWN : Code := ⟨0x11E9, 0⟩

/-! ### 12_cloister_security.md -/

def Code.CLS_CMD_DONE : Code := ⟨0x0200, 0⟩
def Code.CLS_CMD_REFUSED : Code := ⟨0x4201, 0⟩
def Code.CLS_BOOT : Code := ⟨0x0202, 0⟩
def Code.CLS_BOOT_FAIL : Code := ⟨0x4203, 1⟩
def Code.CLS_KEY_SET : Code := ⟨0x4204, 0⟩
def Code.CLS_LIFECYCLE : Code := ⟨0x4205, 0⟩
def Code.CLS_FW : Code := ⟨0x0206, 0⟩
def Code.CLS_STORE : Code := ⟨0x4207, 1⟩  -- F1, F4 (R360, R380)
def Code.CLS_SEAL_LATE : Code := ⟨0x1208, 0⟩

/-! ### 13_self_test_and_ageing.md -/

def Code.BIST_PASS : Code := ⟨0x0210, 0⟩
def Code.BIST_FAIL : Code := ⟨0x2211, 1⟩  -- Table 13.2
def Code.BIST_INTERRUPTED : Code := ⟨0x1212, 0⟩
def Code.MEM_REPAIR : Code := ⟨0x1213, 1⟩
def Code.MEM_UNREPAIRABLE : Code := ⟨0x2214, 1⟩  -- F1 or F3 (R396)
def Code.LICHEN_FAIL : Code := ⟨0x2218, 1⟩
def Code.LICHEN_FORECAST : Code := ⟨0x1219, 0⟩
def Code.MOSS_SEAL : Code := ⟨0x021C, 0⟩
def Code.MOSS_WRAP : Code := ⟨0x121D, 0⟩
def Code.MOSS_PAGE : Code := ⟨0x221E, 1⟩
def Code.LAMP_AGEING : Code := ⟨0x1220, 0⟩

/-! ### 14_modes_reset_faults.md -/

def Code.MODE_CHANGE : Code := ⟨0x0230, 0⟩
def Code.RESET_CAUSE : Code := ⟨0x1231, 0⟩
def Code.RST_STUCK : Code := ⟨0x2232, 1⟩
def Code.SAFE_ENTER : Code := ⟨0x3233, 3⟩
def Code.SAFE_EXIT : Code := ⟨0x3234, 0⟩
def Code.MODE_CMD_REFUSED : Code := ⟨0x1235, 0⟩
def Code.FAULT_QUEUE_FULL : Code := ⟨0x3236, 3⟩
def Code.DEVICE_STOP : Code := ⟨0x3237, 4⟩
def Code.QUIESCE_DONE : Code := ⟨0x0238, 0⟩

/-! ### 15_electrical_and_package.md -/

def Code.VFIELD_HIGH : Code := ⟨0x1240, 0⟩
def Code.HOLDUP_LOW : Code := ⟨0x2241, 1⟩
def Code.VSO_LOW : Code := ⟨0x2242, 1⟩
def Code.VAUX_FAULT : Code := ⟨0x2243, 1⟩
def Code.TJ_HIGH : Code := ⟨0x2244, 2⟩  -- F2; F0 when ended (R423)

end Sys2Proof.Machine
end

