-- ==== Sys2Proof/Machine/Dict.lean ====
section
/-! DEFINITION. The field dictionary that the part holds in ROM (R216-R220, Tables 7.3, 7.5, 7.6, 7.8) and the
parameter tables of the chapters it points to: one `DictRow` per field, in the unit R219 fixes (log entry 20). -/

set_option Elab.async false

namespace Sys2Proof.Machine

/-- The field types of Table 7.5 that the dictionary uses. -/
inductive FieldType where
  | uint | sint | enum | flag | bytes
  deriving DecidableEq, Repr

/-- The clamp classes of Table 7.7 (RECORD ids stand in `recordKinds`). -/
inductive ClampClass where
  | up | down | nearest | safeLow | safeHigh | reject
  deriving DecidableEq, Repr

/-- The table default of a field (R218): none ("-"), one value, one value per index of the innermost record, or
no byte string. -/
inductive FieldDefault where
  | need | const (v : Int) | byIndex (vs : List Int) | noBytes
  deriving DecidableEq, Repr

/-- One field of the dictionary: section, field number (0x040 t + r, plus 0x20 for the second field of an "x / y"
row), the record kind that holds it (0: top level), type, class, range with step, isolated admissible values,
whether "none" (all ones) is admissible, and the default. For BYTES `lo` and `hi` bound the length. -/
structure DictRow where
  sec : Nat
  fid : Nat
  kind : Nat
  ty : FieldType
  cls : ClampClass
  lo : Int
  hi : Int
  step : Nat
  alts : List Int
  noneOk : Bool
  dflt : FieldDefault
  deriving DecidableEq, Repr

def dict1a : List DictRow := [
  ⟨1, 0x041, 0x0A, .enum, .reject, 0, 8, 1, [], false, .need⟩,  -- class, Table 6.3 code - 1
  ⟨1, 0x042, 0x0A, .uint, .reject, 0, 1, 1, [], true, .need⟩,  -- fibre
  ⟨1, 0x043, 0x0A, .bytes, .reject, 4, 262144, 1, [], false, .need⟩,  -- program
  ⟨1, 0x044, 0x0A, .uint, .reject, 1, 850, 1, [], false, .need⟩,  -- declared load, 0.1 %
  ⟨1, 0x045, 0x0A, .uint, .reject, 0, 262144, 1, [], false, .need⟩,  -- state size
  ⟨1, 0x046, 0x0A, .uint, .reject, 0, 15, 1, [], false, .need⟩,  -- initial engine
  ⟨1, 0x041, 0x0B, .uint, .reject, 4096, 1048576, 1, [], false, .need⟩,  -- size
  ⟨1, 0x041, 0x0C, .uint, .reject, 0, 127, 1, [], false, .need⟩,  -- from task
  ⟨1, 0x042, 0x0C, .uint, .reject, 0, 127, 1, [], true, .need⟩,  -- to task
  ⟨1, 0x043, 0x0C, .uint, .reject, 0, 255, 1, [], false, .need⟩ ]  -- buffer

/-- FABRIC (Table 7.8). -/
def dict1 : List DictRow := dict1a

def dict2a : List DictRow := [
  ⟨2, 0x041, 0x01, .flag, .reject, 0, 1, 1, [], false, .const 1⟩,  -- fibre enable
  ⟨2, 0x042, 0x01, .uint, .nearest, 1225, 98000, 1, [], false, .const 61200⟩,  -- bins N
  ⟨2, 0x043, 0x01, .uint, .up, 12500, 100000, 1, [], false, .const 62500⟩,  -- cycle length, 8 ns
  ⟨2, 0x044, 0x01, .uint, .nearest, 25, 1250, 1, [], false, .const 125⟩,  -- chirp length, 8 ns
  ⟨2, 0x045, 0x02, .enum, .reject, 0, 1, 1, [], false, .const 0⟩,  -- chirp direction
  ⟨2, 0x046, 0x01, .enum, .reject, 0, 2, 1, [], false, .const 1⟩,  -- taper
  ⟨2, 0x047, 0x02, .uint, .nearest, 0, 255, 1, [], false, .const 192⟩,  -- amplitude
  ⟨2, 0x048, 0x01, .uint, .nearest, 0, 127, 1, [], false, .const 20⟩,  -- SOA lead
  ⟨2, 0x049, 0x01, .uint, .nearest, 0, 127, 1, [], false, .const 10⟩,  -- SOA lag
  ⟨2, 0x04A, 0x01, .uint, .nearest, 4, 40, 1, [0], false, .const 16⟩,  -- Raman width
  ⟨2, 0x04B, 0x01, .uint, .nearest, 1, 16, 1, [], false, .const 1⟩,  -- Raman divider
  ⟨2, 0x04C, 0x01, .uint, .nearest, 0, 255, 1, [], false, .const 0⟩,  -- Raman offset
  ⟨2, 0x04D, 0x01, .uint, .nearest, 0, 4095, 1, [], false, .const 400⟩,  -- ready low
  ⟨2, 0x06D, 0x01, .uint, .nearest, 0, 4095, 1, [], false, .const 3600⟩,  -- ready high
  ⟨2, 0x04E, 0x01, .uint, .nearest, 10, 600, 1, [], false, .const 60⟩,  -- ready timeout, s
  ⟨2, 0x04F, 0x00, .uint, .safeHigh, 6, 31, 1, [], false, .const 20⟩,  -- APR attenuation
  ⟨2, 0x050, 0x00, .uint, .safeHigh, 1, 10, 1, [], false, .const 3⟩,  -- K
  ⟨2, 0x051, 0x00, .uint, .nearest, 1, 255, 1, [], false, .const 10⟩,  -- check interval, s
  ⟨2, 0x052, 0x00, .uint, .safeLow, 10, 500, 1, [], false, .const 50⟩,  -- confirm, ms
  ⟨2, 0x053, 0x00, .flag, .reject, 0, 1, 1, [], false, .const 0⟩,  -- automatic restore
  ⟨2, 0x054, 0x00, .flag, .reject, 0, 1, 1, [], false, .const 0⟩,  -- laser off
  ⟨2, 0x055, 0x00, .enum, .reject, 0, 2, 1, [], false, .const 0⟩,  -- reference source
  ⟨2, 0x056, 0x00, .enum, .reject, 0, 2, 1, [], false, .const 0⟩,  -- PPS_IN mode
  ⟨2, 0x057, 0x00, .flag, .reject, 0, 1, 1, [], false, .const 1⟩,  -- PPS_OUT enable
  ⟨2, 0x058, 0x00, .uint, .nearest, 1, 500000, 1, [], false, .const 100000⟩ ]  -- PPS_OUT width, us

def dict2b : List DictRow := [
  ⟨2, 0x081, 0x00, .uint, .nearest, 1400000, 1500000, 1, [], false, .const 1468200⟩,  -- n_g x 10^6
  ⟨2, 0x082, 0x01, .uint, .nearest, 0, 65535, 1, [], false, .const 0⟩,  -- DELAY
  ⟨2, 0x083, 0x01, .uint, .nearest, 0, 1023, 1, [], false, .const 0⟩,  -- CBIN
  ⟨2, 0x084, 0x01, .uint, .nearest, 0, 65535, 1, [], false, .const 0⟩,  -- RDELAY
  ⟨2, 0x085, 0x01, .enum, .reject, 0, 1, 1, [], false, .const 0⟩,  -- weight
  ⟨2, 0x086, 0x00, .uint, .safeLow, 8, 56, 1, [], false, .const 32⟩,  -- high mark, us
  ⟨2, 0x087, 0x01, .flag, .reject, 0, 1, 1, [], false, .const 1⟩,  -- I/Q enable
  ⟨2, 0x088, 0x00, .uint, .nearest, 1, 60, 1, [], false, .const 10⟩,  -- I/Q tau, s
  ⟨2, 0x089, 0x03, .bytes, .nearest, 10, 10, 1, [], false, .noBytes⟩,  -- I/Q seed
  ⟨2, 0x08A, 0x00, .uint, .nearest, 0, 1, 1, [], false, .const 0⟩ ]  -- fibre kept

/-- PROBE (Tables 2.4, 3.2). -/
def dict2 : List DictRow := dict2a ++ dict2b

def dict3a : List DictRow := [
  ⟨3, 0x041, 0x00, .uint, .nearest, 150000, 163000, 1, [], false, .const 155012⟩,  -- lambda, 0.01 nm
  ⟨3, 0x042, 0x00, .uint, .nearest, 500, 1000, 1, [], false, .const 780⟩,  -- xi x 1000
  ⟨3, 0x043, 0x01, .uint, .nearest, 0, 1023, 1, [], false, .const 0⟩,  -- reference first
  ⟨3, 0x044, 0x01, .uint, .nearest, 4, 1000, 1, [0], false, .const 0⟩,  -- reference length
  ⟨3, 0x045, 0x01, .uint, .nearest, 2, 50, 1, [], false, .const 10⟩,  -- G_R
  ⟨3, 0x046, 0x00, .sint, .nearest, (-33), -3, 2, [], false, .const (-13)⟩,  -- fade, dB
  ⟨3, 0x047, 0x01, .uint, .safeLow, 6, 30, 1, [], false, .const 10⟩,  -- break drop, dB
  ⟨3, 0x048, 0x01, .uint, .nearest, 100, 5000, 1, [], false, .const 1000⟩,  -- fibre storm limit
  ⟨3, 0x049, 0x00, .uint, .nearest, 500, 100000, 1, [], false, .const 500⟩,  -- speed gate low, mm/s
  ⟨3, 0x069, 0x00, .uint, .nearest, 500, 100000, 1, [], false, .const 100000⟩,  -- speed gate high, mm/s
  ⟨3, 0x04A, 0x00, .uint, .nearest, 500, 10000, 1, [], false, .const 2000⟩,  -- confirm, ms
  ⟨3, 0x04B, 0x00, .uint, .nearest, 1, 30, 1, [], false, .const 5⟩,  -- coast, s
  ⟨3, 0x04C, 0x00, .uint, .nearest, 0, 2000, 1, [], false, .const 200⟩,  -- bridge, bins
  ⟨3, 0x081, 0x04, .uint, .nearest, 0, 97999, 1, [], false, .need⟩,  -- FIRST
  ⟨3, 0x082, 0x04, .uint, .down, 0, 97999, 1, [], false, .need⟩,  -- LAST
  ⟨3, 0x083, 0x04, .uint, .nearest, 2, 50, 1, [], false, .const 10⟩,  -- G
  ⟨3, 0x084, 0x04, .uint, .nearest, 1, 64, 1, [], false, .const 8⟩,  -- cell
  ⟨3, 0x085, 0x05, .uint, .nearest, 500, 20000000, 1, [0], false, .byIndex [2000, 20000, 200000, 0]⟩,  -- low edge, mHz
  ⟨3, 0x0A5, 0x05, .uint, .nearest, 500, 20000000, 1, [0], false, .byIndex [20000, 200000, 2000000, 0]⟩,  -- high edge, mHz
  ⟨3, 0x086, 0x04, .uint, .nearest, 50, 10000, 1, [], false, .const 100⟩,  -- integration, ms
  ⟨3, 0x087, 0x04, .uint, .nearest, 1, 10, 1, [], false, .const 10⟩,  -- map rate, Hz
  ⟨3, 0x088, 0x04, .flag, .reject, 0, 1, 1, [], false, .const 1⟩,  -- map export
  ⟨3, 0x089, 0x04, .flag, .reject, 0, 1, 1, [], false, .const 0⟩,  -- tracking
  ⟨3, 0x08A, 0x04, .uint, .nearest, 100, 10000, 1, [], false, .const 1000⟩,  -- heartbeat, ms
  ⟨3, 0x08B, 0x04, .uint, .nearest, 1, 100, 1, [], false, .const 10⟩ ]  -- zone storm limit

def dict3b : List DictRow := [
  ⟨3, 0x08C, 0x04, .uint, .nearest, 1, 50, 1, [], false, .const 5⟩,  -- degraded share, %
  ⟨3, 0x0C1, 0x06, .uint, .reject, 0, 31, 1, [], false, .need⟩,  -- head
  ⟨3, 0x0C2, 0x06, .uint, .nearest, 0, 1, 1, [], false, .need⟩,  -- fibre
  ⟨3, 0x0C3, 0x06, .uint, .nearest, 0, 97999, 1, [], false, .need⟩,  -- watch bin
  ⟨3, 0x0C4, 0x06, .enum, .reject, 0, 2, 1, [], false, .const 0⟩,  -- side
  ⟨3, 0x0C5, 0x06, .uint, .safeHigh, 0, 20000, 1, [], false, .const 2000⟩,  -- D, m
  ⟨3, 0x0C6, 0x06, .uint, .safeHigh, 0, 600, 1, [], false, .const 60⟩,  -- T, s
  ⟨3, 0x0C7, 0x06, .uint, .safeHigh, 1, 600, 1, [], false, .const 30⟩ ]  -- hold, s

/-- ZONES (Tables 4.1, 4.3, 4.6). -/
def dict3 : List DictRow := dict3a ++ dict3b

def dict4a : List DictRow := [
  ⟨4, 0x041, 0x07, .uint, .reject, 0, 255, 1, [], false, .need⟩,  -- zone
  ⟨4, 0x042, 0x07, .uint, .reject, 0, 3, 1, [], false, .const 0⟩,  -- band
  ⟨4, 0x043, 0x07, .enum, .reject, 0, 1, 1, [], false, .const 0⟩,  -- type
  ⟨4, 0x044, 0x07, .uint, .nearest, 0, 200, 1, [], false, .const 60⟩,  -- ON, dB (LEVEL)
  ⟨4, 0x045, 0x07, .uint, .nearest, 0, 200, 1, [], false, .const 55⟩,  -- OFF, dB (LEVEL)
  ⟨4, 0x046, 0x07, .uint, .nearest, 50, 10000, 1, [], false, .const 500⟩,  -- STA, ms
  ⟨4, 0x047, 0x07, .uint, .nearest, 1, 600, 1, [], false, .const 60⟩,  -- LTA, s
  ⟨4, 0x048, 0x07, .uint, .nearest, 0, 10, 1, [], false, .const 0⟩,  -- minimum on, s; absent: 0.2 s
  ⟨4, 0x049, 0x07, .uint, .nearest, 0, 60, 1, [], false, .const 2⟩,  -- minimum off, s
  ⟨4, 0x04A, 0x07, .uint, .nearest, 0, 200, 1, [], false, .const 16⟩,  -- merge, bins
  ⟨4, 0x04B, 0x07, .flag, .reject, 0, 1, 1, [], false, .const 0⟩ ]  -- track source

/-- DETECTORS (Table 4.5). -/
def dict4 : List DictRow := dict4a

def dict5a : List DictRow := [
  ⟨5, 0x041, 0x00, .uint, .nearest, 10, 600, 1, [], false, .const 60⟩,  -- tau_R, s
  ⟨5, 0x042, 0x00, .uint, .nearest, 1, 60, 1, [], false, .const 10⟩,  -- U, s
  ⟨5, 0x043, 0x00, .uint, .nearest, 60, 8640, 1, [], false, .const 360⟩,  -- tau_X, 10 s
  ⟨5, 0x044, 0x01, .uint, .reject, 0, 7, 1, [], true, .const (-1)⟩,  -- coil A channel
  ⟨5, 0x045, 0x01, .uint, .nearest, 0, 1023, 1, [], false, .const 0⟩,  -- coil B first
  ⟨5, 0x065, 0x01, .uint, .nearest, 4, 1000, 1, [0], false, .const 0⟩,  -- coil B length
  ⟨5, 0x046, 0x01, .uint, .reject, 0, 7, 1, [], true, .const (-1)⟩,  -- coil B channel
  ⟨5, 0x047, 0x01, .uint, .nearest, 60000, 68000, 1, [], false, .const 63330⟩,  -- gamma, 0.01 K
  ⟨5, 0x048, 0x00, .flag, .reject, 0, 1, 1, [], false, .const 1⟩,  -- gamma estimation
  ⟨5, 0x049, 0x01, .sint, .nearest, (-20000), 20000, 1, [], false, .const 4000⟩,  -- dalpha, 1e-5 dB/km
  ⟨5, 0x04A, 0x01, .uint, .nearest, 5000, 15000, 1, [], false, .const 9400⟩,  -- beta_T, 0.001
  ⟨5, 0x04B, 0x00, .flag, .reject, 0, 1, 1, [], false, .const 1⟩,  -- beta estimation
  ⟨5, 0x04C, 0x01, .bytes, .reject, 0, 256, 1, [], false, .noBytes⟩,  -- strain-free zones
  ⟨5, 0x04D, 0x00, .uint, .safeLow, 1, 168, 1, [], false, .const 24⟩,  -- stale limit, h
  ⟨5, 0x04E, 0x00, .uint, .nearest, 2, 10, 1, [], false, .const 4⟩,  -- suspect threshold
  ⟨5, 0x081, 0x08, .enum, .reject, 0, 4, 1, [], false, .const 0⟩,  -- type
  ⟨5, 0x082, 0x08, .enum, .reject, 0, 1, 1, [], false, .const 0⟩,  -- reference
  ⟨5, 0x083, 0x08, .enum, .reject, 0, 7, 1, [], false, .const 0⟩,  -- log2 gain
  ⟨5, 0x084, 0x08, .uint, .nearest, 10, 1000, 1, [], false, .const 50⟩,  -- rate, S/s
  ⟨5, 0x085, 0x08, .flag, .reject, 0, 1, 1, [], false, .const 1⟩,  -- chopping
  ⟨5, 0x086, 0x08, .uint, .nearest, 1, 150, 1, [], false, .const 25⟩,  -- current, 10 uA
  ⟨5, 0x087, 0x08, .uint, .reject, 0, 15, 1, [], false, .byIndex [0, 2, 4, 6, 8, 10, 12, 14]⟩,  -- PIN0
  ⟨5, 0x0A7, 0x08, .uint, .reject, 0, 15, 1, [], false, .need⟩,  -- PIN1
  ⟨5, 0x088, 0x08, .enum, .reject, 0, 3, 1, [], false, .const 0⟩,  -- burn-out
  ⟨5, 0x089, 0x08, .uint, .nearest, 0, 250, 1, [], false, .const 5⟩ ]  -- lookback, 4 ms

def dict5b : List DictRow := [
  ⟨5, 0x08A, 0x00, .uint, .nearest, 0, 10, 1, [], false, .const 1⟩,  -- T_settle, ms
  ⟨5, 0x08B, 0x00, .uint, .nearest, 2, 64, 2, [], false, .const 8⟩ ]  -- M

/-- TEMPERATURE (Tables 5.1, 5.5). -/
def dict5 : List DictRow := dict5a ++ dict5b

def dict6a : List DictRow := [
  ⟨6, 0x041, 0x0F, .bytes, .reject, 1, 16, 1, [], false, .need⟩,  -- positions
  ⟨6, 0x042, 0x0F, .bytes, .reject, 1, 16, 1, [], false, .noBytes⟩,  -- position ranks
  ⟨6, 0x043, 0x0F, .uint, .reject, 0, 15, 1, [], false, .need⟩,  -- safe aspect
  ⟨6, 0x044, 0x0F, .enum, .reject, 0, 2, 1, [], false, .const 0⟩,  -- fallback
  ⟨6, 0x045, 0x0F, .enum, .reject, 0, 2, 1, [], false, .const 0⟩,  -- sequence
  ⟨6, 0x046, 0x0F, .uint, .nearest, 0, 500, 1, [], false, .const 20⟩,  -- T_step, ms
  ⟨6, 0x047, 0x0F, .uint, .safeHigh, 0, 1000, 1, [], false, .const 50⟩,  -- minimum dwell, ms
  ⟨6, 0x048, 0x0F, .uint, .safeHigh, 100, 1000, 1, [], false, .const 1000⟩,  -- day level
  ⟨6, 0x049, 0x0F, .uint, .safeHigh, 10, 1000, 1, [], false, .const 300⟩,  -- night level
  ⟨6, 0x04A, 0x0F, .uint, .safeHigh, 10, 100, 1, [], false, .const 50⟩,  -- standby factor, %
  ⟨6, 0x04B, 0x0F, .uint, .safeHigh, 0, 10000, 1, [], false, .const 2000⟩,  -- dim ramp, ms
  ⟨6, 0x04C, 0x0F, .enum, .reject, 0, 1, 1, [], false, .const 0⟩,  -- initial level
  ⟨6, 0x081, 0x10, .uint, .reject, 1, 65535, 1, [], false, .need⟩,  -- meaning
  ⟨6, 0x082, 0x10, .uint, .reject, 0, 15, 1, [], false, .need⟩,  -- rank
  ⟨6, 0x083, 0x10, .uint, .reject, 0, 4294967295, 1, [], false, .need⟩,  -- lamp codes
  ⟨6, 0x084, 0x10, .uint, .reject, 0, 7, 1, [], true, .const (-1)⟩,  -- flash group
  ⟨6, 0x0C1, 0x11, .uint, .nearest, 30, 180, 1, [], false, .const 60⟩,  -- rate
  ⟨6, 0x0C2, 0x11, .uint, .nearest, 25, 75, 1, [], false, .const 50⟩,  -- on fraction
  ⟨6, 0x0C3, 0x11, .uint, .nearest, 0, 359, 1, [], false, .const 0⟩ ]  -- phase

/-- ASPECTS (Tables 8.6, 8.7, 8.5). -/
def dict6 : List DictRow := dict6a

def dict7a : List DictRow := [
  ⟨7, 0x041, 0x0D, .uint, .nearest, 8, 16, 1, [], false, .const 12⟩,  -- bits
  ⟨7, 0x042, 0x0D, .uint, .nearest, 256, 65535, 1, [], false, .const 3125⟩,  -- PRE
  ⟨7, 0x043, 0x0D, .flag, .reject, 0, 1, 1, [], false, .const 1⟩,  -- stagger
  ⟨7, 0x044, 0x0D, .enum, .reject, 0, 1, 1, [], false, .const 1⟩,  -- slew
  ⟨7, 0x081, 0x0E, .enum, .reject, 0, 2, 1, [], false, .const 0⟩,  -- mode
  ⟨7, 0x082, 0x0E, .enum, .reject, 0, 2, 1, [], false, .const 1⟩,  -- load
  ⟨7, 0x083, 0x0E, .uint, .nearest, 10, 1000, 1, [], false, .const 350⟩,  -- I_set
  ⟨7, 0x0C1, 0x0D, .uint, .reject, 0, 1, 1, [], false, .byIndex [0, 0, 1, 1]⟩,  -- proving converter
  ⟨7, 0x0C2, 0x0D, .uint, .safeHigh, 5, 55, 1, [], false, .const 9⟩,  -- supply threshold
  ⟨7, 0x0C3, 0x0D, .uint, .safeHigh, 10, 600, 1, [], false, .const 60⟩,  -- recovery, s
  ⟨7, 0x101, 0x0E, .uint, .safeHigh, 1, 1600, 1, [], false, .const 50⟩,  -- lit low
  ⟨7, 0x102, 0x0E, .uint, .safeLow, 1, 1600, 1, [], false, .const 1000⟩,  -- lit high
  ⟨7, 0x103, 0x0E, .uint, .safeLow, 1, 50, 1, [], false, .const 5⟩,  -- dark high
  ⟨7, 0x104, 0x0E, .uint, .safeHigh, 5, 95, 1, [], false, .const 50⟩,  -- dark drain low
  ⟨7, 0x105, 0x0E, .uint, .safeLow, 1, 8, 1, [], false, .const 3⟩,  -- N_dark
  ⟨7, 0x106, 0x0E, .uint, .safeLow, 0, 100, 1, [], false, .const 0⟩,  -- blanking, ms
  ⟨7, 0x107, 0x0E, .uint, .nearest, 4, 28, 1, [], false, .const 24⟩,  -- lit sample delay
  ⟨7, 0x108, 0x0E, .enum, .reject, 0, 3, 1, [], false, .const 0⟩,  -- cold method
  ⟨7, 0x109, 0x0E, .uint, .nearest, 1, 20, 1, [], false, .const 5⟩,  -- I_cold
  ⟨7, 0x10A, 0x0E, .uint, .nearest, 50, 1000, 1, [], false, .const 200⟩,  -- cold width
  ⟨7, 0x10B, 0x0E, .uint, .nearest, 10, 100, 1, [], false, .const 50⟩,  -- lit pulse
  ⟨7, 0x10C, 0x0E, .uint, .nearest, 10, 50, 1, [], false, .const 30⟩,  -- off-test width
  ⟨7, 0x10D, 0x0E, .uint, .safeLow, 2, 60, 1, [], false, .const 10⟩,  -- test maximum interval
  ⟨7, 0x10E, 0x0E, .flag, .reject, 0, 1, 1, [], false, .const 1⟩,  -- neighbour test
  ⟨7, 0x10F, 0x0E, .flag, .reject, 0, 1, 1, [], false, .const 0⟩ ]  -- automatic recovery

def dict7b : List DictRow := [
  ⟨7, 0x141, 0x12, .enum, .reject, 0, 2, 1, [], false, .const 0⟩,  -- reference
  ⟨7, 0x181, 0x13, .uint, .reject, 0, 131, 1, [], false, .need⟩,  -- input
  ⟨7, 0x182, 0x13, .enum, .reject, 0, 1, 1, [], false, .const 0⟩,  -- trigger
  ⟨7, 0x183, 0x13, .uint, .nearest, 1, 65535, 1, [], false, .const 1000⟩,  -- period
  ⟨7, 0x184, 0x13, .uint, .reject, 0, 63, 1, [], false, .const 0⟩,  -- edge channel
  ⟨7, 0x185, 0x13, .enum, .reject, 0, 1, 1, [], false, .const 0⟩,  -- edge
  ⟨7, 0x186, 0x13, .uint, .nearest, 0, 1023, 1, [], false, .const 0⟩,  -- delay
  ⟨7, 0x187, 0x13, .sint, .nearest, (-32768), 32767, 1, [], false, .const (-32768)⟩,  -- band low
  ⟨7, 0x188, 0x13, .sint, .nearest, (-32768), 32767, 1, [], false, .const 32767⟩,  -- band high
  ⟨7, 0x189, 0x13, .uint, .nearest, 1, 16, 1, [], false, .const 1⟩ ]  -- count

/-- LAMP_CHANNELS (Tables 8.2, 8.3, 9.4, 9.5, 9.2, 9.3). -/
def dict7 : List DictRow := dict7a ++ dict7b

def dict8a : List DictRow := [
  ⟨8, 0x041, 0x00, .uint, .safeLow, 5, 50, 1, [], false, .const 10⟩,  -- P, ms
  ⟨8, 0x042, 0x00, .uint, .nearest, 2, 20, 1, [], false, .const 5⟩,  -- W_tp, 100 us
  ⟨8, 0x043, 0x00, .uint, .reject, 0, 15, 1, [], false, .const 15⟩,  -- sources
  ⟨8, 0x044, 0x00, .uint, .reject, 0, 63, 1, [], true, .const (-1)⟩,  -- peer
  ⟨8, 0x045, 0x00, .uint, .safeLow, 10, 500, 1, [], false, .const 50⟩,  -- cross-check time, ms
  ⟨8, 0x046, 0x00, .uint, .reject, 0, 4294967295, 1, [], false, .const 4294967295⟩,  -- cross-check mask
  ⟨8, 0x081, 0x14, .enum, .reject, 0, 2, 1, [], false, .const 0⟩,  -- use
  ⟨8, 0x082, 0x14, .enum, .reject, 0, 4, 1, [], false, .byIndex [1, 2, 3, 4, 1, 2, 3, 4, 1, 2, 3, 4, 1, 2, 3, 4, 1, 2, 3, 4, 1, 2, 3, 4, 1, 2, 3, 4, 1, 2, 3, 4]⟩,  -- test source
  ⟨8, 0x083, 0x14, .uint, .safeLow, 2, 80, 1, [], false, .const 30⟩,  -- F, 100 us
  ⟨8, 0x084, 0x14, .uint, .safeHigh, 0, 50, 1, [], false, .const 10⟩,  -- debounce, ms
  ⟨8, 0x085, 0x14, .uint, .safeLow, 2, 100, 1, [], false, .const 10⟩,  -- chatter count
  ⟨8, 0x086, 0x14, .uint, .safeHigh, 1, 100, 1, [], false, .const 10⟩,  -- chatter window, 100 ms
  ⟨8, 0x0C1, 0x15, .enum, .reject, 0, 1, 1, [], false, .const 0⟩,  -- pair mode
  ⟨8, 0x0C2, 0x15, .enum, .reject, 0, 1, 1, [], false, .const 0⟩,  -- polarity
  ⟨8, 0x0C3, 0x15, .uint, .safeLow, 10, 500, 1, [], false, .const 100⟩,  -- discrepancy, ms
  ⟨8, 0x101, 0x16, .flag, .reject, 0, 1, 1, [], false, .const 0⟩,  -- use
  ⟨8, 0x102, 0x16, .enum, .reject, 0, 1, 1, [], false, .const 0⟩,  -- demand source
  ⟨8, 0x103, 0x16, .uint, .reject, 0, 4294967295, 1, [], false, .const 0⟩,  -- permit
  ⟨8, 0x104, 0x16, .enum, .reject, 0, 1, 1, [], false, .const 1⟩,  -- restart
  ⟨8, 0x105, 0x16, .uint, .reject, 0, 31, 1, [], true, .const (-1)⟩,  -- restart input
  ⟨8, 0x106, 0x16, .flag, .reject, 0, 1, 1, [], false, .const 1⟩,  -- EDM
  ⟨8, 0x107, 0x16, .uint, .safeHigh, 10, 500, 1, [], false, .const 100⟩,  -- T_edm, ms
  ⟨8, 0x108, 0x16, .uint, .safeLow, 1, 60, 1, [], false, .const 1⟩,  -- off-test interval, s
  ⟨8, 0x109, 0x16, .uint, .nearest, 100, 1000, 1, [], false, .const 300⟩,  -- W_so, us
  ⟨8, 0x141, 0x17, .flag, .reject, 0, 1, 1, [], false, .const 0⟩ ]  -- use

def dict8b : List DictRow := [
  ⟨8, 0x142, 0x17, .enum, .reject, 0, 1, 1, [], false, .const 0⟩,  -- demand source
  ⟨8, 0x143, 0x17, .uint, .reject, 0, 4294967295, 1, [], false, .const 0⟩,  -- permit
  ⟨8, 0x144, 0x17, .uint, .safeHigh, 1, 500, 1, [], false, .const 30⟩,  -- I_rel, 10 mA
  ⟨8, 0x145, 0x17, .uint, .safeLow, 5, 500, 1, [], false, .const 50⟩,  -- I_app, mA
  ⟨8, 0x146, 0x17, .uint, .safeLow, 1, 200, 1, [], false, .const 20⟩,  -- T_dec, 10 ms
  ⟨8, 0x147, 0x17, .uint, .safeLow, 1, 15, 1, [], false, .const 10⟩,  -- switch test, s
  ⟨8, 0x148, 0x17, .uint, .safeLow, 1, 168, 1, [], false, .const 24⟩,  -- test interval, h
  ⟨8, 0x149, 0x17, .uint, .nearest, 10, 500, 1, [], false, .const 100⟩,  -- test duration, 10 ms
  ⟨8, 0x14A, 0x17, .uint, .safeLow, 1, 1000, 1, [], false, .const 20⟩,  -- window
  ⟨8, 0x14B, 0x17, .uint, .safeHigh, 0, 25, 1, [], false, .const 2⟩ ]  -- torque-off, 20 ms

/-- SAFETY_IO (Tables 10.2-10.6). -/
def dict8 : List DictRow := dict8a ++ dict8b

def dict9a : List DictRow := [
  ⟨9, 0x041, 0x18, .uint, .reject, 0, 18446744073709551615, 1, [], false, .need⟩,  -- receive id
  ⟨9, 0x042, 0x18, .uint, .reject, 0, 18446744073709551615, 1, [], false, .need⟩,  -- transmit id
  ⟨9, 0x043, 0x18, .bytes, .reject, 4, 16, 1, [], false, .need⟩,  -- peer address
  ⟨9, 0x044, 0x18, .uint, .reject, 1, 65535, 1, [], false, .const 20481⟩,  -- peer port
  ⟨9, 0x045, 0x18, .uint, .safeLow, 10, 2000, 1, [], false, .const 100⟩,  -- T_e
  ⟨9, 0x046, 0x18, .uint, .safeLow, 5, 1000, 1, [], false, .const 20⟩,  -- transmit period
  ⟨9, 0x047, 0x18, .uint, .safeLow, 1, 255, 1, [], false, .const 16⟩,  -- W
  ⟨9, 0x048, 0x18, .enum, .reject, 0, 1, 1, [], false, .const 0⟩,  -- authentication
  ⟨9, 0x049, 0x18, .bytes, .reject, 32, 32, 1, [], false, .noBytes⟩,  -- CMAC key
  ⟨9, 0x081, 0x19, .enum, .reject, 0, 3, 1, [], false, .need⟩,  -- kind
  ⟨9, 0x082, 0x19, .uint, .reject, 0, 31, 1, [], false, .const 0⟩,  -- element
  ⟨9, 0x083, 0x19, .uint, .reject, 0, 63, 1, [], false, .need⟩,  -- offset
  ⟨9, 0x084, 0x19, .enum, .reject, 0, 1, 1, [], false, .const 0⟩,  -- head substitute
  ⟨9, 0x0C1, 0x1A, .enum, .reject, 0, 5, 1, [], false, .need⟩,  -- kind
  ⟨9, 0x0C2, 0x1A, .uint, .reject, 0, 31, 1, [], false, .const 0⟩,  -- element
  ⟨9, 0x0C3, 0x1A, .uint, .reject, 0, 63, 1, [], false, .need⟩ ]  -- offset

/-- BORNAK (Tables 11.7-11.9). -/
def dict9 : List DictRow := dict9a

def dict10a : List DictRow := [
  ⟨10, 0x041, 0x00, .enum, .reject, 0, 2, 1, [], false, .const 0⟩,  -- medium 0
  ⟨10, 0x042, 0x00, .enum, .reject, 0, 2, 1, [], false, .const 0⟩,  -- medium 1
  ⟨10, 0x043, 0x00, .enum, .reject, 0, 1, 1, [], false, .const 0⟩,  -- redundancy
  ⟨10, 0x044, 0x00, .bytes, .reject, 6, 6, 1, [], false, .noBytes⟩,  -- MAC
  ⟨10, 0x045, 0x00, .bytes, .reject, 4, 4, 1, [], false, .noBytes⟩,  -- IPv4
  ⟨10, 0x046, 0x00, .uint, .nearest, 0, 32, 1, [], false, .const 24⟩,  -- prefix
  ⟨10, 0x047, 0x00, .bytes, .reject, 4, 4, 1, [], false, .noBytes⟩,  -- gateway
  ⟨10, 0x048, 0x00, .bytes, .reject, 16, 16, 1, [], false, .noBytes⟩,  -- IPv6
  ⟨10, 0x049, 0x00, .uint, .nearest, 0, 128, 1, [], false, .const 64⟩,  -- IPv6 prefix
  ⟨10, 0x04A, 0x00, .uint, .nearest, 0, 4094, 1, [], false, .const 0⟩,  -- VLAN
  ⟨10, 0x04B, 0x00, .uint, .reject, 1, 65535, 1, [], false, .const 20480⟩,  -- management port
  ⟨10, 0x04C, 0x00, .uint, .reject, 1, 65535, 1, [], false, .const 20481⟩,  -- Bornak port
  ⟨10, 0x04D, 0x00, .uint, .reject, 1, 65535, 1, [], false, .const 20482⟩,  -- data port
  ⟨10, 0x04E, 0x00, .flag, .reject, 0, 1, 1, [], false, .const 0⟩,  -- unsigned reads
  ⟨10, 0x04F, 0x00, .enum, .reject, 0, 1, 1, [], false, .const 0⟩,  -- PTP transport
  ⟨10, 0x050, 0x00, .uint, .nearest, 0, 127, 1, [], false, .const 0⟩,  -- domain
  ⟨10, 0x051, 0x00, .uint, .nearest, 10, 1000000, 1, [], false, .const 1000⟩,  -- step threshold, us
  ⟨10, 0x052, 0x00, .uint, .down, 1500, 9000, 1, [], false, .const 1500⟩,  -- MTU
  ⟨10, 0x081, 0x1B, .bytes, .reject, 4, 16, 1, [], false, .need⟩,  -- address
  ⟨10, 0x082, 0x1B, .uint, .reject, 1, 65535, 1, [], false, .const 20482⟩,  -- port
  ⟨10, 0x083, 0x1B, .uint, .reject, 0, 65535, 1, [], false, .const 2⟩ ]  -- product mask

/-- NETWORK (Tables 11.17, 11.18). -/
def dict10 : List DictRow := dict10a

def dict11a : List DictRow := [
  ⟨11, 0x041, 0x00, .uint, .safeHigh, 15, 40, 1, [], false, .const 15⟩,  -- slack target
  ⟨11, 0x042, 0x00, .uint, .nearest, 20, 50, 1, [], false, .const 25⟩,  -- lowering threshold
  ⟨11, 0x043, 0x00, .flag, .reject, 0, 1, 1, [], false, .const 1⟩,  -- lowering enable
  ⟨11, 0x044, 0x00, .uint, .safeHigh, 2, 10, 1, [], false, .const 5⟩,  -- alarm
  ⟨11, 0x045, 0x00, .uint, .safeHigh, 85, 125, 1, [], false, .const 105⟩,  -- T_design
  ⟨11, 0x046, 0x00, .uint, .reject, 0, 3, 1, [], true, .const (-1)⟩,  -- rate slot
  ⟨11, 0x081, 0x00, .enum, .reject, 0, 1, 1, [], false, .const 0⟩,  -- clamp policy
  ⟨11, 0x082, 0x00, .uint, .nearest, 1, 600, 1, [], false, .const 60⟩,  -- switch timeout, s
  ⟨11, 0x083, 0x00, .uint, .safeLow, 1, 4320, 1, [], false, .const 480⟩,  -- degraded timer, min
  ⟨11, 0x084, 0x00, .flag, .reject, 0, 1, 1, [], false, .const 0⟩,  -- approach brightening
  ⟨11, 0x085, 0x00, .uint, .reject, 0, 4294967295, 1, [], false, .const 0⟩ ]  -- head mask

/-- POLICY (Tables 6.6, 7.9). -/
def dict11 : List DictRow := dict11a

def dict12a : List DictRow := [
  ⟨12, 0x041, 0x09, .enum, .reject, 0, 2, 1, [], false, .need⟩,  -- unit
  ⟨12, 0x042, 0x09, .bytes, .reject, 264, 264, 1, [], false, .need⟩ ]  -- breakpoints

/-- PWL_TABLES (R220). -/
def dict12 : List DictRow := dict12a

/-- The dictionary of one section. -/
def dictOf (sec : Nat) : List DictRow :=
  match sec with
  | 1 => dict1
  | 2 => dict2
  | 3 => dict3
  | 4 => dict4
  | 5 => dict5
  | 6 => dict6
  | 7 => dict7
  | 8 => dict8
  | 9 => dict9
  | 10 => dict10
  | 11 => dict11
  | 12 => dict12
  | _ => []

/-- A record kind of Table 7.6: section, kind id, the kind that encloses it (0: top level), highest index. -/
structure KindRow where
  sec : Nat
  kind : Nat
  parent : Nat
  maxIdx : Nat
  deriving DecidableEq, Repr

/-- The record kinds (Tables 7.6, 7.8; chapters 8 to 11). -/
def recordKinds : List KindRow := [
  ⟨1, 0x0A, 0x00, 127⟩,
  ⟨1, 0x0B, 0x00, 255⟩,
  ⟨1, 0x0C, 0x00, 511⟩,
  ⟨2, 0x01, 0x00, 1⟩,
  ⟨2, 0x02, 0x01, 3⟩,
  ⟨2, 0x03, 0x01, 1⟩,
  ⟨3, 0x01, 0x00, 1⟩,
  ⟨3, 0x04, 0x01, 255⟩,
  ⟨3, 0x05, 0x04, 3⟩,
  ⟨3, 0x06, 0x00, 63⟩,
  ⟨4, 0x01, 0x00, 1⟩,
  ⟨4, 0x07, 0x01, 1023⟩,
  ⟨5, 0x01, 0x00, 1⟩,
  ⟨5, 0x08, 0x00, 7⟩,
  ⟨6, 0x0F, 0x00, 31⟩,
  ⟨6, 0x10, 0x0F, 15⟩,
  ⟨6, 0x11, 0x00, 7⟩,
  ⟨7, 0x0D, 0x00, 3⟩,
  ⟨7, 0x0E, 0x00, 63⟩,
  ⟨7, 0x12, 0x00, 1⟩,
  ⟨7, 0x13, 0x00, 511⟩,
  ⟨8, 0x14, 0x00, 31⟩,
  ⟨8, 0x15, 0x00, 15⟩,
  ⟨8, 0x16, 0x00, 7⟩,
  ⟨8, 0x17, 0x00, 1⟩,
  ⟨9, 0x18, 0x00, 63⟩,
  ⟨9, 0x19, 0x18, 15⟩,
  ⟨9, 0x1A, 0x18, 15⟩,
  ⟨10, 0x1B, 0x00, 3⟩,
  ⟨12, 0x09, 0x00, 7⟩]

/-- The safety-relevant sections (Table 7.3). -/
def safetyRelevant (sec : Nat) : Bool := sec = 6 || sec = 7 || sec = 8 || sec = 9 || sec = 11

/-- The sections a section refers to (Table 7.3, fourth column). -/
def refersTo (sec : Nat) : List Nat :=
  match sec with
  | 2 => [1]
  | 3 => [2, 6]
  | 4 => [3]
  | 5 => [2, 3]
  | 6 => [7]
  | 9 => [6, 8]
  | 11 => [6]
  | 12 => [5]
  | _ => []

/-- The dictionary row of a field inside a record kind of a section. -/
def dictRow (sec kind fid : Nat) : Option DictRow :=
  (dictOf sec).find? (fun r => r.kind = kind && r.fid = fid)

/-- The record kind of a section. -/
def kindRow (sec kind : Nat) : Option KindRow :=
  recordKinds.find? (fun k => k.sec = sec && k.kind = kind)

/-- Class code of Table 7.7. -/
def ClampClass.code : ClampClass → Nat
  | .up => 1
  | .down => 2
  | .nearest => 3
  | .safeLow => 4
  | .safeHigh => 5
  | .reject => 6

/-- Type code of Table 7.5. -/
def FieldType.code : FieldType → Nat
  | .uint => 1
  | .sint => 2
  | .enum => 3
  | .flag => 4
  | .bytes => 5

/-- The default of a field for the innermost index `i` (R218). -/
def FieldDefault.value (d : FieldDefault) (i : Nat) : Int :=
  match d with
  | .need => 0
  | .const v => v
  | .byIndex vs => vs.getD i 0
  | .noBytes => 0

end Sys2Proof.Machine
end

