-- ==== Sys2Proof/Machine/RegMap.lean ====
section
/-! DEFINITION. The register map: one address per register (functions of the index where the spec numbers a
row), one `Fld` per register field, and the access type and reset value of every register, from the register
map table and the field table of each chapter of spec/ (R11, R17, R18, R53; the rule of each window stands over
its block). -/

namespace Sys2Proof.Machine

/-! ### Window 0x0000_0000: R18, R21-R23 (00_scope.md) -/

/-- Part identifier; RO. -/
def DEV_ID : Nat := 0x0
def DEV_ID.V : Fld := ⟨DEV_ID, 31, 0⟩

/-- Part and die revisions; RO. -/
def DEV_REV : Nat := 0x4
def DEV_REV.STORE : Fld := ⟨DEV_REV, 3, 0⟩
def DEV_REV.SIG : Fld := ⟨DEV_REV, 7, 4⟩
def DEV_REV.FE : Fld := ⟨DEV_REV, 11, 8⟩
def DEV_REV.SENS : Fld := ⟨DEV_REV, 15, 12⟩
def DEV_REV.MINOR : Fld := ⟨DEV_REV, 23, 16⟩
def DEV_REV.MAJOR : Fld := ⟨DEV_REV, 31, 24⟩

/-- Resource counts; RO. -/
def DEV_CAPS : Nat := 0x8
def DEV_CAPS.FIBRES : Fld := ⟨DEV_CAPS, 3, 0⟩
def DEV_CAPS.ETH_PORTS : Fld := ⟨DEV_CAPS, 7, 4⟩
def DEV_CAPS.ENGINES : Fld := ⟨DEV_CAPS, 15, 8⟩
def DEV_CAPS.LAMP_CH : Fld := ⟨DEV_CAPS, 23, 16⟩
def DEV_CAPS.SI_CH : Fld := ⟨DEV_CAPS, 31, 24⟩

/-- Running firmware image and version; RO. -/
def DEV_FW : Nat := 0xC
def DEV_FW.BUILD : Fld := ⟨DEV_FW, 15, 0⟩
def DEV_FW.MINOR : Fld := ⟨DEV_FW, 23, 16⟩
def DEV_FW.MAJOR : Fld := ⟨DEV_FW, 30, 24⟩
def DEV_FW.IMG : Fld := ⟨DEV_FW, 31, 31⟩

/-- Unique number, bits [31:0]; RO. -/
def DEV_UID0 : Nat := 0x10
def DEV_UID0.V : Fld := ⟨DEV_UID0, 31, 0⟩

/-- Unique number, bits [63:32]; RO. -/
def DEV_UID1 : Nat := 0x14
def DEV_UID1.V : Fld := ⟨DEV_UID1, 31, 0⟩

/-- Unique number, bits [95:64]; RO. -/
def DEV_UID2 : Nat := 0x18
def DEV_UID2.V : Fld := ⟨DEV_UID2, 31, 0⟩

/-- Unique number, bits [127:96]; RO. -/
def DEV_UID3 : Nat := 0x1C
def DEV_UID3.V : Fld := ⟨DEV_UID3, 31, 0⟩

/-- Bitwise complement of DEV_ID, for host-port checks; RO. -/
def DEV_PATTERN : Nat := 0x20
def DEV_PATTERN.V : Fld := ⟨DEV_PATTERN, 31, 0⟩

/-- Scratch word, no effect on the part; RW. -/
def DEV_SCRATCH : Nat := 0x24
def DEV_SCRATCH.V : Fld := ⟨DEV_SCRATCH, 31, 0⟩

/-! ### Window 0x0001_0000: R85 (02_probe_and_timebase.md) -/

/-- Timebase, PPS and fibre states; RO. -/
def PRB_STAT : Nat := 0x10000
def PRB_STAT.TB : Fld := ⟨PRB_STAT, 31, 30⟩
def PRB_STAT.DIRECT : Fld := ⟨PRB_STAT, 29, 29⟩
def PRB_STAT.REF_OK : Fld := ⟨PRB_STAT, 28, 28⟩
def PRB_STAT.XO_OK : Fld := ⟨PRB_STAT, 27, 27⟩
def PRB_STAT.PPS_IN : Fld := ⟨PRB_STAT, 26, 25⟩
def PRB_STAT.PPS_OUT : Fld := ⟨PRB_STAT, 24, 24⟩
def PRB_STAT.FSTATE (f : Nat) : Fld := ⟨PRB_STAT, 8*f+7, 8*f+5⟩
def PRB_STAT.LSR (f : Nat) : Fld := ⟨PRB_STAT, 8*f+4, 8*f+4⟩
def PRB_STAT.EMIT (f : Nat) : Fld := ⟨PRB_STAT, 8*f+3, 8*f+3⟩
def PRB_STAT.FORCED (f : Nat) : Fld := ⟨PRB_STAT, 8*f+2, 8*f+2⟩

/-- Sticky event flags; RW1C. -/
def PRB_EVT : Nat := 0x10004
def PRB_EVT.REF_LOST : Fld := ⟨PRB_EVT, 0, 0⟩
def PRB_EVT.REF_BAD : Fld := ⟨PRB_EVT, 1, 1⟩
def PRB_EVT.XO_FAIL : Fld := ⟨PRB_EVT, 2, 2⟩
def PRB_EVT.UNLOCK : Fld := ⟨PRB_EVT, 3, 3⟩
def PRB_EVT.PPS_QUAL : Fld := ⟨PRB_EVT, 4, 4⟩
def PRB_EVT.PPS_LOST : Fld := ⟨PRB_EVT, 5, 5⟩
def PRB_EVT.PPS_NOISY : Fld := ⟨PRB_EVT, 6, 6⟩
def PRB_EVT.APR (f : Nat) : Fld := ⟨PRB_EVT, 8+f, 8+f⟩
def PRB_EVT.LOCKOUT (f : Nat) : Fld := ⟨PRB_EVT, 10+f, 10+f⟩
def PRB_EVT.NOTREADY (f : Nat) : Fld := ⟨PRB_EVT, 12+f, 12+f⟩
def PRB_EVT.PMON (f : Nat) : Fld := ⟨PRB_EVT, 14+f, 14+f⟩
def PRB_EVT.WFM (f : Nat) : Fld := ⟨PRB_EVT, 16+f, 16+f⟩

/-- Interrupt enables for PRB_EVT; RW. -/
def PRB_IRQ_EN : Nat := 0x10008
def PRB_IRQ_EN.EN : Fld := ⟨PRB_IRQ_EN, 17, 0⟩

/-- Reference source and measured offset; RO. -/
def PRB_REF : Nat := 0x1000C
def PRB_REF.SRC : Fld := ⟨PRB_REF, 31, 30⟩
def PRB_REF.FOFS : Fld := ⟨PRB_REF, 15, 0⟩

/-- Enable and cycle length; RO. -/
def PRB_CYC (f : Nat) : Nat := 0x10010 + 4 * f
def PRB_CYC.EN (f : Nat) : Fld := ⟨PRB_CYC f, 31, 31⟩
def PRB_CYC.LEN (f : Nat) : Fld := ⟨PRB_CYC f, 16, 0⟩

/-- Bins processed; RO. -/
def PRB_BINS (f : Nat) : Nat := 0x10018 + 4 * f
def PRB_BINS.NBINS (f : Nat) : Fld := ⟨PRB_BINS f, 16, 0⟩

/-- Chirp length, directions, taper; RO. -/
def PRB_CHIRP (f : Nat) : Nat := 0x10020 + 4 * f
def PRB_CHIRP.LEN (f : Nat) : Fld := ⟨PRB_CHIRP f, 10, 0⟩
def PRB_CHIRP.DIR (f : Nat) : Fld := ⟨PRB_CHIRP f, 15, 12⟩
def PRB_CHIRP.TAPER (f : Nat) : Fld := ⟨PRB_CHIRP f, 17, 16⟩

/-- Tone amplitudes; RO. -/
def PRB_AMP (f : Nat) : Nat := 0x10028 + 4 * f
def PRB_AMP.A (f : Nat) (k : Nat) : Fld := ⟨PRB_AMP f, 8*k+7, 8*k⟩

/-- SOA and Raman timing; RO. -/
def PRB_GATE (f : Nat) : Nat := 0x10030 + 4 * f
def PRB_GATE.SOA_LEAD (f : Nat) : Fld := ⟨PRB_GATE f, 6, 0⟩
def PRB_GATE.SOA_LAG (f : Nat) : Fld := ⟨PRB_GATE f, 13, 7⟩
def PRB_GATE.RMN_W (f : Nat) : Fld := ⟨PRB_GATE f, 19, 14⟩
def PRB_GATE.RMN_DIV (f : Nat) : Fld := ⟨PRB_GATE f, 23, 20⟩
def PRB_GATE.RMN_OFS (f : Nat) : Fld := ⟨PRB_GATE f, 31, 24⟩

/-- Power-reduction settings; RO. -/
def PRB_APR : Nat := 0x10038
def PRB_APR.LSR_OFF : Fld := ⟨PRB_APR, 0, 0⟩
def PRB_APR.AUTO : Fld := ⟨PRB_APR, 1, 1⟩
def PRB_APR.ATTEN : Fld := ⟨PRB_APR, 6, 2⟩
def PRB_APR.K : Fld := ⟨PRB_APR, 10, 7⟩
def PRB_APR.INTERVAL : Fld := ⟨PRB_APR, 18, 11⟩
def PRB_APR.CONFIRM : Fld := ⟨PRB_APR, 27, 19⟩

/-- FORCE and RESTORE; SIG. -/
def PRB_APR_CMD : Nat := 0x1003C
def PRB_APR_CMD.FORCE (f : Nat) : Fld := ⟨PRB_APR_CMD, 0+f, 0+f⟩
def PRB_APR_CMD.RESTORE (f : Nat) : Fld := ⟨PRB_APR_CMD, 4+f, 4+f⟩

/-- Laser monitor; RO. -/
def PRB_PMON (f : Nat) : Nat := 0x10040 + 4 * f
def PRB_PMON.AVG (f : Nat) : Fld := ⟨PRB_PMON f, 11, 0⟩
def PRB_PMON.WIN (f : Nat) : Fld := ⟨PRB_PMON f, 13, 12⟩

/-- PPS settings and extra-edge count; RO. -/
def PRB_PPS : Nat := 0x10048
def PRB_PPS.MODE : Fld := ⟨PRB_PPS, 1, 0⟩
def PRB_PPS.OUT_EN : Fld := ⟨PRB_PPS, 2, 2⟩
def PRB_PPS.OUT_W : Fld := ⟨PRB_PPS, 21, 3⟩
def PRB_PPS.EXTRA : Fld := ⟨PRB_PPS, 31, 24⟩

/-- Last accepted PPS_IN offset, signed ns; RO. -/
def PRB_PPS_OFS : Nat := 0x1004C
def PRB_PPS_OFS.V : Fld := ⟨PRB_PPS_OFS, 31, 0⟩

/-- Probe-cycle number, fibre 0; RO. -/
def PRB_CYCNT0_LO : Nat := 0x10050
def PRB_CYCNT0_LO.C : Fld := ⟨PRB_CYCNT0_LO, 31, 0⟩

/-- Probe-cycle number, fibre 0; RO. -/
def PRB_CYCNT0_HI : Nat := 0x10054
def PRB_CYCNT0_HI.C : Fld := ⟨PRB_CYCNT0_HI, 31, 0⟩

/-- Probe-cycle number, fibre 1; RO. -/
def PRB_CYCNT1_LO : Nat := 0x10058
def PRB_CYCNT1_LO.C : Fld := ⟨PRB_CYCNT1_LO, 31, 0⟩

/-- Probe-cycle number, fibre 1; RO. -/
def PRB_CYCNT1_HI : Nat := 0x1005C
def PRB_CYCNT1_HI.C : Fld := ⟨PRB_CYCNT1_HI, 31, 0⟩

/-- Holdover duration and count; RO. -/
def PRB_HOLDOVER : Nat := 0x10060
def PRB_HOLDOVER.SECS : Fld := ⟨PRB_HOLDOVER, 23, 0⟩
def PRB_HOLDOVER.COUNT : Fld := ⟨PRB_HOLDOVER, 31, 24⟩

/-! ### Window 0x0002_0000: R115-R118 (03_coherent_acquisition.md) -/

/-- Channelizer, I/Q and Landing states; RO. -/
def ACQ_STAT : Nat := 0x20000
def ACQ_STAT.CHZ (f : Nat) : Fld := ⟨ACQ_STAT, 8*f+7, 8*f+6⟩
def ACQ_STAT.IQX (f : Nat) : Fld := ⟨ACQ_STAT, 8*f+5, 8*f+4⟩
def ACQ_STAT.IQY (f : Nat) : Fld := ⟨ACQ_STAT, 8*f+3, 8*f+2⟩
def ACQ_STAT.DROP (f : Nat) : Fld := ⟨ACQ_STAT, 8*f+1, 8*f+1⟩
def ACQ_STAT.RDROP (f : Nat) : Fld := ⟨ACQ_STAT, 8*f, 8*f⟩

/-- Sticky event flags; RW1C. -/
def ACQ_EVT : Nat := 0x20004
def ACQ_EVT.HIGH (f : Nat) : Fld := ⟨ACQ_EVT, 0+f, 0+f⟩
def ACQ_EVT.OVF (f : Nat) : Fld := ⟨ACQ_EVT, 2+f, 2+f⟩
def ACQ_EVT.ROVF (f : Nat) : Fld := ⟨ACQ_EVT, 4+f, 4+f⟩
def ACQ_EVT.OVR (f : Nat) : Fld := ⟨ACQ_EVT, 6+f, 6+f⟩
def ACQ_EVT.IQR (f : Nat) : Fld := ⟨ACQ_EVT, 8+f, 8+f⟩
def ACQ_EVT.CHZFAIL (c : Nat) : Fld := ⟨ACQ_EVT, 10+c, 10+c⟩
def ACQ_EVT.CHZMIS : Fld := ⟨ACQ_EVT, 13, 13⟩
def ACQ_EVT.NOCHZ (f : Nat) : Fld := ⟨ACQ_EVT, 14+f, 14+f⟩
def ACQ_EVT.SNAP : Fld := ⟨ACQ_EVT, 16, 16⟩

/-- Interrupt enables for ACQ_EVT; RW. -/
def ACQ_IRQ_EN : Nat := 0x20008
def ACQ_IRQ_EN.EN : Fld := ⟨ACQ_IRQ_EN, 16, 0⟩

/-- Channelizer states; RO. -/
def ACQ_CHZ : Nat := 0x2000C
def ACQ_CHZ.STATE (c : Nat) : Fld := ⟨ACQ_CHZ, 4*c+2, 4*c⟩

/-- DELAY and CBIN; RO. -/
def ACQ_ZERO (f : Nat) : Nat := 0x20010 + 4 * f
def ACQ_ZERO.DELAY (f : Nat) : Fld := ⟨ACQ_ZERO f, 15, 0⟩
def ACQ_ZERO.CBIN (f : Nat) : Fld := ⟨ACQ_ZERO f, 25, 16⟩

/-- RDELAY; RO. -/
def ACQ_RZERO (f : Nat) : Nat := 0x20018 + 4 * f
def ACQ_RZERO.RDELAY (f : Nat) : Fld := ⟨ACQ_RZERO f, 15, 0⟩

/-- Group index; RO. -/
def ACQ_NG : Nat := 0x20020
def ACQ_NG.NG : Fld := ⟨ACQ_NG, 20, 0⟩

/-- Weights, high mark, I/Q settings; RO. -/
def ACQ_CFG : Nat := 0x20024
def ACQ_CFG.WEIGHT (f : Nat) : Fld := ⟨ACQ_CFG, 0+f, 0+f⟩
def ACQ_CFG.HIGH : Fld := ⟨ACQ_CFG, 7, 2⟩
def ACQ_CFG.IQ_TAU : Fld := ⟨ACQ_CFG, 13, 8⟩
def ACQ_CFG.IQ_EN (f : Nat) : Fld := ⟨ACQ_CFG, 14+f, 14+f⟩
def ACQ_CFG.KEEP : Fld := ⟨ACQ_CFG, 16, 16⟩

/-- Coherent Landing fill, peak, drops; RO. -/
def ACQ_LAND (f : Nat) : Nat := 0x20028 + 4 * f
def ACQ_LAND.FILL (f : Nat) : Fld := ⟨ACQ_LAND f, 6, 0⟩
def ACQ_LAND.PEAK (f : Nat) : Fld := ⟨ACQ_LAND f, 14, 8⟩
def ACQ_LAND.DROPS (f : Nat) : Fld := ⟨ACQ_LAND f, 31, 16⟩

/-- Raman Landing fill, peak, drops; RO. -/
def ACQ_RLAND (f : Nat) : Nat := 0x20030 + 4 * f
def ACQ_RLAND.FILL (f : Nat) : Fld := ⟨ACQ_RLAND f, 6, 0⟩
def ACQ_RLAND.PEAK (f : Nat) : Fld := ⟨ACQ_RLAND f, 14, 8⟩
def ACQ_RLAND.DROPS (f : Nat) : Fld := ⟨ACQ_RLAND f, 31, 16⟩

/-- Coherent traces lost; RO. -/
def ACQ_LOST (f : Nat) : Nat := 0x20038 + 4 * f
def ACQ_LOST.COUNT (f : Nat) : Fld := ⟨ACQ_LOST f, 31, 0⟩

/-- Raman traces lost; RO. -/
def ACQ_RLOST (f : Nat) : Nat := 0x20040 + 4 * f
def ACQ_RLOST.COUNT (f : Nat) : Fld := ⟨ACQ_RLOST f, 31, 0⟩

/-- Traces with overrange, converter a = 0-11; RO. -/
def ACQ_OVR (a : Nat) : Nat := 0x20048 + 4 * a
def ACQ_OVR.COUNT (a : Nat) : Fld := ⟨ACQ_OVR a, 31, 0⟩

/-- Applied gain and phase correction; RO. -/
def ACQ_IQGP (n : Nat) : Nat := 0x20078 + 4 * n
def ACQ_IQGP.GAIN (n : Nat) : Fld := ⟨ACQ_IQGP n, 31, 16⟩
def ACQ_IQGP.PHASE (n : Nat) : Fld := ⟨ACQ_IQGP n, 15, 0⟩

/-- Applied skew; image rejection; RO. -/
def ACQ_IQSD (n : Nat) : Nat := 0x20088 + 4 * n
def ACQ_IQSD.SKEW (n : Nat) : Fld := ⟨ACQ_IQSD n, 31, 16⟩
def ACQ_IQSD.IMG (n : Nat) : Fld := ⟨ACQ_IQSD n, 7, 0⟩

/-- Applied DC correction; RO. -/
def ACQ_IQDC (n : Nat) : Nat := 0x20098 + 4 * n
def ACQ_IQDC.DC_I (n : Nat) : Fld := ⟨ACQ_IQDC n, 31, 16⟩
def ACQ_IQDC.DC_Q (n : Nat) : Fld := ⟨ACQ_IQDC n, 15, 0⟩

/-- Clear peaks and counters; WO. -/
def ACQ_CLR : Nat := 0x200A8
def ACQ_CLR.PEAK (f : Nat) : Fld := ⟨ACQ_CLR, 0+f, 0+f⟩
def ACQ_CLR.RPEAK (f : Nat) : Fld := ⟨ACQ_CLR, 2+f, 2+f⟩
def ACQ_CLR.COUNTS : Fld := ⟨ACQ_CLR, 4, 4⟩

/-- Snapshot source and offset; RW. -/
def ACQ_SNAP_CTL : Nat := 0x200AC
def ACQ_SNAP_CTL.FIBRE : Fld := ⟨ACQ_SNAP_CTL, 0, 0⟩
def ACQ_SNAP_CTL.RAMAN : Fld := ⟨ACQ_SNAP_CTL, 1, 1⟩
def ACQ_SNAP_CTL.OFS : Fld := ⟨ACQ_SNAP_CTL, 18, 2⟩

/-- Arm snapshot; WO. -/
def ACQ_SNAP_CMD : Nat := 0x200B0
def ACQ_SNAP_CMD.ARM : Fld := ⟨ACQ_SNAP_CMD, 0, 0⟩

/-- Snapshot state; RO. -/
def ACQ_SNAP_STAT : Nat := 0x200B4
def ACQ_SNAP_STAT.DONE : Fld := ⟨ACQ_SNAP_STAT, 0, 0⟩
def ACQ_SNAP_STAT.ARMED : Fld := ⟨ACQ_SNAP_STAT, 1, 1⟩
def ACQ_SNAP_STAT.LOST : Fld := ⟨ACQ_SNAP_STAT, 2, 2⟩

/-- Captured cycle number, bits [31:0]; RO. -/
def ACQ_SNAP_CYC : Nat := 0x200B8
def ACQ_SNAP_CYC.CYC : Fld := ⟨ACQ_SNAP_CYC, 31, 0⟩

/-- Snapshot sample words; RO. -/
def ACQ_SNAP_DATA (w : Nat) : Nat := 0x21000 + 4 * w
def ACQ_SNAP_DATA.S_HI (w : Nat) : Fld := ⟨ACQ_SNAP_DATA w, 31, 16⟩
def ACQ_SNAP_DATA.S_LO (w : Nat) : Fld := ⟨ACQ_SNAP_DATA w, 15, 0⟩

/-! ### Window 0x0003_0000: R153, R154 (04_acoustic_channels.md) -/

/-- Per-fibre acoustic summary; RO. -/
def ACU_STAT : Nat := 0x30000
def ACU_STAT.SENSE (f : Nat) : Fld := ⟨ACU_STAT, 16*f+15, 16*f+14⟩
def ACU_STAT.OPEN (f : Nat) : Fld := ⟨ACU_STAT, 16*f+13, 16*f+13⟩
def ACU_STAT.ALIAS (f : Nat) : Fld := ⟨ACU_STAT, 16*f+12, 16*f+12⟩
def ACU_STAT.NOREF (f : Nat) : Fld := ⟨ACU_STAT, 16*f+11, 16*f+11⟩
def ACU_STAT.STORM (f : Nat) : Fld := ⟨ACU_STAT, 16*f+10, 16*f+10⟩
def ACU_STAT.TRACKS (f : Nat) : Fld := ⟨ACU_STAT, 16*f+6, 16*f⟩

/-- Sticky event flags; RW1C. -/
def ACU_EVT : Nat := 0x30004
def ACU_EVT.BRK (f : Nat) : Fld := ⟨ACU_EVT, 0+f, 0+f⟩
def ACU_EVT.CONT (f : Nat) : Fld := ⟨ACU_EVT, 2+f, 2+f⟩
def ACU_EVT.ALIAS (f : Nat) : Fld := ⟨ACU_EVT, 4+f, 4+f⟩
def ACU_EVT.REF (f : Nat) : Fld := ⟨ACU_EVT, 6+f, 6+f⟩
def ACU_EVT.STORM (f : Nat) : Fld := ⟨ACU_EVT, 8+f, 8+f⟩
def ACU_EVT.DEG (f : Nat) : Fld := ⟨ACU_EVT, 10+f, 10+f⟩
def ACU_EVT.TRKLIM (f : Nat) : Fld := ⟨ACU_EVT, 12+f, 12+f⟩
def ACU_EVT.BRIGHT : Fld := ⟨ACU_EVT, 14, 14⟩
def ACU_EVT.UNCOV : Fld := ⟨ACU_EVT, 15, 15⟩

/-- Interrupt enables for ACU_EVT; RW. -/
def ACU_IRQ_EN : Nat := 0x30008
def ACU_IRQ_EN.EN : Fld := ⟨ACU_IRQ_EN, 15, 0⟩

/-- Wavelength, photoelastic factor, fade threshold; RO. -/
def ACU_OPT : Nat := 0x3000C
def ACU_OPT.LAMBDA : Fld := ⟨ACU_OPT, 17, 0⟩
def ACU_OPT.XI : Fld := ⟨ACU_OPT, 27, 18⟩
def ACU_OPT.FADE : Fld := ⟨ACU_OPT, 31, 28⟩

/-- Reference section; RO. -/
def ACU_REF (f : Nat) : Nat := 0x30010 + 4 * f
def ACU_REF.FIRST (f : Nat) : Fld := ⟨ACU_REF f, 9, 0⟩
def ACU_REF.LEN (f : Nat) : Fld := ⟨ACU_REF f, 19, 10⟩
def ACU_REF.GAUGE (f : Nat) : Fld := ⟨ACU_REF f, 25, 20⟩
def ACU_REF.STATE (f : Nat) : Fld := ⟨ACU_REF f, 27, 26⟩

/-- Break and continuity; RO. -/
def ACU_BRK (f : Nat) : Nat := 0x30018 + 4 * f
def ACU_BRK.BIN (f : Nat) : Fld := ⟨ACU_BRK f, 16, 0⟩
def ACU_BRK.OPEN (f : Nat) : Fld := ⟨ACU_BRK f, 17, 17⟩
def ACU_BRK.CHECK (f : Nat) : Fld := ⟨ACU_BRK f, 18, 18⟩
def ACU_BRK.DROP (f : Nat) : Fld := ⟨ACU_BRK f, 23, 19⟩
def ACU_BRK.MEAS (f : Nat) : Fld := ⟨ACU_BRK f, 31, 24⟩

/-- Dead and NOREF shares; RO. -/
def ACU_HLTH (f : Nat) : Nat := 0x30020 + 4 * f
def ACU_HLTH.DEAD (f : Nat) : Fld := ⟨ACU_HLTH f, 9, 0⟩
def ACU_HLTH.NOREF (f : Nat) : Fld := ⟨ACU_HLTH f, 19, 10⟩
def ACU_HLTH.ALIAS_M (f : Nat) : Fld := ⟨ACU_HLTH f, 31, 20⟩

/-- Zone counts; RO. -/
def ACU_CNT (f : Nat) : Nat := 0x30028 + 4 * f
def ACU_CNT.CONF (f : Nat) : Fld := ⟨ACU_CNT f, 8, 0⟩
def ACU_CNT.VALID (f : Nat) : Fld := ⟨ACU_CNT f, 17, 9⟩
def ACU_CNT.FLAGGED (f : Nat) : Fld := ⟨ACU_CNT f, 26, 18⟩

/-- Dim permits, links 0-31; RO. -/
def ACU_LINK0 : Nat := 0x30030
def ACU_LINK0.PERMIT (l : Nat) : Fld := ⟨ACU_LINK0, l, l⟩

/-- Dim permits, links 32-63; RO. -/
def ACU_LINK1 : Nat := 0x30034
def ACU_LINK1.PERMIT (l : Nat) : Fld := ⟨ACU_LINK1, l, l⟩

/-- Raw export load; RO. -/
def ACU_RAW : Nat := 0x30038
def ACU_RAW.USED : Fld := ⟨ACU_RAW, 17, 0⟩
def ACU_RAW.TRIMMED : Fld := ⟨ACU_RAW, 18, 18⟩

/-- Zone selected for ACU_ZCFG0-ACU_ZCNT; RW. -/
def ACU_ZSEL : Nat := 0x3003C
def ACU_ZSEL.ZONE : Fld := ⟨ACU_ZSEL, 7, 0⟩
def ACU_ZSEL.FIBRE : Fld := ⟨ACU_ZSEL, 8, 8⟩

/-- Selected zone: first bin, gauge, cell; RO. -/
def ACU_ZCFG0 : Nat := 0x30040
def ACU_ZCFG0.FIRST : Fld := ⟨ACU_ZCFG0, 16, 0⟩
def ACU_ZCFG0.GAUGE : Fld := ⟨ACU_ZCFG0, 22, 17⟩
def ACU_ZCFG0.CELL : Fld := ⟨ACU_ZCFG0, 29, 23⟩
def ACU_ZCFG0.TRACK : Fld := ⟨ACU_ZCFG0, 31, 31⟩

/-- Selected zone: last bin, bands; RO. -/
def ACU_ZCFG1 : Nat := 0x30044
def ACU_ZCFG1.LAST : Fld := ⟨ACU_ZCFG1, 16, 0⟩
def ACU_ZCFG1.BANDS : Fld := ⟨ACU_ZCFG1, 20, 17⟩

/-- Selected zone: state and flags; RO. -/
def ACU_ZSTAT : Nat := 0x30048
def ACU_ZSTAT.STATE : Fld := ⟨ACU_ZSTAT, 1, 0⟩
def ACU_ZSTAT.DEGRADED : Fld := ⟨ACU_ZSTAT, 2, 2⟩
def ACU_ZSTAT.STORM : Fld := ⟨ACU_ZSTAT, 3, 3⟩
def ACU_ZSTAT.LINKED : Fld := ⟨ACU_ZSTAT, 4, 4⟩
def ACU_ZSTAT.OPEN : Fld := ⟨ACU_ZSTAT, 12, 5⟩
def ACU_ZSTAT.DEAD : Fld := ⟨ACU_ZSTAT, 25, 16⟩

/-- Selected zone: counters; RO. -/
def ACU_ZCNT : Nat := 0x3004C
def ACU_ZCNT.OPENS : Fld := ⟨ACU_ZCNT, 15, 0⟩
def ACU_ZCNT.SUPPR : Fld := ⟨ACU_ZCNT, 31, 16⟩

/-- Clear counters; WO. -/
def ACU_CLR : Nat := 0x30050
def ACU_CLR.COUNTS : Fld := ⟨ACU_CLR, 0, 0⟩

/-- States of all zones; RO. -/
def ACU_ZMAP (w : Nat) : Nat := 0x30100 + 4 * w
def ACU_ZMAP.Z (w : Nat) (j : Nat) : Fld := ⟨ACU_ZMAP w, 2*j+1, 2*j⟩

/-! ### Window 0x0004_0000: R181, R182 (05_temperature.md) -/

/-- Raman, anchor and fusion states; RO. -/
def TMP_STAT : Nat := 0x40000
def TMP_STAT.RAMAN (f : Nat) : Fld := ⟨TMP_STAT, 8*f+1, 8*f⟩
def TMP_STAT.ANCH (f : Nat) : Fld := ⟨TMP_STAT, 8*f+4, 8*f+2⟩
def TMP_STAT.FUSED (f : Nat) : Fld := ⟨TMP_STAT, 8*f+5, 8*f+5⟩
def TMP_STAT.SUSP (f : Nat) : Fld := ⟨TMP_STAT, 8*f+6, 8*f+6⟩

/-- Sticky event flags; RW1C. -/
def TMP_EVT : Nat := 0x40004
def TMP_EVT.HOLD (f : Nat) : Fld := ⟨TMP_EVT, 0+f, 0+f⟩
def TMP_EVT.STALE (f : Nat) : Fld := ⟨TMP_EVT, 2+f, 2+f⟩
def TMP_EVT.REBASE (f : Nat) : Fld := ⟨TMP_EVT, 4+f, 4+f⟩
def TMP_EVT.SUSP (f : Nat) : Fld := ⟨TMP_EVT, 6+f, 6+f⟩
def TMP_EVT.EST (f : Nat) : Fld := ⟨TMP_EVT, 8+f, 8+f⟩
def TMP_EVT.DARK (f : Nat) : Fld := ⟨TMP_EVT, 10+f, 10+f⟩

/-- Interrupt enables for TMP_EVT; RW. -/
def TMP_IRQ_EN : Nat := 0x40008
def TMP_IRQ_EN.EN : Fld := ⟨TMP_IRQ_EN, 11, 0⟩

/-- τ_R, U, τ_X; RO. -/
def TMP_CFG : Nat := 0x4000C
def TMP_CFG.TAU_R : Fld := ⟨TMP_CFG, 9, 0⟩
def TMP_CFG.UPD : Fld := ⟨TMP_CFG, 15, 10⟩
def TMP_CFG.TAU_X : Fld := ⟨TMP_CFG, 29, 16⟩

/-- Coil RTD channels, coil B; RO. -/
def TMP_COIL (f : Nat) : Nat := 0x40010 + 4 * f
def TMP_COIL.CHA (f : Nat) : Fld := ⟨TMP_COIL f, 2, 0⟩
def TMP_COIL.CHA_EN (f : Nat) : Fld := ⟨TMP_COIL f, 3, 3⟩
def TMP_COIL.CHB (f : Nat) : Fld := ⟨TMP_COIL f, 6, 4⟩
def TMP_COIL.CHB_EN (f : Nat) : Fld := ⟨TMP_COIL f, 7, 7⟩
def TMP_COIL.B_FIRST (f : Nat) : Fld := ⟨TMP_COIL f, 17, 8⟩
def TMP_COIL.B_LEN (f : Nat) : Fld := ⟨TMP_COIL f, 27, 18⟩

/-- γ in use; RO. -/
def TMP_GAMMA (f : Nat) : Nat := 0x40018 + 4 * f
def TMP_GAMMA.GAMMA (f : Nat) : Fld := ⟨TMP_GAMMA f, 16, 0⟩
def TMP_GAMMA.SRC (f : Nat) : Fld := ⟨TMP_GAMMA f, 20, 20⟩

/-- Δα; RO. -/
def TMP_DALPHA (f : Nat) : Nat := 0x40020 + 4 * f
def TMP_DALPHA.DALPHA (f : Nat) : Fld := ⟨TMP_DALPHA f, 17, 0⟩

/-- β_T in use; RO. -/
def TMP_BETA (f : Nat) : Nat := 0x40028 + 4 * f
def TMP_BETA.BETA (f : Nat) : Fld := ⟨TMP_BETA f, 15, 0⟩
def TMP_BETA.SRC (f : Nat) : Fld := ⟨TMP_BETA f, 16, 16⟩

/-- T_A of the last anchor, mK; RO. -/
def TMP_TA (f : Nat) : Nat := 0x40030 + 4 * f
def TMP_TA.TA (f : Nat) : Fld := ⟨TMP_TA f, 31, 0⟩

/-- Anchor state and age; RO. -/
def TMP_ANCH (f : Nat) : Nat := 0x40038 + 4 * f
def TMP_ANCH.STATE (f : Nat) : Fld := ⟨TMP_ANCH f, 2, 0⟩
def TMP_ANCH.AGE (f : Nat) : Fld := ⟨TMP_ANCH f, 31, 8⟩

/-- Fused cell selected; RW. -/
def TMP_CSEL : Nat := 0x40040
def TMP_CSEL.ZONE : Fld := ⟨TMP_CSEL, 7, 0⟩
def TMP_CSEL.CELL : Fld := ⟨TMP_CSEL, 19, 8⟩
def TMP_CSEL.FIBRE : Fld := ⟨TMP_CSEL, 20, 20⟩

/-- Selected cell: last T_F, mK; RO. -/
def TMP_CVAL : Nat := 0x40044
def TMP_CVAL.T : Fld := ⟨TMP_CVAL, 31, 0⟩

/-- Selected cell: state, flags, σ; RO. -/
def TMP_CSTAT : Nat := 0x40048
def TMP_CSTAT.STATE : Fld := ⟨TMP_CSTAT, 1, 0⟩
def TMP_CSTAT.FLAGS : Fld := ⟨TMP_CSTAT, 9, 2⟩
def TMP_CSTAT.SIGMA : Fld := ⟨TMP_CSTAT, 31, 16⟩

/-- Raman bin selected; RW. -/
def TMP_BSEL : Nat := 0x4004C
def TMP_BSEL.BIN : Fld := ⟨TMP_BSEL, 16, 0⟩
def TMP_BSEL.FIBRE : Fld := ⟨TMP_BSEL, 17, 17⟩

/-- Selected bin: Raman temperature, mK; RO. -/
def TMP_BVAL : Nat := 0x40050
def TMP_BVAL.T : Fld := ⟨TMP_BVAL, 31, 0⟩

/-- Fibre 0: fused cells FUSED, SUSPECT; RO. -/
def TMP_CNT0 : Nat := 0x40054
def TMP_CNT0.FUSED : Fld := ⟨TMP_CNT0, 12, 0⟩
def TMP_CNT0.SUSP : Fld := ⟨TMP_CNT0, 28, 16⟩

/-- Fibre 1: fused cells FUSED, SUSPECT; RO. -/
def TMP_CNT1 : Nat := 0x40058
def TMP_CNT1.FUSED : Fld := ⟨TMP_CNT1, 12, 0⟩
def TMP_CNT1.SUSP : Fld := ⟨TMP_CNT1, 28, 16⟩

/-- Channel states, schedule mode; RO. -/
def AUX_STAT : Nat := 0x40100
def AUX_STAT.STATE (c : Nat) : Fld := ⟨AUX_STAT, 2*c+1, 2*c⟩
def AUX_STAT.MODE : Fld := ⟨AUX_STAT, 16, 16⟩

/-- Sticky event flags; RW1C. -/
def AUX_EVT : Nat := 0x40104
def AUX_EVT.OPEN (c : Nat) : Fld := ⟨AUX_EVT, 0+c, 0+c⟩
def AUX_EVT.OVR (c : Nat) : Fld := ⟨AUX_EVT, 8+c, 8+c⟩
def AUX_EVT.TABLE (c : Nat) : Fld := ⟨AUX_EVT, 16+c, 16+c⟩

/-- Interrupt enables for AUX_EVT; RW. -/
def AUX_IRQ_EN : Nat := 0x40108
def AUX_IRQ_EN.EN : Fld := ⟨AUX_IRQ_EN, 23, 0⟩

/-- Excitation schedule; RO. -/
def AUX_SCHED : Nat := 0x4010C
def AUX_SCHED.CYCLE : Fld := ⟨AUX_SCHED, 15, 0⟩
def AUX_SCHED.M : Fld := ⟨AUX_SCHED, 22, 16⟩
def AUX_SCHED.SETTLE : Fld := ⟨AUX_SCHED, 27, 24⟩

/-- Channel configuration; RO. -/
def AUX_CFG (c : Nat) : Nat := 0x40110 + 4 * c
def AUX_CFG.TYPE (c : Nat) : Fld := ⟨AUX_CFG c, 2, 0⟩
def AUX_CFG.REF (c : Nat) : Fld := ⟨AUX_CFG c, 3, 3⟩
def AUX_CFG.GAIN (c : Nat) : Fld := ⟨AUX_CFG c, 6, 4⟩
def AUX_CFG.RATE (c : Nat) : Fld := ⟨AUX_CFG c, 16, 7⟩
def AUX_CFG.CHOP (c : Nat) : Fld := ⟨AUX_CFG c, 17, 17⟩
def AUX_CFG.BO (c : Nat) : Fld := ⟨AUX_CFG c, 19, 18⟩
def AUX_CFG.TABLE (c : Nat) : Fld := ⟨AUX_CFG c, 20, 20⟩
def AUX_CFG.UNIT (c : Nat) : Fld := ⟨AUX_CFG c, 22, 21⟩
def AUX_CFG.LB (c : Nat) : Fld := ⟨AUX_CFG c, 31, 24⟩

/-- Excitation settings, compliance; RO. -/
def AUX_EXC (c : Nat) : Nat := 0x40130 + 4 * c
def AUX_EXC.CUR (c : Nat) : Fld := ⟨AUX_EXC c, 7, 0⟩
def AUX_EXC.PIN0 (c : Nat) : Fld := ⟨AUX_EXC c, 11, 8⟩
def AUX_EXC.PIN1 (c : Nat) : Fld := ⟨AUX_EXC c, 15, 12⟩
def AUX_EXC.COMPL (c : Nat) : Fld := ⟨AUX_EXC c, 16, 16⟩

/-- Last value, in the table's unit; RO. -/
def AUX_VAL (c : Nat) : Nat := 0x40150 + 4 * c
def AUX_VAL.VAL (c : Nat) : Fld := ⟨AUX_VAL c, 31, 0⟩

/-- Last code and flags, discard count; RO. -/
def AUX_RAW (c : Nat) : Nat := 0x40170 + 4 * c
def AUX_RAW.CODE (c : Nat) : Fld := ⟨AUX_RAW c, 31, 8⟩
def AUX_RAW.OVR (c : Nat) : Fld := ⟨AUX_RAW c, 0, 0⟩
def AUX_RAW.OOT (c : Nat) : Fld := ⟨AUX_RAW c, 1, 1⟩
def AUX_RAW.DISC (c : Nat) : Fld := ⟨AUX_RAW c, 7, 2⟩

/-! ### Window 0x0005_0000: R209, R210 (06_gallery.md) -/

/-- Step, moves, spares, reserve, lowest predicted slack; RO. -/
def GAL_STAT : Nat := 0x50000
def GAL_STAT.STEP : Fld := ⟨GAL_STAT, 3, 0⟩
def GAL_STAT.MOVE : Fld := ⟨GAL_STAT, 4, 4⟩
def GAL_STAT.REPLAN : Fld := ⟨GAL_STAT, 5, 5⟩
def GAL_STAT.FAST : Fld := ⟨GAL_STAT, 6, 6⟩
def GAL_STAT.NOMARGIN : Fld := ⟨GAL_STAT, 7, 7⟩
def GAL_STAT.COMMITTED : Fld := ⟨GAL_STAT, 12, 8⟩
def GAL_STAT.FREE : Fld := ⟨GAL_STAT, 15, 13⟩
def GAL_STAT.RESERVE : Fld := ⟨GAL_STAT, 20, 16⟩
def GAL_STAT.TESTING : Fld := ⟨GAL_STAT, 21, 21⟩
def GAL_STAT.SLACK_MIN : Fld := ⟨GAL_STAT, 31, 24⟩

/-- Sticky event flags; RW1C. -/
def GAL_EVT : Nat := 0x50004
def GAL_EVT.STEP : Fld := ⟨GAL_EVT, 0, 0⟩
def GAL_EVT.SLACKLOW : Fld := ⟨GAL_EVT, 1, 1⟩
def GAL_EVT.MOVED : Fld := ⟨GAL_EVT, 2, 2⟩
def GAL_EVT.MISMATCH : Fld := ⟨GAL_EVT, 3, 3⟩
def GAL_EVT.ENGFAIL : Fld := ⟨GAL_EVT, 4, 4⟩
def GAL_EVT.SPARELOW : Fld := ⟨GAL_EVT, 5, 5⟩
def GAL_EVT.NOMARGIN : Fld := ⟨GAL_EVT, 6, 6⟩
def GAL_EVT.RATE : Fld := ⟨GAL_EVT, 7, 7⟩
def GAL_EVT.STAIRFLT : Fld := ⟨GAL_EVT, 8, 8⟩
def GAL_EVT.UNPLACE : Fld := ⟨GAL_EVT, 9, 9⟩
def GAL_EVT.DEFER : Fld := ⟨GAL_EVT, 10, 10⟩

/-- Interrupt enables for GAL_EVT; RW. -/
def GAL_IRQ_EN : Nat := 0x50008
def GAL_IRQ_EN.EN : Fld := ⟨GAL_IRQ_EN, 10, 0⟩

/-- Stair set point, measured supply, stored step; RO. -/
def GAL_STAIR : Nat := 0x5000C
def GAL_STAIR.SET : Fld := ⟨GAL_STAIR, 3, 0⟩
def GAL_STAIR.VCORE : Fld := ⟨GAL_STAIR, 13, 4⟩
def GAL_STAIR.STORED : Fld := ⟨GAL_STAIR, 17, 14⟩
def GAL_STAIR.MAX : Fld := ⟨GAL_STAIR, 21, 18⟩
def GAL_STAIR.CHANGES : Fld := ⟨GAL_STAIR, 31, 24⟩

/-- Planner parameters in use; RO. -/
def GAL_POLICY : Nat := 0x50010
def GAL_POLICY.TARGET : Fld := ⟨GAL_POLICY, 5, 0⟩
def GAL_POLICY.LOWER : Fld := ⟨GAL_POLICY, 11, 6⟩
def GAL_POLICY.ALARM : Fld := ⟨GAL_POLICY, 15, 12⟩
def GAL_POLICY.LOWER_EN : Fld := ⟨GAL_POLICY, 16, 16⟩
def GAL_POLICY.RATE_SLOT : Fld := ⟨GAL_POLICY, 19, 17⟩
def GAL_POLICY.T_DESIGN : Fld := ⟨GAL_POLICY, 27, 20⟩

/-- Last planner run; RO. -/
def GAL_PLAN : Nat := 0x50014
def GAL_PLAN.AGE : Fld := ⟨GAL_PLAN, 15, 0⟩
def GAL_PLAN.TW : Fld := ⟨GAL_PLAN, 23, 16⟩
def GAL_PLAN.WORST : Fld := ⟨GAL_PLAN, 28, 24⟩

/-- Planner commands; SIG. -/
def GAL_CMD : Nat := 0x50018
def GAL_CMD.RUN_NOW : Fld := ⟨GAL_CMD, 0, 0⟩

/-- Move, failure and abandonment counts; RO. -/
def GAL_CNT : Nat := 0x5001C
def GAL_CNT.MOVES : Fld := ⟨GAL_CNT, 15, 0⟩
def GAL_CNT.FAILS : Fld := ⟨GAL_CNT, 23, 16⟩
def GAL_CNT.ABANDONED : Fld := ⟨GAL_CNT, 31, 24⟩

/-- Clear counters; WO. -/
def GAL_CLR : Nat := 0x50020
def GAL_CLR.COUNTS : Fld := ⟨GAL_CLR, 0, 0⟩

/-- Task selected for GAL_TASK; RW. -/
def GAL_TSEL : Nat := 0x50024
def GAL_TSEL.TASK : Fld := ⟨GAL_TSEL, 6, 0⟩

/-- Selected task; RO. -/
def GAL_TASK : Nat := 0x50028
def GAL_TASK.CLASS : Fld := ⟨GAL_TASK, 3, 0⟩
def GAL_TASK.FIBRE : Fld := ⟨GAL_TASK, 4, 4⟩
def GAL_TASK.ENGINE : Fld := ⟨GAL_TASK, 9, 5⟩
def GAL_TASK.LOAD : Fld := ⟨GAL_TASK, 19, 10⟩
def GAL_TASK.STATE : Fld := ⟨GAL_TASK, 21, 20⟩

/-- Engine e = 0-19; RO. -/
def GAL_ENG (e : Nat) : Nat := 0x50040 + 4 * e
def GAL_ENG.STATE (e : Nat) : Fld := ⟨GAL_ENG e, 2, 0⟩
def GAL_ENG.RESERVE (e : Nat) : Fld := ⟨GAL_ENG e, 3, 3⟩
def GAL_ENG.CAUSE (e : Nat) : Fld := ⟨GAL_ENG e, 6, 4⟩
def GAL_ENG.TASKS (e : Nat) : Fld := ⟨GAL_ENG e, 10, 7⟩
def GAL_ENG.SLACK (e : Nat) : Fld := ⟨GAL_ENG e, 21, 11⟩
def GAL_ENG.PRED (e : Nat) : Fld := ⟨GAL_ENG e, 31, 22⟩

/-- Channelizer c = 0-2, slack; RO. -/
def GAL_CHZ (c : Nat) : Nat := 0x50090 + 4 * c
def GAL_CHZ.SLACK (c : Nat) : Fld := ⟨GAL_CHZ c, 21, 11⟩
def GAL_CHZ.PRED (c : Nat) : Fld := ⟨GAL_CHZ c, 31, 22⟩

/-! ### Window 0x0006_0000: R240, R241 (07_bitstream_and_profiles.md) -/

/-- Active profile, selection, switch state; RO. -/
def CFG_STAT : Nat := 0x60000
def CFG_STAT.ACTIVE : Fld := ⟨CFG_STAT, 2, 0⟩
def CFG_STAT.BYPIN : Fld := ⟨CFG_STAT, 3, 3⟩
def CFG_STAT.PINS : Fld := ⟨CFG_STAT, 5, 4⟩
def CFG_STAT.FALLBACK : Fld := ⟨CFG_STAT, 6, 6⟩
def CFG_STAT.STRICT : Fld := ⟨CFG_STAT, 7, 7⟩
def CFG_STAT.PENDING : Fld := ⟨CFG_STAT, 10, 8⟩
def CFG_STAT.SWSTATE : Fld := ⟨CFG_STAT, 12, 11⟩

/-- Sticky event flags; RW1C. -/
def CFG_EVT : Nat := 0x60004
def CFG_EVT.CLAMP : Fld := ⟨CFG_EVT, 0, 0⟩
def CFG_EVT.SAFECLAMP : Fld := ⟨CFG_EVT, 1, 1⟩
def CFG_EVT.REFUSED : Fld := ⟨CFG_EVT, 2, 2⟩
def CFG_EVT.PROFREF : Fld := ⟨CFG_EVT, 3, 3⟩
def CFG_EVT.BADCONT : Fld := ⟨CFG_EVT, 4, 4⟩
def CFG_EVT.BADSIG : Fld := ⟨CFG_EVT, 5, 5⟩
def CFG_EVT.SWDONE : Fld := ⟨CFG_EVT, 6, 6⟩
def CFG_EVT.SWABAND : Fld := ⟨CFG_EVT, 7, 7⟩
def CFG_EVT.FALLBACK : Fld := ⟨CFG_EVT, 8, 8⟩
def CFG_EVT.XFER : Fld := ⟨CFG_EVT, 9, 9⟩

/-- Interrupt enables for CFG_EVT; RW. -/
def CFG_IRQ_EN : Nat := 0x60008
def CFG_IRQ_EN.EN : Fld := ⟨CFG_IRQ_EN, 9, 0⟩

/-- Pin selection and stored preference (kept); SIG. -/
def CFG_CTL : Nat := 0x6000C
def CFG_CTL.PIN_EN : Fld := ⟨CFG_CTL, 0, 0⟩
def CFG_CTL.PREF : Fld := ⟨CFG_CTL, 2, 1⟩

/-- Switch, cancel, erase, rollback commit; SIG. -/
def CFG_CMD : Nat := 0x60010
def CFG_CMD.SLOT : Fld := ⟨CFG_CMD, 1, 0⟩
def CFG_CMD.SWITCH : Fld := ⟨CFG_CMD, 2, 2⟩
def CFG_CMD.PERSIST : Fld := ⟨CFG_CMD, 3, 3⟩
def CFG_CMD.CANCEL : Fld := ⟨CFG_CMD, 4, 4⟩
def CFG_CMD.ERASE : Fld := ⟨CFG_CMD, 5, 5⟩
def CFG_CMD.COMMIT_RB : Fld := ⟨CFG_CMD, 6, 6⟩

/-- Switch progress; RO. -/
def CFG_SWITCH : Nat := 0x60014
def CFG_SWITCH.TARGET : Fld := ⟨CFG_SWITCH, 2, 0⟩
def CFG_SWITCH.RESULT : Fld := ⟨CFG_SWITCH, 6, 3⟩
def CFG_SWITCH.WAIT_HEADS : Fld := ⟨CFG_SWITCH, 12, 7⟩
def CFG_SWITCH.ELAPSED : Fld := ⟨CFG_SWITCH, 31, 16⟩

/-- Slot state and rollback value; RO. -/
def CFG_SLOT (n : Nat) : Nat := 0x60018 + 4 * n
def CFG_SLOT.STATE (n : Nat) : Fld := ⟨CFG_SLOT n, 1, 0⟩
def CFG_SLOT.ENC (n : Nat) : Fld := ⟨CFG_SLOT n, 2, 2⟩
def CFG_SLOT.RB (n : Nat) : Fld := ⟨CFG_SLOT n, 15, 8⟩

/-- Slot profile_id; RO. -/
def CFG_PID (n : Nat) : Nat := 0x60028 + 4 * n
def CFG_PID.PID (n : Nat) : Fld := ⟨CFG_PID n, 31, 0⟩

/-- Profile counter (kept); RO. -/
def CFG_ROLLBACK : Nat := 0x60038
def CFG_ROLLBACK.VALUE : Fld := ⟨CFG_ROLLBACK, 7, 0⟩

/-- Loads attempted over life (kept); RO. -/
def CFG_LOADNO : Nat := 0x6003C
def CFG_LOADNO.COUNT : Fld := ⟨CFG_LOADNO, 31, 0⟩

/-- Clamp counts of the selected log; RO. -/
def CFG_CLAMPS : Nat := 0x60040
def CFG_CLAMPS.ENTRIES : Fld := ⟨CFG_CLAMPS, 10, 0⟩
def CFG_CLAMPS.OVF : Fld := ⟨CFG_CLAMPS, 11, 11⟩
def CFG_CLAMPS.REJECTS : Fld := ⟨CFG_CLAMPS, 19, 12⟩
def CFG_CLAMPS.SAFE : Fld := ⟨CFG_CLAMPS, 27, 20⟩

/-- Log and entry selection; RW. -/
def CFG_LOG_SEL : Nat := 0x60044
def CFG_LOG_SEL.INDEX : Fld := ⟨CFG_LOG_SEL, 9, 0⟩
def CFG_LOG_SEL.LAST : Fld := ⟨CFG_LOG_SEL, 16, 16⟩

/-- Bytes 4w to 4w + 3 of the selected entry, w = 0-7; RO. -/
def CFG_LOG_D (w : Nat) : Nat := 0x60048 + 4 * w
def CFG_LOG_D.D (w : Nat) : Fld := ⟨CFG_LOG_D w, 31, 0⟩

/-- Transfer control; SIG. -/
def CFG_XFER_CTL : Nat := 0x60068
def CFG_XFER_CTL.SLOT : Fld := ⟨CFG_XFER_CTL, 1, 0⟩
def CFG_XFER_CTL.BEGIN : Fld := ⟨CFG_XFER_CTL, 2, 2⟩
def CFG_XFER_CTL.COMMIT : Fld := ⟨CFG_XFER_CTL, 3, 3⟩
def CFG_XFER_CTL.ABORT : Fld := ⟨CFG_XFER_CTL, 4, 4⟩
def CFG_XFER_CTL.LENGTH : Fld := ⟨CFG_XFER_CTL, 31, 8⟩

/-- Transfer data; WO. -/
def CFG_XFER_DATA : Nat := 0x6006C
def CFG_XFER_DATA.DATA : Fld := ⟨CFG_XFER_DATA, 31, 0⟩

/-- Transfer state; RO. -/
def CFG_XFER_STAT : Nat := 0x60070
def CFG_XFER_STAT.STATE : Fld := ⟨CFG_XFER_STAT, 2, 0⟩
def CFG_XFER_STAT.CAUSE : Fld := ⟨CFG_XFER_STAT, 10, 3⟩
def CFG_XFER_STAT.RECEIVED : Fld := ⟨CFG_XFER_STAT, 31, 12⟩

/-- Refused sections; RO. -/
def CFG_SECT : Nat := 0x60074
def CFG_SECT.ACTIVE : Fld := ⟨CFG_SECT, 11, 0⟩
def CFG_SECT.LAST : Fld := ⟨CFG_SECT, 27, 16⟩

/-! ### Window 0x0007_0000: R266, R267, R295, R296 (08_aspects_and_drive.md, 09_lamp_proving.md) -/

/-- Head counts, Pacer state; RO. -/
def LMP_STAT : Nat := 0x70000
def LMP_STAT.HEADS : Fld := ⟨LMP_STAT, 5, 0⟩
def LMP_STAT.FB : Fld := ⟨LMP_STAT, 13, 8⟩
def LMP_STAT.STBY : Fld := ⟨LMP_STAT, 21, 16⟩
def LMP_STAT.APPROACH : Fld := ⟨LMP_STAT, 24, 24⟩
def LMP_STAT.PACER_CAL : Fld := ⟨LMP_STAT, 25, 25⟩

/-- Sticky event flags; RW1C. -/
def LMP_EVT : Nat := 0x70004
def LMP_EVT.DEMAND : Fld := ⟨LMP_EVT, 0, 0⟩
def LMP_EVT.HELD : Fld := ⟨LMP_EVT, 1, 1⟩
def LMP_EVT.FALLBACK : Fld := ⟨LMP_EVT, 2, 2⟩
def LMP_EVT.UNKNOWN : Fld := ⟨LMP_EVT, 3, 3⟩
def LMP_EVT.REGLIM : Fld := ⟨LMP_EVT, 4, 4⟩
def LMP_EVT.REPHASE : Fld := ⟨LMP_EVT, 5, 5⟩
def LMP_EVT.LEVEL : Fld := ⟨LMP_EVT, 6, 6⟩

/-- Interrupt enables for LMP_EVT; RW. -/
def LMP_IRQ_EN : Nat := 0x70008
def LMP_IRQ_EN.EN : Fld := ⟨LMP_IRQ_EN, 6, 0⟩

/-- Aspect and level commands; SIG. -/
def LMP_CMD : Nat := 0x7000C
def LMP_CMD.HEAD : Fld := ⟨LMP_CMD, 4, 0⟩
def LMP_CMD.ASPECT : Fld := ⟨LMP_CMD, 9, 5⟩
def LMP_CMD.SET : Fld := ⟨LMP_CMD, 10, 10⟩
def LMP_CMD.LEVEL : Fld := ⟨LMP_CMD, 12, 11⟩

/-- Bank PWM settings; RO. -/
def LMP_PWM (b : Nat) : Nat := 0x70010 + 4 * b
def LMP_PWM.BITS (b : Nat) : Fld := ⟨LMP_PWM b, 4, 0⟩
def LMP_PWM.PRE (b : Nat) : Fld := ⟨LMP_PWM b, 20, 5⟩
def LMP_PWM.STAGGER (b : Nat) : Fld := ⟨LMP_PWM b, 21, 21⟩
def LMP_PWM.SLEW (b : Nat) : Fld := ⟨LMP_PWM b, 22, 22⟩

/-- Flash groups; RO. -/
def LMP_FLASH (g : Nat) : Nat := 0x70020 + 4 * g
def LMP_FLASH.RATE (g : Nat) : Fld := ⟨LMP_FLASH g, 7, 0⟩
def LMP_FLASH.ONPCT (g : Nat) : Fld := ⟨LMP_FLASH g, 14, 8⟩
def LMP_FLASH.PHASE (g : Nat) : Fld := ⟨LMP_FLASH g, 24, 16⟩
def LMP_FLASH.EN (g : Nat) : Fld := ⟨LMP_FLASH g, 31, 31⟩

/-- Heads in fallback; RO. -/
def LMP_FB : Nat := 0x70040
def LMP_FB.H (h : Nat) : Fld := ⟨LMP_FB, h, h⟩

/-- Heads at NIGHT; RO. -/
def LMP_NIGHT : Nat := 0x70044
def LMP_NIGHT.H (h : Nat) : Fld := ⟨LMP_NIGHT, h, h⟩

/-- Heads at standby level; RO. -/
def LMP_STBY : Nat := 0x70048
def LMP_STBY.H (h : Nat) : Fld := ⟨LMP_STBY, h, h⟩

/-- Head selected; RW. -/
def LMP_HSEL : Nat := 0x7004C
def LMP_HSEL.HEAD : Fld := ⟨LMP_HSEL, 4, 0⟩

/-- Selected head: configuration; RO. -/
def LMP_HCFG : Nat := 0x70050
def LMP_HCFG.SAFE : Fld := ⟨LMP_HCFG, 3, 0⟩
def LMP_HCFG.FBOPT : Fld := ⟨LMP_HCFG, 5, 4⟩
def LMP_HCFG.SEQ : Fld := ⟨LMP_HCFG, 7, 6⟩
def LMP_HCFG.NPOS : Fld := ⟨LMP_HCFG, 12, 8⟩
def LMP_HCFG.ASPECTS : Fld := ⟨LMP_HCFG, 31, 16⟩

/-- Selected head: state; RO. -/
def LMP_HSTAT : Nat := 0x70054
def LMP_HSTAT.SHOWN : Fld := ⟨LMP_HSTAT, 4, 0⟩
def LMP_HSTAT.DEMAND : Fld := ⟨LMP_HSTAT, 9, 5⟩
def LMP_HSTAT.SEQ : Fld := ⟨LMP_HSTAT, 10, 10⟩
def LMP_HSTAT.HELD : Fld := ⟨LMP_HSTAT, 11, 11⟩
def LMP_HSTAT.FALLBACK : Fld := ⟨LMP_HSTAT, 12, 12⟩
def LMP_HSTAT.NIGHT : Fld := ⟨LMP_HSTAT, 13, 13⟩
def LMP_HSTAT.STBY : Fld := ⟨LMP_HSTAT, 14, 14⟩
def LMP_HSTAT.SUBST : Fld := ⟨LMP_HSTAT, 15, 15⟩
def LMP_HSTAT.LEVEL : Fld := ⟨LMP_HSTAT, 25, 16⟩

/-- Selected head: counters; RO. -/
def LMP_HCNT : Nat := 0x70058
def LMP_HCNT.CHANGES : Fld := ⟨LMP_HCNT, 15, 0⟩
def LMP_HCNT.COALESCED : Fld := ⟨LMP_HCNT, 31, 16⟩

/-- Clear counters; WO. -/
def LMP_CLR : Nat := 0x7005C
def LMP_CLR.COUNTS : Fld := ⟨LMP_CLR, 0, 0⟩

/-- Channel configuration and state; RO. -/
def LMP_CH (n : Nat) : Nat := 0x70100 + 4 * n
def LMP_CH.MODE (n : Nat) : Fld := ⟨LMP_CH n, 1, 0⟩
def LMP_CH.LOAD (n : Nat) : Fld := ⟨LMP_CH n, 3, 2⟩
def LMP_CH.HEAD (n : Nat) : Fld := ⟨LMP_CH n, 8, 4⟩
def LMP_CH.POS (n : Nat) : Fld := ⟨LMP_CH n, 12, 9⟩
def LMP_CH.ON (n : Nat) : Fld := ⟨LMP_CH n, 13, 13⟩
def LMP_CH.FLASH (n : Nat) : Fld := ⟨LMP_CH n, 14, 14⟩
def LMP_CH.REGLIM (n : Nat) : Fld := ⟨LMP_CH n, 15, 15⟩
def LMP_CH.HELDOFF (n : Nat) : Fld := ⟨LMP_CH n, 16, 16⟩

/-- Channel duty and current set point; RO. -/
def LMP_DUTY (n : Nat) : Nat := 0x70200 + 4 * n
def LMP_DUTY.DUTY (n : Nat) : Fld := ⟨LMP_DUTY n, 16, 0⟩
def LMP_DUTY.ISET (n : Nat) : Fld := ⟨LMP_DUTY n, 26, 17⟩

/-- Proving summary; RO. -/
def LMP_PSTAT : Nat := 0x70400
def LMP_PSTAT.FAILED : Fld := ⟨LMP_PSTAT, 6, 0⟩
def LMP_PSTAT.LOST : Fld := ⟨LMP_PSTAT, 11, 8⟩
def LMP_PSTAT.CONV0 : Fld := ⟨LMP_PSTAT, 12, 12⟩
def LMP_PSTAT.CONV1 : Fld := ⟨LMP_PSTAT, 13, 13⟩
def LMP_PSTAT.MATRIX : Fld := ⟨LMP_PSTAT, 14, 14⟩
def LMP_PSTAT.PATTERN : Fld := ⟨LMP_PSTAT, 15, 15⟩
def LMP_PSTAT.OVERDUE : Fld := ⟨LMP_PSTAT, 22, 16⟩

/-- Sticky event flags; RW1C. -/
def LMP_PEVT : Nat := 0x70404
def LMP_PEVT.FAIL : Fld := ⟨LMP_PEVT, 0, 0⟩
def LMP_PEVT.RESTORED : Fld := ⟨LMP_PEVT, 1, 1⟩
def LMP_PEVT.OVERDUE : Fld := ⟨LMP_PEVT, 2, 2⟩
def LMP_PEVT.SUPPLY : Fld := ⟨LMP_PEVT, 3, 3⟩
def LMP_PEVT.CAL : Fld := ⟨LMP_PEVT, 4, 4⟩
def LMP_PEVT.MATRIX : Fld := ⟨LMP_PEVT, 5, 5⟩
def LMP_PEVT.PATEND : Fld := ⟨LMP_PEVT, 6, 6⟩

/-- Interrupt enables for LMP_PEVT; RW. -/
def LMP_PIRQ_EN : Nat := 0x70408
def LMP_PIRQ_EN.EN : Fld := ⟨LMP_PIRQ_EN, 6, 0⟩

/-- Clear, patterns, matrix test; SIG. -/
def LMP_PCMD : Nat := 0x7040C
def LMP_PCMD.CHAN : Fld := ⟨LMP_PCMD, 5, 0⟩
def LMP_PCMD.LIGHT : Fld := ⟨LMP_PCMD, 6, 6⟩
def LMP_PCMD.DARK_ALL : Fld := ⟨LMP_PCMD, 7, 7⟩
def LMP_PCMD.MATRIX : Fld := ⟨LMP_PCMD, 8, 8⟩
def LMP_PCMD.CLEAR : Fld := ⟨LMP_PCMD, 9, 9⟩
def LMP_PCMD.CLEAR_ALL : Fld := ⟨LMP_PCMD, 10, 10⟩

/-- Failed channels 32w-32w + 31; RO. -/
def LMP_FAIL (w : Nat) : Nat := 0x70410 + 4 * w
def LMP_FAIL.C (w : Nat) (c : Nat) : Fld := ⟨LMP_FAIL w, c, c⟩

/-- Overdue channels 32w-32w + 31; RO. -/
def LMP_OVD (w : Nat) : Nat := 0x70418 + 4 * w
def LMP_OVD.C (w : Nat) (c : Nat) : Fld := ⟨LMP_OVD w, c, c⟩

/-- Bank supply and bank proving settings; RO. -/
def LMP_LV (b : Nat) : Nat := 0x70420 + 4 * b
def LMP_LV.VOLT (b : Nat) : Fld := ⟨LMP_LV b, 12, 0⟩
def LMP_LV.LOST (b : Nat) : Fld := ⟨LMP_LV b, 13, 13⟩
def LMP_LV.CONV (b : Nat) : Fld := ⟨LMP_LV b, 14, 14⟩
def LMP_LV.THR (b : Nat) : Fld := ⟨LMP_LV b, 20, 15⟩
def LMP_LV.RECOV (b : Nat) : Fld := ⟨LMP_LV b, 30, 21⟩

/-- Driven channel selected; RW. -/
def LMP_MTXSEL : Nat := 0x70430
def LMP_MTXSEL.CHAN : Fld := ⟨LMP_MTXSEL, 5, 0⟩

/-- Coupled channels of the last matrix test; RO. -/
def LMP_MTX (w : Nat) : Nat := 0x70434 + 4 * w
def LMP_MTX.C (w : Nat) (c : Nat) : Fld := ⟨LMP_MTX w, c, c⟩

/-- Clear counters; WO. -/
def LMP_PCLR : Nat := 0x7043C
def LMP_PCLR.COUNTS : Fld := ⟨LMP_PCLR, 0, 0⟩

/-- Channel proving state; RO. -/
def LMP_PRV (n : Nat) : Nat := 0x70500 + 4 * n
def LMP_PRV.STATE (n : Nat) : Fld := ⟨LMP_PRV n, 1, 0⟩
def LMP_PRV.FLASH (n : Nat) : Fld := ⟨LMP_PRV n, 2, 2⟩
def LMP_PRV.CAUSE (n : Nat) : Fld := ⟨LMP_PRV n, 6, 3⟩
def LMP_PRV.COUNT (n : Nat) : Fld := ⟨LMP_PRV n, 9, 7⟩
def LMP_PRV.BLANK (n : Nat) : Fld := ⟨LMP_PRV n, 10, 10⟩
def LMP_PRV.LAST (n : Nat) : Fld := ⟨LMP_PRV n, 31, 16⟩

/-- Bands; RO. -/
def LMP_BAND (n : Nat) : Nat := 0x70600 + 4 * n
def LMP_BAND.LO (n : Nat) : Fld := ⟨LMP_BAND n, 10, 0⟩
def LMP_BAND.HI (n : Nat) : Fld := ⟨LMP_BAND n, 21, 11⟩
def LMP_BAND.DARK (n : Nat) : Fld := ⟨LMP_BAND n, 27, 22⟩

/-- Proving settings; RO. -/
def LMP_PCFG (n : Nat) : Nat := 0x70700 + 4 * n
def LMP_PCFG.NDARK (n : Nat) : Fld := ⟨LMP_PCFG n, 2, 0⟩
def LMP_PCFG.BLANK (n : Nat) : Fld := ⟨LMP_PCFG n, 9, 3⟩
def LMP_PCFG.DELAY (n : Nat) : Fld := ⟨LMP_PCFG n, 14, 10⟩
def LMP_PCFG.COLD (n : Nat) : Fld := ⟨LMP_PCFG n, 16, 15⟩
def LMP_PCFG.ICOLD (n : Nat) : Fld := ⟨LMP_PCFG n, 21, 17⟩
def LMP_PCFG.DRAIN (n : Nat) : Fld := ⟨LMP_PCFG n, 28, 22⟩
def LMP_PCFG.NBR (n : Nat) : Fld := ⟨LMP_PCFG n, 29, 29⟩
def LMP_PCFG.AUTO (n : Nat) : Fld := ⟨LMP_PCFG n, 30, 30⟩

/-- Test settings; RO. -/
def LMP_TEST (n : Nat) : Nat := 0x70800 + 4 * n
def LMP_TEST.WOFF (n : Nat) : Fld := ⟨LMP_TEST n, 5, 0⟩
def LMP_TEST.WLIT (n : Nat) : Fld := ⟨LMP_TEST n, 12, 6⟩
def LMP_TEST.WCOLD (n : Nat) : Fld := ⟨LMP_TEST n, 22, 13⟩
def LMP_TEST.MAXINT (n : Nat) : Fld := ⟨LMP_TEST n, 28, 23⟩

/-- Test age and absorptions; RO. -/
def LMP_TCNT (n : Nat) : Nat := 0x70900 + 4 * n
def LMP_TCNT.AGE (n : Nat) : Fld := ⟨LMP_TCNT n, 15, 0⟩
def LMP_TCNT.ABS (n : Nat) : Fld := ⟨LMP_TCNT n, 31, 16⟩

/-- LS path calibration; RO. -/
def LMP_CAL (n : Nat) : Nat := 0x70A00 + 4 * n
def LMP_CAL.GAIN (n : Nat) : Fld := ⟨LMP_CAL n, 11, 0⟩
def LMP_CAL.OFS (n : Nat) : Fld := ⟨LMP_CAL n, 21, 12⟩
def LMP_CAL.AGE (n : Nat) : Fld := ⟨LMP_CAL n, 31, 22⟩

/-! ### Window 0x0008_0000: R297, R298 (09_lamp_proving.md) -/

/-- Converter states and references; RO. -/
def SUP_STAT : Nat := 0x80000
def SUP_STAT.STATE (c : Nat) : Fld := ⟨SUP_STAT, 2*c+1, 2*c⟩
def SUP_STAT.REF (c : Nat) : Fld := ⟨SUP_STAT, 2*c+5, 2*c+4⟩
def SUP_STAT.XREF_OK : Fld := ⟨SUP_STAT, 8, 8⟩
def SUP_STAT.FAILOVER : Fld := ⟨SUP_STAT, 9, 9⟩

/-- Sticky event flags; RW1C. -/
def SUP_EVT : Nat := 0x80004
def SUP_EVT.BAND (c : Nat) : Fld := ⟨SUP_EVT, 0+c, 0+c⟩
def SUP_EVT.OVR (c : Nat) : Fld := ⟨SUP_EVT, 2+c, 2+c⟩
def SUP_EVT.FAIL (c : Nat) : Fld := ⟨SUP_EVT, 4+c, 4+c⟩
def SUP_EVT.REF (c : Nat) : Fld := ⟨SUP_EVT, 6+c, 6+c⟩
def SUP_EVT.MISS (c : Nat) : Fld := ⟨SUP_EVT, 8+c, 8+c⟩

/-- Interrupt enables for SUP_EVT; RW. -/
def SUP_IRQ_EN : Nat := 0x80008
def SUP_IRQ_EN.EN : Fld := ⟨SUP_IRQ_EN, 9, 0⟩

/-- Clear counters; WO. -/
def SUP_CLR : Nat := 0x8000C
def SUP_CLR.COUNTS : Fld := ⟨SUP_CLR, 0, 0⟩

/-- Converter gain and offset; RO. -/
def SUP_CAL (c : Nat) : Nat := 0x80010 + 4 * c
def SUP_CAL.GAIN (c : Nat) : Fld := ⟨SUP_CAL c, 15, 0⟩
def SUP_CAL.OFS (c : Nat) : Fld := ⟨SUP_CAL c, 31, 16⟩

/-- Conversion rate, user slots, skips; RO. -/
def SUP_LOAD (c : Nat) : Nat := 0x80018 + 4 * c
def SUP_LOAD.RATE (c : Nat) : Fld := ⟨SUP_LOAD c, 11, 0⟩
def SUP_LOAD.USER (c : Nat) : Fld := ⟨SUP_LOAD c, 20, 12⟩
def SUP_LOAD.MISSED (c : Nat) : Fld := ⟨SUP_LOAD c, 31, 21⟩

/-- Slot selected; RW. -/
def SUP_SSEL : Nat := 0x80020
def SUP_SSEL.SLOT : Fld := ⟨SUP_SSEL, 8, 0⟩

/-- Selected slot: configuration; RO. -/
def SUP_SCFG : Nat := 0x80024
def SUP_SCFG.INPUT : Fld := ⟨SUP_SCFG, 7, 0⟩
def SUP_SCFG.TRIG : Fld := ⟨SUP_SCFG, 8, 8⟩
def SUP_SCFG.EDGE : Fld := ⟨SUP_SCFG, 9, 9⟩
def SUP_SCFG.CHAN : Fld := ⟨SUP_SCFG, 15, 10⟩
def SUP_SCFG.DELAY : Fld := ⟨SUP_SCFG, 25, 16⟩
def SUP_SCFG.COUNT : Fld := ⟨SUP_SCFG, 30, 26⟩
def SUP_SCFG.ACTIVE : Fld := ⟨SUP_SCFG, 31, 31⟩

/-- Selected slot: timer period; RO. -/
def SUP_SPER : Nat := 0x80028
def SUP_SPER.PERIOD : Fld := ⟨SUP_SPER, 15, 0⟩

/-- Selected slot: band; RO. -/
def SUP_SBAND : Nat := 0x8002C
def SUP_SBAND.LO : Fld := ⟨SUP_SBAND, 15, 0⟩
def SUP_SBAND.HI : Fld := ⟨SUP_SBAND, 31, 16⟩

/-- Selected slot: last result; RO. -/
def SUP_SVAL : Nat := 0x80030
def SUP_SVAL.CODE : Fld := ⟨SUP_SVAL, 15, 0⟩
def SUP_SVAL.OVR : Fld := ⟨SUP_SVAL, 16, 16⟩
def SUP_SVAL.SETTLING : Fld := ⟨SUP_SVAL, 17, 17⟩
def SUP_SVAL.OUT : Fld := ⟨SUP_SVAL, 18, 18⟩

/-- User slots out of band (index w counts 8 words a converter); RO. -/
def SUP_OUT (w : Nat) : Nat := 0x80100 + 4 * w
def SUP_OUT.S (w : Nat) (j : Nat) : Fld := ⟨SUP_OUT w, j, j⟩

/-! ### Window 0x0009_0000: R327, R328 (10_safety_io.md) -/

/-- Summary; RO. -/
def SIO_STAT : Nat := 0x90000
def SIO_STAT.DEGRADED : Fld := ⟨SIO_STAT, 0, 0⟩
def SIO_STAT.SSTOP_PIN : Fld := ⟨SIO_STAT, 1, 1⟩
def SIO_STAT.SSTOP : Fld := ⟨SIO_STAT, 2, 2⟩
def SIO_STAT.CUTOFF : Fld := ⟨SIO_STAT, 3, 3⟩
def SIO_STAT.SO_IND : Fld := ⟨SIO_STAT, 6, 4⟩
def SIO_STAT.SO_LEVEL : Fld := ⟨SIO_STAT, 7, 7⟩
def SIO_STAT.DCOND : Fld := ⟨SIO_STAT, 13, 8⟩
def SIO_STAT.PEER_OK : Fld := ⟨SIO_STAT, 14, 14⟩

/-- Sticky event flags; RW1C. -/
def SIO_EVT : Nat := 0x90004
def SIO_EVT.INFAULT : Fld := ⟨SIO_EVT, 0, 0⟩
def SIO_EVT.TPOFAIL : Fld := ⟨SIO_EVT, 1, 1⟩
def SIO_EVT.OUTFAULT : Fld := ⟨SIO_EVT, 2, 2⟩
def SIO_EVT.EDM : Fld := ⟨SIO_EVT, 3, 3⟩
def SIO_EVT.BRKFAULT : Fld := ⟨SIO_EVT, 4, 4⟩
def SIO_EVT.BRKTEST : Fld := ⟨SIO_EVT, 5, 5⟩
def SIO_EVT.DEGSTART : Fld := ⟨SIO_EVT, 6, 6⟩
def SIO_EVT.DEGEXP : Fld := ⟨SIO_EVT, 7, 7⟩
def SIO_EVT.SAFESTOP : Fld := ⟨SIO_EVT, 8, 8⟩
def SIO_EVT.PEER : Fld := ⟨SIO_EVT, 9, 9⟩
def SIO_EVT.INCHG : Fld := ⟨SIO_EVT, 10, 10⟩
def SIO_EVT.OUTCHG : Fld := ⟨SIO_EVT, 11, 11⟩

/-- Interrupt enables for SIO_EVT; RW. -/
def SIO_IRQ_EN : Nat := 0x90008
def SIO_IRQ_EN.EN : Fld := ⟨SIO_IRQ_EN, 11, 0⟩

/-- Clear, brake test, acknowledge; SIG. -/
def SIO_CMD : Nat := 0x9000C
def SIO_CMD.INDEX : Fld := ⟨SIO_CMD, 4, 0⟩
def SIO_CMD.KIND : Fld := ⟨SIO_CMD, 7, 5⟩
def SIO_CMD.CLEAR : Fld := ⟨SIO_CMD, 8, 8⟩
def SIO_CMD.CLEAR_ALL : Fld := ⟨SIO_CMD, 9, 9⟩
def SIO_CMD.BRK_TEST : Fld := ⟨SIO_CMD, 10, 10⟩
def SIO_CMD.ACK : Fld := ⟨SIO_CMD, 11, 11⟩

/-- Degraded timer; RO. -/
def SIO_DTIMER : Nat := 0x90010
def SIO_DTIMER.REMAIN : Fld := ⟨SIO_DTIMER, 23, 0⟩

/-- Raw input levels; RO. -/
def SIO_IN : Nat := 0x90014
def SIO_IN.I (i : Nat) : Fld := ⟨SIO_IN, i, i⟩

/-- Logical input states; RO. -/
def SIO_LOGIC : Nat := 0x90018
def SIO_LOGIC.I (i : Nat) : Fld := ⟨SIO_LOGIC, i, i⟩

/-- Faulted inputs; RO. -/
def SIO_IFAULT : Nat := 0x9001C
def SIO_IFAULT.I (i : Nat) : Fld := ⟨SIO_IFAULT, i, i⟩

/-- Test-pulse sources; RO. -/
def SIO_TPO : Nat := 0x90020
def SIO_TPO.EN : Fld := ⟨SIO_TPO, 3, 0⟩
def SIO_TPO.FAIL : Fld := ⟨SIO_TPO, 7, 4⟩
def SIO_TPO.LEVEL : Fld := ⟨SIO_TPO, 11, 8⟩

/-- Outputs; RO. -/
def SIO_OUT : Nat := 0x90024
def SIO_OUT.ON : Fld := ⟨SIO_OUT, 7, 0⟩
def SIO_OUT.DEMAND : Fld := ⟨SIO_OUT, 15, 8⟩
def SIO_OUT.PERMIT : Fld := ⟨SIO_OUT, 23, 16⟩
def SIO_OUT.LOCK : Fld := ⟨SIO_OUT, 31, 24⟩

/-- EDM inputs; RO. -/
def SIO_EDM : Nat := 0x90028
def SIO_EDM.LEVEL : Fld := ⟨SIO_EDM, 7, 0⟩
def SIO_EDM.WELD : Fld := ⟨SIO_EDM, 15, 8⟩
def SIO_EDM.LOST : Fld := ⟨SIO_EDM, 23, 16⟩

/-- Peer cross-check; RO. -/
def SIO_PEER : Nat := 0x9002C
def SIO_PEER.EN : Fld := ⟨SIO_PEER, 0, 0⟩
def SIO_PEER.OK : Fld := ⟨SIO_PEER, 1, 1⟩
def SIO_PEER.LOST : Fld := ⟨SIO_PEER, 2, 2⟩
def SIO_PEER.MISMATCH : Fld := ⟨SIO_PEER, 3, 3⟩
def SIO_PEER.ITEM : Fld := ⟨SIO_PEER, 15, 8⟩
def SIO_PEER.AGE : Fld := ⟨SIO_PEER, 31, 16⟩

/-- Brake state; RO. -/
def SIO_BRK (k : Nat) : Nat := 0x90030 + 4 * k
def SIO_BRK.STATE (k : Nat) : Fld := ⟨SIO_BRK k, 1, 0⟩
def SIO_BRK.HG (k : Nat) : Fld := ⟨SIO_BRK k, 2, 2⟩
def SIO_BRK.LG (k : Nat) : Fld := ⟨SIO_BRK k, 3, 3⟩
def SIO_BRK.TQREQ (k : Nat) : Fld := ⟨SIO_BRK k, 4, 4⟩
def SIO_BRK.TESTING (k : Nat) : Fld := ⟨SIO_BRK k, 5, 5⟩
def SIO_BRK.FAULT (k : Nat) : Fld := ⟨SIO_BRK k, 8, 6⟩
def SIO_BRK.FAILONCE (k : Nat) : Fld := ⟨SIO_BRK k, 9, 9⟩
def SIO_BRK.DEG (k : Nat) : Fld := ⟨SIO_BRK k, 10, 10⟩
def SIO_BRK.CURRENT (k : Nat) : Fld := ⟨SIO_BRK k, 28, 16⟩

/-- Encoder position; RO. -/
def SIO_BPOS (k : Nat) : Nat := 0x90038 + 4 * k
def SIO_BPOS.POS (k : Nat) : Fld := ⟨SIO_BPOS k, 31, 0⟩

/-- Brake test status; RO. -/
def SIO_BTST (k : Nat) : Nat := 0x90040 + 4 * k
def SIO_BTST.AGE (k : Nat) : Fld := ⟨SIO_BTST k, 15, 0⟩
def SIO_BTST.MOVE (k : Nat) : Fld := ⟨SIO_BTST k, 31, 16⟩

/-- General parameters; RO. -/
def SIO_GEN : Nat := 0x90048
def SIO_GEN.PERIOD : Fld := ⟨SIO_GEN, 5, 0⟩
def SIO_GEN.WTP : Fld := ⟨SIO_GEN, 10, 6⟩
def SIO_GEN.XTIME : Fld := ⟨SIO_GEN, 19, 11⟩
def SIO_GEN.PEERCONN : Fld := ⟨SIO_GEN, 26, 20⟩

/-- Clear counters; WO. -/
def SIO_CLR : Nat := 0x9004C
def SIO_CLR.COUNTS : Fld := ⟨SIO_CLR, 0, 0⟩

/-- Input configuration; RO. -/
def SIO_ICFG (i : Nat) : Nat := 0x90100 + 4 * i
def SIO_ICFG.USE (i : Nat) : Fld := ⟨SIO_ICFG i, 1, 0⟩
def SIO_ICFG.SRC (i : Nat) : Fld := ⟨SIO_ICFG i, 4, 2⟩
def SIO_ICFG.FILTER (i : Nat) : Fld := ⟨SIO_ICFG i, 11, 5⟩
def SIO_ICFG.DEBOUNCE (i : Nat) : Fld := ⟨SIO_ICFG i, 17, 12⟩
def SIO_ICFG.CHATCNT (i : Nat) : Fld := ⟨SIO_ICFG i, 24, 18⟩
def SIO_ICFG.CHATWIN (i : Nat) : Fld := ⟨SIO_ICFG i, 31, 25⟩

/-- Input state; RO. -/
def SIO_IST (i : Nat) : Nat := 0x90180 + 4 * i
def SIO_IST.RAW (i : Nat) : Fld := ⟨SIO_IST i, 0, 0⟩
def SIO_IST.FILT (i : Nat) : Fld := ⟨SIO_IST i, 1, 1⟩
def SIO_IST.ON (i : Nat) : Fld := ⟨SIO_IST i, 2, 2⟩
def SIO_IST.ALONE (i : Nat) : Fld := ⟨SIO_IST i, 3, 3⟩
def SIO_IST.FAULT (i : Nat) : Fld := ⟨SIO_IST i, 6, 4⟩
def SIO_IST.PATTERN (i : Nat) : Fld := ⟨SIO_IST i, 10, 7⟩
def SIO_IST.TRANS (i : Nat) : Fld := ⟨SIO_IST i, 23, 16⟩
def SIO_IST.FAULTS (i : Nat) : Fld := ⟨SIO_IST i, 31, 24⟩

/-- Pair configuration and state; RO. -/
def SIO_PCFG (p : Nat) : Nat := 0x90200 + 4 * p
def SIO_PCFG.MODE (p : Nat) : Fld := ⟨SIO_PCFG p, 0, 0⟩
def SIO_PCFG.ANTI (p : Nat) : Fld := ⟨SIO_PCFG p, 1, 1⟩
def SIO_PCFG.DISC (p : Nat) : Fld := ⟨SIO_PCFG p, 10, 2⟩
def SIO_PCFG.ON (p : Nat) : Fld := ⟨SIO_PCFG p, 11, 11⟩
def SIO_PCFG.DEG (p : Nat) : Fld := ⟨SIO_PCFG p, 12, 12⟩
def SIO_PCFG.DISCFAULT (p : Nat) : Fld := ⟨SIO_PCFG p, 13, 13⟩

/-- Output configuration and state; RO. -/
def SIO_OCFG (o : Nat) : Nat := 0x90240 + 4 * o
def SIO_OCFG.USE (o : Nat) : Fld := ⟨SIO_OCFG o, 0, 0⟩
def SIO_OCFG.DEMSRC (o : Nat) : Fld := ⟨SIO_OCFG o, 1, 1⟩
def SIO_OCFG.RESTART (o : Nat) : Fld := ⟨SIO_OCFG o, 2, 2⟩
def SIO_OCFG.RSTIN (o : Nat) : Fld := ⟨SIO_OCFG o, 8, 3⟩
def SIO_OCFG.EDM (o : Nat) : Fld := ⟨SIO_OCFG o, 9, 9⟩
def SIO_OCFG.ON (o : Nat) : Fld := ⟨SIO_OCFG o, 10, 10⟩
def SIO_OCFG.LOCK (o : Nat) : Fld := ⟨SIO_OCFG o, 11, 11⟩
def SIO_OCFG.FAULT (o : Nat) : Fld := ⟨SIO_OCFG o, 14, 12⟩
def SIO_OCFG.ARMED (o : Nat) : Fld := ⟨SIO_OCFG o, 15, 15⟩

/-- Output permit mask; RO. -/
def SIO_OPERM (o : Nat) : Nat := 0x90260 + 4 * o
def SIO_OPERM.MASK (o : Nat) : Fld := ⟨SIO_OPERM o, 31, 0⟩

/-- Output times; RO. -/
def SIO_OTIM (o : Nat) : Nat := 0x90280 + 4 * o
def SIO_OTIM.EDMT (o : Nat) : Fld := ⟨SIO_OTIM o, 8, 0⟩
def SIO_OTIM.OTINT (o : Nat) : Fld := ⟨SIO_OTIM o, 14, 9⟩
def SIO_OTIM.OTW (o : Nat) : Fld := ⟨SIO_OTIM o, 24, 15⟩

/-- Brake configuration; RO. -/
def SIO_BCFG (k : Nat) : Nat := 0x902A0 + 4 * k
def SIO_BCFG.USE (k : Nat) : Fld := ⟨SIO_BCFG k, 0, 0⟩
def SIO_BCFG.DEMSRC (k : Nat) : Fld := ⟨SIO_BCFG k, 1, 1⟩
def SIO_BCFG.RELLO (k : Nat) : Fld := ⟨SIO_BCFG k, 10, 2⟩
def SIO_BCFG.APPTHR (k : Nat) : Fld := ⟨SIO_BCFG k, 19, 11⟩
def SIO_BCFG.DECAY (k : Nat) : Fld := ⟨SIO_BCFG k, 27, 20⟩
def SIO_BCFG.SWINT (k : Nat) : Fld := ⟨SIO_BCFG k, 31, 28⟩

/-- Brake permit mask; RO. -/
def SIO_BPERM (k : Nat) : Nat := 0x902A8 + 4 * k
def SIO_BPERM.MASK (k : Nat) : Fld := ⟨SIO_BPERM k, 31, 0⟩

/-- Brake test settings; RO. -/
def SIO_BTIM (k : Nat) : Nat := 0x902B0 + 4 * k
def SIO_BTIM.TESTINT (k : Nat) : Fld := ⟨SIO_BTIM k, 7, 0⟩
def SIO_BTIM.TESTDUR (k : Nat) : Fld := ⟨SIO_BTIM k, 16, 8⟩
def SIO_BTIM.WINDOW (k : Nat) : Fld := ⟨SIO_BTIM k, 26, 17⟩
def SIO_BTIM.TQOFF (k : Nat) : Fld := ⟨SIO_BTIM k, 31, 27⟩

/-! ### Window 0x000A_0000: R357, R358 (11_network_and_bornak.md) -/

/-- Links, redundancy, unknown Bornak ids; RO. -/
def NET_STAT : Nat := 0xA0000
def NET_STAT.LINK (p : Nat) : Fld := ⟨NET_STAT, 0+p, 0+p⟩
def NET_STAT.PRP : Fld := ⟨NET_STAT, 2, 2⟩
def NET_STAT.UNKNOWN : Fld := ⟨NET_STAT, 31, 16⟩

/-- Sticky event flags; RW1C. -/
def NET_EVT : Nat := 0xA0004
def NET_EVT.LINKDN : Fld := ⟨NET_EVT, 0, 0⟩
def NET_EVT.LINKUP : Fld := ⟨NET_EVT, 1, 1⟩
def NET_EVT.TSTATE : Fld := ⟨NET_EVT, 2, 2⟩
def NET_EVT.TSTEP : Fld := ⟨NET_EVT, 3, 3⟩
def NET_EVT.TXDROP : Fld := ⟨NET_EVT, 4, 4⟩
def NET_EVT.MGMTBAD : Fld := ⟨NET_EVT, 5, 5⟩
def NET_EVT.REC : Fld := ⟨NET_EVT, 6, 6⟩

/-- Interrupt enables for NET_EVT; RW. -/
def NET_IRQ_EN : Nat := 0xA0008
def NET_IRQ_EN.EN : Fld := ⟨NET_IRQ_EN, 6, 0⟩

/-- Media, redundancy, PTP, MTU; RO. -/
def NET_CFG : Nat := 0xA000C
def NET_CFG.MEDIA0 : Fld := ⟨NET_CFG, 1, 0⟩
def NET_CFG.MEDIA1 : Fld := ⟨NET_CFG, 3, 2⟩
def NET_CFG.RED : Fld := ⟨NET_CFG, 4, 4⟩
def NET_CFG.PTPUDP : Fld := ⟨NET_CFG, 5, 5⟩
def NET_CFG.UREAD : Fld := ⟨NET_CFG, 6, 6⟩
def NET_CFG.VLAN : Fld := ⟨NET_CFG, 19, 8⟩
def NET_CFG.MTU : Fld := ⟨NET_CFG, 31, 20⟩

/-- IPv4 address; RO. -/
def NET_IP4 : Nat := 0xA0010
def NET_IP4.ADDR : Fld := ⟨NET_IP4, 31, 0⟩

/-- Management and Bornak ports; RO. -/
def NET_UDP : Nat := 0xA0014
def NET_UDP.MGMT : Fld := ⟨NET_UDP, 15, 0⟩
def NET_UDP.BORNAK : Fld := ⟨NET_UDP, 31, 16⟩

/-- Data port, PTP domain; RO. -/
def NET_UDP2 : Nat := 0xA0018
def NET_UDP2.DATA : Fld := ⟨NET_UDP2, 15, 0⟩
def NET_UDP2.DOMAIN : Fld := ⟨NET_UDP2, 22, 16⟩

/-- Device time; RO. -/
def NET_TIME_LO : Nat := 0xA001C
def NET_TIME_LO.T : Fld := ⟨NET_TIME_LO, 31, 0⟩

/-- Device time; RO. -/
def NET_TIME_HI : Nat := 0xA0020
def NET_TIME_HI.T : Fld := ⟨NET_TIME_HI, 31, 0⟩

/-- Time state and estimated error; RO. -/
def NET_TSTAT : Nat := 0xA0024
def NET_TSTAT.STATE : Fld := ⟨NET_TSTAT, 2, 0⟩
def NET_TSTAT.VALID : Fld := ⟨NET_TSTAT, 3, 3⟩
def NET_TSTAT.TAI : Fld := ⟨NET_TSTAT, 4, 4⟩
def NET_TSTAT.ERR : Fld := ⟨NET_TSTAT, 31, 16⟩

/-- Last PTP offset; RO. -/
def NET_OFS : Nat := 0xA0028
def NET_OFS.OFS : Fld := ⟨NET_OFS, 31, 0⟩

/-- Mean path delay; RO. -/
def NET_PDELAY : Nat := 0xA002C
def NET_PDELAY.DELAY : Fld := ⟨NET_PDELAY, 31, 0⟩

/-- Port link and module pins; RO. -/
def NET_LINK (p : Nat) : Nat := 0xA0030 + 4 * p
def NET_LINK.UP (p : Nat) : Fld := ⟨NET_LINK p, 0, 0⟩
def NET_LINK.MOD_ABS (p : Nat) : Fld := ⟨NET_LINK p, 1, 1⟩
def NET_LINK.LOS (p : Nat) : Fld := ⟨NET_LINK p, 2, 2⟩
def NET_LINK.TX_DIS (p : Nat) : Fld := ⟨NET_LINK p, 3, 3⟩
def NET_LINK.CAUSE (p : Nat) : Fld := ⟨NET_LINK p, 7, 4⟩

/-- Frames received; RO. -/
def NET_RX (p : Nat) : Nat := 0xA0038 + 4 * p
def NET_RX.COUNT (p : Nat) : Fld := ⟨NET_RX p, 31, 0⟩

/-- Frames dropped on receive; RO. -/
def NET_DROP (p : Nat) : Nat := 0xA0040 + 4 * p
def NET_DROP.COUNT (p : Nat) : Fld := ⟨NET_DROP p, 31, 0⟩

/-- PRP duplicates discarded; RO. -/
def NET_DUP : Nat := 0xA0048
def NET_DUP.COUNT : Fld := ⟨NET_DUP, 31, 0⟩

/-- Datagrams discarded on transmit; RO. -/
def NET_TXDROP : Nat := 0xA004C
def NET_TXDROP.COUNT : Fld := ⟨NET_TXDROP, 31, 0⟩

/-- SPI error counts; RO. -/
def NET_SPI : Nat := 0xA0050
def NET_SPI.CRC : Fld := ⟨NET_SPI, 15, 0⟩
def NET_SPI.BUSY : Fld := ⟨NET_SPI, 23, 16⟩
def NET_SPI.BADCMD : Fld := ⟨NET_SPI, 31, 24⟩

/-- SPI record path; RW. -/
def NET_RCTL : Nat := 0xA0054
def NET_RCTL.EN : Fld := ⟨NET_RCTL, 0, 0⟩
def NET_RCTL.IRQ : Fld := ⟨NET_RCTL, 1, 1⟩

/-- SPI record path fill; RO. -/
def NET_RSTAT : Nat := 0xA0058
def NET_RSTAT.COUNT : Fld := ⟨NET_RSTAT, 15, 0⟩
def NET_RSTAT.WORD : Fld := ⟨NET_RSTAT, 18, 16⟩

/-- SPI record data port; RO. -/
def NET_RDATA : Nat := 0xA005C
def NET_RDATA.D : Fld := ⟨NET_RDATA, 31, 0⟩

/-- Clear counters; WO. -/
def NET_CLR : Nat := 0xA0060
def NET_CLR.COUNTS : Fld := ⟨NET_CLR, 0, 0⟩

/-- Connection counts; RO. -/
def BNK_STAT : Nat := 0xA0100
def BNK_STAT.CONF : Fld := ⟨BNK_STAT, 6, 0⟩
def BNK_STAT.RUN : Fld := ⟨BNK_STAT, 14, 8⟩
def BNK_STAT.SUBST : Fld := ⟨BNK_STAT, 22, 16⟩

/-- Sticky event flags; RW1C. -/
def BNK_EVT : Nat := 0xA0104
def BNK_EVT.EXPIRED : Fld := ⟨BNK_EVT, 0, 0⟩
def BNK_EVT.RUN : Fld := ⟨BNK_EVT, 1, 1⟩
def BNK_EVT.AUTH : Fld := ⟨BNK_EVT, 2, 2⟩
def BNK_EVT.ERRORS : Fld := ⟨BNK_EVT, 3, 3⟩

/-- Interrupt enables for BNK_EVT; RW. -/
def BNK_IRQ_EN : Nat := 0xA0108
def BNK_IRQ_EN.EN : Fld := ⟨BNK_IRQ_EN, 3, 0⟩

/-- Connections in RUN; RO. -/
def BNK_RUN0 : Nat := 0xA010C
def BNK_RUN0.C (c : Nat) : Fld := ⟨BNK_RUN0, c, c⟩

/-- Connections in RUN; RO. -/
def BNK_RUN1 : Nat := 0xA0110
def BNK_RUN1.C (c : Nat) : Fld := ⟨BNK_RUN1, c, c⟩

/-- Connections on substitutes; RO. -/
def BNK_SUB0 : Nat := 0xA0114
def BNK_SUB0.C (c : Nat) : Fld := ⟨BNK_SUB0, c, c⟩

/-- Connections on substitutes; RO. -/
def BNK_SUB1 : Nat := 0xA0118
def BNK_SUB1.C (c : Nat) : Fld := ⟨BNK_SUB1, c, c⟩

/-- Connection selected; RW. -/
def BNK_CSEL : Nat := 0xA011C
def BNK_CSEL.CONN : Fld := ⟨BNK_CSEL, 5, 0⟩

/-- Selected: settings; RO. -/
def BNK_CCFG : Nat := 0xA0120
def BNK_CCFG.TE : Fld := ⟨BNK_CCFG, 10, 0⟩
def BNK_CCFG.PERIOD : Fld := ⟨BNK_CCFG, 20, 11⟩
def BNK_CCFG.WINDOW : Fld := ⟨BNK_CCFG, 28, 21⟩
def BNK_CCFG.CMAC : Fld := ⟨BNK_CCFG, 29, 29⟩
def BNK_CCFG.PEER : Fld := ⟨BNK_CCFG, 30, 30⟩

/-- Selected: state and age; RO. -/
def BNK_CSTAT : Nat := 0xA0124
def BNK_CSTAT.STATE : Fld := ⟨BNK_CSTAT, 1, 0⟩
def BNK_CSTAT.AGE : Fld := ⟨BNK_CSTAT, 12, 2⟩
def BNK_CSTAT.LRX : Fld := ⟨BNK_CSTAT, 19, 13⟩
def BNK_CSTAT.LTX : Fld := ⟨BNK_CSTAT, 26, 20⟩

/-- Selected: last accepted sequence; RO. -/
def BNK_CSEQ : Nat := 0xA0128
def BNK_CSEQ.SEQ : Fld := ⟨BNK_CSEQ, 31, 0⟩

/-- Selected: counters; RO. -/
def BNK_CCNT0 : Nat := 0xA012C
def BNK_CCNT0.CRC : Fld := ⟨BNK_CCNT0, 15, 0⟩
def BNK_CCNT0.TAG : Fld := ⟨BNK_CCNT0, 31, 16⟩

/-- Selected: counters; RO. -/
def BNK_CCNT1 : Nat := 0xA0130
def BNK_CCNT1.STALE : Fld := ⟨BNK_CCNT1, 15, 0⟩
def BNK_CCNT1.LATE : Fld := ⟨BNK_CCNT1, 31, 16⟩

/-- Selected: counters; RO. -/
def BNK_CCNT2 : Nat := 0xA0134
def BNK_CCNT2.GAPS : Fld := ⟨BNK_CCNT2, 15, 0⟩
def BNK_CCNT2.RESYNCS : Fld := ⟨BNK_CCNT2, 31, 16⟩

/-- Clear counters; WO. -/
def BNK_CLR : Nat := 0xA0138
def BNK_CLR.COUNTS : Fld := ⟨BNK_CLR, 0, 0⟩

/-! ### Window 0x000B_0000: R383, R384 (12_cloister_security.md) -/

/-- Life-cycle, images, key store; RO. -/
def CLS_STAT : Nat := 0xB0000
def CLS_STAT.LC : Fld := ⟨CLS_STAT, 2, 0⟩
def CLS_STAT.ARMED : Fld := ⟨CLS_STAT, 3, 3⟩
def CLS_STAT.IMG : Fld := ⟨CLS_STAT, 4, 4⟩
def CLS_STAT.PREF : Fld := ⟨CLS_STAT, 5, 5⟩
def CLS_STAT.TRIAL : Fld := ⟨CLS_STAT, 6, 6⟩
def CLS_STAT.TRIALS : Fld := ⟨CLS_STAT, 8, 7⟩
def CLS_STAT.ROLES : Fld := ⟨CLS_STAT, 12, 9⟩
def CLS_STAT.STORE_OK : Fld := ⟨CLS_STAT, 13, 13⟩
def CLS_STAT.ROM : Fld := ⟨CLS_STAT, 14, 14⟩

/-- Sticky event flags; RW1C. -/
def CLS_EVT : Nat := 0xB0004
def CLS_EVT.REFUSED : Fld := ⟨CLS_EVT, 0, 0⟩
def CLS_EVT.KEY : Fld := ⟨CLS_EVT, 1, 1⟩
def CLS_EVT.LC : Fld := ⟨CLS_EVT, 2, 2⟩
def CLS_EVT.FW : Fld := ⟨CLS_EVT, 3, 3⟩
def CLS_EVT.STORE : Fld := ⟨CLS_EVT, 4, 4⟩
def CLS_EVT.SEALLATE : Fld := ⟨CLS_EVT, 5, 5⟩
def CLS_EVT.REPLY : Fld := ⟨CLS_EVT, 6, 6⟩

/-- Interrupt enables for CLS_EVT; RW. -/
def CLS_IRQ_EN : Nat := 0xB0008
def CLS_IRQ_EN.EN : Fld := ⟨CLS_IRQ_EN, 6, 0⟩

/-- Last SPI envelope; RO. -/
def CLS_RSTAT : Nat := 0xB000C
def CLS_RSTAT.STATE : Fld := ⟨CLS_RSTAT, 1, 0⟩
def CLS_RSTAT.RESULT : Fld := ⟨CLS_RSTAT, 9, 2⟩
def CLS_RSTAT.LEN : Fld := ⟨CLS_RSTAT, 20, 10⟩

/-- Refusal counts; RO. -/
def CLS_CNT : Nat := 0xB0010
def CLS_CNT.REFUSED : Fld := ⟨CLS_CNT, 15, 0⟩
def CLS_CNT.SIGFAIL : Fld := ⟨CLS_CNT, 31, 16⟩

/-- Clear counters; WO. -/
def CLS_CLR : Nat := 0xB0014
def CLS_CLR.COUNTS : Fld := ⟨CLS_CLR, 0, 0⟩

/-- Replay counter of role r = 0-3 (OWNER, OPERATOR, MAINTAINER, AUDITOR), at 0x0020 + 8r; RO. -/
def CLS_REPLAY_LO (r : Nat) : Nat := 0xB0020 + 8 * r
def CLS_REPLAY_LO.C (r : Nat) : Fld := ⟨CLS_REPLAY_LO r, 31, 0⟩

/-- Replay counter of role r = 0-3 (OWNER, OPERATOR, MAINTAINER, AUDITOR), at 0x0020 + 8r; RO. -/
def CLS_REPLAY_HI (r : Nat) : Nat := 0xB0024 + 8 * r
def CLS_REPLAY_HI.C (r : Nat) : Fld := ⟨CLS_REPLAY_HI r, 31, 0⟩

/-- Anti-rollback counters 4w to 4w + 3; RO. -/
def CLS_OTP (w : Nat) : Nat := 0xB0040 + 4 * w
def CLS_OTP.V (w : Nat) (j : Nat) : Fld := ⟨CLS_OTP w, 8*j+7, 8*j⟩

/-- Key id of role r, bytes 0-3 in _LO, first byte in [31:24]; RO. -/
def CLS_KEYID_LO (r : Nat) : Nat := 0xB0050 + 8 * r
def CLS_KEYID_LO.ID (r : Nat) : Fld := ⟨CLS_KEYID_LO r, 31, 0⟩

/-- Key id of role r, bytes 0-3 in _LO, first byte in [31:24]; RO. -/
def CLS_KEYID_HI (r : Nat) : Nat := 0xB0054 + 8 * r
def CLS_KEYID_HI.ID (r : Nat) : Fld := ⟨CLS_KEYID_HI r, 31, 0⟩

/-- Firmware transfer state; RO. -/
def CLS_FW_STAT : Nat := 0xB0070
def CLS_FW_STAT.STATE : Fld := ⟨CLS_FW_STAT, 2, 0⟩
def CLS_FW_STAT.IMG : Fld := ⟨CLS_FW_STAT, 3, 3⟩
def CLS_FW_STAT.RECEIVED : Fld := ⟨CLS_FW_STAT, 31, 8⟩

/-- Append a chunk; WO. -/
def CLS_FW_CTL : Nat := 0xB0074
def CLS_FW_CTL.BYTES : Fld := ⟨CLS_FW_CTL, 14, 0⟩
def CLS_FW_CTL.APPEND : Fld := ⟨CLS_FW_CTL, 15, 15⟩

/-- SPI seal counter; RO. -/
def CLS_SEAL_STAT : Nat := 0xB0078
def CLS_SEAL_STAT.COUNT : Fld := ⟨CLS_SEAL_STAT, 31, 0⟩

/-- Certificate length, bytes; RO. -/
def CLS_CERT_LEN : Nat := 0xB007C
def CLS_CERT_LEN.LEN : Fld := ⟨CLS_CERT_LEN, 10, 0⟩

/-- Identity and wrap key ids, vendor firmware key id; RO. -/
def CLS_ID (w : Nat) : Nat := 0xB0080 + 4 * w
def CLS_ID.ID (w : Nat) : Fld := ⟨CLS_ID w, 31, 0⟩

/-- Latest SPI-path seal, 224 bytes (R370); RO. -/
def CLS_SEAL_D (w : Nat) : Nat := 0xB0100 + 4 * w
def CLS_SEAL_D.D (w : Nat) : Fld := ⟨CLS_SEAL_D w, 31, 0⟩

/-- Wrap public key, 97 bytes, SEC 1; RO. -/
def CLS_WRAPPUB (w : Nat) : Nat := 0xB0200 + 4 * w
def CLS_WRAPPUB.D (w : Nat) : Fld := ⟨CLS_WRAPPUB w, 31, 0⟩

/-- Identity certificate, DER; RO. -/
def CLS_CERT (w : Nat) : Nat := 0xB0400 + 4 * w
def CLS_CERT.D (w : Nat) : Fld := ⟨CLS_CERT w, 31, 0⟩

/-- Last SPI envelope reply; RO. -/
def CLS_REPLY (w : Nat) : Nat := 0xB1000 + 4 * w
def CLS_REPLY.D (w : Nat) : Fld := ⟨CLS_REPLY w, 31, 0⟩

/-- Firmware chunk buffer, 16 KiB; RW. -/
def CLS_FW_BUF (w : Nat) : Nat := 0xB4000 + 4 * w
def CLS_FW_BUF.D (w : Nat) : Fld := ⟨CLS_FW_BUF w, 31, 0⟩

/-! ### Window 0x000C_0000: R411, R412 (13_self_test_and_ageing.md) -/

/-- Rotation state, unit under test; RO. -/
def TST_STAT : Nat := 0xC0000
def TST_STAT.UNIT : Fld := ⟨TST_STAT, 7, 0⟩
def TST_STAT.RESERVE : Fld := ⟨TST_STAT, 12, 8⟩
def TST_STAT.SHORT : Fld := ⟨TST_STAT, 13, 13⟩
def TST_STAT.WAIT : Fld := ⟨TST_STAT, 14, 14⟩
def TST_STAT.SIG_OK : Fld := ⟨TST_STAT, 15, 15⟩

/-- Sticky event flags; RW1C. -/
def TST_EVT : Nat := 0xC0004
def TST_EVT.PASS : Fld := ⟨TST_EVT, 0, 0⟩
def TST_EVT.FAIL : Fld := ⟨TST_EVT, 1, 1⟩
def TST_EVT.INTR : Fld := ⟨TST_EVT, 2, 2⟩
def TST_EVT.REPAIR : Fld := ⟨TST_EVT, 3, 3⟩
def TST_EVT.UNREP : Fld := ⟨TST_EVT, 4, 4⟩

/-- Interrupt enables for TST_EVT; RW. -/
def TST_IRQ_EN : Nat := 0xC0008
def TST_IRQ_EN.EN : Fld := ⟨TST_IRQ_EN, 4, 0⟩

/-- Rotation period (kept); SIG. -/
def TST_CTL : Nat := 0xC000C
def TST_CTL.ROT_H : Fld := ⟨TST_CTL, 7, 0⟩

/-- Test a unit now; SIG. -/
def TST_CMD : Nat := 0xC0010
def TST_CMD.UNIT : Fld := ⟨TST_CMD, 7, 0⟩
def TST_CMD.NOW : Fld := ⟨TST_CMD, 8, 8⟩

/-- Slice counts; RO. -/
def TST_CNT : Nat := 0xC0014
def TST_CNT.FAIL : Fld := ⟨TST_CNT, 15, 0⟩
def TST_CNT.INTR : Fld := ⟨TST_CNT, 31, 16⟩

/-- Unit selected; RW. -/
def TST_USEL : Nat := 0xC0018
def TST_USEL.UNIT : Fld := ⟨TST_USEL, 7, 0⟩

/-- Selected unit: state and age; RO. -/
def TST_UNIT : Nat := 0xC001C
def TST_UNIT.STATE : Fld := ⟨TST_UNIT, 1, 0⟩
def TST_UNIT.SLICE : Fld := ⟨TST_UNIT, 8, 2⟩
def TST_UNIT.AGE : Fld := ⟨TST_UNIT, 31, 16⟩

/-- Repair summary; RO. -/
def TST_MEM : Nat := 0xC0020
def TST_MEM.ENTRIES : Fld := ⟨TST_MEM, 12, 0⟩
def TST_MEM.FULL : Fld := ⟨TST_MEM, 13, 13⟩
def TST_MEM.ROWS_MIN : Fld := ⟨TST_MEM, 21, 16⟩
def TST_MEM.COLS_MIN : Fld := ⟨TST_MEM, 27, 24⟩

/-- Repair map entry selected; RW. -/
def TST_RSEL : Nat := 0xC0024
def TST_RSEL.INDEX : Fld := ⟨TST_RSEL, 11, 0⟩

/-- Bytes 4w to 4w + 3 of the selected entry, w = 0-3; RO. -/
def TST_RMAP (w : Nat) : Nat := 0xC0028 + 4 * w
def TST_RMAP.D (w : Nat) : Fld := ⟨TST_RMAP w, 31, 0⟩

/-- Clear counters; WO. -/
def TST_CLR : Nat := 0xC0038
def TST_CLR.COUNTS : Fld := ⟨TST_CLR, 0, 0⟩

/-- Monitors in service, forecast state; RO. -/
def LCH_STAT : Nat := 0xC0100
def LCH_STAT.OK : Fld := ⟨LCH_STAT, 5, 0⟩
def LCH_STAT.FCAST : Fld := ⟨LCH_STAT, 8, 8⟩
def LCH_STAT.FAR : Fld := ⟨LCH_STAT, 9, 9⟩
def LCH_STAT.DAYS : Fld := ⟨LCH_STAT, 31, 16⟩

/-- Sticky event flags; RW1C. -/
def LCH_EVT : Nat := 0xC0104
def LCH_EVT.FAIL : Fld := ⟨LCH_EVT, 0, 0⟩
def LCH_EVT.FCAST : Fld := ⟨LCH_EVT, 1, 1⟩

/-- Interrupt enables for LCH_EVT; RW. -/
def LCH_IRQ_EN : Nat := 0xC0108
def LCH_IRQ_EN.EN : Fld := ⟨LCH_IRQ_EN, 1, 0⟩

/-- Monitor selected; RW. -/
def LCH_SEL : Nat := 0xC010C
def LCH_SEL.MON : Fld := ⟨LCH_SEL, 5, 0⟩

/-- Selected monitor: last hourly mean; RO. -/
def LCH_VAL : Nat := 0xC0110
def LCH_VAL.VAL : Fld := ⟨LCH_VAL, 23, 0⟩
def LCH_VAL.STEP : Fld := ⟨LCH_VAL, 30, 24⟩
def LCH_VAL.FAILED : Fld := ⟨LCH_VAL, 31, 31⟩

/-- Selected monitor: drift; RO. -/
def LCH_DRIFT : Nat := 0xC0114
def LCH_DRIFT.DRIFT : Fld := ⟨LCH_DRIFT, 15, 0⟩
def LCH_DRIFT.TJ : Fld := ⟨LCH_DRIFT, 31, 16⟩

/-- End-of-margin forecast, device time; RO. -/
def LCH_FCAST_LO : Nat := 0xC0118
def LCH_FCAST_LO.T : Fld := ⟨LCH_FCAST_LO, 31, 0⟩

/-- End-of-margin forecast, device time; RO. -/
def LCH_FCAST_HI : Nat := 0xC011C
def LCH_FCAST_HI.T : Fld := ⟨LCH_FCAST_HI, 31, 0⟩

/-- Ledger state; RO. -/
def MOS_STAT : Nat := 0xC0200
def MOS_STAT.OK : Fld := ⟨MOS_STAT, 0, 0⟩
def MOS_STAT.SEALED : Fld := ⟨MOS_STAT, 1, 1⟩
def MOS_STAT.WRAPPED : Fld := ⟨MOS_STAT, 2, 2⟩
def MOS_STAT.SPARES : Fld := ⟨MOS_STAT, 15, 8⟩
def MOS_STAT.KEPT : Fld := ⟨MOS_STAT, 31, 16⟩

/-- Sticky event flags; RW1C. -/
def MOS_EVT : Nat := 0xC0204
def MOS_EVT.SEAL : Fld := ⟨MOS_EVT, 0, 0⟩
def MOS_EVT.WRAP : Fld := ⟨MOS_EVT, 1, 1⟩
def MOS_EVT.PAGE : Fld := ⟨MOS_EVT, 2, 2⟩

/-- Interrupt enables for MOS_EVT; RW. -/
def MOS_IRQ_EN : Nat := 0xC0208
def MOS_IRQ_EN.EN : Fld := ⟨MOS_IRQ_EN, 2, 0⟩

/-- Power-on hours; RO. -/
def MOS_POH : Nat := 0xC020C
def MOS_POH.HOURS : Fld := ⟨MOS_POH, 31, 0⟩

/-- Image sequence; RO. -/
def MOS_WRITES : Nat := 0xC0210
def MOS_WRITES.SEQ : Fld := ⟨MOS_WRITES, 31, 0⟩

/-- Area and index selected; RW. -/
def MOS_RSEL : Nat := 0xC0214
def MOS_RSEL.AREA : Fld := ⟨MOS_RSEL, 3, 0⟩
def MOS_RSEL.INDEX : Fld := ⟨MOS_RSEL, 31, 4⟩

/-- Bytes 4w to 4w + 3 of the selected chunk or entry, w = 0-7; RO. -/
def MOS_RD (w : Nat) : Nat := 0xC0218 + 4 * w
def MOS_RD.D (w : Nat) : Fld := ⟨MOS_RD w, 31, 0⟩

/-! ### Window 0x000D_0000: R431, R432 (14_modes_reset_faults.md) -/

/-- Mode, flags, boot epoch; RO. -/
def MOD_STATE : Nat := 0xD0000
def MOD_STATE.CODE : Fld := ⟨MOD_STATE, 3, 0⟩
def MOD_STATE.DEG : Fld := ⟨MOD_STATE, 4, 4⟩
def MOD_STATE.REPLAN : Fld := ⟨MOD_STATE, 5, 5⟩
def MOD_STATE.SWITCH : Fld := ⟨MOD_STATE, 6, 6⟩
def MOD_STATE.QDONE : Fld := ⟨MOD_STATE, 7, 7⟩
def MOD_STATE.PREV : Fld := ⟨MOD_STATE, 11, 8⟩
def MOD_STATE.PROF_F : Fld := ⟨MOD_STATE, 12, 12⟩
def MOD_STATE.EPOCH : Fld := ⟨MOD_STATE, 31, 16⟩

/-- Sticky event flags; RW1C. -/
def MOD_EVT : Nat := 0xD0004
def MOD_EVT.MODE : Fld := ⟨MOD_EVT, 0, 0⟩
def MOD_EVT.SAFE : Fld := ⟨MOD_EVT, 1, 1⟩
def MOD_EVT.RESET : Fld := ⟨MOD_EVT, 2, 2⟩
def MOD_EVT.STUCK : Fld := ⟨MOD_EVT, 3, 3⟩
def MOD_EVT.QFULL : Fld := ⟨MOD_EVT, 4, 4⟩
def MOD_EVT.REFUSED : Fld := ⟨MOD_EVT, 5, 5⟩
def MOD_EVT.QDONE : Fld := ⟨MOD_EVT, 6, 6⟩

/-- Interrupt enables for MOD_EVT; RW. -/
def MOD_IRQ_EN : Nat := 0xD0008
def MOD_IRQ_EN.EN : Fld := ⟨MOD_IRQ_EN, 6, 0⟩

/-- Mode commands; SIG. -/
def MOD_CMD : Nat := 0xD000C
def MOD_CMD.RELEASE : Fld := ⟨MOD_CMD, 0, 0⟩
def MOD_CMD.HOLD : Fld := ⟨MOD_CMD, 1, 1⟩
def MOD_CMD.EXIT_SAFE : Fld := ⟨MOD_CMD, 2, 2⟩
def MOD_CMD.COMMISSION : Fld := ⟨MOD_CMD, 3, 3⟩
def MOD_CMD.END : Fld := ⟨MOD_CMD, 4, 4⟩
def MOD_CMD.QUIESCE : Fld := ⟨MOD_CMD, 5, 5⟩
def MOD_CMD.RESET : Fld := ⟨MOD_CMD, 6, 6⟩

/-- Last reset and RST_N handling (kept); RO. -/
def MOD_RESET : Nat := 0xD0010
def MOD_RESET.CAUSE : Fld := ⟨MOD_RESET, 3, 0⟩
def MOD_RESET.COLD : Fld := ⟨MOD_RESET, 4, 4⟩
def MOD_RESET.IGNORED : Fld := ⟨MOD_RESET, 5, 5⟩
def MOD_RESET.INDICATE : Fld := ⟨MOD_RESET, 6, 6⟩
def MOD_RESET.F4HOLD : Fld := ⟨MOD_RESET, 7, 7⟩
def MOD_RESET.F4RST : Fld := ⟨MOD_RESET, 10, 8⟩
def MOD_RESET.PIN : Fld := ⟨MOD_RESET, 11, 11⟩

/-- Reset counts (kept); RO. -/
def MOD_RSTCNT : Nat := 0xD0014
def MOD_RSTCNT.WARM : Fld := ⟨MOD_RSTCNT, 15, 0⟩
def MOD_RSTCNT.COLD : Fld := ⟨MOD_RSTCNT, 31, 16⟩

/-- SAFE causes present; RO. -/
def MOD_SCAUSE : Nat := 0xD0018
def MOD_SCAUSE.CAUSE : Fld := ⟨MOD_SCAUSE, 8, 0⟩
def MOD_SCAUSE.PERM : Fld := ⟨MOD_SCAUSE, 15, 15⟩

/-- Handlers and queues; RO. -/
def MOD_FAULT : Nat := 0xD001C
def MOD_FAULT.BUSY (n : Nat) : Fld := ⟨MOD_FAULT, n, n⟩
def MOD_FAULT.SIGBUSY : Fld := ⟨MOD_FAULT, 4, 4⟩
def MOD_FAULT.Q1 : Fld := ⟨MOD_FAULT, 13, 8⟩
def MOD_FAULT.Q2 : Fld := ⟨MOD_FAULT, 21, 16⟩
def MOD_FAULT.Q3 : Fld := ⟨MOD_FAULT, 29, 24⟩

/-- Fault counts; RO. -/
def MOD_FCNT : Nat := 0xD0020
def MOD_FCNT.F1 : Fld := ⟨MOD_FCNT, 15, 0⟩
def MOD_FCNT.F2 : Fld := ⟨MOD_FCNT, 23, 16⟩
def MOD_FCNT.F3 : Fld := ⟨MOD_FCNT, 31, 24⟩

/-- Release conditions (R416); RO. -/
def MOD_RELEASE : Nat := 0xD0024
def MOD_RELEASE.NOT_F : Fld := ⟨MOD_RELEASE, 0, 0⟩
def MOD_RELEASE.BNK_UP : Fld := ⟨MOD_RELEASE, 1, 1⟩
def MOD_RELEASE.SSTOP_HI : Fld := ⟨MOD_RELEASE, 2, 2⟩
def MOD_RELEASE.READY : Fld := ⟨MOD_RELEASE, 3, 3⟩
def MOD_RELEASE.DOWN : Fld := ⟨MOD_RELEASE, 14, 8⟩

/-- Clear counters; WO. -/
def MOD_CLR : Nat := 0xD0028
def MOD_CLR.COUNTS : Fld := ⟨MOD_CLR, 0, 0⟩

/-! ### Window 0x000E_0000: R460, R461 (15_electrical_and_package.md) -/

/-- Supply and temperature state; RO. -/
def PWR_STAT : Nat := 0xE0000
def PWR_STAT.VF_OK : Fld := ⟨PWR_STAT, 0, 0⟩
def PWR_STAT.VF_HIGH : Fld := ⟨PWR_STAT, 1, 1⟩
def PWR_STAT.HOLD_OK : Fld := ⟨PWR_STAT, 2, 2⟩
def PWR_STAT.HOLD_CHG : Fld := ⟨PWR_STAT, 3, 3⟩
def PWR_STAT.VAUX_OK : Fld := ⟨PWR_STAT, 4, 4⟩
def PWR_STAT.VSO_OK : Fld := ⟨PWR_STAT, 5, 5⟩
def PWR_STAT.TJ_HIGH : Fld := ⟨PWR_STAT, 6, 6⟩
def PWR_STAT.SENS_STOP : Fld := ⟨PWR_STAT, 7, 7⟩
def PWR_STAT.FE_STOP : Fld := ⟨PWR_STAT, 8, 8⟩

/-- Sticky event flags; RW1C. -/
def PWR_EVT : Nat := 0xE0004
def PWR_EVT.VFHIGH : Fld := ⟨PWR_EVT, 0, 0⟩
def PWR_EVT.HOLDLOW : Fld := ⟨PWR_EVT, 1, 1⟩
def PWR_EVT.VSOLOW : Fld := ⟨PWR_EVT, 2, 2⟩
def PWR_EVT.VAUXFLT : Fld := ⟨PWR_EVT, 3, 3⟩
def PWR_EVT.TJHIGH : Fld := ⟨PWR_EVT, 4, 4⟩

/-- Interrupt enables for PWR_EVT; RW. -/
def PWR_IRQ_EN : Nat := 0xE0008
def PWR_IRQ_EN.EN : Fld := ⟨PWR_IRQ_EN, 4, 0⟩

/-- VFIELD now and peak; RO. -/
def PWR_VFIELD : Nat := 0xE000C
def PWR_VFIELD.NOW : Fld := ⟨PWR_VFIELD, 15, 0⟩
def PWR_VFIELD.PEAK : Fld := ⟨PWR_VFIELD, 31, 16⟩

/-- VINT, VAUX33; RO. -/
def PWR_VINT : Nat := 0xE0010
def PWR_VINT.VINT : Fld := ⟨PWR_VINT, 12, 0⟩
def PWR_VINT.VAUX : Fld := ⟨PWR_VINT, 28, 16⟩

/-- VHOLD and capacitance estimate; RO. -/
def PWR_HOLD : Nat := 0xE0014
def PWR_HOLD.VHOLD : Fld := ⟨PWR_HOLD, 12, 0⟩
def PWR_HOLD.CAP : Fld := ⟨PWR_HOLD, 23, 16⟩

/-- VSO; RO. -/
def PWR_VSO : Nat := 0xE0018
def PWR_VSO.VSO : Fld := ⟨PWR_VSO, 12, 0⟩

/-- Sensing and front-end dies; RO. -/
def PWR_TEMP0 : Nat := 0xE001C
def PWR_TEMP0.SENS : Fld := ⟨PWR_TEMP0, 15, 0⟩
def PWR_TEMP0.FE : Fld := ⟨PWR_TEMP0, 31, 16⟩

/-- Signal and store dies; RO. -/
def PWR_TEMP1 : Nat := 0xE0020
def PWR_TEMP1.SIG : Fld := ⟨PWR_TEMP1, 15, 0⟩
def PWR_TEMP1.STORE : Fld := ⟨PWR_TEMP1, 31, 16⟩

/-- Highest junction temperature since reset or clear; RO. -/
def PWR_TMAX : Nat := 0xE0024
def PWR_TMAX.MAX : Fld := ⟨PWR_TMAX, 15, 0⟩

/-- System pin levels; RO. -/
def PWR_PINS : Nat := 0xE0028
def PWR_PINS.RST_N : Fld := ⟨PWR_PINS, 0, 0⟩
def PWR_PINS.PROF_SEL0 : Fld := ⟨PWR_PINS, 1, 1⟩
def PWR_PINS.PROF_SEL1 : Fld := ⟨PWR_PINS, 2, 2⟩
def PWR_PINS.RMA_N : Fld := ⟨PWR_PINS, 3, 3⟩
def PWR_PINS.SAFE_STOP_N : Fld := ⟨PWR_PINS, 4, 4⟩
def PWR_PINS.SAFE_OUT : Fld := ⟨PWR_PINS, 5, 5⟩
def PWR_PINS.PPS_IN : Fld := ⟨PWR_PINS, 6, 6⟩

/-- Clear peaks; WO. -/
def PWR_CLR : Nat := 0xE002C
def PWR_CLR.PEAK : Fld := ⟨PWR_CLR, 0, 0⟩

/-! ### Access types and reset values (R11, R17) -/

def regRows0a : List RegRow := [
  ⟨0x0, 0x0, .ro, 0x4B582640, 0x0⟩,
  ⟨0x4, 0x4, .ro, 0x1001111, 0x0⟩,
  ⟨0x8, 0x8, .ro, 0x20401422, 0x0⟩,
  ⟨0xC, 0xC, .ro, 0x0, 0x0⟩,
  ⟨0x10, 0x10, .ro, 0x0, 0x0⟩,
  ⟨0x14, 0x14, .ro, 0x0, 0x0⟩,
  ⟨0x18, 0x18, .ro, 0x0, 0x0⟩,
  ⟨0x1C, 0x1C, .ro, 0x0, 0x0⟩,
  ⟨0x20, 0x20, .ro, 0xB4A7D9BF, 0x0⟩,
  ⟨0x24, 0x24, .rw, 0x0, 0xFFFFFFFF⟩]

/-- The registers of window 0x0000_0000. -/
def regRows0 : List RegRow := regRows0a

def regRows1a : List RegRow := [
  ⟨0x10000, 0x10000, .ro, 0x0, 0x0⟩,
  ⟨0x10004, 0x10004, .rw1c, 0x0, 0x3FFFF⟩,
  ⟨0x10008, 0x10008, .rw, 0x0, 0x3FFFF⟩,
  ⟨0x1000C, 0x1000C, .ro, 0x8000, 0x0⟩,
  ⟨0x10010, 0x10014, .ro, 0x0, 0x0⟩,
  ⟨0x10018, 0x1001C, .ro, 0x0, 0x0⟩,
  ⟨0x10020, 0x10024, .ro, 0x0, 0x0⟩,
  ⟨0x10028, 0x1002C, .ro, 0x0, 0x0⟩,
  ⟨0x10030, 0x10034, .ro, 0x0, 0x0⟩,
  ⟨0x10038, 0x10038, .ro, 0x0, 0x0⟩,
  ⟨0x1003C, 0x1003C, .sig, 0x0, 0x0⟩,
  ⟨0x10040, 0x10044, .ro, 0x0, 0x0⟩]

def regRows1b : List RegRow := [
  ⟨0x10048, 0x10048, .ro, 0x0, 0x0⟩,
  ⟨0x1004C, 0x1004C, .ro, 0x0, 0x0⟩,
  ⟨0x10050, 0x10050, .ro, 0x0, 0x0⟩,
  ⟨0x10054, 0x10054, .ro, 0x0, 0x0⟩,
  ⟨0x10058, 0x10058, .ro, 0x0, 0x0⟩,
  ⟨0x1005C, 0x1005C, .ro, 0x0, 0x0⟩,
  ⟨0x10060, 0x10060, .ro, 0x0, 0x0⟩]

/-- The registers of window 0x0001_0000. -/
def regRows1 : List RegRow := regRows1a ++ regRows1b

def regRows2a : List RegRow := [
  ⟨0x20000, 0x20000, .ro, 0xC0C0, 0x0⟩,
  ⟨0x20004, 0x20004, .rw1c, 0x0, 0x1FFFF⟩,
  ⟨0x20008, 0x20008, .rw, 0x0, 0x1FFFF⟩,
  ⟨0x2000C, 0x2000C, .ro, 0x0, 0x0⟩,
  ⟨0x20010, 0x20014, .ro, 0x0, 0x0⟩,
  ⟨0x20018, 0x2001C, .ro, 0x0, 0x0⟩,
  ⟨0x20020, 0x20020, .ro, 0x0, 0x0⟩,
  ⟨0x20024, 0x20024, .ro, 0x0, 0x0⟩,
  ⟨0x20028, 0x2002C, .ro, 0x0, 0x0⟩,
  ⟨0x20030, 0x20034, .ro, 0x0, 0x0⟩,
  ⟨0x20038, 0x2003C, .ro, 0x0, 0x0⟩,
  ⟨0x20040, 0x20044, .ro, 0x0, 0x0⟩]

def regRows2b : List RegRow := [
  ⟨0x20048, 0x20074, .ro, 0x0, 0x0⟩,
  ⟨0x20078, 0x20084, .ro, 0x0, 0x0⟩,
  ⟨0x20088, 0x20094, .ro, 0x0, 0x0⟩,
  ⟨0x20098, 0x200A4, .ro, 0x0, 0x0⟩,
  ⟨0x200A8, 0x200A8, .wo, 0x0, 0x0⟩,
  ⟨0x200AC, 0x200AC, .rw, 0x0, 0x7FFFF⟩,
  ⟨0x200B0, 0x200B0, .wo, 0x0, 0x0⟩,
  ⟨0x200B4, 0x200B4, .ro, 0x0, 0x0⟩,
  ⟨0x200B8, 0x200B8, .ro, 0x0, 0x0⟩,
  ⟨0x21000, 0x24FFC, .ro, 0x0, 0x0⟩]

/-- The registers of window 0x0002_0000. -/
def regRows2 : List RegRow := regRows2a ++ regRows2b

def regRows3a : List RegRow := [
  ⟨0x30000, 0x30000, .ro, 0x0, 0x0⟩,
  ⟨0x30004, 0x30004, .rw1c, 0x0, 0xFFFF⟩,
  ⟨0x30008, 0x30008, .rw, 0x0, 0xFFFF⟩,
  ⟨0x3000C, 0x3000C, .ro, 0x0, 0x0⟩,
  ⟨0x30010, 0x30014, .ro, 0x0, 0x0⟩,
  ⟨0x30018, 0x3001C, .ro, 0x0, 0x0⟩,
  ⟨0x30020, 0x30024, .ro, 0x0, 0x0⟩,
  ⟨0x30028, 0x3002C, .ro, 0x0, 0x0⟩,
  ⟨0x30030, 0x30030, .ro, 0x0, 0x0⟩,
  ⟨0x30034, 0x30034, .ro, 0x0, 0x0⟩,
  ⟨0x30038, 0x30038, .ro, 0x0, 0x0⟩,
  ⟨0x3003C, 0x3003C, .rw, 0x0, 0x1FF⟩]

def regRows3b : List RegRow := [
  ⟨0x30040, 0x30040, .ro, 0x0, 0x0⟩,
  ⟨0x30044, 0x30044, .ro, 0x0, 0x0⟩,
  ⟨0x30048, 0x30048, .ro, 0x0, 0x0⟩,
  ⟨0x3004C, 0x3004C, .ro, 0x0, 0x0⟩,
  ⟨0x30050, 0x30050, .wo, 0x0, 0x0⟩,
  ⟨0x30100, 0x3017C, .ro, 0x0, 0x0⟩]

/-- The registers of window 0x0003_0000. -/
def regRows3 : List RegRow := regRows3a ++ regRows3b

def regRows4a : List RegRow := [
  ⟨0x40000, 0x40000, .ro, 0x0, 0x0⟩,
  ⟨0x40004, 0x40004, .rw1c, 0x0, 0xFFF⟩,
  ⟨0x40008, 0x40008, .rw, 0x0, 0xFFF⟩,
  ⟨0x4000C, 0x4000C, .ro, 0x0, 0x0⟩,
  ⟨0x40010, 0x40014, .ro, 0x0, 0x0⟩,
  ⟨0x40018, 0x4001C, .ro, 0x0, 0x0⟩,
  ⟨0x40020, 0x40024, .ro, 0x0, 0x0⟩,
  ⟨0x40028, 0x4002C, .ro, 0x0, 0x0⟩,
  ⟨0x40030, 0x40034, .ro, 0x80000000, 0x0⟩,
  ⟨0x40038, 0x4003C, .ro, 0x0, 0x0⟩,
  ⟨0x40040, 0x40040, .rw, 0x0, 0x1FFFFF⟩,
  ⟨0x40044, 0x40044, .ro, 0x80000000, 0x0⟩]

def regRows4b : List RegRow := [
  ⟨0x40048, 0x40048, .ro, 0x0, 0x0⟩,
  ⟨0x4004C, 0x4004C, .rw, 0x0, 0x3FFFF⟩,
  ⟨0x40050, 0x40050, .ro, 0x80000000, 0x0⟩,
  ⟨0x40054, 0x40054, .ro, 0x0, 0x0⟩,
  ⟨0x40058, 0x40058, .ro, 0x0, 0x0⟩,
  ⟨0x40100, 0x40100, .ro, 0x0, 0x0⟩,
  ⟨0x40104, 0x40104, .rw1c, 0x0, 0xFFFFFF⟩,
  ⟨0x40108, 0x40108, .rw, 0x0, 0xFFFFFF⟩,
  ⟨0x4010C, 0x4010C, .ro, 0x0, 0x0⟩,
  ⟨0x40110, 0x4012C, .ro, 0x0, 0x0⟩,
  ⟨0x40130, 0x4014C, .ro, 0x0, 0x0⟩,
  ⟨0x40150, 0x4016C, .ro, 0x80000000, 0x0⟩]

def regRows4c : List RegRow := [
  ⟨0x40170, 0x4018C, .ro, 0x0, 0x0⟩]

/-- The registers of window 0x0004_0000. -/
def regRows4 : List RegRow := regRows4a ++ regRows4b ++ regRows4c

def regRows5a : List RegRow := [
  ⟨0x50000, 0x50000, .ro, 0x1F0000, 0x0⟩,
  ⟨0x50004, 0x50004, .rw1c, 0x0, 0x7FF⟩,
  ⟨0x50008, 0x50008, .rw, 0x0, 0x7FF⟩,
  ⟨0x5000C, 0x5000C, .ro, 0x0, 0x0⟩,
  ⟨0x50010, 0x50010, .ro, 0x0, 0x0⟩,
  ⟨0x50014, 0x50014, .ro, 0x0, 0x0⟩,
  ⟨0x50018, 0x50018, .sig, 0x0, 0x0⟩,
  ⟨0x5001C, 0x5001C, .ro, 0x0, 0x0⟩,
  ⟨0x50020, 0x50020, .wo, 0x0, 0x0⟩,
  ⟨0x50024, 0x50024, .rw, 0x0, 0x7F⟩,
  ⟨0x50028, 0x50028, .ro, 0x0, 0x0⟩,
  ⟨0x50040, 0x5008C, .ro, 0x0, 0x0⟩]

def regRows5b : List RegRow := [
  ⟨0x50090, 0x50098, .ro, 0x0, 0x0⟩]

/-- The registers of window 0x0005_0000. -/
def regRows5 : List RegRow := regRows5a ++ regRows5b

def regRows6a : List RegRow := [
  ⟨0x60000, 0x60000, .ro, 0x707, 0x0⟩,
  ⟨0x60004, 0x60004, .rw1c, 0x0, 0x3FF⟩,
  ⟨0x60008, 0x60008, .rw, 0x0, 0x3FF⟩,
  ⟨0x6000C, 0x6000C, .sig, 0x1, 0x0⟩,
  ⟨0x60010, 0x60010, .sig, 0x0, 0x0⟩,
  ⟨0x60014, 0x60014, .ro, 0x7, 0x0⟩,
  ⟨0x60018, 0x60024, .ro, 0x0, 0x0⟩,
  ⟨0x60028, 0x60034, .ro, 0x0, 0x0⟩,
  ⟨0x60038, 0x60038, .ro, 0x0, 0x0⟩,
  ⟨0x6003C, 0x6003C, .ro, 0x0, 0x0⟩,
  ⟨0x60040, 0x60040, .ro, 0x0, 0x0⟩,
  ⟨0x60044, 0x60044, .rw, 0x0, 0x103FF⟩]

def regRows6b : List RegRow := [
  ⟨0x60048, 0x60064, .ro, 0x0, 0x0⟩,
  ⟨0x60068, 0x60068, .sig, 0x0, 0x0⟩,
  ⟨0x6006C, 0x6006C, .wo, 0x0, 0x0⟩,
  ⟨0x60070, 0x60070, .ro, 0x0, 0x0⟩,
  ⟨0x60074, 0x60074, .ro, 0x0, 0x0⟩]

/-- The registers of window 0x0006_0000. -/
def regRows6 : List RegRow := regRows6a ++ regRows6b

def regRows7a : List RegRow := [
  ⟨0x70000, 0x70000, .ro, 0x0, 0x0⟩,
  ⟨0x70004, 0x70004, .rw1c, 0x0, 0x7F⟩,
  ⟨0x70008, 0x70008, .rw, 0x0, 0x7F⟩,
  ⟨0x7000C, 0x7000C, .sig, 0x0, 0x0⟩,
  ⟨0x70010, 0x7001C, .ro, 0x0, 0x0⟩,
  ⟨0x70020, 0x7003C, .ro, 0x0, 0x0⟩,
  ⟨0x70040, 0x70040, .ro, 0x0, 0x0⟩,
  ⟨0x70044, 0x70044, .ro, 0x0, 0x0⟩,
  ⟨0x70048, 0x70048, .ro, 0x0, 0x0⟩,
  ⟨0x7004C, 0x7004C, .rw, 0x0, 0x1F⟩,
  ⟨0x70050, 0x70050, .ro, 0x0, 0x0⟩,
  ⟨0x70054, 0x70054, .ro, 0x3FF, 0x0⟩]

def regRows7b : List RegRow := [
  ⟨0x70058, 0x70058, .ro, 0x0, 0x0⟩,
  ⟨0x7005C, 0x7005C, .wo, 0x0, 0x0⟩,
  ⟨0x70100, 0x701FC, .ro, 0x1F0, 0x0⟩,
  ⟨0x70200, 0x702FC, .ro, 0x0, 0x0⟩,
  ⟨0x70400, 0x70400, .ro, 0x0, 0x0⟩,
  ⟨0x70404, 0x70404, .rw1c, 0x0, 0x7F⟩,
  ⟨0x70408, 0x70408, .rw, 0x0, 0x7F⟩,
  ⟨0x7040C, 0x7040C, .sig, 0x0, 0x0⟩,
  ⟨0x70410, 0x70414, .ro, 0x0, 0x0⟩,
  ⟨0x70418, 0x7041C, .ro, 0x0, 0x0⟩,
  ⟨0x70420, 0x7042C, .ro, 0x0, 0x0⟩,
  ⟨0x70430, 0x70430, .rw, 0x0, 0x3F⟩]

def regRows7c : List RegRow := [
  ⟨0x70434, 0x70438, .ro, 0x0, 0x0⟩,
  ⟨0x7043C, 0x7043C, .wo, 0x0, 0x0⟩,
  ⟨0x70500, 0x705FC, .ro, 0x0, 0x0⟩,
  ⟨0x70600, 0x706FC, .ro, 0x0, 0x0⟩,
  ⟨0x70700, 0x707FC, .ro, 0x0, 0x0⟩,
  ⟨0x70800, 0x708FC, .ro, 0x0, 0x0⟩,
  ⟨0x70900, 0x709FC, .ro, 0x0, 0x0⟩,
  ⟨0x70A00, 0x70AFC, .ro, 0x0, 0x0⟩]

/-- The registers of window 0x0007_0000. -/
def regRows7 : List RegRow := regRows7a ++ regRows7b ++ regRows7c

def regRows8a : List RegRow := [
  ⟨0x80000, 0x80000, .ro, 0x0, 0x0⟩,
  ⟨0x80004, 0x80004, .rw1c, 0x0, 0x3FF⟩,
  ⟨0x80008, 0x80008, .rw, 0x0, 0x3FF⟩,
  ⟨0x8000C, 0x8000C, .wo, 0x0, 0x0⟩,
  ⟨0x80010, 0x80014, .ro, 0x0, 0x0⟩,
  ⟨0x80018, 0x8001C, .ro, 0x0, 0x0⟩,
  ⟨0x80020, 0x80020, .rw, 0x0, 0x1FF⟩,
  ⟨0x80024, 0x80024, .ro, 0x0, 0x0⟩,
  ⟨0x80028, 0x80028, .ro, 0x0, 0x0⟩,
  ⟨0x8002C, 0x8002C, .ro, 0x0, 0x0⟩,
  ⟨0x80030, 0x80030, .ro, 0x0, 0x0⟩,
  ⟨0x80100, 0x8013C, .ro, 0x0, 0x0⟩]

/-- The registers of window 0x0008_0000. -/
def regRows8 : List RegRow := regRows8a

def regRows9a : List RegRow := [
  ⟨0x90000, 0x90000, .ro, 0x0, 0x0⟩,
  ⟨0x90004, 0x90004, .rw1c, 0x0, 0xFFF⟩,
  ⟨0x90008, 0x90008, .rw, 0x0, 0xFFF⟩,
  ⟨0x9000C, 0x9000C, .sig, 0x0, 0x0⟩,
  ⟨0x90010, 0x90010, .ro, 0xFFFFFF, 0x0⟩,
  ⟨0x90014, 0x90014, .ro, 0x0, 0x0⟩,
  ⟨0x90018, 0x90018, .ro, 0x0, 0x0⟩,
  ⟨0x9001C, 0x9001C, .ro, 0x0, 0x0⟩,
  ⟨0x90020, 0x90020, .ro, 0x0, 0x0⟩,
  ⟨0x90024, 0x90024, .ro, 0x0, 0x0⟩,
  ⟨0x90028, 0x90028, .ro, 0x0, 0x0⟩,
  ⟨0x9002C, 0x9002C, .ro, 0x0, 0x0⟩]

def regRows9b : List RegRow := [
  ⟨0x90030, 0x90034, .ro, 0x0, 0x0⟩,
  ⟨0x90038, 0x9003C, .ro, 0x0, 0x0⟩,
  ⟨0x90040, 0x90044, .ro, 0x0, 0x0⟩,
  ⟨0x90048, 0x90048, .ro, 0x0, 0x0⟩,
  ⟨0x9004C, 0x9004C, .wo, 0x0, 0x0⟩,
  ⟨0x90100, 0x9017C, .ro, 0x0, 0x0⟩,
  ⟨0x90180, 0x901FC, .ro, 0x0, 0x0⟩,
  ⟨0x90200, 0x9023C, .ro, 0x0, 0x0⟩,
  ⟨0x90240, 0x9025C, .ro, 0x0, 0x0⟩,
  ⟨0x90260, 0x9027C, .ro, 0x0, 0x0⟩,
  ⟨0x90280, 0x9029C, .ro, 0x0, 0x0⟩,
  ⟨0x902A0, 0x902A4, .ro, 0x0, 0x0⟩]

def regRows9c : List RegRow := [
  ⟨0x902A8, 0x902AC, .ro, 0x0, 0x0⟩,
  ⟨0x902B0, 0x902B4, .ro, 0x0, 0x0⟩]

/-- The registers of window 0x0009_0000. -/
def regRows9 : List RegRow := regRows9a ++ regRows9b ++ regRows9c

def regRowsAa : List RegRow := [
  ⟨0xA0000, 0xA0000, .ro, 0x0, 0x0⟩,
  ⟨0xA0004, 0xA0004, .rw1c, 0x0, 0x7F⟩,
  ⟨0xA0008, 0xA0008, .rw, 0x0, 0x7F⟩,
  ⟨0xA000C, 0xA000C, .ro, 0x0, 0x0⟩,
  ⟨0xA0010, 0xA0010, .ro, 0x0, 0x0⟩,
  ⟨0xA0014, 0xA0014, .ro, 0x0, 0x0⟩,
  ⟨0xA0018, 0xA0018, .ro, 0x0, 0x0⟩,
  ⟨0xA001C, 0xA001C, .ro, 0x0, 0x0⟩,
  ⟨0xA0020, 0xA0020, .ro, 0x0, 0x0⟩,
  ⟨0xA0024, 0xA0024, .ro, 0x0, 0x0⟩,
  ⟨0xA0028, 0xA0028, .ro, 0x0, 0x0⟩,
  ⟨0xA002C, 0xA002C, .ro, 0x0, 0x0⟩]

def regRowsAb : List RegRow := [
  ⟨0xA0030, 0xA0034, .ro, 0x0, 0x0⟩,
  ⟨0xA0038, 0xA003C, .ro, 0x0, 0x0⟩,
  ⟨0xA0040, 0xA0044, .ro, 0x0, 0x0⟩,
  ⟨0xA0048, 0xA0048, .ro, 0x0, 0x0⟩,
  ⟨0xA004C, 0xA004C, .ro, 0x0, 0x0⟩,
  ⟨0xA0050, 0xA0050, .ro, 0x0, 0x0⟩,
  ⟨0xA0054, 0xA0054, .rw, 0x0, 0x3⟩,
  ⟨0xA0058, 0xA0058, .ro, 0x0, 0x0⟩,
  ⟨0xA005C, 0xA005C, .ro, 0x0, 0x0⟩,
  ⟨0xA0060, 0xA0060, .wo, 0x0, 0x0⟩,
  ⟨0xA0100, 0xA0100, .ro, 0x0, 0x0⟩,
  ⟨0xA0104, 0xA0104, .rw1c, 0x0, 0xF⟩]

def regRowsAc : List RegRow := [
  ⟨0xA0108, 0xA0108, .rw, 0x0, 0xF⟩,
  ⟨0xA010C, 0xA010C, .ro, 0x0, 0x0⟩,
  ⟨0xA0110, 0xA0110, .ro, 0x0, 0x0⟩,
  ⟨0xA0114, 0xA0114, .ro, 0x0, 0x0⟩,
  ⟨0xA0118, 0xA0118, .ro, 0x0, 0x0⟩,
  ⟨0xA011C, 0xA011C, .rw, 0x0, 0x3F⟩,
  ⟨0xA0120, 0xA0120, .ro, 0x0, 0x0⟩,
  ⟨0xA0124, 0xA0124, .ro, 0x0, 0x0⟩,
  ⟨0xA0128, 0xA0128, .ro, 0x0, 0x0⟩,
  ⟨0xA012C, 0xA012C, .ro, 0x0, 0x0⟩,
  ⟨0xA0130, 0xA0130, .ro, 0x0, 0x0⟩,
  ⟨0xA0134, 0xA0134, .ro, 0x0, 0x0⟩]

def regRowsAd : List RegRow := [
  ⟨0xA0138, 0xA0138, .wo, 0x0, 0x0⟩]

/-- The registers of window 0x000A_0000. -/
def regRowsA : List RegRow := regRowsAa ++ regRowsAb ++ regRowsAc ++ regRowsAd

def regRowsBa : List RegRow := [
  ⟨0xB0000, 0xB0000, .ro, 0x0, 0x0⟩,
  ⟨0xB0004, 0xB0004, .rw1c, 0x0, 0x7F⟩,
  ⟨0xB0008, 0xB0008, .rw, 0x0, 0x7F⟩,
  ⟨0xB000C, 0xB000C, .ro, 0x0, 0x0⟩,
  ⟨0xB0010, 0xB0010, .ro, 0x0, 0x0⟩,
  ⟨0xB0014, 0xB0014, .wo, 0x0, 0x0⟩,
  ⟨0xB0020, 0xB003C, .ro, 0x0, 0x0⟩,
  ⟨0xB0040, 0xB004C, .ro, 0x0, 0x0⟩,
  ⟨0xB0050, 0xB006C, .ro, 0x0, 0x0⟩,
  ⟨0xB0070, 0xB0070, .ro, 0x0, 0x0⟩,
  ⟨0xB0074, 0xB0074, .wo, 0x0, 0x0⟩,
  ⟨0xB0078, 0xB0078, .ro, 0x0, 0x0⟩]

def regRowsBb : List RegRow := [
  ⟨0xB007C, 0xB007C, .ro, 0x0, 0x0⟩,
  ⟨0xB0080, 0xB0088, .ro, 0x0, 0x0⟩,
  ⟨0xB0100, 0xB01DC, .ro, 0x0, 0x0⟩,
  ⟨0xB0200, 0xB0260, .ro, 0x0, 0x0⟩,
  ⟨0xB0400, 0xB07FC, .ro, 0x0, 0x0⟩,
  ⟨0xB1000, 0xB13FC, .ro, 0x0, 0x0⟩,
  ⟨0xB4000, 0xB7FFC, .rw, 0x0, 0xFFFFFFFF⟩]

/-- The registers of window 0x000B_0000. -/
def regRowsB : List RegRow := regRowsBa ++ regRowsBb

def regRowsCa : List RegRow := [
  ⟨0xC0000, 0xC0000, .ro, 0x1FFF, 0x0⟩,
  ⟨0xC0004, 0xC0004, .rw1c, 0x0, 0x1F⟩,
  ⟨0xC0008, 0xC0008, .rw, 0x0, 0x1F⟩,
  ⟨0xC000C, 0xC000C, .sig, 0x18, 0x0⟩,
  ⟨0xC0010, 0xC0010, .sig, 0x0, 0x0⟩,
  ⟨0xC0014, 0xC0014, .ro, 0x0, 0x0⟩,
  ⟨0xC0018, 0xC0018, .rw, 0x0, 0xFF⟩,
  ⟨0xC001C, 0xC001C, .ro, 0x0, 0x0⟩,
  ⟨0xC0020, 0xC0020, .ro, 0x0, 0x0⟩,
  ⟨0xC0024, 0xC0024, .rw, 0x0, 0xFFF⟩,
  ⟨0xC0028, 0xC0034, .ro, 0x0, 0x0⟩,
  ⟨0xC0038, 0xC0038, .wo, 0x0, 0x0⟩]

def regRowsCb : List RegRow := [
  ⟨0xC0100, 0xC0100, .ro, 0x0, 0x0⟩,
  ⟨0xC0104, 0xC0104, .rw1c, 0x0, 0x3⟩,
  ⟨0xC0108, 0xC0108, .rw, 0x0, 0x3⟩,
  ⟨0xC010C, 0xC010C, .rw, 0x0, 0x3F⟩,
  ⟨0xC0110, 0xC0110, .ro, 0x0, 0x0⟩,
  ⟨0xC0114, 0xC0114, .ro, 0x0, 0x0⟩,
  ⟨0xC0118, 0xC0118, .ro, 0x0, 0x0⟩,
  ⟨0xC011C, 0xC011C, .ro, 0x0, 0x0⟩,
  ⟨0xC0200, 0xC0200, .ro, 0x0, 0x0⟩,
  ⟨0xC0204, 0xC0204, .rw1c, 0x0, 0x7⟩,
  ⟨0xC0208, 0xC0208, .rw, 0x0, 0x7⟩,
  ⟨0xC020C, 0xC020C, .ro, 0x0, 0x0⟩]

def regRowsCc : List RegRow := [
  ⟨0xC0210, 0xC0210, .ro, 0x0, 0x0⟩,
  ⟨0xC0214, 0xC0214, .rw, 0x0, 0xFFFFFFFF⟩,
  ⟨0xC0218, 0xC0234, .ro, 0x0, 0x0⟩]

/-- The registers of window 0x000C_0000. -/
def regRowsC : List RegRow := regRowsCa ++ regRowsCb ++ regRowsCc

def regRowsDa : List RegRow := [
  ⟨0xD0000, 0xD0000, .ro, 0x0, 0x0⟩,
  ⟨0xD0004, 0xD0004, .rw1c, 0x0, 0x7F⟩,
  ⟨0xD0008, 0xD0008, .rw, 0x0, 0x7F⟩,
  ⟨0xD000C, 0xD000C, .sig, 0x0, 0x0⟩,
  ⟨0xD0010, 0xD0010, .ro, 0x0, 0x0⟩,
  ⟨0xD0014, 0xD0014, .ro, 0x0, 0x0⟩,
  ⟨0xD0018, 0xD0018, .ro, 0x0, 0x0⟩,
  ⟨0xD001C, 0xD001C, .ro, 0x0, 0x0⟩,
  ⟨0xD0020, 0xD0020, .ro, 0x0, 0x0⟩,
  ⟨0xD0024, 0xD0024, .ro, 0x0, 0x0⟩,
  ⟨0xD0028, 0xD0028, .wo, 0x0, 0x0⟩]

/-- The registers of window 0x000D_0000. -/
def regRowsD : List RegRow := regRowsDa

def regRowsEa : List RegRow := [
  ⟨0xE0000, 0xE0000, .ro, 0x0, 0x0⟩,
  ⟨0xE0004, 0xE0004, .rw1c, 0x0, 0x1F⟩,
  ⟨0xE0008, 0xE0008, .rw, 0x0, 0x1F⟩,
  ⟨0xE000C, 0xE000C, .ro, 0x0, 0x0⟩,
  ⟨0xE0010, 0xE0010, .ro, 0x0, 0x0⟩,
  ⟨0xE0014, 0xE0014, .ro, 0x0, 0x0⟩,
  ⟨0xE0018, 0xE0018, .ro, 0x0, 0x0⟩,
  ⟨0xE001C, 0xE001C, .ro, 0x80008000, 0x0⟩,
  ⟨0xE0020, 0xE0020, .ro, 0x80008000, 0x0⟩,
  ⟨0xE0024, 0xE0024, .ro, 0x8000, 0x0⟩,
  ⟨0xE0028, 0xE0028, .ro, 0x0, 0x0⟩,
  ⟨0xE002C, 0xE002C, .wo, 0x0, 0x0⟩]

/-- The registers of window 0x000E_0000. -/
def regRowsE : List RegRow := regRowsEa

/-- The registers of the window with base `n * 0x1_0000` (Table 1.9, R53); none above 0x000E. -/
def regRows (n : Nat) : List RegRow :=
  match n with
  | 0 => regRows0
  | 1 => regRows1
  | 2 => regRows2
  | 3 => regRows3
  | 4 => regRows4
  | 5 => regRows5
  | 6 => regRows6
  | 7 => regRows7
  | 8 => regRows8
  | 9 => regRows9
  | 10 => regRowsA
  | 11 => regRowsB
  | 12 => regRowsC
  | 13 => regRowsD
  | 14 => regRowsE
  | _ => []

/-- The row of the register at an address; none at a reserved or unmapped address (R13, R18, R53). -/
def regRow (a : Nat) : Option RegRow :=
  if a % 4 = 0 then (regRows (a / 0x10000)).find? (fun r => r.first ≤ a && a ≤ r.last) else none

/-- The value a register holds at the end of RESET (R17); 0 at an address that names no register (R13). -/
def regReset (a : Nat) : BitVec 32 :=
  match regRow a with
  | some r => r.reset
  | none => 0

/-- The access type of the register at an address (R11). -/
def regAccess (a : Nat) : Option Access := (regRow a).map (·.access)

/-- The bits a plain write may change: an RW register's fields, an RW1C register's flags (R11, R13). -/
def regMask (a : Nat) : BitVec 32 :=
  match regRow a with
  | some r => r.mask
  | none => 0

end Sys2Proof.Machine
end

