-- ==== Sys2Proof/Machine/State.lean ====
section
/-! DEFINITION. The state of the block, as plain data: every register (the sparse register file `regs`), and every
buffer, counter, mode, pin and unit state that the spec gives the part, one sub-structure per chapter. Tables
indexed by a number are sparse lists with a stated default (`sparseGet`), in one canonical form. -/

set_option Elab.async false

namespace Sys2Proof.Machine

/-- The reasons a step may stop with a fault. The spec gives every command of the table an effect, so no meaning
raises one; a constructor is kept so that the type is not empty. -/
inductive Fault where
  /-- Raised by nothing. Safe. -/
  | none
  deriving DecidableEq, Repr

/-- The reasons a step may be refused. -/
inductive Refusal where
  /-- Raised by the arm of a command whose meaning has not been written. Safe: the model stops where the part
  goes on. -/
  | notModelled (mnemonic : String)
  deriving DecidableEq, Repr

/-! ### Records and faults (01_architecture.md, 14_modes_reset_faults.md) -/

/-- An event record (R39, Table 1.7); `data` holds the 12 data bytes. -/
structure Record where
  source : Nat
  code : Nat
  epoch : Nat
  seq : Nat
  time : Nat
  data : List Byte
  deriving DecidableEq, Repr

/-- A record in the common queue with the paths that have still to take it: 0-3 data destinations, 4 SPI (R354). -/
structure QRec where
  r : Record
  left : List Nat
  deriving DecidableEq, Repr

/-- A range of sequence numbers of one source and epoch whose records were lost (R46), with its cause. -/
structure Missing where
  source : Nat
  epoch : Nat
  first : Nat
  last : Nat
  cause : Nat
  deriving DecidableEq, Repr

/-- A record of a happening in RESET or BOOT, made and numbered when the epoch opens (R415, R422). -/
structure Deferred where
  lvl : Nat
  source : Nat
  code : Nat
  time : Nat
  data : List Byte
  deriving DecidableEq, Repr

/-- The tail table of the store die (R49): per source the last sequence assigned and the last delivered, the
epoch it was written in, the ranges of earlier epochs, and the cause byte of the reset. -/
structure Tail where
  epoch : Nat
  cause : Nat
  assigned : List (Nat × Nat)
  delivered : List (Nat × Nat)
  ranges : List Missing
  deriving DecidableEq, Repr

/-- The last data loss of a source (R47): the interval it covers, and when it was reported, in run time; the first cycle number, the
cause, and the sequence number of its `GAP_DATA`. -/
structure GapRun where
  start : Nat
  stop : Nat
  reported : Nat
  cycle : Nat
  cause : Nat
  seq : Nat
  deriving DecidableEq, Repr

def GapRun.none : GapRun := ⟨0, 0, 0, 0, 0, 0⟩

/-- Record numbering, the resets since an epoch was last opened, the record queue, the holding buffer and the gap ranges (R41-R52). -/
structure RecSys where
  epoch : Nat
  resets : Nat
  epochOpen : Bool
  exhausted : Bool
  seqs : List (Nat × Nat)
  delivered : List (Nat × Nat)
  queue : List QRec
  hold : List Record
  missing : List Missing
  deferred : List Deferred
  spiWord : Nat
  tail : Option Tail
  gaps : List (Nat × GapRun)
  log : List Record
  deriving DecidableEq, Repr

/-- A declared fault that waits for or occupies a handler (R424). -/
structure FaultRec where
  lvl : Nat
  code : Nat
  source : Nat
  deriving DecidableEq, Repr

/-- One handler of one level on one die: the fault in work, the queue of 32 places, and the faults kept until the
queue has room (R424). -/
structure Handler where
  work : Option FaultRec
  queue : List FaultRec
  extra : List FaultRec
  deriving DecidableEq, Repr

/-- The six handlers: levels F1, F2, F3 of the sensing die and of the signal die (R424), and the sensing-die F3
faults that wait for the die link (R422), and the run time of the last fault declared at F3 (R373). -/
structure FaultSys where
  sens1 : Handler
  sens2 : Handler
  sens3 : Handler
  sig1 : Handler
  sig2 : Handler
  sig3 : Handler
  waitLink : List FaultRec
  f3At : Option Nat
  deriving DecidableEq, Repr

/-- What the declarations of one command leave to be done before it ends: entering SAFE (first cause, source), a
device stop (cause, source), and the cause byte of a mode change (R422, R430). Empty between commands. -/
structure Due where
  safe : Option (Nat × Nat)
  stop : Option (Nat × Nat)
  modeCause : Nat
  deriving DecidableEq, Repr

/-- The base modes behind Table 14.1. The run family is one value here: DEGRADED, REPLAN and SWITCH show by their
conditions (R414). -/
inductive Mode where
  | reset | boot | load | hold | commission | family | safe | quiesce | analysis
  deriving DecidableEq, Repr

/-- Modes, reset and the device stop (chapter 14). `code` is MOD_STATE.CODE as last reported, `prev` the one before; `qdone`
is MOD_STATE.QDONE; `latched` the first F3 found before HOLD (code, source); when SAFE, COMMISSION and QUIESCE were entered (run
time); the last reset's kind and cause; the F4 of the last device stop (code, source) and the times of the recent ones; BOOT kept
by an F4 in BOOT; the 10 s of R421 running, and since when; `RST_N` accepted and not yet released; since when `RST_N` is low; a
`RST_STUCK` record owed (ms low, when); the start of BOOT, and when HOLD or a later mode was reached after it. -/
structure ModeSys where
  mode : Mode
  code : Nat
  prev : Nat
  qdone : Bool
  latched : Option (Nat × Nat)
  safeSince : Nat
  commissionSince : Nat
  quiesceSince : Nat
  resetCold : Bool
  resetCause : Nat
  f4Cause : Nat × Nat
  f4Times : List Nat
  bootHold : Bool
  f4Wait : Bool
  f4At : Nat
  pinReset : Bool
  rstLowSince : Option Nat
  stuckRec : Option (Nat × Nat)
  bootStart : Nat
  holdAt : Nat
  deriving DecidableEq, Repr

/-- The times the part counts, in ns: the run time since power-on (the model's own steady count, log entry 2),
device time (R5), the Pacer's device-time copy (R31) and the Bornak clock (R462). -/
structure Clocks where
  up : Nat
  dev : Nat
  pacer : Nat
  bornak : Nat
  deriving DecidableEq, Repr

/-- Pin levels that the part reads (R431, R461: `PWR_PINS`, `SIO_STAT`). -/
structure Pins where
  rstN : Bool
  profSel : Nat
  rmaN : Bool
  safeStopN : Bool
  ppsIn : Bool
  deriving DecidableEq, Repr

/-- The die link as the signal die sees it (R30, R31): whether it treats the sensing die as absent, the consecutive
heartbeats since, what its device-time copy still has to slew, ns, and when the last valid heartbeat came (run time). -/
structure DieLink where
  absent : Bool
  beats : Nat
  slew : Int
  beatAt : Nat
  deriving DecidableEq, Repr

/-! ### Profile planes and slots (07_bitstream_and_profiles.md) -/

/-- The place of a field or record in a profile: section, record kind (0: top level), field number, and the
indices of the enclosing records, outermost first (R217, R220). -/
structure PKey where
  sec : Nat
  kind : Nat
  fid : Nat
  path : List Nat
  deriving DecidableEq, Repr

/-- A loaded profile after clamping: the numeric fields and byte strings that the container holds, the records it
holds, and the sections in force (accepted and present). Absent fields take the dictionary default (R218). -/
structure Plane where
  nums : List (PKey × Int)
  byts : List (PKey × List Byte)
  recs : List PKey
  secs : List Nat
  deriving DecidableEq, Repr

/-- Profile F: no section in force, every field at its default (R212, R218). -/
def Plane.profileF : Plane := ⟨[], [], [], []⟩


/-! ### The ledger's journal (R404) -/

/-- The Moss journal: records not yet written (oldest first, true for the kept region), the next entry number, and the two
rings (newest first); `faults` counts the records of each code at level F1-F4 (area 4 of Table 13.7). -/
structure Journal where
  wait : List (Bool × Record)
  next : Nat
  kept : List (Nat × Record)
  rolling : List (Nat × Record)
  faults : List (Nat × Nat)
  deriving DecidableEq, Repr

/-! ### Configuration (07_bitstream_and_profiles.md) -/

/-- A clamp log (R227): up to 1,024 entries of 32 bytes (Table 7.11), and the counts of all entries, REJECT entries and
SAFE_LOW and SAFE_HIGH clamps applied. -/
structure CfgLog where
  entries : List (List Byte)
  total : Nat
  rejects : Nat
  safe : Nat
  deriving DecidableEq, Repr

def CfgLog.empty : CfgLog := ⟨[], 0, 0, 0⟩

/-- Profiles: the planes in force on the sensing die and the signal die, and the NETWORK
section in force; the shadow plane of a switch with its clamps and refused sections; who asked for the switch (1 a
command, 2 the planner), `PERSIST`, its start (run time), the first head that does not meet the commit condition, and
whether the signal die has exchanged its planes; the sections that have loaded since the reset; the start of WAITING (run time), from the exchange on its length in ns; the fibres whose sensing sections have changed, and the first cycle of fibre 0 under them; the two clamp logs; the bytes of the transfer under way. -/
structure CfgSys where
  sens : Plane
  sig : Plane
  net : Plane
  shadow : Option Plane
  asker : Nat
  persist : Bool
  startAt : Nat
  waitFirst : Nat
  waitAt : Nat
  probed : List Nat
  firstCycle : Nat
  exchanged : Bool
  loaded : List Nat
  shadowClamps : Nat
  shadowRefused : Nat
  logActive : CfgLog
  logLast : CfgLog
  xfer : List Byte
  inFamily : Bool
  deriving DecidableEq, Repr

def CfgSys.reset : CfgSys where
  sens := .profileF
  sig := .profileF
  net := .profileF
  shadow := none
  asker := 0
  persist := false
  startAt := 0
  waitFirst := 0xFF
  waitAt := 0
  probed := []
  firstCycle := 0
  exchanged := false
  loaded := []
  shadowClamps := 0
  shadowRefused := 0
  logActive := .empty
  logLast := .empty
  xfer := []
  inFamily := false

/-! ### Timebase, probe and PPS (02_probe_and_timebase.md) -/

/-- The timebase beyond its registers: the crystal declared failed until the next cold reset (R60), whether a lock
to `REF_IN` has been reached (R55), the state that the lock in progress leads to and whether it is direct, the
frozen correction and the start of the holdover (R58); since when lock is lost (run time), and when it last returned (R106). -/
structure Timebase where
  xoFailed : Bool
  everRef : Bool
  target : Nat
  targetDirect : Bool
  frozen : Int
  holdSince : Nat
  noLock : Option Nat
  lockAt : Nat
  deriving DecidableEq, Repr

def Timebase.reset : Timebase := ⟨false, false, 0, false, 0, 0, none, 0⟩

/-- A shot of a probe cycle (R61, R62): tone, start and length in ns from the cycle start, down-chirp, taper as
`PRB_CHIRPf.TAPER` codes it, amplitude as a fraction of full scale. -/
structure Shot where
  tone : Nat
  start : Nat
  len : Nat
  down : Bool
  taper : Nat
  amp : Rat
  deriving DecidableEq, Repr

/-- The outputs of Table 2.5: SOA gate, Raman trigger, modulator DACs. -/
inductive ProbePin where
  | soa | rmn | dac
  deriving DecidableEq, Repr

/-- An event of Table 2.5: when, in 0.5 ns from the cycle start, on which output, and whether it starts or ends it. -/
structure PinEvent where
  half : Int
  pin : ProbePin
  rise : Bool
  deriving DecidableEq, Repr

/-- A trace that has been fired and neither processed nor lost (R102, R103): its cycle, the run time of the cycle start, the shots
fired, whether the fibre was in FULL, its window and the window of its Raman trace in 1/8 ns of run time (none once that trace has been
processed or lost, or where there is none). -/
structure TraceRec where
  cycle : Nat
  fired : Nat
  plan : List Shot
  full : Bool
  win : Option (Int × Int)
  rwin : Option (Int × Int)
  deriving DecidableEq, Repr

/-- A fibre's emission beyond its registers (R66-R76): cycles started since reset, consecutive passes, a check
without result, burst cycles still to fire, the end of the last burst's cycles (run time, R72), the way into FULL at the next boundary (0 none; 1-3 the reason of
`APR_EXIT`), the last continuity confirmation, a waveform bank that failed its check, and the tones and the Raman
pulse fired in the cycle under way, the start of the present stay in APR, and the start of the cycle in run time and in device
time; the shots and pin events of the cycle under way (Table 2.5); the tones whose playback copy is spoilt (R63); a burst that
waits for the laser (R73); the laser ready (R70); the ready window; the active and the shadow bank of waveform memory, one
shot a tone (R63); the traces on their way. -/
structure Fibre where
  started : Nat
  passes : Nat
  check : Bool
  burst : Nat
  burstEnd : Nat
  toFull : Nat
  confirmed : Nat
  badBank : Bool
  shots : Nat
  raman : Bool
  aprSince : Nat
  startedAt : Nat
  startDev : Nat
  plan : List Shot
  pins : List PinEvent
  spoilt : Nat
  want : Bool
  ready : Bool
  win : Nat × Nat
  bank : List Shot
  shadow : List Shot
  traces : List TraceRec
  deriving DecidableEq, Repr

def Fibre.reset : Fibre := ⟨0, 0, false, 0, 0, 0, 0, false, 0, false, 0, 0, 0, [], [], 0, false, false, (0, 0), [], [], []⟩

/-- `PPS_IN` and `PPS_OUT` beyond their registers (R79-R82): last edge, counting edges, last accepted edge (run
time), the extra edges of the last 10 s, the `PPS_OUT` level and its last rise. -/
structure PpsSys where
  lastEdge : Option Nat
  count : Nat
  lastOk : Option Nat
  extras : List Nat
  outPin : Bool
  lastRise : Option Nat
  deriving DecidableEq, Repr

def PpsSys.reset : PpsSys := ⟨none, 0, none, [], false, none⟩

/-! ### Acoustic channels (04_acoustic_channels.md) -/

/-- A zone (R127, R128, R136): its state of Table 4.4, flags, counters, the would-be openings of the last 6 s (run time), and of the
present storm the suppressed openings, its start and its reason. -/
structure Zone where
  state : Nat
  degraded : Bool
  storm : Bool
  opens : Nat
  suppr : Nat
  openTimes : List Nat
  stormSuppr : Nat
  stormSince : Nat
  stormWhy : Nat
  deriving DecidableEq, Repr

def Zone.reset : Zone := ⟨0, false, false, 0, 0, [], 0, 0, 0⟩

/-- An open event (R134, R135): place, detector, band, id (the sequence number of its `EVENT_OPEN`), opening time in
device time and run time, the peak since the last heartbeat, the maximum level, its cells, and when one of them was last active (run
time). -/
structure AcuEvent where
  fibre : Nat
  zone : Nat
  det : Nat
  band : Nat
  id : Nat
  openDev : Nat
  openUp : Nat
  bin : Nat
  extent : Nat
  level : Nat
  maxLevel : Nat
  first : Nat
  last : Nat
  activeAt : Nat
  deriving DecidableEq, Repr

/-- The states of a track (R137). -/
inductive TrackState where
  | tentative | confirmed | coasting
  deriving DecidableEq, Repr

/-- A track (R137-R140): position cm, speed 0.01 m/s, run times of the start of its present state and of its last `TRACK_UPDATE`
record; the last position from associated clusters with its time, from which coasting predicts; since when it has been associated at a
speed inside the gate; whether it has been confirmed. -/
structure Track where
  id : Nat
  state : TrackState
  zone : Nat
  pos : Int
  speed : Int
  since : Nat
  lastRec : Nat
  base : Int
  baseAt : Nat
  gateSince : Option Nat
  confirmed : Bool
  deriving DecidableEq, Repr

/-- A fibre's acoustic state beyond its registers: consecutive shots with a cliff, whether a reference profile
exists (R141), since when FULL traces have come without one (run time), the tracks, the next track id (R139), pairs of tracks that
stay close (R137), the candidates refused in the last second and the last `TRACK_LIMIT` (run time); on their way to the front-end die,
a continuity confirmation (R143) and an open end with its bin (R141); the last track update (run time). -/
structure AcuFibre where
  cliffs : Nat
  profile : Bool
  fullSince : Option Nat
  tracks : List Track
  nextId : Nat
  pairs : List (Nat × Nat × Nat)
  refused : List Nat
  limitAt : Option Nat
  confirm : Bool
  openSent : Option Nat
  trackedAt : Nat
  deriving DecidableEq, Repr

def AcuFibre.reset : AcuFibre := ⟨0, false, none, [], 1, [], [], none, false, none, 0⟩

/-- One bin of a zone in processing (R123-R125, R132, R164): |d| of the products of the last second (run time, look 2k + p); the strong
samples of the last 0.25 s (run time, tone, phase in turns); the aligned phase of the last strong sample, the weak samples since and the
NOREF marks of those not yet settled; per band the filter's last inputs and outputs; the strain summed up, in nanostrain; the last settled
sample (phase in turns and rate in pε/s, none: dead); per shot of the last second the dead and all samples settled (run time). -/
structure BinProc where
  mags : List (Nat × Nat × Rat)
  strong : List (Nat × Nat × Rat)
  prev : Option Rat
  weak : Nat
  marks : List Bool
  bands : List (List Rat × List Rat)
  strain : Rat
  last : Option (Rat × Rat)
  settled : List (Nat × Nat × Nat)
  deriving DecidableEq, Repr

def BinProc.fresh : BinProc := ⟨[], [], none, 0, [], [], 0, none, []⟩

/-- A cell level (R132): the level in 0.01 dB, none where the cell is dead; and the gap mark (R130). -/
structure Level where
  level : Option Nat
  gap : Bool
  deriving DecidableEq, Repr

/-- A cluster of active cells (R134): first and last cell, since when it persists (run time), and whether it has opened an event or been
suppressed (R136). -/
structure ClusterRun where
  first : Nat
  last : Nat
  since : Nat
  tried : Bool
  deriving DecidableEq, Repr

/-- A detector at work (R134): which cells are active, and its clusters. -/
structure DetProc where
  det : Nat
  active : List Bool
  clusters : List ClusterRun
  deriving DecidableEq, Repr

/-- Bin-samples of a shot (R128): dead, NOREF, either, all. -/
structure Tally where
  dead : Nat
  noref : Nat
  bad : Nat
  all : Nat
  deriving DecidableEq, Repr

/-- A zone in processing: its bins; per shot of the integration time (run time) and band the sum of squares and the count of each
cell; per shot of the last second the dead and all bin-samples of each cell (R168), and the tallies; the gaps; the FULL traces processed since it settles, in ns; the levels
of the map intervals per band and cell, newest first (R132, R134); its detectors. -/
structure ZoneProc where
  bins : List BinProc
  sums : List (Nat × List (List (Rat × Nat)))
  dead : List (Nat × List (Nat × Nat))
  tally : List (Nat × Tally)
  gaps : List Nat
  seen : Nat
  levels : List (Nat × List (List Level))
  dets : List DetProc
  deriving DecidableEq, Repr

def ZoneProc.reset : ZoneProc := ⟨[], [], [], [], [], 0, [], []⟩

/-- A fibre in processing: the running mean of the reference's differential phase per tone in turns (R120), |d| of the products of its
reference section over the last second (run time, look 2k + p, bin), its accumulated phase (R164), when it was LOST (run time, R168); the shots of the last second (run time, NOREF, overranged); the
reference profile per 64-bin cell (R141); the bin powers of the last shot; the powers of guard and far bins of the last second (run
time) and since when their margin exceeds 13 dB (R145); the check burst: shots, tone 0 power per bin, noise (R144). -/
structure AcoFibre where
  refMean : List (Nat × Rat)
  refMags : List (Nat × Nat × Nat × Rat)
  refBin : BinProc
  refLost : Option Nat
  shots : List (Nat × Bool × Bool)
  prof : List Rat
  lastShot : List Rat
  alias_ : List (Nat × Rat × Rat)
  aliasOk : Option Nat
  burst : Nat × List Rat × Rat
  deriving DecidableEq, Repr

def AcoFibre.reset : AcoFibre := ⟨[], [], .fresh, none, [], [], [], [], none, (0, [], 0)⟩

/-- A raw window (R151): fibre, zone, first bin, length in bins, and format RATE. -/
structure RawWindow where
  fibre : Nat
  zone : Nat
  first : Nat
  len : Nat
  rate : Bool
  deriving DecidableEq, Repr

/-- An approach link (R146-R148): uncovered; since when it has been healthy and untriggered; on the signal die, when
the last permit after the last revoke arrived; and a permit or a revoke on its way over the die link. -/
structure Link where
  uncovered : Bool
  okSince : Option Nat
  permitAt : Option Nat
  permitOut : Bool
  revokeOut : Bool
  deriving DecidableEq, Repr

def Link.reset : Link := ⟨false, none, none, false, false⟩

/-! ### Coherent acquisition (03_coherent_acquisition.md) -/

/-- A channelizer beyond `ACQ_CHZ.STATE` (R97-R99): the fibre and incumbent of the handover in progress and the trace
it compares, and a mismatch not yet settled: the incumbent, the cycle compared, and whether the unit has passed its
logic BIST since. -/
structure Chz where
  fibre : Nat
  incumbent : Nat
  trace : Nat
  suspect : Option (Nat × Nat)
  passed : Bool
  deriving DecidableEq, Repr

def Chz.reset : Chz := ⟨0, 0, 0, none, false⟩

/-- A fibre's acquisition beyond its registers: no longer served for want of channelizers (R100); since when the coherent and the
Raman Landing drop, and when each last ended a drop (R105, run time); when the fibre's channelizer failed (R99). -/
structure AcqFibre where
  unserved : Bool
  drop : Option Nat
  rdrop : Option Nat
  dropEnd : Nat
  rdropEnd : Nat
  failAt : Option Nat
  deriving DecidableEq, Repr

def AcqFibre.reset : AcqFibre := ⟨false, none, none, 0, 0, none⟩

/-- The four corrections of R108 in the units of their registers, unrounded: gain and phase 1e-5, skew 0.01 ps, DC 1/16 code. -/
structure IqCoef where
  gain : Rat
  phase : Rat
  skew : Rat
  dcI : Rat
  dcQ : Rat
  deriving DecidableEq, Repr

def IqCoef.zero : IqCoef := ⟨0, 0, 0, 0, 0⟩

/-- An I/Q estimator beyond its registers (R109, R110): the coefficients reached, those to apply at the next cycle start, the run
times of its start and of its last estimate, since when its estimate lies within range while in HOLD, and since when the rejection
lies below 50 dB. -/
structure Iq where
  cur : IqCoef
  next : Option IqCoef
  start : Nat
  last : Nat
  okSince : Option Nat
  lowSince : Option Nat
  deriving DecidableEq, Repr

def Iq.reset : Iq := ⟨.zero, none, 0, 0, none, none⟩

/-- The overrange of a converter since its last record (R114): first cycle, traces, longest run; and the run time of that record. -/
structure Ovr where
  first : Nat
  traces : Nat
  run : Nat
  recAt : Option Nat
  deriving DecidableEq, Repr

def Ovr.reset : Ovr := ⟨0, 0, 0, none⟩

/-- The armed snapshot (R118): group and offset as `ACQ_SNAP_CTL` had them at `ARM`, and the cycle being captured with the run time at
which the capture starts. -/
structure Snap where
  fibre : Nat
  raman : Bool
  ofs : Nat
  capture : Option (Nat × Nat)
  deriving DecidableEq, Repr

def Snap.reset : Snap := ⟨0, false, 0, none⟩

/-! ### Temperature (05_temperature.md) -/

/-- A fused cell (R163-R169): its state of Table 5.3, offset O_c in K, the coil temperature at t0 in K, the latest drift
kappa Phi_c - kappa_R Phi_ref in nanostrain, last reported T_F in mK, sigma in 0.1 mK, whether the last second had a gap, the latest
mean Raman temperature in mK, SUSPECT with the consecutive updates beyond or within the threshold, and when phase continuity was lost
(run time); the samples (drift, coil temperature) of the present second, the means of the seconds of the averaging interval (run time),
and the updates of the last 24 h at which it was FUSED and not SUSPECT (run time, R_c in K, strain). -/
structure Cell where
  state : Nat
  offset : Rat
  coil0 : Rat
  raw : Rat
  tf : Option Int
  sigma : Nat
  gap : Bool
  rbar : Option Int
  suspect : Bool
  streak : Nat
  lostAt : Nat
  acc : List (Rat × Rat)
  hist : List (Nat × Rat × Rat)
  fits : List (Nat × Rat × Rat)
  deriving DecidableEq, Repr

def Cell.reset : Cell := ⟨0, 0, 0, 0, none, 0, false, none, false, 0, 0, [], [], []⟩

/-- A bin of a Raman trace (R91, R155): anti-Stokes, Stokes, and whether the bin carries the overrange flag. -/
structure RamanBin where
  as : Rat
  st : Rat
  ovr : Bool
  deriving DecidableEq, Repr

/-- A fibre's Raman processing (R155-R162): dark levels, when they were last taken (run time) and whether `RAMAN_DARK`
holds; the rising edge of the last Raman pulse, and the ends of the windows of its trace and of the one before, in 1/8 ns of run time;
the cycle starts of the pulses fired in the last 600 s and the traces delivered whole (run time of the cycle start); the last anchor's
time, its instrument constant (R159), the start of HOLD; the last gamma estimates (R161, K, newest first); whether a profile has been
formed and its valid bins in mK (every other bin is NODATA); the updates of the last 24 h (run time). -/
structure TmpFibre where
  darkAs : Rat
  darkSt : Rat
  darkAt : Nat
  dark : Bool
  edge : Option Int
  winEnd : Int
  prevEnd : Int
  fired : List Nat
  traces : List (Nat × List RamanBin)
  anchorAt : Option Nat
  const : Rat
  holdSince : Nat
  gammas : List Rat
  have_ : Bool
  profile : List (Nat × Int)
  updates : List Nat
  deriving DecidableEq, Repr

def TmpFibre.reset : TmpFibre := ⟨0, 0, 0, false, none, 0, 0, [], [], none, 0, 0, [], false, [], []⟩

/-- A value that an auxiliary channel has delivered (R160, R176): when (run time), in mK, none where it is not valid, and suspect. -/
structure AuxValue where
  at_ : Nat
  value : Option Int
  suspect : Bool
  deriving DecidableEq, Repr

/-- An auxiliary channel beyond its registers: outputs still to discard (R175), outputs lost while open, the last
`AUX_TABLE` record (run time, R177), the values of the last 600 s, the time of the last output, compliance with its start and end (run
time, R173), the flagged outputs of the last second (run time, negative) and the last `AUX_OVERRANGE` (R180). -/
structure AuxCh where
  discard : Nat
  lost : Nat
  tableAt : Option Nat
  vals : List AuxValue
  lastOut : Option Nat
  compl : Option (Nat × Option Nat)
  ovrs : List (Nat × Bool)
  ovrAt : Option Nat
  deriving DecidableEq, Repr

def AuxCh.reset : AuxCh := ⟨0, 0, none, [], none, none, [], none⟩

/-! ### The store die (chapters 7, 12 and 13) -/

/-- A profile slot (R230): 0 EMPTY, 1 WRITING, 2 VALID, 3 INVALID, and the container it holds. -/
structure Slot where
  state : Nat
  bytes : List Byte
  deriving DecidableEq, Repr

def Slot.reset : Slot := ⟨0, []⟩

/-! ### The Gallery and self-test (chapters 6 and 13) -/

/-- A task (R185, Table 6.3): class code, fibre, declared load in 0.1 %, engine, and 1 running, 2 moving, 3 no engine. -/
structure GalTask where
  cls : Nat
  fibre : Option Nat
  load : Nat
  engine : Nat
  state : Nat
  deriving DecidableEq, Repr

def GalTask.none : GalTask := ⟨0, Option.none, 0, 0, 0⟩

/-- A planned move (R189, R190): task, incumbent, candidate, reason (1 planner, 2 rotation), the cycle n of its first
step once it has begun, and whether `MOVE_DEFERRED` has been recorded. -/
structure Move where
  task : Nat
  src : Nat
  dst : Nat
  reason : Nat
  begun : Option Nat
  deferred : Bool
  deriving DecidableEq, Repr

/-- A mismatch not yet settled (R191): candidate, incumbent, first mismatching cycle, and whether the candidate has
passed logic BIST since. -/
structure Suspect where
  cand : Nat
  inc : Nat
  cycle : Nat
  passed : Bool
  deriving DecidableEq, Repr

/-- The Gallery beyond its registers: Iadon's engine numbers 0-15 on physical engines (R187), tasks, the waiting or
running move, mismatches, tasks to restart (R192), consecutive runs that met the lowering threshold, the last planner
run (run time), the highest utilisation of each unit since it (0.1 %, R198), that of the day under way and those of the last 30
days (R401), the last ten utilisation windows of each
unit, the last `SLACK_LOW` of each unit, a requested channelizer handover, a core supply measured low or switched off
(R201), whether the housekeeper has failed (Table 13.2), the engine that a rotation step vacates (R389), the planner's moves in
force with the FABRIC section they belong to (R194), whether too few engines remain to run any sensing (R187), the run time of
the last change of the Stair (R199), and per channelizer the highest utilisation of its last CANDIDATE or BIST run (R195). -/
structure Gal where
  map : List Nat
  tasks : List (Nat × GalTask)
  move : Option Move
  suspects : List Suspect
  restore : List Nat
  okRuns : Nat
  planAt : Nat
  peaks : List (Nat × Nat)
  dayPeak : List (Nat × Nat)
  dayPeaks : List (List (Nat × Nat))
  wins : List (Nat × List Nat)
  lowAt : List (Nat × Nat)
  handover : Option (Nat × Nat)
  stairLow : Bool
  stairOff : Bool
  hkFailed : Bool
  vacate : Option Nat
  moved : List (Nat × Nat)
  fabric : List (PKey × Int)
  tooFew : Bool
  stairAt : Option Nat
  chzRun : List (Nat × Option Nat)
  deriving DecidableEq, Repr

def Gal.reset : Gal := ⟨List.range 16, [], Option.none, [], [], 0, 0, [], [], [], [], [], Option.none, false, false, false, Option.none, [], [], false, Option.none, []⟩

/-- A unit under logic BIST (R385-R394): slices passed and repeated in the current test, whether a test is under way and
by short slices, the state of `TST_UNIT`, the last pass and the start of the test (run time), the interruptions since
the last `BIST_INTERRUPTED` and its time, the life counts of the ledger (Table 13.7 area 6), the earliest run time of its next
slice (R386, R389, R391), and whether a mismatch has sent it to UNDER_TEST until its whole test passes (R98, R191). -/
structure BistUnit where
  slices : Nat
  repeated : Nat
  active : Bool
  short : Bool
  state : Nat
  lastPass : Option Nat
  since : Nat
  intr : Nat
  intrAt : Option Nat
  passes : Nat
  fails : Nat
  intrs : Nat
  holdTo : Nat
  must : Bool
  deriving DecidableEq, Repr

def BistUnit.reset : BistUnit := ⟨0, 0, false, false, 0, Option.none, 0, 0, Option.none, 0, 0, 0, 0, false⟩

/-- Self-test beyond its registers: the units, the fibre whose channelizer is handed over next (R390), the unit that
`TST_CMD` asks for, when the intervals of the engine and of the channelizer rotation began, and the start of the last slice of a
signal-die unit (run time, R389, R390, R393). -/
structure Bist where
  units : List (Nat × BistUnit)
  turn : Nat
  want : Option Nat
  rotAt : Nat
  chzAt : Nat
  sigAt : Option Nat
  deriving DecidableEq, Repr

def Bist.reset : Bist := ⟨[], 0, Option.none, 0, 0, Option.none⟩

/-! ### Lamps and heads (08_aspects_and_drive.md, 09_lamp_proving.md) -/

/-- A fall of level under way (R251): duty count at its start, the count it leads to, the steps applied, the ramp time in ms, and when
step 1 was applied (run time). -/
structure Ramp where
  old : Nat
  new : Nat
  k : Nat
  ms : Nat
  first : Option Nat
  deriving DecidableEq, Repr

/-- A lamp channel beyond its registers (R249-R253): the lamp code commanded and its flash group, the code in force at the
gate, whether it is in a flash on-phase, the duty count of the next period start, a ramp, a test pattern (R292), when the
on-phase in progress ends (run time), the consecutive on-phases below and within the regulator's limits (R243), and the on-edge from
which its PWM periods count while it flashes, and the on-edge of the last on-phase (run time, R253, R279). -/
structure Chan where
  code : Nat
  group : Nat
  applied : Nat
  flashOn : Bool
  pend : Option Nat
  ramp : Option Ramp
  pattern : Bool
  gateUntil : Nat
  low : Nat
  ok : Nat
  edge : Option Nat
  onAt : Nat
  deriving DecidableEq, Repr

def Chan.reset : Chan := ⟨0, 0, 0, false, none, none, false, 0, 0, 0, none, 0⟩

/-- A flash rhythm (R252, R254; key 2 g + 1 for FLASH_ANTI): on-phase in progress, re-phasing, end of the last on-phase, and when the
on-phase that a re-phasing met completes (run time). -/
structure Flash where
  on : Bool
  rephase : Bool
  endedAt : Nat
  until_ : Nat
  deriving DecidableEq, Repr

def Flash.reset : Flash := ⟨false, false, 0, 0⟩

/-- A change of aspect in progress (R260): target, cause of Table 8.10, start (run time), number of steps, and the steps
still to apply: positions with their new codes. -/
structure HChange where
  target : Nat
  cause : Nat
  t0 : Nat
  total : Nat
  rest : List (List (Nat × Nat))
  deriving DecidableEq, Repr

/-- A head (R257-R264): aspect shown (0x10 DARK, 0x1F none), change in progress, resolved demand with its source and slot,
the latest Bornak or substitute value (value, source, slot) and command value, the held demand with the cause of its change,
the start of the last change, fallback with its aspect, the level applied, consent of its payload (R292), and the counters
of `LMP_HCNT`. The level set and the standby state are in `LMP_NIGHT` and `LMP_STBY`. -/
structure Head where
  shown : Nat
  change : Option HChange
  demand : Nat
  dsrc : Nat
  dslot : Nat
  bor : Option (Nat × Nat × Nat)
  cmd : Option Nat
  held : Option Nat
  heldCause : Nat
  lastStart : Option Nat
  fallback : Bool
  goal : Option Nat
  level : Nat
  consent : Bool
  changes : Nat
  coalesced : Nat
  deriving DecidableEq, Repr

def Head.reset : Head := ⟨0x1F, none, 0x1F, 0, 0xFF, none, none, none, 0, none, false, none, 0, false, 0, 0⟩

/-- A channel's proving beyond its registers (R279-R289): failing runs of lit samples, of dark samples by current and by
drain, and of cold tests; coupling runs with channels n - 1 and n + 1; causes recorded in the present failure and its start;
causes whose latest check failed; since when every check has passed; when the channel became lit and entered its state (run
time); last completion per test kind, absorptions since, and overdue kinds; the last lit code; time of the last calibration
per path and whether it was discarded. -/
structure Prv where
  run : Nat
  stuck : Nat
  dopen : Nat
  cold : Nat
  nbrLo : Nat
  nbrHi : Nat
  found : List Nat
  failAt : Nat
  bad : List Nat
  goodSince : Option Nat
  litSince : Nat
  since : Nat
  done : List (Nat × Nat)
  absSince : Nat
  ovd : List Nat
  lastLit : Option Int
  calLs : Option Nat
  calLd : Option Nat
  badLs : Bool
  badLd : Bool
  gainLd : Int
  ofsLd : Int
  litAt : Option Nat
  darkAt : Option Nat
  slots : List (Nat × Nat)
  deriving DecidableEq, Repr

def Prv.reset : Prv :=
  ⟨0, 0, 0, 0, 0, 0, [], 0, [], none, 0, 0, [], 0, [], none, none, none, false, false, 0, 0, none, none, []⟩

/-- A lamp bank: its supply (R287), as the last capture in codes, the consecutive captures below the threshold, since when it has been
1 V above it, when it was lost; and the last start of its PWM period (run time, R246). -/
structure LampBank where
  volt : Int
  below : Nat
  okSince : Option Nat
  lostAt : Nat
  start : Option Int
  deriving DecidableEq, Repr

def LampBank.reset : LampBank := ⟨0, 0, none, 0, none⟩

/-- A supervision converter (R268-R275): consecutive bad check conversions, the paths that failed calibration with their
times, the reference configured, skipped triggers not yet recorded; and the times of the last change of reference, of the last
record of skipped triggers and of the last calibration window. -/
structure SupConv where
  badCheck : Nat
  calFails : List (Nat × Nat)
  ref : Nat
  skipped : Nat
  refAt : Nat
  missAt : Option Nat
  calAt : Option Nat
  deriving DecidableEq, Repr

def SupConv.reset : SupConv := ⟨0, [], 0, 0, 0, none, none⟩

/-- A user slot (R269, R270): last code, overrange, SETTLING and out-of-band flags, the run of results on the other side,
whether it runs, when its section was loaded, and the trigger of the last capture (run time). -/
structure SupSlot where
  code : Int
  ovr : Bool
  settling : Bool
  out : Bool
  run : Nat
  active : Bool
  loadedAt : Nat
  last : Option Nat
  deriving DecidableEq, Repr

def SupSlot.reset : SupSlot := ⟨0, false, false, false, 0, false, 0, none⟩

/-- The matrix test (R293): the channels still to drive, the couplings found per driven channel, and when the drive under way began. -/
structure Matrix where
  left : List Nat
  coupled : List (Nat × Nat)
  since : Nat
  deriving DecidableEq, Repr

def Matrix.reset : Matrix := ⟨[], [], 0⟩

/-! ### Safety inputs, outputs and brakes (10_safety_io.md) -/

/-- A test-pulse source (R303): consecutive bad and good periods of its readback, the run time of the overload or of the last retry, and the
pulse whose readback was judged last. -/
structure Tpo where
  bad : Nat
  good : Nat
  overload : Option Nat
  seen : Option Nat
  deriving DecidableEq, Repr

def Tpo.reset : Tpo := ⟨0, 0, none, none⟩

/-- A safety input beyond its registers (R304-R308): the logical state without faults, its last captures (source, level;
oldest first), consecutive valid patterns, the run times of the transitions of the filtered level, of the last change of the sample and
of the filtered level, and the mask end at which each source's last capture was judged (run time + 1). -/
structure SIn where
  on : Bool
  caps : List (Nat × Bool)
  valid : Nat
  trans : List Nat
  rawAt : Nat
  filtAt : Nat
  judged : List (Nat × Nat)
  deriving DecidableEq, Repr

def SIn.reset : SIn := ⟨false, [], 0, [], 0, 0, []⟩

/-- A safety output beyond its registers (R309-R313): the stage commanded on, its last switching (run time), awaiting a
restart, the start of a press of the restart input, that input's last state, faults present, consecutive high readbacks of
the off stage, the last two samples of `EDMo` (newest first), the four parts of its condition (mode, no lock, permit,
demand) at the last evaluation, the last readback sample in 100 mV, the samples of the off stage since the cut-off switch
closed, up to 2, and the last off-test (run time). -/
structure SOut where
  stage : Bool
  switchedAt : Nat
  armed : Bool
  rstOn : Option Nat
  rstPrev : Bool
  stuck : Bool
  overload : Bool
  welded : Bool
  edmLost : Bool
  stuckN : Nat
  edm : List Bool
  prev : Bool × Bool × Bool × Bool
  mv : Nat
  seen : Nat
  testAt : Nat
  deriving DecidableEq, Repr

def SOut.reset : SOut :=
  ⟨false, 0, true, none, false, false, false, false, false, 0, [], (false, false, false, false), 0, 0, 0⟩

/-- A brake channel beyond its registers (R314-R317): last gate change (run time), faults present, the switch that is stuck
(1 high-side, 2 low-side, 0 none), consecutive failed tests and one of them at F3, lapsed, a test asked for, the test in
progress (start, position, largest movement), since when a release waits for the torque-off delay, the last
passed test, the position counts of the last 100 ms (run time, position), whether the current is still to be checked after the last gate
change, and the run times of the last switch test and of the last completed brake test (or of the load that put the channel in use). -/
structure Brake where
  changedAt : Nat
  notReleased : Bool
  notApplied : Bool
  swStuck : Nat
  fails : Nat
  testF3 : Bool
  lapsed : Bool
  want : Bool
  test : Option (Nat × Int × Int)
  pend : Option Nat
  passAt : Option Nat
  moves : List (Nat × Int)
  decay : Bool
  swAt : Nat
  doneAt : Nat
  deriving DecidableEq, Repr

def Brake.reset : Brake := ⟨0, false, false, 0, 0, false, false, false, none, none, none, [], false, 0, 0⟩

/-- The degraded timer (R318): its deadline (run time) while it runs, its start, the first condition (code, source), expired,
and the seconds kept over a warm reset with the run time until which they count. -/
structure Deg where
  deadline : Option Nat
  start : Nat
  first : Nat × Nat
  expired : Bool
  kept : Option (Nat × Nat)
  deriving DecidableEq, Repr

def Deg.reset : Deg := ⟨none, 0, (0, 0), false, none⟩

/-- The safety I/O as a whole: test-pulse sources, inputs, since when pairs disagree, outputs, brakes, Bornak demand bits of
outputs and brakes, the peer's last accepted values (8 bytes, Table 11.10) with their time, comparison lost, a CUTOFF fault,
`SAFE_OUT` pulse groups (N of the last, number shown), the `RST_STUCK` indication, the degraded timer; the run times at which the test
pattern began, of the last cut-off test since the switch closed and of the last pulse group; since when each item differs from the peer's
(32 class + index), and since when all match. -/
structure Sio where
  tpos : List (Nat × Tpo)
  ins : List (Nat × SIn)
  disagree : List (Nat × Nat)
  outs : List (Nat × SOut)
  brks : List (Nat × Brake)
  outDemand : Nat
  brkDemand : Nat
  peer : Option (List Byte)
  peerAt : Nat
  peerLost : Bool
  cutFault : Bool
  soShown : Nat
  soGroups : Nat
  indicate : Bool
  deg : Deg
  pattern : Option Nat
  cutAt : Option Nat
  soAt : Option Nat
  diffs : List (Nat × Nat)
  matchAt : Option Nat
  deriving DecidableEq, Repr

def Sio.reset : Sio := ⟨[], [], [], [], [], 0, 0, none, 0, false, false, 0, 0, false, .reset, none, none, none, [], none⟩

/-! ### Network, time and Bornak (11_network_and_bornak.md) -/

/-- A master heard by Announce (R331): its clock identity (8 octets), the data set it announces in comparison order, whether it announces
the PTP timescale, its announce interval as octet 33 of its message codes it, and when it was last heard (run time). -/
structure Master where
  ident : List Byte
  rank : List Nat
  tai : Bool
  every : Nat
  heard : Nat
  deriving DecidableEq, Repr

/-- Device time beyond its registers (R331-R334): masters heard, the one chosen, the identity last chosen, the last offset in
ns, consecutive offsets outside 1 us, ns still to slew into device time, when the master was lost (run time), and the frozen
frequency error in ppb; the mean path delay in ns; of the last Sync its time at the master and in device time; the device time at which
the last Delay_Req left, and its sequence number; when it left (run time), the interval that the master's last Delay_Resp requests as its
octet 33 codes it, and since when the offsets have lain within 1 us (run time, R332). -/
structure TimeSync where
  masters : List Master
  chosen : Option Master
  ident : List Byte
  ofs : Int
  out : Nat
  slew : Int
  lostAt : Nat
  ferr : Nat
  delay : Int
  sync : Option (Int × Int)
  reqAt : Option Int
  reqSeq : Nat
  reqUp : Option Nat
  reqEvery : Option Nat
  inSince : Option Nat
  deriving DecidableEq, Repr

def TimeSync.reset : TimeSync := ⟨[], none, [], 0, 0, 0, 0, 0, 0, none, none, 0, none, none, none⟩

/-- A datagram or frame given to the transmitter: class of Table 11.3, destination address and port, body; the Ethernet ports it leaves on,
and the sequence number of its redundancy control trailer, whose LAN is A on port 0 and B on port 1 (R330). -/
structure Sent where
  cls : Nat
  addr : List Byte
  port : Nat
  body : List Byte
  on : List Nat
  trailer : Option Nat
  deriving DecidableEq, Repr

/-- A hash chain (R368, R370): its value, the value before the present seal interval, and the first and last sequence and the
count of what the interval holds. -/
structure Chain where
  c : List Byte
  before : List Byte
  first : Nat
  last : Nat
  count : Nat
  deriving DecidableEq, Repr

def Chain.reset : Chain := ⟨[], [], 0, 0, 0⟩

/-- The network beyond its registers: PRP entries (source address, trailer sequence, run time) and node table (R330), what has
been transmitted (the model's own, newest first, log entry 30), per destination and product (key 16 d + p) the next sequence
(Table 11.4), the chain, and the discards of the last second with the last TX_DROP (run time + 1); per destination the seal
counter; the unknown Bornak datagrams not yet recorded, and the last BNK_UNKNOWN (run time); the next trailer sequence number, and the
last PRP supervision frame (run time); per destination the last whole second of device time whose seal has been made or given up (R369). -/
structure Net where
  seen : List (Nat × Nat × Nat)
  nodes : List (Nat × Nat)
  sent : List Sent
  dseq : List (Nat × Nat)
  chains : List (Nat × Chain)
  drops : List (Nat × Nat)
  dropAt : List (Nat × Nat)
  seals : List (Nat × Nat)
  unk : Nat
  unkAt : Option Nat
  prpSeq : Nat
  supAt : Option Nat
  sealAt : List (Nat × Nat)
  deriving DecidableEq, Repr

def Net.reset : Net := ⟨[], [], [], [], [], [], [], [], 0, none, 0, none, []⟩

/-- A Bornak connection (R342-R348): consumer state of Table 11.12, the next sequence to send, the number of the next REQ and
its instant on the Bornak clock, the anchor's t_q and s_a, the last accepted sequence, the data in force with their sender
time, when DATA was last sent (run time) and with what payload; the counters of `BNK_CCNT0-2`; the counts since the last `BNK_ERRORS`
(CRC, stale, late, gaps, bad length); tag failures since the last `BNK_AUTH` and its run time; the run time of the last `BNK_ERRORS`. -/
structure Conn where
  state : Nat
  seq : Nat
  reqNo : Nat
  reqAt : Option Nat
  tq : Nat
  sa : Nat
  q : Nat
  data : Option (Nat × List Byte)
  txAt : Option Nat
  txLast : List Byte
  crc : Nat
  tag : Nat
  stale : Nat
  late : Nat
  gaps : Nat
  resyncs : Nat
  win : List Nat
  auth : Nat
  authAt : Option Nat
  errAt : Option Nat
  deriving DecidableEq, Repr

def Conn.reset : Conn := ⟨0, 0, 0, none, 0, 0, 0, none, none, [], 0, 0, 0, 0, 0, 0, [0, 0, 0, 0, 0], 0, none, none⟩

/-! ### The SPI host port (R350-R354) and the SPI seal (R370) -/

/-- The SPI port: the bytes of the last response, an access that waits for the reply of the signal die (R54), the chain of the
record path, the records taken since reset at the start of the interval, the latest seal, and a seal latched by a read of its
word 0 (run time, R370); when the second of the next seal began (run time). -/
structure Spi where
  out : List Byte
  waiting : Option (List Byte)
  chain : Chain
  taken : Nat
  sealNow : List Byte
  sealLatch : Option (Nat × List Byte)
  sealAt : Nat
  deriving DecidableEq, Repr

def Spi.reset : Spi := ⟨[], none, .reset, 0, [], none, 0⟩

/-! ### The Cloister (12_cloister_security.md) -/

/-- An envelope before the Cloister: its bytes, 1 SPI or 2 network, and for the network the reply's address, port and
request id. -/
structure Envelope where
  bytes : List Byte
  carrier : Nat
  addr : List Byte
  port : Nat
  req : Nat
  deriving DecidableEq, Repr

/-- The Cloister's own state: role keys and replay counters by role 1-4 (Table 12.3), the one-time-programmable counters other than
counter 1 (that is `CFG_ROLLBACK`), the life-cycle state of Table 12.9 with ARMED and the fuses of R378 (zeroisation pending,
seed blocked), the firmware images by number, the preferred and the running image, an image on trial and its starts, the
transfer under way, ROM recovery, the key store's state, the envelope being decided and those that
wait (R366), the last SPI reply, the reply data and result of the last operation, the carriers' last recorded refusal of results
1-4 (run time, R382). An image not listed is the factory's (log entry 31); an empty one reads invalid. -/
structure Cls where
  keys : List (Nat × List Byte)
  replay : List (Nat × Nat)
  otp : List (Nat × Nat)
  lc : Nat
  armed : Bool
  zeroPending : Bool
  seedBlocked : Bool
  images : List (Nat × List Byte)
  pref : Nat
  run : Nat
  confirmed : List Nat
  trial : Bool
  trials : Nat
  fw : List Byte
  fwLen : Nat
  rom : Bool
  storeOk : Bool
  deciding : Option Envelope
  waits : List Envelope
  reply : List Byte
  data : List Byte
  result : Nat
  refusedAt : List (Nat × Nat)
  deriving DecidableEq, Repr

/-- A part as it leaves the vendor (log entry 31): PROVISIONED, no role key, image 0 confirmed and preferred. -/
def Cls.reset : Cls :=
  ⟨[], [], [], 1, false, false, false, [], 0, 0, [0, 1], false, 0, [], 0, false, true, none, [], [], [], 0, []⟩

/-! ### Self-test, Lichen and the ledger (13_self_test_and_ageing.md) -/

/-- A Lichen monitor (R398-R400): the last hourly mean, its step, the drift in 0.01 % and the hour's mean junction temperature
in 0.1 C, and failed; the readings of the hour under way with their junction temperatures, newest first; and the daily normalised
values of the last 400 days, 0.01 %, newest first (Table 13.7 area 7); when it was last read (run time). -/
structure Monitor where
  val : Nat
  step : Nat
  drift : Int
  tj : Int
  failed : Bool
  hour : List (Nat × Int)
  daily : List Int
  readAt : Option Nat
  deriving DecidableEq, Repr

def Monitor.reset : Monitor := ⟨0, 0, 0, 0, false, [], [], none⟩

/-- The seal block last written (R405): complete, its reason and time, the degraded timer's remaining seconds (0xFFFF_FFFF
not running). -/
structure LedgerSeal where
  whole : Bool
  reason : Nat
  time : Nat
  deg : Nat
  deriving DecidableEq, Repr

/-- The lifetime counts of a lamp channel (R406): lit time in ns up to the last dark change, since when it has been lit (run
time), switching count, reference current in 0.1 mA, the last 24 monthly means (newest first); the sum and number of the month's
passing lit samples as codes; and the same for the reference, with the lit time at which it began. -/
structure LampLife where
  lit : Nat
  since : Option Nat
  switched : Nat
  ref : Option Nat
  means : List Nat
  month : Int × Nat
  first : Int × Nat
  refFrom : Nat
  deriving DecidableEq, Repr

def LampLife.reset : LampLife := ⟨0, none, 0, none, [], (0, 0), (0, 0), 0⟩

/-- The ledger (R402-R405): image sequence, spare pages left, kept ring
wrapped, power-on seconds up to the last power-on, its run time, seals completed and missing, the seal block not yet merged,
the degraded timer's remaining seconds as the latest image has them, daily values held, the last forecast with its recording
(date, run time), the daily highest junction temperature and that of the day under way, and the counts as the latest image has them: power-on seconds, lamp
channels, fault counts, slack histogram, unit counts; and the run times of the latest image, of the ends of the last hour and the last day
of the Lichen monitors, and of the last forecast computed (R398, R399, R401, R403). -/
structure Ledger where
  imageSeq : Nat
  spares : Nat
  wrapped : Bool
  poSecs : Nat
  poSince : Nat
  seals : Nat
  missing : Nat
  sealed : Option LedgerSeal
  imageDeg : Nat
  days : Nat
  fcast : Option (Nat × Nat)
  dayMax : List Int
  dayTop : Option Int
  imgPo : Nat
  imgLamps : List (Nat × LampLife)
  imgFaults : List (Nat × Nat)
  imgHist : List (Nat × Nat)
  imgUnits : List (Nat × BistUnit)
  imgAt : Nat
  hourAt : Nat
  dayAt : Nat
  foreAt : Option Nat
  deriving DecidableEq, Repr

def Ledger.reset : Ledger :=
  ⟨0, 120, false, 0, 0, 0, 0, none, 0xFFFFFFFF, 0, none, [], none, 0, [], [], [], [], 0, 0, 0, none⟩

/-! ### Supplies and temperature (15_electrical_and_package.md) -/

/-- The supplies beyond their registers: `VFIELD` has risen above the UVLO since the last indication, the indication given (run
time), dies above 125 C, and the sensing or front-end die stopped by temperature (R442); the last reading of each die, 0.1 C, and
whether HOLDUP_LOW has told of a charge not in time since the rise (R439). -/
structure Power where
  vfield : Bool
  lossAt : Option Nat
  hot : List Nat
  sensStop : Bool
  feStop : Bool
  reads : List (Nat × Int)
  holdLate : Bool
  deriving DecidableEq, Repr

def Power.reset : Power := ⟨false, none, [], false, false, [], false⟩


/-- The state of the block. -/
structure State where
  pending : List Instr
  regs : List (Nat × Word)
  latch : List (Nat × Word)
  freeCount : Nat
  clk : Clocks
  pins : Pins
  lnk : DieLink
  recs : RecSys
  flt : FaultSys
  due : Due
  md : ModeSys
  jrn : Journal
  cfg : CfgSys
  tb : Timebase
  fibs : List (Nat × Fibre)
  pps : PpsSys
  zones : List (Nat × Zone)
  events : List AcuEvent
  acu : List (Nat × AcuFibre)
  acos : List (Nat × AcoFibre)
  zprocs : List (Nat × ZoneProc)
  raws : List RawWindow
  links : List (Nat × Link)
  chzs : List (Nat × Chz)
  acqs : List (Nat × AcqFibre)
  iqs : List (Nat × Iq)
  ovrs : List (Nat × Ovr)
  snap : Snap
  cells : List (Nat × Cell)
  tmps : List (Nat × TmpFibre)
  auxs : List (Nat × AuxCh)
  dwell : Option Nat
  slots : List (Nat × Slot)
  gal : Gal
  bist : Bist
  stairStored : Option Nat
  repair : List (List Byte)
  hist : List (Nat × Nat)
  chans : List (Nat × Chan)
  flashes : List (Nat × Flash)
  heads : List (Nat × Head)
  prvs : List (Nat × Prv)
  banks : List (Nat × LampBank)
  sups : List (Nat × SupConv)
  uslots : List (Nat × SupSlot)
  matrix : Matrix
  sio : Sio
  ts : TimeSync
  net : Net
  conns : List (Nat × Conn)
  spi : Spi
  cls : Cls
  mons : List (Nat × Monitor)
  corr : List (Nat × List Nat)
  lamps : List (Nat × LampLife)
  led : Ledger
  pw : Power
  deriving DecidableEq, Repr

/-! ### The state at reset (R17; log entries name every value the spec does not state) -/

def Handler.idle : Handler := ⟨none, [], []⟩

/-- After power-on the part is in RESET (R413): every register at its reset value, every queue empty. -/
def State.reset : State where
  pending := []
  regs := []
  latch := []
  freeCount := 0
  clk := ⟨0, 0, 0, 0⟩
  pins := ⟨true, 0, true, true, false⟩
  lnk := ⟨false, 0, 0, 0⟩
  recs := ⟨0, 1, false, false, [], [], [], [], [], [], 0, none, [], []⟩
  flt := ⟨.idle, .idle, .idle, .idle, .idle, .idle, [], none⟩
  due := ⟨none, none, 0⟩
  md := ⟨.reset, 0, 0, false, none, 0, 0, 0, true, 1, (0, 0), [], false, false, 0, false, none, none, 0, 0⟩
  jrn := ⟨[], 0, [], [], []⟩
  cfg := .reset
  tb := .reset
  fibs := []
  pps := .reset
  zones := []
  events := []
  acu := []
  acos := []
  zprocs := []
  raws := []
  links := []
  chzs := []
  acqs := []
  iqs := []
  ovrs := []
  snap := .reset
  cells := []
  tmps := []
  auxs := []
  dwell := none
  slots := []
  gal := .reset
  bist := .reset
  stairStored := none
  repair := []
  hist := []
  chans := []
  flashes := []
  heads := []
  prvs := []
  banks := []
  sups := []
  uslots := []
  matrix := .reset
  sio := .reset
  ts := .reset
  net := .reset
  conns := []
  spi := .reset
  cls := .reset
  mons := []
  corr := []
  lamps := []
  led := .reset
  pw := .reset

end Sys2Proof.Machine
end

