-- ==== Sys2Proof/Machine/Bits.lean ====
section
/-! DEFINITION. Bit fields, byte orders, sign conversions, sparse tables and the two cyclic redundancy checks
(R9, R340, R350). -/

namespace Sys2Proof.Machine

/-! ### Register fields -/

/-- The width of a field in bits. -/
def Fld.width (f : Fld) : Nat := f.hi + 1 - f.lo

/-- The bits of a field. -/
def Fld.mask (f : Fld) : Word := BitVec.ofNat 32 ((2 ^ f.width - 1) * 2 ^ f.lo)

/-- The value of a field of a register word. -/
def Fld.read (f : Fld) (w : Word) : Nat := w.toNat / 2 ^ f.lo % 2 ^ f.width

/-- A register word with a field replaced; bits above the field's width are dropped. -/
def Fld.write (f : Fld) (v : Nat) (w : Word) : Word :=
  (w &&& ~~~ f.mask) ||| (BitVec.ofNat 32 (v * 2 ^ f.lo) &&& f.mask)

/-- A signed value as `n` bits of two's complement. -/
def ofSigned (n : Nat) (z : Int) : Nat := (z % (2 ^ n : Int)).toNat

/-- `n` bits read as two's complement. -/
def toSigned (n v : Nat) : Int := if v % 2 ^ n < 2 ^ (n - 1) then (v % 2 ^ n : Nat) else ((v % 2 ^ n : Nat) : Int) - 2 ^ n

/-- A value limited to `n` unsigned bits (saturating counters, R432 and its like). -/
def satU (n v : Nat) : Nat := min v (2 ^ n - 1)

/-- A value limited to `n` signed bits. -/
def satS (n : Nat) (z : Int) : Int := max (-(2 ^ (n - 1) : Int)) (min z (2 ^ (n - 1) - 1))

/-- 1 for true. -/
def b2n (b : Bool) : Nat := if b then 1 else 0

/-- Bit `i` of a number. -/
def bitOf (v i : Nat) : Bool := v / 2 ^ i % 2 = 1

/-- A number with bit `i` set or cleared. -/
def setBitOf (v i : Nat) (b : Bool) : Nat :=
  if bitOf v i = b then v else if b then v + 2 ^ i else v - 2 ^ i

/-- The number of set bits among bits 0 to n - 1. -/
def popCount : Nat → Nat → Nat
  | 0, _ => 0
  | n + 1, v => v % 2 + popCount n (v / 2)

/-! ### Byte orders (R9) -/

/-- `n` bytes of a number, least significant first. -/
def le : Nat → Nat → List Byte
  | 0, _ => []
  | n + 1, v => BitVec.ofNat 8 v :: le n (v / 256)

/-- `n` bytes of a signed number, least significant first. -/
def leI (n : Nat) (z : Int) : List Byte := le n (ofSigned (8 * n) z)

/-- The number that bytes spell, least significant first. -/
def ofLe : List Byte → Nat
  | [] => 0
  | b :: t => b.toNat + 256 * ofLe t

/-- `n` bytes of a number, most significant first. -/
def be (n v : Nat) : List Byte := (le n v).reverse

/-- The number that bytes spell, most significant first. -/
def ofBe (bs : List Byte) : Nat := ofLe bs.reverse

/-- `n` bytes from offset `o`, zero beyond the end. -/
def slice (bs : List Byte) (o n : Nat) : List Byte :=
  let t := (bs.drop o).take n
  t ++ List.replicate (n - t.length) 0

/-- `n` zero bytes. -/
def zeros (n : Nat) : List Byte := List.replicate n 0

/-- The little-endian number of `n` bytes at offset `o`. -/
def leAt (bs : List Byte) (o n : Nat) : Nat := ofLe (slice bs o n)

/-- The big-endian number of `n` bytes at offset `o`. -/
def beAt (bs : List Byte) (o n : Nat) : Nat := ofBe (slice bs o n)

/-- A 32-bit word's bytes, most significant first (SPI, R9). -/
def wordBe (w : Word) : List Byte := be 4 w.toNat

/-- The 32-bit words of a byte string, four bytes each, most significant byte first. -/
def wordsBe : List Byte → List Word
  | a :: b :: c :: d :: t => BitVec.ofNat 32 (ofBe [a, b, c, d]) :: wordsBe t
  | _ => []

/-! ### Sparse tables with a default -/

/-- The entry of a sparse table, or the default. -/
def sparseGet {α : Type} (d : α) : List (Nat × α) → Nat → α
  | [], _ => d
  | p :: t, k => if p.1 = k then p.2 else sparseGet d t k

/-- Insertion before the first larger key. -/
def sparseInsert {α : Type} (k : Nat) (v : α) : List (Nat × α) → List (Nat × α)
  | [] => [(k, v)]
  | p :: t => if k < p.1 then (k, v) :: p :: t else p :: sparseInsert k v t

/-- A sparse table with one entry replaced; an entry equal to the default is not listed. -/
def sparseSet {α : Type} [DecidableEq α] (d : α) (m : List (Nat × α)) (k : Nat) (v : α) : List (Nat × α) :=
  let r := m.filter (fun p => p.1 != k)
  if v = d then r else sparseInsert k v r

/-- The canonical form of a sparse table: keys strictly rising, no entry equal to the default. -/
def sparseWf {α : Type} [DecidableEq α] (d : Nat → α) (m : List (Nat × α)) : Bool :=
  (m.zip (m.drop 1)).all (fun q => q.1.1 < q.2.1) && m.all (fun p => p.2 != d p.1)

/-- Rounding to the nearest integer, ties away from zero (R177). -/
def roundHalf (q : Rat) : Int := if 0 ≤ q then (q + 1 / 2).floor else -((-q + 1 / 2).floor)

/-! ### CRC-8 and CRC-32C (R340, R350) -/

/-- One bit of CRC-8, polynomial 0x07, not reflected. -/
def crc8Bit (c : Nat) : Nat := if c / 128 % 2 = 1 then (c * 2 % 256) ^^^ 0x07 else c * 2 % 256

/-- CRC-8 of the SPI frames (R350). -/
def crc8 (bs : List Byte) : Byte :=
  BitVec.ofNat 8 (bs.foldl (fun c b => (List.range 8).foldl (fun c _ => crc8Bit c) (c ^^^ b.toNat)) 0)

/-- One bit of CRC-32C, polynomial 0x1EDC_6F41, reflected (0x82F6_3B78). -/
def crc32cBit (c : Nat) : Nat := if c % 2 = 1 then (c / 2) ^^^ 0x82F63B78 else c / 2

/-- CRC-32C (R340): initial value and final XOR 0xFFFF_FFFF. -/
def crc32c (bs : List Byte) : Nat :=
  (bs.foldl (fun c b => (List.range 8).foldl (fun c _ => crc32cBit c) (c ^^^ b.toNat)) 0xFFFFFFFF) ^^^ 0xFFFFFFFF

/-! ### Profile planes -/

/-- The first value listed for a key. -/
def lookupKey {α : Type} (k : PKey) : List (PKey × α) → Option α
  | [] => none
  | p :: t => if p.1 = k then some p.2 else lookupKey k t

/-- The value of a numeric field of a plane: the value held, or the dictionary default (R218). -/
def Plane.num (p : Plane) (sec kind fid : Nat) (path : List Nat) : Int :=
  match lookupKey ⟨sec, kind, fid, path⟩ p.nums with
  | some v => v
  | none =>
    match dictRow sec kind fid with
    | some r => r.dflt.value (path.getLastD 0)
    | none => 0

/-- A numeric field as a natural number ("none" reads 0). -/
def Plane.nat (p : Plane) (sec kind fid : Nat) (path : List Nat) : Nat := (p.num sec kind fid path).toNat

/-- Whether a plane holds a numeric field itself. -/
def Plane.hasNum (p : Plane) (sec kind fid : Nat) (path : List Nat) : Bool :=
  (lookupKey ⟨sec, kind, fid, path⟩ p.nums).isSome

/-- A byte-string field of a plane. -/
def Plane.bytes (p : Plane) (sec kind fid : Nat) (path : List Nat) : Option (List Byte) :=
  lookupKey ⟨sec, kind, fid, path⟩ p.byts

/-- Whether a plane holds a record (R217). -/
def Plane.hasRec (p : Plane) (sec kind : Nat) (path : List Nat) : Bool := decide (⟨sec, kind, 0, path⟩ ∈ p.recs)

/-- The values of a FLAG field. -/
def Plane.flag (p : Plane) (sec kind fid : Nat) (path : List Nat) : Bool := p.num sec kind fid path = 1

end Sys2Proof.Machine
end

