-- ==== Sys2Proof/Machine/Container.lean ====
section
/-! DEFINITION. The bit-stream container (07_bitstream_and_profiles.md): layout and verification steps 1-6 of
Table 7.10 (R211-R214, R222), the TLV walk (R215) and the field checks of step 8 (R216-R219, R223-R225, R227). -/

set_option Elab.async false

namespace Sys2Proof.Machine

/-! ### Steps 1-6 (Tables 7.1, 7.2, 7.4, 7.10) -/

/-- A rejection: cause of Table 7.10, byte offset of the fault, and the signer's key id. -/
structure Rejection where
  cause : Nat
  ofs : Nat
  signer : List Byte
  deriving DecidableEq, Repr

/-- Whether a cause is a security failure (R222). -/
def Rejection.security (r : Rejection) : Bool := 0x10 ≤ r.cause && r.cause ≤ 0x14

/-- A section table entry. -/
structure SecEntry where
  id : Nat
  enc : Bool
  ofs : Nat
  stored : Nat
  plain : Nat
  at_ : Nat
  deriving DecidableEq, Repr

/-- Rounding up to a multiple of n. -/
def roundUp (n x : Nat) : Nat := (x + n - 1) / n * n

def secEntry (b : List Byte) (i : Nat) : SecEntry :=
  let o := 64 + 16 * i
  ⟨leAt b o 1, leAt b (o + 1) 1 % 2 = 1, leAt b (o + 4) 4, leAt b (o + 8) 4, leAt b (o + 12) 4, o⟩

/-- The entries of the section table. -/
def secEntries (b : List Byte) : List SecEntry := (List.range (leAt b 14 1)).map (secEntry b)

/-- The first entry of the section table that is not as R211 and Table 7.2 have it: known ids in ascending order,
each section at the next multiple of 8, sizes consistent. `pos` is the end of the part before. -/
def badEntry (sig : Nat) : Nat → Nat → List SecEntry → Option Nat
  | _, pos, [] => if roundUp 8 pos = sig then none else some 44
  | last, pos, e :: t =>
    if e.id ≤ last ∨ 12 < e.id ∨ e.ofs ≠ roundUp 8 pos ∨ sig < e.ofs + e.stored ∨
        e.stored ≠ (if e.enc then e.plain + 28 else e.plain) then some e.at_
    else badEntry sig e.id (e.ofs + e.stored) t

/-- The IV of an encrypted section. -/
def secIv (b : List Byte) (e : SecEntry) : List Byte := slice b e.ofs 12

/-- Whether two sections share an IV (R213). -/
def repeatedIv (b : List Byte) (es : List SecEntry) : Option Nat :=
  let enc := es.filter (·.enc)
  (enc.find? (fun e => enc.any (fun d => d.ofs < e.ofs && secIv b d = secIv b e))).map (·.ofs)

/-- The plaintext of a section; none where its tag fails (R213). -/
def secPlain (b key : List Byte) (e : SecEntry) : Option (List Byte) :=
  if e.enc then
    Config.gcmOpen key (secIv b e) (slice b 0 64 ++ slice b e.at_ 16) (slice b (e.ofs + 12) e.plain)
      (slice b (e.ofs + 12 + e.plain) 16)
  else some (slice b e.ofs e.plain)

/-- All sections' plaintexts, or the offset of the section whose tag fails. -/
def secPlains (b key : List Byte) : List SecEntry → Except Nat (List (Nat × List Byte))
  | [] => .ok []
  | e :: t =>
    match secPlain b key e, secPlains b key t with
    | none, _ => .error e.ofs
    | some p, .ok r => .ok ((e.id, p) :: r)
    | some _, .error o => .error o

/-- What the part checks a container against: the slot and the bytes it holds, the OWNER key, the profile counter and
the part's identity. -/
structure VerifyCtx where
  slot : Nat
  owner : Option (List Byte)
  counter : Nat
  device : List Byte
  deriving DecidableEq, Repr

/-- The key id of a public key (R359): the first 8 bytes of its SHA-384. -/
def keyId (key : List Byte) : List Byte := slice (Config.sha384 key) 0 8

/-- Steps 1-6 of Table 7.10: the rejection, or every section's plaintext in ascending id. -/
def verifyContainer (c : VerifyCtx) (b : List Byte) : Except Rejection (List (Nat × List Byte)) :=
  let len := leAt b 8 4
  let es := secEntries b
  let sig := leAt b 44 4
  let wrap := leAt b 40 4
  let crypt := leAt b 13 1 % 2 = 1
  let tab := 64 + 16 * es.length
  let signer := slice b sig 8
  if b.length < 64 ∨ leAt b 0 4 ≠ 0x4B584253 then .error ⟨1, 0, []⟩
  else if leAt b 4 2 ≠ 3 then .error ⟨1, 4, []⟩
  else if leAt b 6 2 ≠ 64 then .error ⟨1, 6, []⟩
  else if 4194304 < len ∨ len ≠ b.length then .error ⟨2, 8, []⟩
  else if leAt b 12 1 ≠ c.slot then .error ⟨3, 12, []⟩
  else if len ≠ sig + 104 ∨ sig % 8 ≠ 0 then .error ⟨4, 44, []⟩
  else if 12 < es.length ∨ sig < tab then .error ⟨4, 14, []⟩
  else if (crypt ∧ wrap ≠ tab) ∨ (¬ crypt ∧ wrap ≠ 0) ∨ crypt ≠ (es.any (·.enc) = true) then .error ⟨4, 40, []⟩
  else if 255 < leAt b 16 4 then .error ⟨4, 16, []⟩
  else
    match badEntry sig 0 (if crypt then tab + 144 else tab) es with
    | some o => .error ⟨4, o, []⟩
    | none =>
      match c.owner with
      | none => .error ⟨0x11, sig, signer⟩
      | some key =>
        if signer ≠ keyId key then .error ⟨0x11, sig, signer⟩
        else if Config.ecdsaVerify key (Config.sha384 (slice b 0 sig)) (slice b (sig + 8) 48) (slice b (sig + 56) 48)
            = false then .error ⟨0x10, sig, signer⟩
        else if leAt b 16 4 < c.counter then .error ⟨0x12, 16, signer⟩
        else
          match (if crypt then Config.unwrapKey c.device (slice b wrap 144) else some []) with
          | none => .error ⟨0x13, wrap, signer⟩
          | some k =>
            match secPlains b k es, repeatedIv b es with
            | .error o, _ => .error ⟨0x14, o, signer⟩
            | .ok _, some o => .error ⟨4, o, signer⟩
            | .ok ps, none => .ok ps

/-! ### Step 7: the TLV walk (R215, R217) -/

/-- A field as the walk finds it, in stored order, a RECORD before its fields: the enclosing records as (kind, index),
outermost first, with no index where the record has none; id, type code and value. A RECORD lists itself last in
`ctx`. -/
structure RawField where
  ctx : List (Nat × Option Nat)
  id : Nat
  ty : Nat
  val : List Byte
  deriving DecidableEq, Repr

/-- Whether a length is one that Table 7.5 allows for a type code. -/
def lengthOk (ty len : Nat) : Bool :=
  match ty with
  | 1 | 2 => len = 1 || len = 2 || len = 4 || len = 8
  | 3 | 4 => len = 1
  | 5 => true
  | 6 => 5 ≤ len
  | 7 => len ≤ 64
  | _ => false

/-- The index field at the head of a record's value (R217). -/
def recordIndex (v : List Byte) : Option Nat :=
  if leAt v 0 2 = 0x6000 ∧ leAt v 2 1 = 1 then some (leAt v 5 (leAt v 3 2)) else none

/-- The walk of a sequence of fields; none where it fails. Field starts count from the start of the sequence (log
entry 15). -/
def tlvWalk : Nat → List (Nat × Option Nat) → List Byte → Option (List RawField)
  | 0, _, _ => none
  | _ + 1, _, [] => some []
  | n + 1, ctx, b =>
    let id := leAt b 0 2
    let ty := leAt b 2 1
    let len := leAt b 3 2
    let whole := roundUp 4 (5 + len)
    if b.length < whole ∨ lengthOk ty len = false then none
    else
      let v := slice b 5 len
      if (slice b (5 + len) (whole - 5 - len)).any (· ≠ 0) then none
      else
        match tlvWalk n ctx (b.drop whole) with
        | none => none
        | some rest =>
          if ty = 6 then
            if 3 ≤ ctx.length then none
            else
              let ctx' := ctx ++ [(id, recordIndex v)]
              match tlvWalk n ctx' v with
              | none => none
              | some inner => some (⟨ctx', id, ty, v⟩ :: inner ++ rest)
          else some (⟨ctx, id, ty, v⟩ :: rest)

/-! ### Step 8: field checks -/

/-- A clamp log entry without slot and load number (Table 7.11): section, rule code, field id, path, flags, given and
applied values. -/
structure LogEntry where
  sec : Nat
  rule : Nat
  fid : Nat
  path : List Nat
  flags : Nat
  given : Int
  applied : Int
  deriving DecidableEq, Repr

/-- A REJECT fault: section, cause of Table 7.14, field id, path. -/
structure Rej where
  sec : Nat
  cause : Nat
  fid : Nat
  path : List Nat
  deriving DecidableEq, Repr

/-- A load in the making: the plane, the clamp log in order, and the REJECT faults in order. -/
structure Check where
  plane : Plane
  log : List LogEntry
  rejs : List Rej
  deriving DecidableEq, Repr

def Check.reject (c : Check) (sec cause fid : Nat) (path : List Nat) (rule flags : Nat) (given : Int) : Check :=
  { c with
    log := c.log ++ [⟨sec, rule, fid, path, flags + 2 * b2n (safetyRelevant sec), given, given⟩]
    rejs := c.rejs ++ [⟨sec, cause, fid, path⟩] }

/-- A REJECT with no value of its own. -/
def Check.fault (c : Check) (sec cause fid : Nat) (path : List Nat) : Check := c.reject sec cause fid path 6 0 0

/-- A REJECT that a cross-check declares (R227). -/
def Check.crossReject (c : Check) (sec fid : Nat) (path : List Nat) (given : Int) : Check :=
  c.reject sec 1 fid path 6 1 given

def Check.setNum (c : Check) (sec kind fid : Nat) (path : List Nat) (v : Int) : Check :=
  let k : PKey := ⟨sec, kind, fid, path⟩
  { c with plane := { c.plane with nums := (k, v) :: c.plane.nums.filter (fun p => p.1 ≠ k) } }

def Check.setBytes (c : Check) (sec kind fid : Nat) (path : List Nat) (v : List Byte) : Check :=
  let k : PKey := ⟨sec, kind, fid, path⟩
  { c with plane := { c.plane with byts := (k, v) :: c.plane.byts.filter (fun p => p.1 ≠ k) } }

def Check.logClamp (c : Check) (sec rule fid : Nat) (path : List Nat) (flags : Nat) (given applied : Int) : Check :=
  { c with log := c.log ++ [⟨sec, rule, fid, path, flags + 2 * b2n (safetyRelevant sec), given, applied⟩] }

/-- The id of a field in clamp entries: class in bits [15:12], number in [11:0] (R216). -/
def fieldId (cls : ClampClass) (fid : Nat) : Nat := cls.code * 0x1000 + fid

/-- A cross-check's clamp (R226): the field takes `v`, entry and record carry the rule the owning rule names. -/
def Check.cross (c : Check) (sec kind fid : Nat) (path : List Nat) (rule : Nat) (v : Int) : Check :=
  let cls := match dictRow sec kind fid with
    | some r => r.cls
    | none => .reject
  (c.logClamp sec rule (fieldId cls fid) path 1 (c.plane.num sec kind fid path) v).setNum sec kind fid path v

/-- The largest admissible value of a row at or below v; the smallest admissible value if none (R223). -/
def admissibleDown (r : DictRow) (v : Int) : Int :=
  let lat := if v < r.lo then none else some (if r.hi ≤ v then r.hi else r.lo + (v - r.lo) / r.step * r.step)
  let cands := lat.toList ++ r.alts.filter (fun a => a ≤ v)
  match cands with
  | [] => r.alts.foldl min r.lo
  | h :: t => t.foldl max h

/-- The smallest admissible value at or above v; the largest admissible value if none (R223). -/
def admissibleUp (r : DictRow) (v : Int) : Int :=
  let lat := if r.hi < v then none
    else some (if v ≤ r.lo then r.lo else r.lo + (v - r.lo + r.step - 1) / r.step * r.step)
  let cands := lat.toList ++ r.alts.filter (fun a => v ≤ a)
  match cands with
  | [] => r.alts.foldl max r.hi
  | h :: t => t.foldl min h

/-- Whether a value is admissible. -/
def admissible (r : DictRow) (v : Int) : Bool :=
  (r.lo ≤ v && v ≤ r.hi && (v - r.lo) % r.step = 0) || v ∈ r.alts

/-- The value a clamp class applies (Table 7.7); none for REJECT. -/
def clampValue (r : DictRow) (v : Int) : Option Int :=
  match r.cls with
  | .up | .safeHigh => some (admissibleUp r v)
  | .down | .safeLow => some (admissibleDown r v)
  | .nearest =>
    let d := admissibleDown r v
    let u := admissibleUp r v
    some (if (u - v).natAbs ≤ (v - d).natAbs then u else d)
  | .reject => none

/-- The smallest and largest admissible values. -/
def DictRow.least (r : DictRow) : Int := r.alts.foldl min r.lo
def DictRow.most (r : DictRow) : Int := r.alts.foldl max r.hi

/-- Whether R224 lets a clamp of a safety-relevant section be applied. -/
def safeSide (r : DictRow) (v : Int) : Bool :=
  match r.cls with
  | .safeLow => r.least ≤ v
  | .safeHigh => v ≤ r.most
  | _ => false

/-- The outcome of a numeric value against its row: admissible, clamped to a value, refused with the flag of R224 and
R225, or refused as a REJECT field. -/
inductive Verdict where
  | ok (v : Int)
  | clamp (v : Int)
  | refuse
  | reject
  deriving DecidableEq, Repr

def judge (sec : Nat) (strict : Bool) (r : DictRow) (v : Int) : Verdict :=
  if admissible r v then .ok v
  else
    match clampValue r v with
    | none => .reject
    | some a => if safetyRelevant sec && (strict || !safeSide r v) then .refuse else .clamp a

/-- A numeric value of a field's bytes by its type: all ones is "none" where the row admits it (R219). -/
def fieldValue (r : DictRow) (bs : List Byte) : Int :=
  let n := ofLe bs
  if r.noneOk ∧ n = 2 ^ (8 * bs.length) - 1 then -1
  else if r.ty = .sint then toSigned (8 * bs.length) n else n

/-- The path of a context. -/
def ctxPath (ctx : List (Nat × Option Nat)) : List Nat := ctx.map (fun p => p.2.getD 0xFFFF)

/-- The clamped value of a numeric field that a record holds beside another; its default where it is absent (R219). -/
def besideValue (fs : List RawField) (sec kind fid : Nat) (ctx : List (Nat × Option Nat)) : Int :=
  match dictRow sec kind fid with
  | none => 0
  | some r =>
    match fs.find? (fun g => g.ctx = ctx && g.id % 0x1000 = fid && g.ty = r.ty.code) with
    | some g => if admissible r (ofLe g.val) then ofLe g.val else (clampValue r (ofLe g.val)).getD (ofLe g.val)
    | none => r.dflt.value ((ctx.getLast?.bind (·.2)).getD 0)

/-- The rows whose range depends on another field of the record (R219): a detector's ON and OFF on its type (Table 4.5: for
RATIO 0-60 with defaults 12 and 6), a zone's LAST on FIRST (Table 4.3), an item's element on its kind (Tables 11.8, 11.9). -/
def effRow (fs : List RawField) (sec : Nat) (ctx : List (Nat × Option Nat)) (r : DictRow) : DictRow :=
  let beside (fid : Nat) : Int := besideValue fs sec r.kind fid ctx
  if sec = 4 ∧ r.kind = 7 ∧ (r.fid = 0x044 ∨ r.fid = 0x045) ∧ beside 0x043 = 1 then
    { r with hi := 60, dflt := .const (if r.fid = 0x044 then 12 else 6) }
  else if sec = 3 ∧ r.kind = 4 ∧ r.fid = 0x082 then { r with lo := beside 0x081 }
  else if sec = 9 ∧ ((r.fid = 0x082 ∧ beside 0x081 ≠ 0) ∨ (r.fid = 0x0C2 ∧ beside 0x0C1 ≠ 0)) then { r with hi := 0 }
  else r

/-- Whether a byte string's content is in range (Tables 8.6, 11.7, 11.18): channel numbers and ranks of positions, addresses
of 4 or 16 bytes. -/
def bytesContentOk (sec fid : Nat) (v : List Byte) : Bool :=
  if sec = 6 && fid = 0x041 then v.all (fun b => b.toNat < 64)
  else if sec = 6 && fid = 0x042 then v.all (fun b => b.toNat < 16)
  else if (sec = 9 && fid = 0x043) || (sec = 10 && fid = 0x081) then v.length = 4 || v.length = 16
  else true

/-- The five values of an I/Q seed, each checked against its range on its own (R219, Table 3.4). -/
def seedRow (i : Nat) : DictRow :=
  let (lo, hi) : Int × Int :=
    if i = 0 then (-20567, 25892) else if i = 1 then (-19198, 19198) else if i = 2 then (-15000, 15000)
    else (-32767, 32767)
  ⟨2, 0x089, 3, .sint, .nearest, lo, hi, 1, [], false, .const 0⟩

def checkSeed (path : List Nat) (v : List Byte) (c : Check) : Check :=
  let (c, out) := (List.range 5).foldl (fun (a : Check × List Byte) i =>
    let g := toSigned 16 (leAt v (2 * i) 2)
    match judge 2 false (seedRow i) g with
    | .clamp w => (a.1.logClamp 2 3 0x3089 path 0 g w, a.2 ++ leI 2 w)
    | _ => (a.1, a.2 ++ leI 2 g)) (c, [])
  c.setBytes 2 3 0x089 path out

/-- One field against the dictionary (R216, R217, R223-R225). `fs` is its whole section, `n` its place there. -/
def checkField (sec : Nat) (strict : Bool) (fs : List RawField) (n : Nat) (f : RawField) (c : Check) : Check :=
  let path := ctxPath f.ctx
  let kind := (f.ctx.getLast?.map (·.1)).getD 0
  if f.ty = 6 then
    let parent := ((f.ctx.dropLast).getLast?.map (·.1)).getD 0
    let path0 := ctxPath f.ctx.dropLast
    match kindRow sec kind with
    | none => c.fault sec 2 f.id path0
    | some k =>
      if k.parent ≠ parent then c.fault sec 2 f.id path0
      else
        match (f.ctx.getLast?.bind (·.2)) with
        | none => c.fault sec 1 0x6000 path
        | some i =>
          if k.maxIdx < i then c.reject sec 1 0x6000 path 6 0 i
          else if (fs.take n).any (fun g => g.ty = 6 && g.ctx = f.ctx) then c.reject sec 1 0x6000 path 6 0 i
          else { c with plane := { c.plane with recs := c.plane.recs ++ [⟨sec, kind, 0, path⟩] } }
  else if (fs.take n).any (fun g => g.ty ≠ 6 && g.ctx = f.ctx && g.id = f.id) then c.fault sec 1 f.id path
  else if f.id = 0x6000 then if f.ctx = [] ∨ f.ty ≠ 1 then c.fault sec 2 f.id path else c
  else
    match dictRow sec kind (f.id % 0x1000) with
    | none => c.fault sec 2 f.id path
    | some r0 =>
      let r := effRow fs sec f.ctx r0
      if f.id / 0x1000 ≠ r.cls.code ∨ f.ty ≠ r.ty.code then c.fault sec 2 f.id path
      else if r.ty = .bytes then
        if (f.val.length : Int) < r.lo ∨ r.hi < f.val.length ∨ bytesContentOk sec r.fid f.val = false then c.reject sec 1 f.id path 6 0 f.val.length
        else if sec = 2 ∧ r.fid = 0x089 then checkSeed path f.val c
        else c.setBytes sec kind r.fid path f.val
      else
        let v := fieldValue r f.val
        if v = -1 ∧ r.noneOk then c.setNum sec kind r.fid path v
        else
          match judge sec strict r v with
          | .ok a => c.setNum sec kind r.fid path a
          | .clamp a => (c.logClamp sec r.cls.code f.id path 0 v a).setNum sec kind r.fid path a
          | .refuse => c.reject sec 4 f.id path r.cls.code 4 v
          | .reject =>
            let c := c.reject sec 1 f.id path 6 0 v
            if sec = 1 ∧ r.fid = 0x045 then c.setNum sec kind r.fid path v else c

/-- Fields in stored order with their places, less the one at place `skip`, which has been checked before. -/
def checkFields (sec : Nat) (strict : Bool) (fs : List RawField) (skip : Option Nat) : Nat → List RawField → Check → Check
  | _, [], c => c
  | n, f :: t, c =>
    checkFields sec strict fs skip (n + 1) t (if skip = some n then c else checkField sec strict fs n f c)

/-- Rows without a default that a record, or the section's top level, does not hold (R218). -/
def missingRows (sec kind : Nat) (path : List Nat) (c : Check) : Check :=
  (dictOf sec).foldl (fun c r =>
    if r.kind = kind ∧ r.dflt = .need ∧ c.plane.hasNum sec kind r.fid path = false ∧
        (c.plane.bytes sec kind r.fid path).isNone ∧
        (c.rejs.any (fun j => j.sec = sec && j.fid % 0x1000 = r.fid && j.path = path)) = false
    then c.fault sec 1 (fieldId r.cls r.fid) path else c) c

/-- Defaults that the effective row changes: a RATIO detector's thresholds (R218, R219). -/
def ratioDefaults (c : Check) : Check :=
  (c.plane.recs.filter (fun k => k.sec = 4 && k.kind = 7)).foldl (fun c k =>
    if c.plane.num 4 7 0x043 k.path = 1 then
      let c := if c.plane.hasNum 4 7 0x044 k.path then c else c.setNum 4 7 0x044 k.path 12
      if c.plane.hasNum 4 7 0x045 k.path then c else c.setNum 4 7 0x045 k.path 6
    else c) c

/-- Position ranks are one per position (Table 8.6 row 2). -/
def ranksLength (c : Check) : Check :=
  (c.plane.recs.filter (fun k => k.sec = 6 && k.kind = 0x0F)).foldl (fun c k =>
    match c.plane.bytes 6 0x0F 0x041 k.path, c.plane.bytes 6 0x0F 0x042 k.path with
    | some ps, some rs => if ps.length = rs.length then c else c.reject 6 1 0x6042 k.path 6 0 rs.length
    | _, _ => c) c

/-- The walk of a section's whole body. -/
def bodyWalk (body : List Byte) : Option (List RawField) := tlvWalk (body.length + 1) [] body

/-- The place of the clamp policy among the fields of a POLICY section: the first field of that number at top level. -/
def policyPlace (fs : List RawField) : Option Nat := fs.findIdx? (fun f => decide (f.ctx = []) && f.ty ≠ 6 && f.id % 0x1000 = 0x081)

/-- Step 8 of one section; a walk that fails at step 7 refuses the section with cause 0x05. The clamp policy has been checked before
every other field (R225). -/
def checkSection (strict : Bool) (c : Check) (sp : Nat × List Byte) : Check :=
  let (sec, body) := sp
  match bodyWalk body with
  | none => { c with rejs := c.rejs ++ [⟨sec, 5, 0, []⟩] }
  | some fs =>
    let c := { c with plane := { c.plane with secs := c.plane.secs ++ [sec] } }
    let c := checkFields sec strict fs (if sec = 11 then policyPlace fs else none) 0 fs c
    let c := missingRows sec 0 [] c
    let c := (c.plane.recs.filter (fun k => k.sec = sec)).foldl (fun c k => missingRows sec k.kind k.path c) c
    if sec = 4 then ratioDefaults c else if sec = 6 then ranksLength c else c

/-- The fields of the POLICY section, where the container holds one whose walk succeeds. -/
def policyFields (ps : List (Nat × List Byte)) : List RawField :=
  ((ps.find? (fun p => p.1 = 11)).bind (fun p => bodyWalk p.2)).getD []

/-- The clamp policy checked before every other field of the container (R225). -/
def checkPolicy (fs : List RawField) : Check :=
  match policyPlace fs with
  | none => ⟨.profileF, [], []⟩
  | some n =>
    match fs[n]? with
    | none => ⟨.profileF, [], []⟩
    | some f => checkField 11 false fs n f ⟨.profileF, [], []⟩

/-- Steps 7 and 8 over all sections, under the clamp policy of the container being loaded (R225). -/
def checkContainer (ps : List (Nat × List Byte)) : Check :=
  let c := checkPolicy (policyFields ps)
  ps.foldl (checkSection (c.plane.nat 11 0 0x081 [] = 1)) c

/-! ### Step 10: references and refusals (R228) -/

/-- The sections refused: with a fault of their own, or referring to a refused one (cause 0x03), in ascending id. The
references of Table 7.3 form chains of at most three. -/
def refusedSecs (ps : List Nat) (rejs : List Rej) : List Rej :=
  let own := (List.range 13).filterMap (fun i => rejs.find? (fun r => r.sec = i))
  let spread (l : List Rej) : List Rej :=
    (List.range 13).filterMap (fun i =>
      match l.find? (fun r => r.sec = i) with
      | some r => some r
      | none =>
        if i ∈ ps ∧ (refersTo i).any (fun j => l.any (fun r => r.sec = j)) then some ⟨i, 3, 0, []⟩ else none)
  spread (spread (spread own))

/-- The plane without the sections refused: they configure their functions as profile F does. -/
def Plane.without (p : Plane) (secs : List Nat) : Plane where
  nums := p.nums.filter (fun q => q.1.sec ∉ secs)
  byts := p.byts.filter (fun q => q.1.sec ∉ secs)
  recs := p.recs.filter (fun k => k.sec ∉ secs)
  secs := p.secs.filter (fun i => i ∉ secs)

end Sys2Proof.Machine
end

