-- ==== Sys2Proof/Machine/Ops.lean ====
section
/-! DEFINITION. The named operations every meaning uses: reading and writing registers and their fields, drawing a
free value, naming sources (R38), making, numbering, queueing and journalling records (R39-R52, R404), and
declaring faults (R422-R426). -/

namespace Sys2Proof.Machine

/-! ### Registers (R11-R17) -/

/-- The register file's value at an address: what is stored, or the reset value (R17). -/
def regRead : List (Nat × Word) → Nat → Word
  | [], a => regReset a
  | p :: t, a => if p.1 = a then p.2 else regRead t a

/-- The register file with one register replaced; a register at its reset value is not listed. -/
def regWrite (m : List (Nat × Word)) (a : Nat) (v : Word) : List (Nat × Word) :=
  let r := m.filter (fun p => p.1 != a)
  if v = regReset a then r else sparseInsert a v r

/-- The stored word of a register. -/
def State.rd (s : State) (a : Nat) : Word := regRead s.regs a

/-- The state with a stored word replaced. -/
def State.wr (s : State) (a : Nat) (v : Word) : State := { s with regs := regWrite s.regs a v }

/-- A field's value. -/
def State.get (s : State) (f : Fld) : Nat := f.read (s.rd f.addr)

/-- A field's value in two's complement. -/
def State.geti (s : State) (f : Fld) : Int := toSigned f.width (s.get f)

/-- The state with a field replaced. -/
def State.put (s : State) (f : Fld) (v : Nat) : State := s.wr f.addr (f.write v (s.rd f.addr))

/-- The state with a signed field replaced. -/
def State.puti (s : State) (f : Fld) (z : Int) : State := s.put f (ofSigned f.width z)

/-- The state with a field replaced by a value that saturates at the field's largest (R432). -/
def State.putSat (s : State) (f : Fld) (v : Nat) : State := s.put f (satU f.width v)

/-- A saturating counter field raised by k. -/
def State.inc (s : State) (f : Fld) (k : Nat := 1) : State := s.putSat f (s.get f + k)

/-- A one-bit field as a truth value. -/
def State.on (s : State) (f : Fld) : Bool := s.get f = 1

/-- A one-bit field set from a truth value. -/
def State.putB (s : State) (f : Fld) (b : Bool) : State := s.put f (b2n b)

/-- The next free value, reduced below `2 ^ n` (log entry 4). -/
def State.free (s : State) (n : Nat) : Nat := Config.freeValue s.freeCount % 2 ^ n

/-- The state after a free value has been drawn. -/
def State.drawn (s : State) : State := { s with freeCount := s.freeCount + 1 }

/-! ### Sources (R38, Table 1.6) -/

def srcZone (f z : Nat) : Nat := 0x1000 + 0x800 * f + z
def srcLamp (n : Nat) : Nat := 0x2000 + n
def srcHead (h : Nat) : Nat := 0x3000 + h
def srcInput (i : Nat) : Nat := 0x4000 + i
def srcOutput (o : Nat) : Nat := 0x5000 + o
def srcBrake (k : Nat) : Nat := 0x6000 + k
def srcAux (c : Nat) : Nat := 0x7000 + c
def srcConn (c : Nat) : Nat := 0x8000 + c
def srcEngine (e : Nat) : Nat := 0x9000 + e
/-- The register block with base `n * 0x1_0000`. -/
def srcBlock (n : Nat) : Nat := 0xA000 + n
def srcChz (c : Nat) : Nat := 0xA100 + c
def srcLanding (f : Nat) : Nat := 0xA110 + f
def srcRamanLanding (f : Nat) : Nat := 0xA112 + f
def srcSequencer : Nat := 0xA200
def srcPacer : Nat := 0xA201
def srcConverter : Nat := 0xA202
def srcPlanner : Nat := 0xA300
def srcCloister : Nat := 0xB000
def srcBist (u : Nat) : Nat := 0xC000 + u
def srcLichen (m : Nat) : Nat := 0xD000 + m
def srcMoss : Nat := 0xD100
def srcPort (p : Nat) : Nat := 0xE000 + p
def srcDevice : Nat := 0xF000

/-- The sources whose records the signal die numbers, stamps and delivers (R52). -/
def isSignalSource (src : Nat) : Bool :=
  (0x2000 ≤ src && src < 0x7000) || (0x8000 ≤ src && src < 0x9000) || src = 0xA007 || src = 0xA008 || src = 0xA009 ||
  src = 0xA00E || src = 0xA200 || src = 0xA201 || src = 0xA202 || src = 0xC200 || src = 0xC201 ||
  (0xC500 ≤ src && src ≤ 0xC502)

/-! ### The journal (R404, Table 13.8) -/

/-- Codes that the kept region holds whatever their severity and level. -/
def keptCodes : List Nat :=
  [Code.EPOCH_START.val, Code.TAIL_UNKNOWN.val, Code.EPOCH_EXHAUSTED.val, Code.FIBRE_BREAK.val, Code.BIST_FAIL.val,
   Code.MEM_REPAIR.val, Code.MEM_UNREPAIRABLE.val, Code.ENGINE_FAIL.val, Code.CHZ_FAIL.val, Code.STAIR_STEP.val,
   Code.STAIR_FAULT.val, Code.LICHEN_FAIL.val, Code.LICHEN_FORECAST.val, Code.CLS_LIFECYCLE.val, Code.CLS_FW.val,
   Code.CFG_LOADED.val, Code.MOSS_SEAL.val, Code.RESET_CAUSE.val, Code.RST_STUCK.val]

/-- Codes that the rolling region names. -/
def rollingCodes : List Nat :=
  [Code.BIST_PASS.val, Code.TASK_MOVE.val, Code.FIBRE_CONTINUOUS.val, Code.APR_ENTER.val, Code.APR_EXIT.val,
   Code.LAMP_AGEING.val]

/-- Whether a record goes to the kept region: severity SAFETY or SECURITY, level F2-F4, or named (Table 13.8). -/
def journalKept (lvl code : Nat) : Bool :=
  code / 0x1000 = 3 || code / 0x1000 = 4 || 2 ≤ lvl || code ∈ keptCodes

/-- Whether a record goes to the rolling region. -/
def journalRolling (lvl code : Nat) : Bool := !journalKept lvl code && (lvl = 1 || code ∈ rollingCodes)

/-- The journal with a record waiting to be written, and the fault counts of the ledger (R404, Table 13.7 area 4;
records at F0 are counted nowhere, R423). -/
def State.journalise (s : State) (lvl : Nat) (r : Record) : State :=
  let j := s.jrn
  let j := if journalKept lvl r.code || journalRolling lvl r.code then { j with wait := j.wait ++ [(journalKept lvl r.code, r)] } else j
  let j := if lvl = 0 then j else { j with faults := sparseSet 0 j.faults r.code (sparseGet 0 j.faults r.code + 1) }
  { s with jrn := j }

/-! ### Delivery (R44-R46, R52, R354) -/

/-- The paths that records go to: the data destinations whose product mask names product 0x01 (R337, R356) and the
SPI record path while NET_RCTL.EN is 1 (R354). -/
def State.recordPaths (s : State) : List Nat :=
  (List.range 4).filter (fun d => s.cfg.net.hasRec 10 0x1B [d] && bitOf (s.cfg.net.nat 10 0x1B 0x083 [d]) 1) ++
  (if s.on NET_RCTL.EN then [4] else [])

/-- Records that wait for the SPI record path. -/
def State.spiWaiting (s : State) : List QRec := s.recs.queue.filter (fun q => 4 ∈ q.left)

/-- Whether the common record queue has room. -/
def State.queueSpace (s : State) : Bool := s.recs.queue.length < Config.recordQueueDepth

/-- The last sequence number of a source in the present epoch that has left every path. -/
def State.markDelivered (s : State) (r : Record) : State :=
  if r.epoch ≠ s.recs.epoch then s else { s with recs := { s.recs with delivered := sparseSet 0 s.recs.delivered r.source (r.seq + 1) } }

/-- A record put at the end of the common queue for every enabled path; with no path enabled it has left them all
(log entry 6). NET_EVT.REC reports a record that reaches an empty SPI record path (R358). -/
def State.push (s : State) (r : Record) : State :=
  let ps := s.recordPaths
  if ps = [] then s.markDelivered r
  else
    let s := if 4 ∈ ps ∧ s.spiWaiting = [] then s.put NET_EVT.REC 1 else s
    { s with recs := { s.recs with queue := s.recs.queue ++ [⟨r, ps⟩] } }

/-- The missing ranges with one more lost record: it joins the open range of its source and epoch, or opens one
(R46). -/
def addMissing (ms : List Missing) (src epoch seq cause : Nat) : List Missing :=
  if ms.any (fun m => m.source = src && m.epoch = epoch) then
    ms.map (fun m => if m.source = src ∧ m.epoch = epoch then { m with last := seq } else m)
  else ms ++ [⟨src, epoch, seq, seq, cause⟩]

/-- A record kept as missing (R46). -/
def State.lose (s : State) (r : Record) (cause : Nat) : State :=
  { s with recs := { s.recs with missing := addMissing s.recs.missing r.source r.epoch r.seq cause } }

/-- The next sequence number of a source in the present epoch (R42). -/
def State.nextSeq (s : State) (src : Nat) : Nat := sparseGet 0 s.recs.seqs src

/-- A record numbered in its source and epoch (R42); bytes beyond its data are 0 (R39). -/
def State.number (s : State) (src code time : Nat) (data : List Byte) : Record × State :=
  let r : Record := ⟨src, code, s.recs.epoch, s.nextSeq src, time, slice data 0 12⟩
  (r, { s with recs := { s.recs with seqs := sparseSet 0 s.recs.seqs src (r.seq + 1), log := r :: s.recs.log } })

/-- The data of a GAP_RECORD (Table 1.8). -/
def Missing.data (m : Missing) : List Byte := le 4 m.first ++ le 4 m.last ++ le 2 m.epoch ++ le 1 m.cause

/-- Whether a source's records go to the holding buffer of the signal die (R52): while the die link is down, and after its
return until the buffer has been delivered, so that the order of each source holds (R44). -/
def State.held (s : State) (src : Nat) : Bool := isSignalSource src && (s.lnk.absent || s.recs.hold ≠ [])

/-- The device time a source stamps its records with: the signal die its own copy (R52), the rest device time. -/
def State.stamp (s : State) (src : Nat) : Nat := if isSignalSource src then s.clk.pacer else s.clk.dev

/-- One gap record for a range: it takes the reserved place of its source, so it is never lost (R46). -/
def State.gapOne (s : State) (m : Missing) : State :=
  let (r, s) := s.number m.source Code.GAP_RECORD.val (s.stamp m.source) m.data
  if s.recs.exhausted then s else if s.held m.source then { s with recs := { s.recs with hold := s.recs.hold ++ [r] } }
  else s.push r

/-- The gap records of every range of a source, in ascending epoch order, each before any later record (R46). -/
def State.gapAll (s : State) (src : Nat) : State :=
  let ms := s.recs.missing.filter (fun m => m.source = src)
  let s := { s with recs := { s.recs with missing := s.recs.missing.filter (fun m => m.source ≠ src) } }
  ms.foldl (fun s m => s.gapOne m) s

/-- Whether a new record of a source can be queued: in the holding buffer (1,024 records) while the die link is
down, in the common queue otherwise (R46, R52). -/
def State.room (s : State) (src : Nat) : Bool :=
  if s.held src then s.recs.hold.length < 1024 else s.queueSpace

/-- Delivery of a numbered record: nothing after EPOCH_EXHAUSTED (R51); the holding buffer; the queue; or missing. -/
def State.deliver (s : State) (r : Record) : State :=
  if s.recs.exhausted then s
  else if s.room r.source then
    if s.held r.source then { s with recs := { s.recs with hold := s.recs.hold ++ [r] } } else s.push r
  else s.lose r (if s.held r.source then 0x07 else 0x02)

/-- A record made in an open epoch: gap records of its source first, then the record, journalled and delivered. -/
def State.record (s : State) (lvl src code time : Nat) (data : List Byte) : State :=
  let s := if s.room src && s.recs.missing.any (fun m => m.source = src) then s.gapAll src else s
  let (r, s) := s.number src code time data
  (s.journalise lvl r).deliver r

/-- A record made now, or kept until the epoch opens at the end of BOOT (R415, R422). -/
def State.make (s : State) (lvl src code : Nat) (data : List Byte) : State :=
  if s.recs.epochOpen then s.record lvl src code (s.stamp src) data
  else { s with recs := { s.recs with deferred := s.recs.deferred ++ [⟨lvl, src, code, s.stamp src, slice data 0 12⟩] } }

/-! ### Faults (R422-R426) -/

/-- The handler of a level on the die of a source. -/
def FaultSys.handler (f : FaultSys) (signal : Bool) (lvl : Nat) : Handler :=
  match signal, lvl with
  | false, 1 => f.sens1
  | false, 2 => f.sens2
  | false, _ => f.sens3
  | true, 1 => f.sig1
  | true, 2 => f.sig2
  | true, _ => f.sig3

/-- The same handler replaced. -/
def FaultSys.setHandler (f : FaultSys) (signal : Bool) (lvl : Nat) (h : Handler) : FaultSys :=
  match signal, lvl with
  | false, 1 => { f with sens1 := h }
  | false, 2 => { f with sens2 := h }
  | false, _ => { f with sens3 := h }
  | true, 1 => { f with sig1 := h }
  | true, 2 => { f with sig2 := h }
  | true, _ => { f with sig3 := h }

/-- The bit of MOD_SCAUSE that an F3 code raises (Table 14.6). -/
def causeBit (code : Nat) : Nat :=
  if code = Code.SAFE_STOP.val then 0
  else if code = Code.DEGRADED_EXPIRED.val then 1
  else if code = Code.SO_FAULT.val || code = Code.BRK_FAULT.val then 2
  else if code = Code.PEER_MISMATCH.val then 3
  else if code = Code.SUP_FAIL.val then 4
  else if code = Code.BIST_FAIL.val || code = Code.MEM_UNREPAIRABLE.val then 5
  else if code = Code.EPOCH_EXHAUSTED.val then 6
  else if code = Code.FAULT_QUEUE_FULL.val then 7
  else 8

/-- MOD_SCAUSE with a cause bit set, and PERM where a permanent class (CONV, UNIT, EPOCH) is present (R426). -/
def State.setCause (s : State) (b : Nat) : State :=
  let c := setBitOf (s.get MOD_SCAUSE.CAUSE) b true
  (s.put MOD_SCAUSE.CAUSE c).putB MOD_SCAUSE.PERM (bitOf c 4 || bitOf c 5 || bitOf c 6)

/-- MOD_SCAUSE with a cause bit cleared; the permanent classes never clear (R426). -/
def State.clearCause (s : State) (b : Nat) : State :=
  if b = 4 ∨ b = 5 ∨ b = 6 then s else s.put MOD_SCAUSE.CAUSE (setBitOf (s.get MOD_SCAUSE.CAUSE) b false)

/-- A fault put in its handler's queue of 32 places, or kept until there is room (R424). -/
def State.enqueue (s : State) (f : FaultRec) : State :=
  let sg := isSignalSource f.source
  let h := s.flt.handler sg f.lvl
  let h := if h.queue.length < 32 then { h with queue := h.queue ++ [f] } else { h with extra := h.extra ++ [f] }
  { s with flt := s.flt.setHandler sg f.lvl h }

/-- What an F3 does at declaration (R413, R422, R426): the cause is added; in HOLD, COMMISSION and the run family
SAFE is due; before HOLD the cause is latched; a sensing-die F3 waits for the die link. -/
def State.raiseSafe (s : State) (code src : Nat) : State :=
  let s := s.setCause (causeBit code)
  match s.md.mode with
  | .hold | .commission | .family =>
    if !isSignalSource src && s.lnk.absent then
      { s with flt := { s.flt with waitLink := s.flt.waitLink ++ [⟨3, code, src⟩] } }
    else if s.due.safe = none then { s with due := { s.due with safe := some (code, src) } } else s
  | .reset | .boot | .load =>
    if s.md.latched = none then { s with md := { s.md with latched := some (code, src) } } else s
  | .safe | .quiesce | .analysis => s

/-- The counts of MOD_FCNT (R432). -/
def State.countFault (s : State) (lvl : Nat) : State :=
  if lvl = 1 then s.inc MOD_FCNT.F1 else if lvl = 2 then s.inc MOD_FCNT.F2 else if lvl = 3 then s.inc MOD_FCNT.F3 else s

/-- FAULT_QUEUE_FULL, declared at F3 when the queue of a fault is full (R424). -/
def State.queueFull (s : State) (f : FaultRec) : State :=
  let src := if isSignalSource f.source then srcSequencer else srcDevice
  let s := s.make 3 srcDevice Code.FAULT_QUEUE_FULL.val
    (le 1 f.lvl ++ le 1 (if isSignalSource f.source then 2 else 1) ++ le 2 f.code ++ le 2 f.source)
  let s := (s.put MOD_EVT.QFULL 1).countFault 3
  (s.raiseSafe Code.FAULT_QUEUE_FULL.val src).enqueue ⟨3, Code.FAULT_QUEUE_FULL.val, src⟩

/-- The time of the last level-3 fault, which the trial of an image measures from (R373). -/
def State.level3Seen (s : State) : State := { s with flt := { s.flt with f3At := some s.clk.up } }

/-- Declaration of a fault at its level (Table 14.4). F0 is a record only. -/
def State.declare (s : State) (lvl code src : Nat) : State :=
  if lvl = 0 then s
  else if 4 ≤ lvl then
    if s.due.stop = none then { s with due := { s.due with stop := some (code, src) } } else s
  else
    let f : FaultRec := ⟨lvl, code, src⟩
    let full := 32 ≤ (s.flt.handler (isSignalSource src) lvl).queue.length
    let s := (s.countFault lvl).enqueue f
    let s := if lvl = 3 then s.level3Seen.raiseSafe code src else s
    if full then s.queueFull f else s

/-- A record in an open epoch with a timestamp of its own (R135), made at its code's level. -/
def State.emitTimed (s : State) (time src : Nat) (c : Code) (data : List Byte) : State :=
  (if s.recs.epochOpen then s.record c.lvl src c.val time data else s.make c.lvl src c.val data).declare c.lvl c.val src

/-- A record at a stated level: made, and its fault declared (R422). -/
def State.emitAt (s : State) (lvl src : Nat) (c : Code) (data : List Byte) : State :=
  (s.make lvl src c.val data).declare lvl c.val src

/-- A record at the level its code carries (R40). -/
def State.emit (s : State) (src : Nat) (c : Code) (data : List Byte) : State := s.emitAt c.lvl src c data

/-- A GAP_DATA record made to cover an interval of `us` microseconds, where it is the record of a source with sequence `q` in the
present epoch (R47). -/
def lengthen (src epoch q us : Nat) (r : Record) : Record :=
  if r.source = src ∧ r.epoch = epoch ∧ r.seq = q ∧ r.code = Code.GAP_DATA.val then
    { r with data := slice (le 4 (min 0xFFFFFFFF us) ++ r.data.drop 4) 0 12 }
  else r

/-- The last data loss of a source. -/
def State.gapRun (s : State) (src : Nat) : Option GapRun := (s.recs.gaps.find? (fun p => p.1 = src)).map (·.2)

/-- GAP_DATA of a loss of `us` microseconds from the run time `start` on, with the merging of R47: a further loss of a source within 1 s
joins the interval of the one before. The record that still waits as the source's last is made to cover the whole interval; one that
has left is followed by a record that covers it (log entry 7). -/
def State.gapData (s : State) (src us cycle cause start : Nat) : State :=
  let now := s.clk.up
  let g : GapRun := match s.gapRun src with
    | some g =>
      if now < g.reported + 1000000000 then
        { g with start := min g.start start, stop := max g.stop (start + us * 1000), reported := now }
      else ⟨start, start + us * 1000, now, cycle, cause, 0xFFFFFFFF⟩
    | none => ⟨start, start + us * 1000, now, cycle, cause, 0xFFFFFFFF⟩
  let len := (g.stop - g.start) / 1000
  let waits := decide (g.seq + 1 = s.nextSeq src) && (s.recs.queue.map (·.r) ++ s.recs.hold).any
    (fun r => r.source = src && r.epoch = s.recs.epoch && r.seq = g.seq && r.code = Code.GAP_DATA.val)
  if waits then
    let f := lengthen src s.recs.epoch g.seq len
    { s with recs := { s.recs with
        gaps := sparseSet .none s.recs.gaps src g
        queue := s.recs.queue.map (fun e => { e with r := f e.r })
        hold := s.recs.hold.map f
        log := s.recs.log.map f } }
  else
    let s := s.emit src Code.GAP_DATA (le 4 (min 0xFFFFFFFF len) ++ le 4 g.cycle ++ le 1 g.cause)
    { s with recs := { s.recs with
        gaps := sparseSet .none s.recs.gaps src { g with seq := s.nextSeq src - 1 } } }

/-- The cycle number of a `GAP_DATA` of a source without probe cycles (Table 1.8). -/
def noCycle : Nat := 0xFFFFFFFF

/-- Several fields replaced, in order. -/
def State.puts (s : State) (l : List (Fld × Nat)) : State := l.foldl (fun s p => s.put p.1 p.2) s

/-- A record as its 32 bytes (R39). -/
def Record.bytes (r : Record) : List Byte :=
  le 2 r.source ++ le 2 r.code ++ le 2 r.epoch ++ le 2 0 ++ le 4 r.seq ++ le 8 r.time ++ slice r.data 0 12

/-! ### The repair map -/

/-- An entry appended to the repair map (R397, Table 13.4); a full map keeps nothing more. -/
def State.repairEntry (s : State) (id kind loc spare : Nat) : State :=
  if s.repair.length < 4096 then
    let s := { s with repair := s.repair ++ [le 2 id ++ le 1 kind ++ le 1 2 ++ le 2 loc ++ le 2 spare ++ le 8 s.clk.dev] }
    (s.put TST_MEM.ENTRIES s.repair.length).putB TST_MEM.FULL (s.repair.length = 4096)
  else s

/-! ### Fibres -/

/-- Fibre f's internal state. -/
def State.fib (s : State) (f : Nat) : Fibre := sparseGet .reset s.fibs f

/-- Fibre f's internal state replaced. -/
def State.setFib (s : State) (f : Nat) (x : Fibre) : State := { s with fibs := sparseSet .reset s.fibs f x }

/-- The probe-cycle number of fibre f: 0 with the first cycle after a reset (R66). -/
def State.cycle (s : State) (f : Nat) : Nat := (s.fib f).started - 1

/-- The tones of fibre f with a non-zero amplitude, bit k for tone k (R62, R65). -/
def State.activeTonesOf (s : State) (f : Nat) : Nat :=
  b2n (s.get (PRB_AMP.A f 0) ≠ 0) + 2 * b2n (s.get (PRB_AMP.A f 1) ≠ 0) + 4 * b2n (s.get (PRB_AMP.A f 2) ≠ 0) +
  8 * b2n (s.get (PRB_AMP.A f 3) ≠ 0)

/-- Whether the sensing die has stopped: its Stair switched off at an over-voltage (R201), or the die too hot (R442). -/
def State.sensStopped (s : State) : Bool := s.gal.stairOff || s.pw.sensStop

end Sys2Proof.Machine
end

