-- ==== Sys2Proof/Machine/CfgCore.lean ====
section
/-! DEFINITION. Profile slots, transfers and the start and end of a switch (07_bitstream_and_profiles.md: R230, R231,
R233, R234, R239). -/

namespace Sys2Proof.Machine

def srcCfg : Nat := srcBlock 6

def State.slot (s : State) (n : Nat) : Slot := sparseGet .reset s.slots n

/-- A slot replaced, with the registers that show it (Table 7.16). A container below the profile counter reads INVALID
(R231). -/
def State.setSlot (s : State) (n : Nat) (x : Slot) : State :=
  let s := { s with slots := sparseSet .reset s.slots n x }
  let has := decide (x.state = 2 ∨ x.state = 3)
  s.puts [(CFG_SLOT.STATE n, x.state), (CFG_SLOT.ENC n, if has then leAt x.bytes 13 1 % 2 else 0),
    (CFG_SLOT.RB n, if has then leAt x.bytes 16 1 else 0), (CFG_PID.PID n, if has then leAt x.bytes 20 4 else 0)]

/-- The part's identity as bytes, lowest first (R213). -/
def State.uid (s : State) : List Byte :=
  le 4 (s.rd DEV_UID0).toNat ++ le 4 (s.rd DEV_UID1).toNat ++ le 4 (s.rd DEV_UID2).toNat ++ le 4 (s.rd DEV_UID3).toNat

/-- CFG_CMD_REFUSED (Table 7.14). -/
def State.cfgRefused (s : State) (bits cause : Nat) : State :=
  s.emit srcCfg Code.CFG_CMD_REFUSED (le 1 bits ++ le 1 cause)

/-! ### Switch start and end (R234, Table 7.12) -/

/-- Whether a mode accepts a switch command (R234). -/
def State.switchMode (s : State) : Bool := s.md.mode = .hold || s.md.mode = .family || s.md.mode = .safe

/-- A switch starts: LOADING (R234). -/
def State.switchStart (s : State) (slot who : Nat) (persist : Bool) : State :=
  let c := s.cfg
  let s := { s with cfg := { c with asker := who, persist := persist, startAt := s.clk.up, shadow := none, exchanged := false,
                                    waitFirst := 0xFF, waitAt := 0, probed := [], inFamily := decide (s.md.mode = Mode.family) } }
  let s := (s.setFib 0 { s.fib 0 with badBank := false }).setFib 1 { s.fib 1 with badBank := false }
  let s := s.puts [(CFG_STAT.PENDING, slot), (CFG_STAT.SWSTATE, 1), (CFG_SWITCH.TARGET, slot), (CFG_SWITCH.RESULT, 0),
    (CFG_SWITCH.WAIT_HEADS, 0)]
  s.emit srcCfg Code.CFG_SWITCH_START (le 1 (s.get CFG_STAT.ACTIVE) ++ le 1 slot ++ le 1 who)

/-- The end of a switch: IDLE, shadow planes discarded. -/
def State.switchIdle (s : State) (result : Nat) : State :=
  let s := { s with cfg := { s.cfg with shadow := none, exchanged := false, persist := false, asker := 0, probed := [],
                                        inFamily := false } }
  s.puts [(CFG_STAT.PENDING, 7), (CFG_STAT.SWSTATE, 0), (CFG_SWITCH.RESULT, result)]

/-- A switch abandoned with a reason (Table 7.14). -/
def State.switchAbandon (s : State) (reason : Nat) : State :=
  let target := s.get CFG_SWITCH.TARGET
  let n := s.get CFG_SWITCH.WAIT_HEADS
  let first := s.cfg.waitFirst
  let s := (s.switchIdle (1 + reason)).put CFG_EVT.SWABAND 1
  s.emit srcCfg Code.CFG_SWITCH_ABANDONED (le 1 target ++ le 1 reason ++ le 1 n ++ le 1 first)

/-- SWITCH (R234): refused while a switch is under way, in another mode, or for a slot that is not VALID. -/
def opSwitch (slot : Nat) (persist : Bool) (s : State) : State :=
  let bits := slot + 4 + 8 * b2n persist
  if s.get CFG_STAT.SWSTATE ≠ 0 then s.cfgRefused bits 1
  else if s.switchMode = false then s.cfgRefused bits 2
  else if (s.slot slot).state ≠ 2 then s.cfgRefused bits 3
  else s.switchStart slot 1 persist

/-- CANCEL (R234). -/
def opCancel (s : State) : State :=
  let w := s.get CFG_STAT.SWSTATE
  if w = 1 ∨ w = 2 then s.switchAbandon 2 else s.cfgRefused 0x10 5

/-- SWITCH_TIMEOUT (R235). -/
def opSwitchTimeout (s : State) : State :=
  if s.get CFG_STAT.SWSTATE = 2 ∧ s.cfg.waitAt + s.cfg.sig.nat 11 0 0x082 [] * 1000000000 ≤ s.clk.up then s.switchAbandon 1 else s

/-! ### Slots and transfers (R230, R231) -/

/-- Whether a slot is the active one or the target of a switch. -/
def State.slotBusy (s : State) (n : Nat) : Bool := s.get CFG_STAT.ACTIVE = n || s.get CFG_STAT.PENDING = n

/-- ERASE (R230). -/
def opErase (slot : Nat) (s : State) : State :=
  if s.slotBusy slot then s.cfgRefused (slot + 32) 4 else s.setSlot slot .reset

/-- Every slot below the profile counter reads INVALID (R231). -/
def State.rollbackSlots (s : State) : State :=
  (List.range 4).foldl (fun s n =>
    let x := s.slot n
    if x.state = 2 ∧ leAt x.bytes 16 4 < s.get CFG_ROLLBACK.VALUE then s.setSlot n { x with state := 3 } else s) s

/-- COMMIT_RB (R231). -/
def opCommitRb (s : State) : State :=
  let a := s.get CFG_STAT.ACTIVE
  if 4 ≤ a then s.cfgRefused 0x40 3
  else
    let old := s.get CFG_ROLLBACK.VALUE
    let rb := leAt (s.slot a).bytes 16 4
    if old < rb then
      (s.put CFG_ROLLBACK.VALUE rb).rollbackSlots.emit srcCfg Code.CFG_ROLLBACK (le 1 old ++ le 1 rb)
    else s

/-- CFG_CTL_WRITE (R233): a signed OWNER write. -/
def opCfgCtlWrite (pinEn : Bool) (pref : Nat) (s : State) : State :=
  (s.putB CFG_CTL.PIN_EN pinEn).put CFG_CTL.PREF pref

/-- XFER_BEGIN (R230). A transfer under way ends as by ABORT (log entry 128). -/
def opXferBegin (slot len : Nat) (s : State) : State :=
  if len = 0 ∨ 4194304 < len then s
  else if s.slotBusy slot then s.cfgRefused (slot + 4) 4
  else
    let old := s.get CFG_XFER_CTL.SLOT
    let s := if s.get CFG_XFER_STAT.STATE = 1 ∨ s.get CFG_XFER_STAT.STATE = 2 then s.setSlot old ⟨3, []⟩ else s
    let s := { s.setSlot slot ⟨1, []⟩ with cfg := { s.cfg with xfer := [] } }
    s.puts [(CFG_XFER_CTL.SLOT, slot), (CFG_XFER_CTL.LENGTH, len), (CFG_XFER_STAT.STATE, 1), (CFG_XFER_STAT.CAUSE, 0),
      (CFG_XFER_STAT.RECEIVED, 0)]

/-- XFER_DATA (R230): four bytes, the first in bits [7:0]; ignored outside RECEIVING. -/
def opXferData (w : Word) (s : State) : State :=
  if s.get CFG_XFER_STAT.STATE = 1 then
    { s with cfg := { s.cfg with xfer := s.cfg.xfer ++ le 4 w.toNat } }.inc CFG_XFER_STAT.RECEIVED
  else s

/-- XFER_COMMIT (R230): verification starts. -/
def opXferCommit (s : State) : State :=
  if s.get CFG_XFER_STAT.STATE = 1 then s.put CFG_XFER_STAT.STATE 2 else s

/-- XFER_ABORT (R230): a transfer ends, also while it is verified. -/
def opXferAbort (s : State) : State :=
  if s.get CFG_XFER_STAT.STATE = 1 ∨ s.get CFG_XFER_STAT.STATE = 2 then
    { (s.setSlot (s.get CFG_XFER_CTL.SLOT) ⟨3, []⟩).put CFG_XFER_STAT.STATE 0 with cfg := { s.cfg with xfer := [] } }
  else s

/-- The rejection record of steps 1-6 (R222). -/
def State.rejectionRecord (s : State) (slot : Nat) (r : Rejection) : State :=
  if r.security then
    (s.put CFG_EVT.BADSIG 1).emit srcCfg Code.CFG_BAD_SIGNATURE (le 1 slot ++ le 1 r.cause ++ slice r.signer 0 8)
  else (s.put CFG_EVT.BADCONT 1).emit srcCfg Code.CFG_BAD_CONTAINER (le 1 slot ++ le 1 r.cause ++ le 4 r.ofs)

/-- The path bytes of clamp entries and records: three indices of 16 bits, 0xFFFF where none (Table 7.11). -/
def pathBytes (p : List Nat) : List Byte :=
  le 2 (p.getD 0 0xFFFF) ++ le 2 (p.getD 1 0xFFFF) ++ le 2 (p.getD 2 0xFFFF)

/-- CFG_SECTION_REFUSED (Table 7.14). -/
def State.sectionRefused (s : State) (slot : Nat) (r : Rej) : State :=
  (s.put CFG_EVT.REFUSED 1).emit srcCfg Code.CFG_SECTION_REFUSED
    (le 1 r.sec ++ le 1 r.cause ++ le 2 r.fid ++ pathBytes r.path ++ le 1 slot)

/-- What a slot is verified against; `owner` is the OWNER role key. -/
def State.verifyCtx (s : State) (slot : Nat) (owner : Option (List Byte)) : VerifyCtx :=
  ⟨slot, owner, s.get CFG_ROLLBACK.VALUE, s.uid⟩

/-- CFG_XFER_DONE (R222, R230): verification of steps 1-7 completes. -/
def opXferDone (owner : Option (List Byte)) (s : State) : State :=
  if s.get CFG_XFER_STAT.STATE ≠ 2 then s
  else
    let n := s.get CFG_XFER_CTL.SLOT
    let len := s.get CFG_XFER_CTL.LENGTH
    let b := s.cfg.xfer
    let s := { s.put CFG_EVT.XFER 1 with cfg := { s.cfg with xfer := [] } }
    let failed (r : Rejection) (s : State) : State :=
      ((s.setSlot n ⟨3, b⟩).puts [(CFG_XFER_STAT.STATE, 4), (CFG_XFER_STAT.CAUSE, r.cause)]).rejectionRecord n r
    if b.length ≠ len then failed ⟨8, 0, []⟩ s
    else
      match verifyContainer (s.verifyCtx n owner) b with
      | .error r => failed r s
      | .ok ps =>
        let s := (s.setSlot n ⟨2, b⟩).put CFG_XFER_STAT.STATE 3
        let s := ps.foldl (fun s p =>
          if (tlvWalk (p.2.length + 1) [] p.2).isNone then s.sectionRefused n ⟨p.1, 5, 0, []⟩ else s) s
        s.emit srcCfg Code.CFG_XFER_DONE (le 1 n ++ le 4 len ++ slice b 20 4)

end Sys2Proof.Machine
end

