-- ==== Sys2Proof/Machine/Slices.lean ====
section
/-! DEFINITION. Units under logic BIST and the interruption of a slice (R385, R386, Table 13.1). -/

namespace Sys2Proof.Machine

/-- The record source of a unit. -/
def srcUnit (u : Nat) : Nat :=
  if u < 20 then srcBist u else if u < 23 then 0xC100 + (u - 20) else if u = 24 then 0xA301
  else if u = 32 then 0xC201 else 0xC200

def State.unit (s : State) (u : Nat) : BistUnit := sparseGet .reset s.bist.units u
def State.setUnit (s : State) (u : Nat) (x : BistUnit) : State :=
  { s with bist := { s.bist with units := sparseSet .reset s.bist.units u x } }

/-- The state that a unit returns to when its slice ends: an engine or channelizer UNDER_TEST becomes SPARE. -/
def State.untest (s : State) (u : Nat) : State :=
  if (s.unit u).must then s
  else if u < 20 then if s.get (GAL_ENG.STATE u) = 3 then (s.put (GAL_ENG.STATE u) 0).put GAL_STAT.TESTING 0 else s
  else if u < 23 then if s.get (ACQ_CHZ.STATE (u - 20)) = 4 then s.put (ACQ_CHZ.STATE (u - 20)) 0 else s
  else s

/-- A unit sent to UNDER_TEST by a mismatch stays there until its whole test has passed (R98, R191). -/
def State.mustTest (s : State) (u : Nat) : State := s.setUnit u { s.unit u with must := true }

/-- The wait, in ns, from one slice of a unit to its next: 20 ms between short slices (R391), 10 ms after any other slice of an
engine or channelizer (R389) and after every interruption (R386). -/
def sliceWait (u : Nat) (short stopped : Bool) : Nat :=
  if short && u < 23 then 20000000 else if stopped || u < 23 then 10000000 else 0

/-- The slice in progress is interrupted (R386): discarded, counted, recorded at most once a minute per unit. -/
def State.bistInterrupt (s : State) (cause : Nat) : State :=
  let u := s.get TST_STAT.UNIT
  if u = 0xFF then s
  else
    let x := s.unit u
    let s := ((s.untest u).put TST_STAT.UNIT 0xFF).inc TST_CNT.INTR
    let n := x.intr + 1
    let fresh : Bool := match x.intrAt with
      | some t => decide (t + 60000000000 ≤ s.clk.up)
      | none => true
    let x := { x with repeated := x.repeated + 1, intrs := x.intrs + 1, holdTo := s.clk.up + sliceWait u x.short true }
    if fresh then
      let s := (s.setUnit u { x with intr := 0, intrAt := some s.clk.up }).put TST_EVT.INTR 1
      s.emit (srcUnit u) Code.BIST_INTERRUPTED (le 1 u ++ le 1 (x.slices % 256) ++ le 1 cause ++ le 2 (min 0xFFFF n))
    else s.setUnit u { x with intr := n }

/-- The slice of a unit abandoned, as far as one is in progress, when the unit is taken into service (R99, R386). -/
def State.sliceAbandon (s : State) (u : Nat) : State :=
  let s := if s.get TST_STAT.UNIT = u then s.bistInterrupt 2 else s
  s.setUnit u { s.unit u with active := false, must := false }

end Sys2Proof.Machine
end

