-- ==== Sys2Proof/Machine/Cells.lean ====
section
/-! DEFINITION. Fused cells of strain-free zones (R163, R167, R168, Table 5.3): how zone transitions move them. -/

namespace Sys2Proof.Machine

def State.tmp (s : State) (f : Nat) : TmpFibre := sparseGet .reset s.tmps f
def State.setTmp (s : State) (f : Nat) (x : TmpFibre) : State := { s with tmps := sparseSet .reset s.tmps f x }

/-- The key of a fused cell. -/
def cellKey (f z c : Nat) : Nat := (256 * f + z) * 4096 + c

def State.cell (s : State) (f z c : Nat) : Cell := sparseGet .reset s.cells (cellKey f z c)
def State.setCell (s : State) (f z c : Nat) (x : Cell) : State :=
  { s with cells := sparseSet .reset s.cells (cellKey f z c) x }

/-- The number of cells of a zone (R132). -/
def Plane.cellCount (p : Plane) (f z : Nat) : Nat :=
  let size := p.nat 3 4 0x084 [f, z]
  if size = 0 then 0 else (p.nat 3 4 0x082 [f, z] + 1 - p.nat 3 4 0x081 [f, z] + size - 1) / size

/-- The declared strain-free zones kept under the limit of 4,096 cells: in ascending order, each zone whose cells
still fit (R163). -/
def keepZones (cells : Nat → Nat) : List Nat → Nat → List Nat
  | [], _ => []
  | z :: t, used => if used + cells z ≤ 4096 then z :: keepZones cells t (used + cells z) else keepZones cells t used

/-- The strain-free zones of fibre f that take part in fusion (R163). -/
def Plane.strainFree (p : Plane) (f : Nat) : List Nat :=
  let named := ((p.bytes 5 1 0x04C [f]).getD []).map (·.toNat)
  keepZones (p.cellCount f) ((List.range 256).filter (fun z => z ∈ named)) 0

/-- The fused cells of a zone; none where the zone takes no part in fusion. -/
def State.fusedCells (s : State) (f z : Nat) : List Nat :=
  if z ∈ s.cfg.sens.strainFree f then List.range (s.cfg.sens.cellCount f z) else []

/-- A zone turns VALID: its INVALID cells wait for an update. -/
def State.cellsWait (s : State) (f z : Nat) : State :=
  (s.fusedCells f z).foldl
    (fun s c => let x := s.cell f z c; if x.state = 0 then s.setCell f z c { x with state := 1 } else s) s

/-- A zone goes INVALID: so do its cells. -/
def State.cellsInvalid (s : State) (f z : Nat) : State :=
  (s.fusedCells f z).foldl (fun s c => s.setCell f z c .reset) s

/-- A FUSED cell loses phase continuity (R168). -/
def State.cellRebase (s : State) (f z c cause : Nat) : State :=
  let x := s.cell f z c
  if x.state = 2 then
    let s := (s.setCell f z c { x with state := 3, lostAt := s.clk.up, acc := [], hist := [], fits := [] }).put (TMP_EVT.REBASE f) 1
    s.emit (srcZone f z) Code.FUSED_REBASE (le 2 c ++ le 1 cause)
  else s

/-- A zone enters SETTLING: FUSED cells go to REBASE with cause 0x01, WAITING cells to INVALID (Table 5.3). -/
def State.cellsSettle (s : State) (f z : Nat) : State :=
  (s.fusedCells f z).foldl
    (fun s c => if (s.cell f z c).state = 1 then s.setCell f z c .reset else s.cellRebase f z c 1) s

end Sys2Proof.Machine
end

