-- ==== Sys2Proof/Machine/Waveform.lean ====
section
/-! DEFINITION. The probe waveform and the events of a cycle (02_probe_and_timebase.md): slot offsets (R61), the drive of a tone
(R62), the shots of a cycle and their pin events (R68, Table 2.5), the waveform bank of a fibre (R63). -/

namespace Sys2Proof.Machine

/-- The offset of slot k from the cycle start in ns (R61). -/
def slotOffset (len k : Nat) : Nat := 8 * (k * len / 4)

/-- The centre IF of a tone in MHz (Table 2.3). -/
def toneIf (k : Nat) : Int := [-180, -60, 60, 180].getD k 0

/-- The window w(t) of R62: 1, or a Tukey window with taper fraction 0.10 or 0.25; `t` and `len` in ns. -/
def taperAt (taper len : Nat) (t : Rat) : Rat :=
  let α : Rat := if taper = 1 then 1 / 10 else if taper = 2 then 1 / 4 else 0
  let edge := α * len / 2
  let d := if t < len - t then t else len - t
  if d < edge then (1 - Config.cosTurn (d / (2 * edge))) / 2 else 1

/-- The phase of R62 in turns, for the whole sweep of 100 MHz; t in ns, so MHz x ns is 1/1000 turn. -/
def chirpTurns (x : Shot) (t : Rat) : Rat :=
  let d : Rat := if x.down then -1 else 1
  ((toneIf x.tone - d * 50) * t + d * 100 * t * t / (2 * x.len)) / 1000

/-- The drive of a shot (R62), `t` ns after its first sample: `Ff_MI` and `Ff_MQ` as fractions of full scale; zero outside it. -/
def Shot.drive (x : Shot) (t : Rat) : Rat × Rat :=
  if 0 ≤ t ∧ t < x.len then
    let a := x.amp * taperAt x.taper x.len t
    let φ := chirpTurns x t
    (a * Config.cosTurn φ, a * Config.sinTurn φ)
  else (0, 0)

/-- What the DACs of a fibre hold `t` ns after the cycle start: a shot's drive in its slot, code zero outside shots (R62). -/
def dacAt (plan : List Shot) (t : Rat) : Rat × Rat :=
  match plan.find? (fun x => x.start ≤ t && t < (x.start + x.len : Nat)) with
  | some x => x.drive (t - x.start)
  | none => (0, 0)

/-- The waveform bank of fibre f under a plane (R62, R63): one shot a tone, its amplitude A_k / 255. -/
def Plane.waveBank (p : Plane) (f : Nat) : List Shot :=
  (List.range 4).map (fun k => ⟨k, 0, 8 * p.nat 2 1 0x044 [f], p.nat 2 2 0x045 [f, k] = 1, p.nat 2 1 0x046 [f],
    (p.nat 2 2 0x047 [f, k] : Rat) / 255⟩)

/-- The samples of a bank's shot, `Ff_MI` and `Ff_MQ` at 1 GS/s, as DAC codes (R62). -/
def Shot.samples (x : Shot) : List (Int × Int) :=
  (List.range x.len).map (fun t => (Config.dacCode (x.drive t).1, Config.dacCode (x.drive t).2))

/-- Whether a bank is not used (R63): its CRC-32C has differed from the one sent with it twice. -/
def bankFails (c : BankCheck) : Bool := c.first ≠ c.sent && c.second ≠ c.sent

/-- Tone k of the active bank in its slot of fibre f's cycle, its amplitude scaled (R61). -/
def State.shotOf (s : State) (f k : Nat) (scale : Rat) : List Shot :=
  ((s.fib f).bank.filter (fun x => x.tone = k && x.amp ≠ 0)).map
    (fun x => { x with start := slotOffset (s.get (PRB_CYC.LEN f)) k, amp := x.amp * scale })

/-- The shots of a full cycle: every tone with a non-zero amplitude (R62, R73). -/
def State.fullShots (s : State) (f : Nat) : List Shot := (List.range 4).flatMap (fun k => s.shotOf f k 1)

/-- The shot of a check-burst cycle: tone 0 at A_0 x 10^(-ATTEN/20) (R73). -/
def State.checkShots (s : State) (f : Nat) : List Shot := s.shotOf f 0 (Config.exp10 (-(s.get PRB_APR.ATTEN : Rat) / 20))

/-- The events of one shot (Table 2.5), in 0.5 ns from the cycle start. -/
def State.shotPins (s : State) (f : Nat) (x : Shot) : List PinEvent :=
  let lead : Int := 4 * s.get (PRB_GATE.SOA_LEAD f)
  let lag : Int := 4 * s.get (PRB_GATE.SOA_LAG f)
  let t0 : Int := 2 * x.start
  let t1 : Int := 2 * (x.start + x.len : Nat)
  [⟨t0 - lead, .soa, true⟩, ⟨t0, .dac, true⟩, ⟨t1, .dac, false⟩, ⟨t1 + lag, .soa, false⟩]

/-- The events of the Raman pulse (Table 2.5). -/
def State.ramanPins (s : State) (f : Nat) : List PinEvent :=
  let t : Int := 64 * s.get (PRB_GATE.RMN_OFS f)
  [⟨t, .rmn, true⟩, ⟨t + s.get (PRB_GATE.RMN_W f), .rmn, false⟩]

/-- The tones of a list of shots, bit k for tone k. -/
def shotTones (xs : List Shot) : Nat := (xs.map (fun x => 2 ^ x.tone)).sum

/-- The cycle's emission with one tone cut (R63). -/
def Fibre.cut (x : Fibre) (k : Nat) : Fibre :=
  { x with shots := setBitOf x.shots k false, plan := x.plan.filter (fun q => q.tone ≠ k), spoilt := setBitOf x.spoilt k true }

/-- A fibre with nothing emitting: shots and pulses cut off (R74, R77, R78). -/
def Fibre.quiet (x : Fibre) : Fibre := { x with shots := 0, raman := false, plan := [], pins := [] }

end Sys2Proof.Machine
end

