-- ==== Sys2Proof/Machine/Signal.lean ====
section
/-! DEFINITION. The signal path of acquisition (03_coherent_acquisition.md): converters and sample words (R88, R89), the I/Q correction
(R108), the channelizer (R95, R96), pulse compression (R101, R102), bins and their flags (R90, R91, R112), trace windows (R103). -/

set_option Elab.async false

namespace Sys2Proof.Machine

/-! ### Converters (R86, R88, R89) -/

/-- A sample as a converter delivers it: code and overrange flag. -/
structure Sample where
  code : Int
  ovr : Bool
  deriving DecidableEq, Repr

/-- The unlimited code of an input voltage (R88). -/
def adcCode (v : Rat) : Int := roundHalf (8192 * v / (1 / 2))

/-- The limit of a 14-bit code (R88). -/
def adcLimit (c : Int) : Int := satS 14 c

/-- How long a converter needs to recover once the input is back within full scale, ns (R89): `short` for excursions up to 1.0 V. -/
def adcRecovery (short : Nat) (v : Rat) : Nat := if |v| ≤ 1 then short else 40

/-- A train of samples every `period` ns (R88, R89): a sample is flagged while its code would lie outside the range and during the
recovery; `left` is what is left of a recovery, ns. -/
def adcTrain (period short : Nat) : Nat → List Rat → List Sample
  | _, [] => []
  | left, v :: t =>
    let c := adcCode v
    if c ≠ adcLimit c then ⟨adcLimit c, true⟩ :: adcTrain period short (max left (adcRecovery short v)) t
    else ⟨c, 0 < left⟩ :: adcTrain period short (left - period) t

/-- The samples of a coherent converter, every 2 ns. -/
def coherentTrain (vs : List Rat) : List Sample := adcTrain 2 4 0 vs

/-- The samples of a Raman converter, every 8 ns. -/
def ramanTrain (vs : List Rat) : List Sample := adcTrain 8 8 0 vs

/-- The 16-bit sample word (R89). -/
def Sample.word (x : Sample) : Nat := 4 * ofSigned 14 x.code + b2n x.ovr

/-! ### Complex samples -/

/-- A complex value: in-phase and quadrature. -/
abbrev Cx := Rat × Rat

def Cx.add (a b : Cx) : Cx := (a.1 + b.1, a.2 + b.2)
def Cx.mul (a b : Cx) : Cx := (a.1 * b.1 - a.2 * b.2, a.1 * b.2 + a.2 * b.1)
def Cx.conj (a : Cx) : Cx := (a.1, -a.2)
def Cx.scale (r : Rat) (a : Cx) : Cx := (r * a.1, r * a.2)
def Cx.power (a : Cx) : Rat := a.1 * a.1 + a.2 * a.2
def Cx.abs (a : Cx) : Rat := Config.sqrt a.power
/-- A unit phasor of an angle in turns. -/
def Cx.turn (φ : Rat) : Cx := (Config.cosTurn φ, Config.sinTurn φ)
def Cx.sum (l : List Cx) : Cx := l.foldl Cx.add (0, 0)

/-- The angle of a complex value in turns. -/
def Cx.arg (a : Cx) : Rat := Config.argTurn a.1 a.2

/-! ### Blind I/Q correction (R108) -/

/-- The correction of one polarisation before tone separation (R108): DC offsets, skew of Q against I, gain of Q against I, phase from
quadrature. Phase 1e-5 rad; a turn is 2 pi. -/
def IqCoef.correct (c : IqCoef) (i q : List Rat) : List Cx :=
  let i := i.map (fun x => x - c.dcI / 16)
  let q := (Config.delayed (-c.skew) q).map (fun x => (x - c.dcQ / 16) / (1 + c.gain / 100000))
  let φ := c.phase / 100000 / (2 * Config.pi)
  (i.zip q).map (fun p => (p.1, (p.2 - p.1 * Config.sinTurn φ) / Config.cosTurn φ))

/-! ### The channelizer (R95, R96) -/

/-- A word of a channelizer: 16-bit I and Q with 2 fraction bits, and the overrange flag of its span. -/
structure ChzWord where
  i : Int
  q : Int
  ovr : Bool
  deriving DecidableEq, Repr

/-- The taps: linear phase, 127 of them. -/
def chzTap (i : Nat) : Rat := Config.chzTap (min i (126 - i))

/-- The output sample for the instant `at0 + 2 j` ns + 126 ns, from the 127 input samples from index j on, the first input sample
standing for the run time `t0` ns: mixed by tone k, filtered, rounded. -/
def chzOut (k : Nat) (t0 : Rat) (zs : List (Cx × Bool)) (j : Nat) : ChzWord :=
  let span := (zs.drop j).take 127
  let y := Cx.sum (span.zipIdx.map (fun p =>
    Cx.scale (chzTap p.2) (Cx.mul p.1.1 (Cx.turn (-(toneIf k : Rat) * (t0 + 2 * (j + p.2 : Nat)) / 1000)))))
  ⟨satS 16 (Config.round16 (4 * y.1)), satS 16 (Config.round16 (4 * y.2)), span.any (·.2)⟩

/-! ### Pulse compression (R101, R102) -/

/-- The Hamming window over `L + 1` taps (R101). -/
def hamming (l m : Nat) : Rat := 54 / 100 - 46 / 100 * Config.cosTurn (m / (l : Rat))

/-- The replica h_k[m] of a shot (R101): the drive with f_k removed, `eps` ns early, weighted. -/
def replica (x : Shot) (weight : Bool) (eps : Rat) (m : Nat) : Cx :=
  let t : Rat := 8 * m - eps
  let w := if weight then hamming (x.len / 8) m else 1
  Cx.scale w (Cx.mul (x.drive t) (Cx.turn (-(toneIf x.tone : Rat) * t / 1000)))

/-- The gain G_k (R101). -/
def replicaGain (hs : List Cx) : Rat := 1 / (hs.map Cx.abs).sum

/-- A compressed bin (R101): 16-bit I and Q, and the overrange flag of R112. -/
structure Bin where
  i : Int
  q : Int
  ovr : Bool
  deriving DecidableEq, Repr

/-- A bin's value in codes. -/
def Bin.cx (x : Bin) : Cx := ((x.i : Rat) / 4, (x.q : Rat) / 4)

/-- The bins of one tone in one polarisation. -/
structure Look where
  tone : Nat
  pol : Nat
  bins : List Bin
  deriving DecidableEq, Repr

/-- One bin from the channelizer words from its n_b on (R101). -/
def compress (hs : List Cx) (xs : List ChzWord) (ovr : Bool) : Bin :=
  let y := Cx.scale (replicaGain hs) (Cx.sum ((xs.zip hs).map (fun p => Cx.mul ((p.1.i : Rat), (p.1.q : Rat)) p.2.conj)))
  ⟨satS 16 (Config.round16 y.1), satS 16 (Config.round16 y.2), ovr⟩

/-! ### Traces: windows, bins and looks (R90, R103, R112) -/

/-- D0 in 1/8 ns (R90). -/
def State.d0 (s : State) (f : Nat) : Int := (s.get (ACQ_ZERO.DELAY f) : Int) - 64 * s.get (ACQ_ZERO.CBIN f)

/-- The instant of bin b of a tone with slot offset `tau` ns in a cycle that started at run time `t`, in 1/8 ns (R90). -/
def binInstant (d0 : Int) (t tau b : Nat) : Int := 8 * (t + tau : Nat) + d0 + 64 * b

/-- The window of a trace in 1/8 ns of run time (R103), `first` and `last` the lowest and highest slot offsets fired, `tc` in ns. -/
def traceWindow (d0 : Int) (t first last n tc : Nat) : Int × Int :=
  (binInstant d0 t first 0 - 8 * 126, binInstant d0 t last (n - 1) + 8 * tc + 8 * 126)

/-- The span S of a fibre's traces in ns (R103), with all four tones active; rounded up. -/
def State.spanNs (s : State) (f : Nat) : Nat :=
  let l := s.get (PRB_CYC.LEN f)
  slotOffset l 3 + 8 * (s.get (PRB_BINS.NBINS f) - 1) + 8 * s.get (PRB_CHIRP.LEN f) + 252

/-- The instant of Raman bin 0 after the cycle start in 1/8 ns (R91). -/
def State.raman0 (s : State) (f : Nat) : Int :=
  256 * s.get (PRB_GATE.RMN_OFS f) + s.get (ACQ_RZERO.RDELAY f) - 64 * s.get (ACQ_ZERO.CBIN f)

/-- The window of the Raman trace of a cycle that started at run time `t` (R103). -/
def State.ramanWindow (s : State) (f t : Nat) : Int × Int :=
  let a := 8 * (t : Int) + s.raman0 f
  (a - 64, a + 64 * ((s.get (PRB_BINS.NBINS f) : Int) - 1) + 64)

/-- Whether a trace was fired in full (`FULL`), in a check burst (`CHECK`) or not at all (R102). -/
inductive EmissionKind where
  | none | check | full
  deriving DecidableEq, Repr

def TraceRec.kind (r : TraceRec) : EmissionKind := if r.plan = [] then .none else if r.full then .full else .check

/-- The lowest slot offset that fired. -/
def TraceRec.first (r : TraceRec) : Nat := (r.plan.map (·.start)).foldl min (r.plan.headD ⟨0, 0, 0, false, 0, 0⟩).start

/-- The four coherent converters of a trace. -/
def coherentTrains (v : TraceVolts) : List (List Sample) := [v.xi, v.xq, v.yi, v.yq].map coherentTrain

/-- One polarisation after the I/Q correction: complex samples with their overrange flags (R95 item 1). -/
def polarisation (c : IqCoef) (i q : List Sample) : List (Cx × Bool) :=
  (c.correct (i.map (fun x => (x.code : Rat))) (q.map (fun x => (x.code : Rat)))).zip ((i.zip q).map (fun p => p.1.ovr || p.2.ovr))

/-- The compressed bins of one shot in one polarisation, `n` of them (R101), from samples whose first stands for `t0` ns of run time;
`q` is the whole part of D0 in 8 ns, `base` the samples from the first one to the span of bin 0 of this shot. -/
def shotBins (x : Shot) (weight : Bool) (eps t0 : Rat) (base n : Nat) (zs : List (Cx × Bool)) : List Bin :=
  let l := x.len / 8
  let hs := (List.range (l + 1)).map (replica x weight eps)
  let words := (List.range (n + l)).map (fun b => chzOut x.tone t0 zs (base + 4 * b))
  let lo := (eps / 2).ceil.toNat
  let hi := (eps / 2).floor.toNat
  (List.range n).map (fun b =>
    compress hs ((words.drop b).take (l + 1))
      (((zs.drop (base + 4 * b + lo)).take (127 + 4 * l + hi - lo)).any (·.2)))

/-- Every look of a trace (R101, R102): tones and shots as they were fired, `n` bins of each. -/
def State.traceLooks (s : State) (f : Nat) (r : TraceRec) (v : TraceVolts) (n : Nat) : List Look :=
  let d0 := s.d0 f
  let q := d0 / 64
  let eps : Rat := (d0 % 64 : Int) / 8
  let t0 : Rat := (r.fired + r.first : Nat) + 8 * q - 126
  let tr := coherentTrains v
  let pol (p : Nat) : List (Cx × Bool) :=
    polarisation ((sparseGet .reset s.iqs (2 * f + p)).cur) (tr.getD (2 * p) []) (tr.getD (2 * p + 1) [])
  r.plan.flatMap (fun x => (List.range 2).map (fun p =>
    ⟨x.tone, p, shotBins x (s.on (ACQ_CFG.WEIGHT f)) eps t0 ((x.start - r.first) / 2) n (pol p)⟩))

/-! ### Raman traces (R91, R112) -/

/-- The bins of a Raman trace (R91): linear interpolation between the two samples that bracket a bin's instant, flagged where either
is. -/
def ramanTraceBins (frac : Rat) : List Sample → List (Rat × Bool)
  | a :: b :: t => ((1 - frac) * a.code + frac * b.code, a.ovr || b.ovr) :: ramanTraceBins frac (b :: t)
  | _ => []

/-- The Raman bins of a trace from one converter, at most N. -/
def State.ramanTrace (s : State) (f : Nat) (vs : List Rat) : List (Rat × Bool) :=
  (ramanTraceBins (((s.raman0 f % 64 : Int) : Rat) / 64) (ramanTrain vs)).take (s.get (PRB_BINS.NBINS f))

/-- The longest run of flagged samples of a train. -/
def longestRun : Nat → List Sample → Nat
  | n, [] => n
  | n, x :: t => if x.ovr then max (n + 1) (longestRun (n + 1) t) else max n (longestRun 0 t)

end Sys2Proof.Machine
end

