-- ==== Sys2Proof/Machine/Sensing.lean ====
section
/-! DEFINITION. What the Gallery computes from the looks of a trace (04_acoustic_channels.md): the reference (R120, R121), differential
products, the acoustic series and its strain rate (R123-R125), band filters and cell levels (R132), detectors and clusters (R134), cell
powers, cliffs and check bursts (R141, R144), guard bins (R145), sample formats and raw windows (R7, R151). -/

set_option Elab.async false

namespace Sys2Proof.Machine

/-! ### Phases (R7, R151) -/

/-- A phase in turns wrapped into (-1/2, 1/2]. -/
def wrapTurn (φ : Rat) : Rat := φ - ((φ - 1 / 2).ceil : Int)

/-- A differential phase as a signed 16-bit number of 2 pi / 65536 (R7). -/
def phaseLsb (φ : Rat) : Int := toSigned 16 (ofSigned 16 (roundHalf (wrapTurn φ * 65536)))

/-- A sample of a PHASE window (R151): 0x8000 marks a dead sample, and a true -pi reads 0x8001. -/
def phaseCode (φ : Option Rat) : Nat :=
  match φ with
  | none => 0x8000
  | some φ => ofSigned 16 (max (-32767) (phaseLsb φ))

/-- A sample of a RATE window in pε/s (R151): 0x8000_0000 marks a dead sample. -/
def rateCode (r : Option Rat) : Nat :=
  match r with
  | none => 0x80000000
  | some r => ofSigned 32 (max (-2147483647) (satS 32 (roundHalf r)))

/-! ### Running values -/

/-- The mean of some values; 0 of none. -/
def meanOf (l : List Rat) : Rat := if l = [] then 0 else l.sum / l.length

/-- A first-order running value moved towards a new one. -/
def runMean (old : Option Rat) (x a : Rat) : Rat :=
  match old with
  | none => x
  | some m => m + (x - m) * a

/-- The entries of a time-stamped list not older than `span` ns. -/
def recent {α : Type} (now span : Nat) (l : List (Nat × α)) : List (Nat × α) := l.filter (fun p => now < p.1 + span)

/-- Ten times the decimal logarithm of a ratio. -/
def decibels (x : Rat) : Rat := 10 * Config.log10 x

/-! ### Differential products (R120, R123) -/

/-- A differential product over a gauge of `g` bins, turned back by `turn`, and whether one of its bins carries the overrange flag. -/
def diffProduct (bins : List Bin) (b g : Nat) (turn : Rat) : Cx × Bool :=
  match bins[b]?, bins[b + g]? with
  | some y0, some y1 => (Cx.mul (Cx.mul y1.cx y0.cx.conj) (Cx.turn (-turn)), y0.ovr || y1.ovr)
  | _, _ => ((0, 0), true)

/-- The bins of a look of a trace. -/
def lookBins (ls : List Look) (k p : Nat) : List Bin := ((ls.find? (fun l => l.tone = k && l.pol = p)).map (·.bins)).getD []

/-- The fade threshold as a ratio of |d| to its running mean (log entry 100). -/
def State.fadeRatio (s : State) : Rat := Config.exp10 (-((2 * s.get ACU_OPT.FADE + 3 : Nat) : Rat) / 10)

/-! ### The reference section (R120, R121) -/

/-- The reference of a shot: its excess in turns (none: NOREF), and whether an overrange flag made most of its looks weak. -/
structure RefShot where
  excess : Option Rat
  ovr : Bool
  deriving DecidableEq, Repr

/-! ### The acoustic series of a bin (R123-R125) -/

/-- A bin-sample of the acoustic series: its phase increment in turns (none: dead), its aligned phase, and its NOREF mark. -/
structure Inc where
  inc : Option Rat
  phase : Option Rat
  noref : Bool
  deriving DecidableEq, Repr

def Inc.dead (noref : Bool) : Inc := ⟨none, none, noref⟩

/-- The samples that a strong one settles (R124), `marks` the NOREF marks of the weak ones before it, up to three: those with a strong
sample no more than two away on each side take their share of the increment, the others are dead. -/
def fillWeak (d : Rat) (a : Rat) (marks : List Bool) (noref : Bool) : List Inc :=
  let g := marks.length + 1
  (marks.zipIdx.map (fun m =>
    let i := m.2 + 1
    if i ≤ 2 ∧ g - i ≤ 2 then ⟨some (d / g), some (wrapTurn (a - d + d * i / g)), m.1⟩ else Inc.dead m.1)) ++
  [⟨some (if g ≤ 4 then d / g else d), some a, noref⟩]

/-- A bin after the shot of tone k (R123, R124), `ds` the products of the two polarisations with what makes each weak beyond its size:
the bin, and the bin-samples that are settled. A weak sample waits for the strong one that fills it; after four in a row none can. -/
def BinProc.shot (x : BinProc) (now k : Nat) (noref : Bool) (th : Rat) (ds : List (Cx × Bool)) : BinProc × List Inc :=
  let mags := recent now 1000000000 x.mags ++ ds.zipIdx.map (fun q => (now, 2 * k + q.2, Cx.abs q.1.1))
  let mean (p : Nat) : Rat := meanOf ((mags.filter (fun m => m.2.1 = 2 * k + p)).map (·.2.2))
  let strong := (ds.zipIdx.filter (fun q => !q.1.2 && decide (th * mean q.2 ≤ Cx.abs q.1.1))).map (fun q => q.1.1)
  let x := { x with mags := mags, strong := recent now 250000000 x.strong }
  if strong = [] then
    let marks := x.marks ++ [noref]
    if x.weak < 3 then ({ x with weak := x.weak + 1, marks := marks }, [])
    else ({ x with weak := x.weak + 1, marks := [] }, marks.map Inc.dead)
  else
    let φ := (Cx.sum strong).arg
    let seen := x.strong ++ [(now, k, φ)]
    let a := wrapTurn (φ - Config.toneOffset (seen.map (·.2)) k)
    let y := { x with strong := seen, prev := some a, weak := 0, marks := [] }
    match x.prev with
    | none => (y, (x.marks ++ [noref]).map Inc.dead)
    | some b =>
      if x.weak ≤ 3 then (y, fillWeak (wrapTurn (a - b)) a x.marks noref)
      else (y, [⟨some (wrapTurn (a - b)), some a, noref⟩])

/-! ### Strain rate and band filters (R125, R132) -/

/-- What the processing of a zone takes from the profile: its bins, gauge and cells; the edges of its bands in Hz, none where a band is
off; kappa in pε per turn; the acoustic sample rate in Hz; the integration time in ns. -/
structure ZonePar where
  first : Nat
  last : Nat
  gauge : Nat
  cell : Nat
  edges : List (Option (Rat × Rat))
  kappa : Rat
  fs : Rat
  integ : Nat
  deriving DecidableEq, Repr

/-- kappa of R125 in pε per turn: lambda / (2 xi G x 1.199170 m), the 4 pi of a phase in radians taken with a turn's 2 pi. -/
def kappaTurn (lambda xi g : Nat) : Rat :=
  ((lambda : Rat) / 100) / (2 * (xi / 1000) * g * (1199170 / 1000000)) * 1000

/-- The acoustic sample rate f_s of a fibre in Hz: n_t / T_cyc. -/
def State.sampleRate (s : State) (f : Nat) : Rat :=
  if s.get (PRB_CYC.LEN f) = 0 then 0
  else (popCount 4 (s.activeTonesOf f) : Rat) * 1000000000 / (8 * s.get (PRB_CYC.LEN f) : Nat)

/-- Whether a band of a zone is enabled: a low edge, and one below its high edge (R126, Table 4.3). -/
def Plane.bandOn (p : Plane) (f z j : Nat) : Bool :=
  p.nat 3 5 0x085 [f, z, j] ≠ 0 && p.nat 3 5 0x085 [f, z, j] < p.nat 3 5 0x0A5 [f, z, j]

def State.zonePar (s : State) (f z : Nat) : ZonePar :=
  let p := s.cfg.sens
  let g := p.nat 3 4 0x083 [f, z]
  { first := p.nat 3 4 0x081 [f, z], last := p.nat 3 4 0x082 [f, z], gauge := g, cell := p.nat 3 4 0x084 [f, z]
    edges := (List.range 4).map (fun j => if p.bandOn f z j then
      some ((p.nat 3 5 0x085 [f, z, j] : Rat) / 1000, (p.nat 3 5 0x0A5 [f, z, j] : Rat) / 1000) else none)
    kappa := kappaTurn (s.get ACU_OPT.LAMBDA) (s.get ACU_OPT.XI) g
    fs := s.sampleRate f
    integ := p.nat 3 4 0x086 [f, z] * 1000000 }

/-- The bins that some cells of a zone take (R132: the last cell covers the bins that remain). -/
def ZonePar.extent (q : ZonePar) (first last : Nat) : Nat :=
  min (q.first + (last + 1) * q.cell) (q.last + 1) - (q.first + first * q.cell)

/-- The strain rate of a bin-sample in pε/s (R125); none where it is dead. -/
def Inc.rate (q : ZonePar) (i : Inc) : Option Rat := i.inc.map (fun d => q.kappa * d * q.fs)

/-- One input of a band filter: its output, and the inputs and outputs that it keeps, newest first. -/
def filterStep (q : ZonePar) (edge : Rat × Rat) (x : Rat) (m : List Rat × List Rat) : Rat × (List Rat × List Rat) :=
  let (bs, as) := Config.bandPass edge.1 edge.2 q.fs
  let xs := (x :: m.1).take bs.length
  let y := ((bs.zip xs).map (fun p => p.1 * p.2)).sum - ((as.zip m.2).map (fun p => p.1 * p.2)).sum
  (y, (xs, (y :: m.2).take as.length))

/-- One strain rate into every band of a bin: the outputs (0 for a band that is off). -/
def BinProc.feed (x : BinProc) (q : ZonePar) (rate : Rat) : List Rat × BinProc :=
  let out := q.edges.zipIdx.map (fun e => match e.1 with
    | some edge => filterStep q edge rate (x.bands.getD e.2 ([], []))
    | none => (0, ([], [])))
  (out.map (·.1), { x with bands := out.map (·.2) })

/-- Settled bin-samples into the bands: per sample the squared outputs (none: dead), and the strain summed up in nε. A dead sample
enters as strain rate 0 (R125). -/
def BinProc.feedAll (x : BinProc) (q : ZonePar) : List Inc → List (Option (List Rat)) × BinProc
  | [] => ([], x)
  | i :: t =>
    let (ys, x) := x.feed q ((i.rate q).getD 0)
    let x := { x with strain := x.strain + q.kappa * (i.inc.getD 0) / 1000, last := i.phase.bind (fun a => (i.rate q).map (fun r => (a, r))) }
    let (rest, x) := x.feedAll q t
    ((i.inc.map (fun _ => ys.map (fun y => y * y))) :: rest, x)

/-! ### The reference of a shot (R120, R121) -/

/-- A shot's reference (R120, R121) at the run time `now`, in a cycle of `tc` ns: the section `first`, `len` with the gauge `g`, which
`q` holds too; `hold` tells for each polarisation whether its estimator is in HOLD. The section's phase is accumulated as a bin's is
(R164). -/
def AcoFibre.reference (x : AcoFibre) (q : ZonePar) (now tc first len g k : Nat) (th : Rat) (hold : Nat → Bool) (ls : List Look) :
    RefShot × AcoFibre :=
  if len < 4 then (⟨none, false⟩, x)
  else
    let pols : List (Nat × Nat) := (List.range 2).flatMap (fun p => (List.range (len - g)).map (fun b => (p, first + b)))
    let prods := pols.map (fun q => (q, diffProduct (lookBins ls k q.1) q.2 g 0))
    let mags := recent now 1000000000 x.refMags ++ prods.map (fun q => (now, 2 * k + q.1.1, q.1.2, Cx.abs q.2.1))
    let mean (q : Nat × Nat) : Rat :=
      meanOf ((mags.filter (fun m => m.2.1 = 2 * k + q.1 && m.2.2.1 = q.2)).map (·.2.2.2))
    let strong := prods.filter (fun q => !q.2.2 && !hold q.1.1 && decide (th * mean q.1 ≤ Cx.abs q.2.1))
    let ovr := prods.length < 2 * (prods.filter (fun q => q.2.2)).length
    let φ := (Cx.sum (prods.map (·.2.1))).arg
    let old := (x.refMean.find? (fun m => m.1 = k)).map (·.2)
    let mean' := match old with
      | none => φ
      | some m => m + wrapTurn (φ - m) * Config.firstOrder tc 1000000000
    let lost := decide (2 * strong.length < prods.length)
    let (bin, incs) := x.refBin.shot now k false 0 [(Cx.sum (prods.map (·.2.1)), lost)]
    let (_, bin) := bin.feedAll q incs
    let x := { x with refBin := { bin with bands := [] }, refMags := mags, refMean := (x.refMean.filter (fun m => m.1 ≠ k)) ++ [(k, mean')] }
    (⟨if lost then none else some (wrapTurn (φ - mean')), lost && ovr⟩, x)

/-! ### A zone after a shot (R123-R125, R128, R132) -/

/-- What one bin gives to the sums of its cell. -/
structure BinOut where
  bin : Nat
  squares : List (Option (List Rat))
  dead : Nat
  noref : Nat
  bad : Nat
  deriving DecidableEq, Repr

/-- One bin of a zone after a shot. -/
def ZonePar.binShot (q : ZonePar) (now k : Nat) (ref : Option Rat) (gr : Nat) (th : Rat) (hold : Nat → Bool) (ls : List Look)
    (i : Nat) (x : BinProc) : BinOut × BinProc :=
  let turn := (ref.getD 0) * q.gauge / gr
  let ds := (List.range 2).map (fun p =>
    let d := diffProduct (lookBins ls k p) (q.first + i) q.gauge turn
    (d.1, d.2 || hold p))
  let (x, incs) := x.shot now k ref.isNone th ds
  let (sq, x) := x.feedAll q incs
  let x := { x with settled := recent now 1000000000 x.settled ++ [(now, (incs.filter (fun m => m.inc.isNone)).length, incs.length)] }
  (⟨i, sq, (incs.filter (fun m => m.inc.isNone)).length, (incs.filter (·.noref)).length,
    (incs.filter (fun m => m.inc.isNone || m.noref)).length⟩, x)

/-- The sums of the cells of one band over some bins (R132). -/
def ZonePar.cellSums (q : ZonePar) (cells j : Nat) (os : List BinOut) : List (Rat × Nat) :=
  (List.range cells).map (fun c =>
    let vs := (os.filter (fun o => o.bin / q.cell = c)).flatMap (fun o => (o.squares.filterMap id).map (fun ys => ys.getD j 0))
    (vs.sum, vs.length))

/-- A zone after the shot of tone k of a FULL trace. -/
def ZoneProc.shot (x : ZoneProc) (q : ZonePar) (cells now k : Nat) (ref : Option Rat) (gr : Nat) (th : Rat) (hold : Nat → Bool)
    (ls : List Look) : ZoneProc :=
  let res := (List.range (q.last + 1 - q.first)).map (fun i => q.binShot now k ref gr th hold ls i (x.bins.getD i .fresh))
  let os := res.map (·.1)
  let t : Tally := ⟨(os.map (·.dead)).sum, (os.map (·.noref)).sum, (os.map (·.bad)).sum, (os.map (fun o => o.squares.length)).sum⟩
  { x with
    bins := res.map (·.2)
    sums := recent now q.integ x.sums ++ [(now, (List.range 4).map (fun j => q.cellSums cells j os))]
    dead := recent now 1000000000 x.dead ++ [(now, (List.range cells).map (fun c =>
      let mine := os.filter (fun o => o.bin / q.cell = c)
      ((mine.map (·.dead)).sum, (mine.map (fun o => o.squares.length)).sum)))]
    tally := recent now 1000000000 x.tally ++ [(now, t)] }

/-- `n` missing samples in every bin: strain rate 0 into the filters, and the gap mark (R130). -/
def ZoneProc.missing (x : ZoneProc) (q : ZonePar) (now n : Nat) : ZoneProc :=
  { x with
    bins := x.bins.map (fun b => (List.range n).foldl (fun b _ => (b.feed q 0).2) b)
    gaps := (x.gaps.filter (fun t => now < t + 10000000000)) ++ [now] }

/-- The tally of the last second. -/
def ZoneProc.lastSecond (x : ZoneProc) (now : Nat) : Tally :=
  let ts := (recent now 1000000000 x.tally).map (·.2)
  ⟨(ts.map (·.dead)).sum, (ts.map (·.noref)).sum, (ts.map (·.bad)).sum, (ts.map (·.all)).sum⟩

/-- A share in 0.1 %. -/
def share (n all : Nat) : Nat := if all = 0 then 0 else 1000 * n / all

/-- A cell level in 0.01 dB from a mean square in (pε/s)^2 (R132), saturating at 0 and 655.33 dB. -/
def levelCode (mean : Rat) : Nat := if mean ≤ 0 then 0 else min 65533 (roundHalf (100 * decibels mean)).toNat

/-- The cell levels of a map interval (R132), with the gap mark where a gap touches the integration window (R130). -/
def ZoneProc.formLevels (x : ZoneProc) (q : ZonePar) (cells now : Nat) : List (List Level) :=
  let gap := x.gaps.any (fun t => now < t + q.integ)
  let es := recent now q.integ x.sums
  (List.range 4).map (fun j => (List.range cells).map (fun c =>
    let vs := es.map (fun e => (e.2.getD j []).getD c (0, 0))
    let n := (vs.map (·.2)).sum
    ⟨if n = 0 then none else some (levelCode ((vs.map (·.1)).sum / n)), gap⟩))

/-! ### Detectors and clusters (R133, R134) -/

/-- The ON level of a detector in dB, by its type (Table 4.5). -/
def Plane.detOn (p : Plane) (f d : Nat) : Int :=
  if p.hasNum 4 7 0x044 [f, d] then p.num 4 7 0x044 [f, d] else if p.nat 4 7 0x043 [f, d] = 0 then 60 else 12

/-- The OFF level of a detector in dB, by its type (Table 4.5). -/
def Plane.detOff (p : Plane) (f d : Nat) : Int :=
  if p.hasNum 4 7 0x045 [f, d] then p.num 4 7 0x045 [f, d] else if p.nat 4 7 0x043 [f, d] = 0 then 55 else 6

/-- The minimum on time of a detector in ns. -/
def Plane.detMinOn (p : Plane) (f d : Nat) : Nat :=
  if p.hasNum 4 7 0x048 [f, d] then p.nat 4 7 0x048 [f, d] * 1000000000 else 200000000

/-- The detectors of a zone, at most 16 of them, lowest index first (R133; log entry 101). -/
def Plane.zoneDets (p : Plane) (f z : Nat) : List Nat :=
  ((p.recs.filter (fun k => k.sec = 4 && k.kind = 7 && k.path.headD 2 = f)).map (fun k => k.path.getD 1 0)
    |>.filter (fun d => p.nat 4 7 0x041 [f, d] = z)).mergeSort.take 16

/-- What a detector compares with ON and OFF in a cell, in 0.01 dB (R134): the level, or the mean over the STA window less the mean over
the LTA window; none where there is no level. -/
def ZoneProc.measure (x : ZoneProc) (p : Plane) (f d now c : Nat) : Option Rat :=
  let j := p.nat 4 7 0x042 [f, d]
  let cell (ls : List (List Level)) : Option Nat := ((ls.getD j [])[c]?).bind (fun l => if l.gap then none else l.level)
  let span' (span : Nat) : List Rat := (recent now span x.levels).filterMap (fun e => (cell e.2).map (fun n => (n : Rat)))
  match (x.levels.head?).bind (fun e => cell e.2) with
  | none => none
  | some n =>
    if p.nat 4 7 0x043 [f, d] = 0 then some (n : Rat)
    else some (meanOf (span' (p.nat 4 7 0x046 [f, d] * 1000000)) - meanOf (span' (p.nat 4 7 0x047 [f, d] * 1000000000)))

/-- Which cells are active (R134): a cell starts at ON and stays until it falls below OFF; a gap-marked or dead cell keeps its activity. -/
def ZoneProc.activity (x : ZoneProc) (p : Plane) (f d now cells : Nat) (old : List Bool) : List Bool :=
  (List.range cells).map (fun c =>
    let was := old.getD c false
    match x.measure p f d now c with
    | none => was
    | some m => if was then decide ((100 * p.detOff f d : Int) ≤ m) else decide ((100 * p.detOn f d : Int) ≤ m))

/-- Active cells joined into clusters (R134): first and last cell. Two cells are apart by the bins between them (log entry 102). -/
def joinCells (cell merge : Nat) : List Nat → List (Nat × Nat)
  | [] => []
  | c :: t =>
    match joinCells cell merge t with
    | [] => [(c, c)]
    | (a, b) :: r => if (a - c - 1) * cell ≤ merge then (c, b) :: r else (c, c) :: (a, b) :: r

/-- Whether two stretches of cells overlap. -/
def cellsMeet (a b c d : Nat) : Bool := a ≤ d && c ≤ b

/-- The clusters of a map interval: one that overlaps a cluster of the interval before continues it. -/
def nextClusters (now : Nat) (old : List ClusterRun) (cs : List (Nat × Nat)) : List ClusterRun :=
  cs.map (fun c =>
    let from' := old.filter (fun o => cellsMeet o.first o.last c.1 c.2)
    ⟨c.1, c.2, from'.foldl (fun m o => min m o.since) now, from'.any (·.tried)⟩)

/-- A detector after a map interval. -/
def ZoneProc.detect (x : ZoneProc) (p : Plane) (f now cells cell d : Nat) : DetProc :=
  let old := (x.dets.find? (fun o => o.det = d)).getD ⟨d, [], []⟩
  let act := x.activity p f d now cells old.active
  let on := (List.range cells).filter (fun c => act.getD c false)
  ⟨d, act, nextClusters now old.clusters (joinCells cell (p.nat 4 7 0x04A [f, d]) on)⟩

/-- The peak of some cells of a band: cell and level. -/
def ZoneProc.peak (x : ZoneProc) (j first last : Nat) : Nat × Nat :=
  let ls := ((x.levels.headD (0, [])).2).getD j []
  (List.range (last + 1 - first)).foldl (fun m i =>
    let v := ((ls.getD (first + i) ⟨none, false⟩).level).getD 0
    if m.2 < v then (first + i, v) else m) (first, 0)

/-! ### Cell powers, cliffs, checks and guard bins (R141, R144, R145) -/

/-- The combined power of each bin of a shot: the mean over its two polarisations. -/
def shotPowers (ls : List Look) (k n : Nat) : List Rat :=
  (List.range n).map (fun b => meanOf ((List.range 2).filterMap (fun p => ((lookBins ls k p)[b]?).map (fun y => y.cx.power))))

/-- The mean power of every 64-bin cell from `cbin` to the cell that holds bin `n - 1`. -/
def cellPowers (ps : List Rat) (cbin n : Nat) : List Rat :=
  (List.range ((n - cbin + 63) / 64)).map (fun i => meanOf (((ps.take n).drop (cbin + 64 * i)).take 64))

/-- The first cell of a run that holds a test in every cell to the end; none where the last cell fails it. -/
def tailRun (test : Nat → Bool) (n : Nat) : Option Nat :=
  let c := n - ((List.range n).reverse.takeWhile test).length
  if c < n then some c else none

/-- What each cell must reach (R141): the reference less the break drop, or 3 dB above receiver noise while there is no reference. -/
def cellFloor (have' : Bool) (prof : List Rat) (drop noise : Rat) (c : Nat) : Rat :=
  if have' then prof.getD c 0 * Config.exp10 (-drop / 10) else noise * Config.exp10 (3 / 10)

/-- The last bin before `stop` whose power reaches the floor of its cell (R141); `cbin` where none does (log entry 103). -/
def lastReaching (ps : List Rat) (floor' : Nat → Rat) (cbin stop : Nat) : Nat :=
  ((List.range stop).reverse.find? (fun b => decide (cbin ≤ b) && decide (floor' ((b - cbin) / 64) ≤ ps.getD b 0))).getD cbin

/-- A check burst's verdict (R144): passed, and the last continuous bin. `atten` in dB. -/
def checkVerdict (burst : Nat × List Rat × Rat) (have' : Bool) (prof : List Rat) (drop atten cbin n : Nat) : Bool × Nat :=
  let ps := burst.2.1
  let cs := cellPowers ps cbin n
  let need (c : Nat) : Rat :=
    let a := burst.2.2 * Config.exp10 (3 / 10)
    let b := if have' then prof.getD c 0 * Config.exp10 (-((atten + drop : Nat) : Rat) / 10) else 0
    if a < b then b else a
  match (List.range cs.length).find? (fun c => decide (cs.getD c 0 < need c)) with
  | none => (true, n - 1)
  | some c => (false, lastReaching ps need cbin (cbin + 64 * c))

/-- The alias margin in dB over the last second (R145): the power of bins N - 64 to N - 1 over that of the guard bins. -/
def aliasMargin (l : List (Nat × Rat × Rat)) : Rat := decibels (meanOf (l.map (·.2.2)) / meanOf (l.map (·.2.1)))

/-! ### Instants and raw windows (R124, R150, R151) -/

/-- The instant of the acoustic sample of bin b in a shot, in 1/16 ns after a cycle start (R124). -/
def State.sampleInstant (s : State) (f tau b : Nat) : Int :=
  16 * tau + s.get (ACQ_ZERO.DELAY f) + 64 * ((b : Int) - s.get (ACQ_ZERO.CBIN f))

/-- The load of a raw window in bin-samples per second (R151): RATE counts twice. -/
def State.rawLoad (s : State) (w : RawWindow) : Rat := w.len * s.sampleRate w.fibre * (if w.rate then 2 else 1)

/-- The raw windows within 240e6 bin-samples/s (R151), the windows given with the highest-numbered one of fibre 1 first. -/
def State.rawFit (s : State) : List RawWindow → List RawWindow
  | [] => []
  | w :: t =>
    let rest := ((w :: t).map s.rawLoad).sum - 240000000
    if rest ≤ 0 then w :: t
    else
      let one := s.sampleRate w.fibre * (if w.rate then 2 else 1)
      let less := if one = 0 then 0 else (rest / one).ceil.toNat
      { w with len := w.len - less } :: s.rawFit t

/-- The raw windows in force, shortened where they exceed the limit: fibre 0's first, in order (R151). -/
def State.rawKept (s : State) : List RawWindow :=
  let order := (s.raws.filter (fun w => w.fibre = 0)) ++ s.raws.filter (fun w => w.fibre ≠ 0)
  (s.rawFit order.reverse).reverse

end Sys2Proof.Machine
end

