-- ==== Sys2Proof/Machine/Zones.lean ====
section
/-! DEFINITION. Acoustic channels (04_acoustic_channels.md): the reference (R121), zones (R127-R131), events and
storms (R132-R136), tracks (R137-R140), fibre breaks (R141-R145) and the evaluation of approach links (R146-R148). -/

namespace Sys2Proof.Machine

/-! ### Zones -/

def State.zone (s : State) (f z : Nat) : Zone := sparseGet .reset s.zones (256 * f + z)
def State.setZone (s : State) (f z : Nat) (x : Zone) : State :=
  { s with zones := sparseSet .reset s.zones (256 * f + z) x }

/-- The zones of fibre f that a plane's ZONES section configures (R218). -/
def Plane.zoneList (p : Plane) (f : Nat) : List Nat :=
  (List.range 256).filter (fun z => p.hasRec 3 4 [f, z])

/-- The configured zones of fibre f. -/
def State.zoneList (s : State) (f : Nat) : List Nat := s.cfg.sens.zoneList f

def State.acuFib (s : State) (f : Nat) : AcuFibre := sparseGet .reset s.acu f
def State.setAcuFib (s : State) (f : Nat) (x : AcuFibre) : State := { s with acu := sparseSet .reset s.acu f x }

def State.zproc (s : State) (f z : Nat) : ZoneProc := sparseGet .reset s.zprocs (256 * f + z)
def State.setZproc (s : State) (f z : Nat) (x : ZoneProc) : State :=
  { s with zprocs := sparseSet .reset s.zprocs (256 * f + z) x }

def State.aco (s : State) (f : Nat) : AcoFibre := sparseGet .reset s.acos f
def State.setAco (s : State) (f : Nat) (x : AcoFibre) : State := { s with acos := sparseSet .reset s.acos f x }

/-- Whether engines carry the tasks of fibre f: the section in force could be placed, and none of them waits for an engine (R187,
R193). -/
def State.carried (s : State) (f : Nat) : Bool :=
  !s.gal.tooFew && !s.gal.tasks.any (fun p => p.2.fibre = some f && p.2.state = 3)

/-- Whether fibre f is in FULL, served by a channelizer, and its tasks have their engines (Tables 4.4, 6.5). -/
def State.fibreServed (s : State) (f : Nat) : Bool :=
  s.get (PRB_STAT.FSTATE f) = 3 && s.get (ACQ_STAT.CHZ f) ≠ 3 && s.carried f

/-! ### Events (R134, R135) -/

/-- An event's closing record: id, duration in ms, maximum level, reason. -/
def State.closeEvent (s : State) (e : AcuEvent) (reason : Nat) : State :=
  let s := { s with events := s.events.filter (fun x => x ≠ e) }
  s.emit (srcZone e.fibre e.zone) Code.EVENT_CLOSE
    (le 4 e.id ++ le 4 ((s.clk.up - e.openUp) / 1000000) ++ le 2 e.maxLevel ++ le 1 reason)

/-- Every open event that meets a test closed with one reason. -/
def State.closeEvents (s : State) (p : AcuEvent → Bool) (reason : Nat) : State :=
  (s.events.filter p).foldl (fun s e => s.closeEvent e reason) s

/-- An event opened: its record's sequence number is its id (R135). -/
def State.openEvent (s : State) (e : AcuEvent) (again : Bool) : State :=
  let id := if s.recs.missing.any (fun m => m.source = srcZone e.fibre e.zone) && s.room (srcZone e.fibre e.zone)
    then s.nextSeq (srcZone e.fibre e.zone) +
      (s.recs.missing.filter (fun m => m.source = srcZone e.fibre e.zone)).length
    else s.nextSeq (srcZone e.fibre e.zone)
  let s := { s with events := s.events ++ [{ e with id := id }] }
  s.emitTimed e.openDev (srcZone e.fibre e.zone) Code.EVENT_OPEN
    (le 1 e.det ++ le 1 e.band ++ le 4 e.bin ++ le 2 e.extent ++ le 2 e.level ++ le 1 (b2n again))

/-! ### Tracks: records and ends (R137-R140) -/

def Track.data (t : Track) (f : Nat) : List Byte :=
  le 2 t.id ++ le 1 f ++ le 1 t.zone ++ leI 4 t.pos ++ leI 2 (satS 16 t.speed)

/-- A track ended with a reason and the id that survives a merger (0xFFFF: none). -/
def State.endTrack (s : State) (f : Nat) (t : Track) (reason survivor : Nat) : State :=
  let x := s.acuFib f
  let s := s.setAcuFib f { x with
    tracks := x.tracks.filter (fun u => u.id ≠ t.id)
    pairs := x.pairs.filter (fun p => p.1 ≠ t.id ∧ p.2.1 ≠ t.id) }
  s.emit (srcBlock 3) Code.TRACK_END
    (le 2 t.id ++ le 1 f ++ le 1 reason ++ leI 4 t.pos ++ leI 2 (satS 16 t.speed) ++ le 2 survivor)

/-- Every track of a fibre ended with one reason (R140). -/
def State.endTracks (s : State) (f reason : Nat) : State :=
  (s.acuFib f).tracks.foldl (fun s t => s.endTrack f t reason 0xFFFF) s

/-! ### Approach links on the sensing die (R146-R148) -/

def State.link (s : State) (l : Nat) : Link := sparseGet .reset s.links l
def State.setLink (s : State) (l : Nat) (x : Link) : State := { s with links := sparseSet .reset s.links l x }

/-- The links that the ZONES section configures. -/
def State.linkList (s : State) : List Nat := (List.range 64).filter (fun l => s.cfg.sens.hasRec 3 6 [l])

def State.linkNat (s : State) (r l : Nat) : Nat := s.cfg.sens.nat 3 6 (0x0C0 + r) [l]

/-- The field of `ACU_LINK0`/`ACU_LINK1` for link l. -/
def linkFld (l : Nat) : Fld := if l < 32 then ACU_LINK0.PERMIT l else ACU_LINK1.PERMIT (l - 32)

/-- The place of a bin in cm from the connector (R8, R92): (b - CBIN) x 4 ns x c / n_g. -/
def State.binCm (s : State) (f b : Nat) : Int :=
  if s.get ACQ_NG.NG = 0 then 0 else ((b : Int) - s.get (ACQ_ZERO.CBIN f)) * 1199169832 / (10 * s.get ACQ_NG.NG : Nat)

/-- The bin that holds a place in cm from the connector. -/
def State.cmBin (s : State) (f : Nat) (cm : Int) : Int := s.get (ACQ_ZERO.CBIN f) + cm * (10 * s.get ACQ_NG.NG : Nat) / 1199169832

/-- The bins a distance in mm spans, rounded up. -/
def mmToBins (ng d : Nat) : Nat := (d * ng + 1199169831) / 1199169832

/-- The watched stretch of a link (R146): first and last bin. -/
def State.watched (s : State) (l : Nat) : Nat × Nat :=
  let f := s.linkNat 2 l
  let w := s.linkNat 3 l
  let side := s.linkNat 4 l
  let hi := s.cfg.sens.nat 3 0 0x069 []
  let reach := mmToBins (s.get ACQ_NG.NG) (max (s.linkNat 5 l * 1000) (s.linkNat 6 l * hi))
  let cbin := s.get (ACQ_ZERO.CBIN f)
  let last := s.get (PRB_BINS.NBINS f) - 1
  (max cbin (if side = 0 then w else w - reach), min last (if side = 1 then w else w + reach))

/-- Where coverage by tracking zones ends (R146), from a bin that is covered or bridged on: the first bin of `b`..`last` that is in no
zone and in no gap of at most `bridge` bins before the next one. The zones are scanned once for each zone configured. -/
def uncoveredFrom (zs : List (Nat × Nat)) (bridge : Nat) : Nat → Nat → Nat → Option Nat
  | 0, b, last => if b ≤ last then some b else none
  | n + 1, b, last =>
    if last < b then none
    else
      match zs.filter (fun z => z.1 ≤ b + bridge && b ≤ z.2) with
      | [] => some b
      | h :: t => uncoveredFrom zs bridge n ((h :: t).foldl (fun m z => max m z.2) 0 + 1) last

/-- The first uncovered bin of a..last (R146). A gap is bridged between two tracking zones only, so that a stretch that begins in one
needs a zone before it. -/
def firstGap (zs : List (Nat × Nat)) (bridge a last : Nat) : Option Nat :=
  if zs.any (fun z => z.1 ≤ a && a ≤ z.2) then uncoveredFrom zs bridge zs.length a last
  else
    match zs.filter (fun z => z.2 < a) with
    | [] => some a
    | h :: t => (uncoveredFrom zs bridge zs.length ((h :: t).foldl (fun m z => max m z.2) 0 + 1) last).map (fun b => max a b)

/-- The tracking zones of fibre f with their first and last bins. -/
def State.trackingZones (s : State) (f : Nat) : List (Nat × Nat × Nat) :=
  ((s.zoneList f).filter (fun z => s.cfg.sens.flag 3 4 0x089 [f, z])).map
    (fun z => (z, s.cfg.sens.nat 3 4 0x081 [f, z], s.cfg.sens.nat 3 4 0x082 [f, z]))

/-- The first bin of a link's watched stretch that no tracking zone covers (R146). -/
def State.firstUncovered (s : State) (l : Nat) : Option Nat :=
  let (a, b) := s.watched l
  firstGap ((s.trackingZones (s.linkNat 2 l)).map (·.2)) (s.cfg.sens.nat 3 0 0x04C []) a b

/-- Whether a link is triggered by a track (R147): 1 distance, 2 time. -/
def trackTriggers (watchCm : Int) (side dCm tS : Nat) (t : Track) : Nat :=
  let d := t.pos - watchCm
  let ad := d.natAbs
  let onSide := (0 ≤ d && side ≠ 1) || (d ≤ 0 && side ≠ 0)
  let towards := (0 < d && t.speed ≤ -50) || (d < 0 && 50 ≤ t.speed)
  if ad ≤ 2000 then 1
  else if onSide && towards then (if ad ≤ dCm then 1 else if ad ≤ tS * t.speed.natAbs then 2 else 0) else 0

/-- The track that triggers a link, with the reason. -/
def State.linkTrigger (s : State) (l : Nat) : Option (Track × Nat) :=
  let w := s.binCm (s.linkNat 2 l) (s.linkNat 3 l)
  ((s.acuFib (s.linkNat 2 l)).tracks.map
    (fun t => (t, trackTriggers w (s.linkNat 4 l) (s.linkNat 5 l * 100) (s.linkNat 6 l) t))).find? (fun p => p.2 ≠ 0)

/-- Whether a link is healthy (R147). -/
def State.linkHealthy (s : State) (l : Nat) : Bool :=
  let f := s.linkNat 2 l
  let (a, b) := s.watched l
  !s.on (ACU_BRK.OPEN f) && s.get (ACU_REF.STATE f) ≠ 2 && !(s.link l).uncovered &&
  (s.zoneList f).all (fun z =>
    let first := s.cfg.sens.nat 3 4 0x081 [f, z]
    let last := s.cfg.sens.nat 3 4 0x082 [f, z]
    let x := s.zone f z
    last < a || b < first || (x.state = 3 && !x.degraded && !x.storm))

/-- A link that was permitting and no longer qualifies stops (R148): `LINK_BRIGHT` with its reason; the revoke that
is sent acts when the signal die receives it. -/
def State.linkStop (s : State) (l reason : Nat) (t : Option Track) : State :=
  if s.on (linkFld l) then
    let w := s.binCm (s.linkNat 2 l) (s.linkNat 3 l)
    let d := match t with | some t => t.pos - w | none => 0
    let eta := match t with
      | some t => if t.speed = 0 then 0xFFFF else min 0xFFFE (10 * d.natAbs / t.speed.natAbs)
      | none => 0xFFFF
    let s := (s.setLink l { s.link l with revokeOut := true }).puts [(linkFld l, 0), (ACU_EVT.BRIGHT, 1)]
    s.emit (srcBlock 3) Code.LINK_BRIGHT
      (le 1 l ++ le 1 (s.linkNat 1 l) ++ le 1 reason ++ zeros 1 ++
       le 2 (match t with | some t => t.id | none => 0xFFFF) ++ leI 4 d ++ le 2 eta)
  else s

/-- Whether the POLICY section in force enables approach brightening. -/
def State.brightening (s : State) : Bool := s.cfg.sens.flag 11 0 0x084 []

/-- One link evaluated (R148); with approach brightening off nothing permits (reason 0x05; log entry 105). -/
def State.linkEvaluate (s : State) (l : Nat) : State :=
  let s := if s.brightening then s else s.linkStop l 5 none
  let x := s.link l
  match s.linkTrigger l with
  | some (t, why) => (s.setLink l { x with okSince := none }).linkStop l why (some t)
  | none =>
    if s.linkHealthy l then
      match x.okSince with
      | some _ => s
      | none => s.setLink l { x with okSince := some s.clk.up }
    else (s.setLink l { x with okSince := none }).linkStop l (if x.uncovered then 4 else 3) none

/-- Every link evaluated: at each track update and each change of zone state (R148). -/
def State.linksEvaluate (s : State) : State := s.linkList.foldl (fun s l => s.linkEvaluate l) s

/-! ### Zone transitions (R127, R130, R131) -/

/-- A zone to INVALID: its events close with reason 0x02, its processing starts anew, and the transition is recorded. -/
def State.zoneInvalid (s : State) (f z cause fstate : Nat) : State :=
  let x := s.zone f z
  if x.state = 2 ∨ x.state = 3 then
    let s := s.closeEvents (fun e => e.fibre = f && e.zone = z) 2
    let s := s.setZone f z { s.zone f z with state := 1, degraded := false, storm := false, openTimes := [] }
    ((s.setZproc f z .reset).cellsInvalid f z).emit (srcZone f z) Code.ZONE_INVALID (le 1 cause ++ le 1 fstate)
  else s

/-- Every zone of fibre f to INVALID; its tracks end with reason 0x04 (R127, R140). -/
def State.zonesInvalid (s : State) (f cause fstate : Nat) : State :=
  let s := (s.zoneList f).foldl (fun s z => s.zoneInvalid f z cause fstate) s
  (s.endTracks f 4).linksEvaluate

/-- A zone to SETTLING with its cause; open events close with reason 0x03 (R130, R131). -/
def State.zoneSettle (s : State) (f z cause : Nat) : State :=
  let s := s.closeEvents (fun e => e.fibre = f && e.zone = z) 3
  let s := s.setZone f z { s.zone f z with state := 2, degraded := false, storm := false, openTimes := [] }
  ((s.setZproc f z .reset).emit (srcZone f z) Code.ZONE_SETTLING (le 1 cause)).cellsSettle f z

/-- Every INVALID zone of a fibre that enters FULL and is served starts to settle (Table 4.4). -/
def State.zonesStart (s : State) (f : Nat) : State :=
  if s.fibreServed f then
    ((s.zoneList f).foldl (fun s z => if (s.zone f z).state = 1 then s.zoneSettle f z 1 else s) s).linksEvaluate
  else s

/-- `GAP_DATA` of each zone of fibre f that expects data (R47, R130). -/
def State.gapZones (s : State) (f us cycle cause start : Nat) : State :=
  (s.zoneList f).foldl
    (fun s z => if 2 ≤ (s.zone f z).state then s.gapData (srcZone f z) us (cycle % 2 ^ 32) cause start else s) s

/-- A loss of `n` traces (R130): one that spans more than 10 ms sends every VALID zone to SETTLING; a shorter one enters the band filters
as strain rate 0 and marks the cells it touches. -/
def State.zonesLoss (s : State) (f n : Nat) : State :=
  let each (s : State) (z : Nat) : State :=
    if (s.zone f z).state ≠ 3 then s
    else if 10000000 < n * (8 * s.get (PRB_CYC.LEN f)) then s.zoneSettle f z 2
    else s.setZproc f z ((s.zproc f z).missing (s.zonePar f z) s.clk.up (n * popCount 4 (s.activeTonesOf f)))
  ((s.zoneList f).foldl each s).linksEvaluate

/-- Whether the I/Q estimators of fibre f let a zone become VALID (Table 4.4). -/
def State.iqReady (s : State) (f : Nat) : Bool :=
  (s.get (ACQ_STAT.IQX f) = 2 && s.get (ACQ_STAT.IQY f) = 2) ||
  (s.get (ACQ_STAT.IQX f) = 0 && s.get (ACQ_STAT.IQY f) = 0 && !s.on (ACQ_CFG.IQ_EN f))

/-- Whether an I/Q estimator of fibre f is in HOLD. -/
def State.iqHeld (s : State) (f : Nat) : Bool := s.get (ACQ_STAT.IQX f) = 3 || s.get (ACQ_STAT.IQY f) = 3

/-- ZONE_VALID (R127, R167, Table 4.4): 0.5 s of FULL traces processed, in which the tone offsets have had their 0.25 s. -/
def opZoneValid (f z : Nat) (s : State) : State :=
  let x := s.zone f z
  if x.state = 2 ∧ 500000000 ≤ (s.zproc f z).seen ∧ s.fibreServed f ∧ s.iqReady f then
    (((s.setZone f z { x with state := 3 }).emit (srcZone f z) Code.ZONE_VALID (le 1 2)).cellsWait f z).linksEvaluate
  else s

/-- ZONE_DEGRADED (R128): the flag of a VALID zone follows the share of its bin-samples of the last second that were dead or NOREF,
and the estimators of its fibre. -/
def opZoneDegraded (f z : Nat) (s : State) : State :=
  let x := s.zone f z
  let t := (s.zproc f z).lastSecond s.clk.up
  let set := s.iqHeld f || decide (s.cfg.sens.nat 3 4 0x08C [f, z] * t.all < 100 * t.bad)
  if x.state = 3 ∧ x.degraded ≠ set then
    let s := s.setZone f z { x with degraded := set }
    let s := if set then s.put (ACU_EVT.DEG f) 1 else s
    (s.emit (srcZone f z) Code.ZONE_DEGRADED
      (le 1 (b2n set) ++ le 2 (share t.dead t.all) ++ le 2 (share t.noref t.all))).linksEvaluate
  else s

/-! ### Reference and alias (R121, R145) -/

/-- The shots of the last second of fibre f, those that carry NOREF, and of these those that an overrange made so (R121). -/
def State.norefShots (s : State) (f : Nat) : Nat × Nat × Nat :=
  let xs := (recent s.clk.up 1000000000 (s.aco f).shots).map (·.2)
  (xs.length, (xs.filter (·.1)).length, (xs.filter (·.2)).length)

/-- REF_LOST (R121): more than half the shots of the last second carry NOREF; byte 1 tells whether overrange made most of them so. -/
def opRefLost (f : Nat) (s : State) : State :=
  let (n, m, o) := s.norefShots f
  let s := s.put (ACU_HLTH.NOREF f) (share m n)
  if s.get (ACU_REF.STATE f) = 1 ∧ n < 2 * m then
    let s := ((s.put (ACU_REF.STATE f) 2).put (ACU_STAT.NOREF f) 1).put (ACU_EVT.REF f) 1
    let s := s.setAco f { s.aco f with refLost := some s.clk.up }
    (s.emit (srcBlock 3) Code.REF_LOST (le 1 f ++ le 1 (if m < 2 * o then 2 else 1))).linksEvaluate
  else s

/-- REF_OK (R121): the NOREF share of a whole second is 10 % or below. -/
def opRefOk (f : Nat) (s : State) : State :=
  let (n, m, _) := s.norefShots f
  let s := s.put (ACU_HLTH.NOREF f) (share m n)
  if s.get (ACU_REF.STATE f) = 2 ∧ n ≠ 0 ∧ 10 * m ≤ n then
    let s := (s.put (ACU_REF.STATE f) 1).put (ACU_STAT.NOREF f) 0
    let s := s.setAco f { s.aco f with refLost := none }
    (s.emit (srcBlock 3) Code.REF_OK (le 1 f)).linksEvaluate
  else s

/-- The alias margin over the last second in 0.1 dB (R145); none without guard bins in it. -/
def State.aliasTenths (s : State) (f : Nat) : Option Int :=
  let l := recent s.clk.up 1000000000 (s.aco f).alias_
  if l = [] then none else some (roundHalf (10 * aliasMargin l))

/-- ALIAS_SET (R145): the margin is at most 10 dB. -/
def opAliasSet (f : Nat) (s : State) : State :=
  match s.aliasTenths f with
  | none => s
  | some m =>
    let s := s.puti (ACU_HLTH.ALIAS_M f) (satS 12 m)
    if s.on (ACU_STAT.ALIAS f) ∨ 100 < m then s
    else
      ((s.put (ACU_STAT.ALIAS f) 1).put (ACU_EVT.ALIAS f) 1).emit (srcBlock 3) Code.ALIAS_SET (le 1 f ++ leI 2 (satS 16 m))

/-- ALIAS_CLEAR (R145): the margin has exceeded 13 dB for 10 s. -/
def opAliasClear (f : Nat) (s : State) : State :=
  match s.aliasTenths f, (s.aco f).aliasOk with
  | some m, some t =>
    let s := s.puti (ACU_HLTH.ALIAS_M f) (satS 12 m)
    if s.on (ACU_STAT.ALIAS f) ∧ t + 10000000000 ≤ s.clk.up then
      (s.put (ACU_STAT.ALIAS f) 0).emit (srcBlock 3) Code.ALIAS_CLEAR (le 1 f ++ leI 2 (satS 16 m))
    else s
  | _, _ => s

/-! ### Fibre breaks (R141-R144) -/

/-- The first evidence of continuity after an open end: `how` 1 FULL, 2 CHECK (R144). -/
def State.continuous (s : State) (f how cycle : Nat) : State :=
  if s.on (ACU_BRK.OPEN f) then
    let s := ((s.put (ACU_BRK.OPEN f) 0).put (ACU_STAT.OPEN f) 0).put (ACU_EVT.CONT f) 1
    (s.emit (srcBlock 3) Code.FIBRE_CONTINUOUS (le 1 f ++ le 1 how ++ le 4 cycle)).linksEvaluate
  else s

/-- A declared open end (R141): last continuous bin and drop in 0.1 dB; the report to the front-end die is on its way. -/
def State.openEnd (s : State) (f bin drop cycle : Nat) : State :=
  let s := ((s.put (ACU_BRK.BIN f) bin).put (ACU_BRK.OPEN f) 1).putSat (ACU_BRK.MEAS f) (drop / 10)
  let s := (s.put (ACU_STAT.OPEN f) 1).put (ACU_EVT.BRK f) 1
  let s := s.setAcuFib f { s.acuFib f with openSent := some bin }
  (s.emit (srcBlock 3) Code.FIBRE_BREAK (le 1 f ++ le 4 bin ++ le 2 (min 0xFFFF drop) ++ le 4 cycle)).linksEvaluate

/-! ### Events and storms (R134-R136) -/

/-- The would-be openings of a zone in the last second. -/
def recentOpens (now : Nat) (x : Zone) : List Nat := x.openTimes.filter (fun t => now < t + 1000000000)

/-- A zone put in STORM (R136): 1 zone limit, 2 fibre limit. -/
def State.zoneStorm (s : State) (f z why : Nat) : State :=
  let x := s.zone f z
  if x.storm ∨ x.state ≠ 3 then s
  else
    let s := s.setZone f z { x with storm := true, stormSuppr := 0, stormSince := s.clk.up, stormWhy := why }
    (s.put (ACU_EVT.STORM f) 1).emit (srcZone f z) Code.ZONE_STORM (le 1 why ++ le 2 (recentOpens s.clk.up x).length)

/-- One would-be opening of detector d by a cluster of its cells: opened, or suppressed by a storm it starts or meets (R136). -/
def State.wouldOpen (s : State) (f z d : Nat) (c : ClusterRun) : State :=
  let p := s.cfg.sens
  let now := s.clk.up
  let x := s.zone f z
  let s := s.setZone f z { x with openTimes := (x.openTimes.filter (fun t => now < t + 6000000000)) ++ [now] }
  let mine := (recentOpens now (s.zone f z)).length
  let all := ((s.zoneList f).map (fun z => (recentOpens now (s.zone f z)).length)).sum
  let open' := (s.events.filter (fun e => e.fibre = f)).length
  let s := if p.nat 3 4 0x08B [f, z] < mine then s.zoneStorm f z 1 else s
  let s :=
    if p.nat 3 1 0x048 [f] ≤ all ∨ 256 ≤ open' then (s.zoneList f).foldl (fun s z => s.zoneStorm f z 2) s else s
  let x := s.zone f z
  if x.storm then s.setZone f z { x with suppr := min 0xFFFF (x.suppr + 1), stormSuppr := x.stormSuppr + 1 }
  else
    let q := s.zonePar f z
    let j := p.nat 4 7 0x042 [f, d]
    let (cell, level) := (s.zproc f z).peak j c.first c.last
    let s := s.setZone f z { x with opens := min 0xFFFF (x.opens + 1) }
    s.openEvent ⟨f, z, d, j, 0, s.clk.dev - (now - c.since), now, q.first + cell * q.cell, q.extent c.first c.last, level, level,
      c.first, c.last, now⟩ false

/-- An open event after a map interval (R134, R135): the clusters that overlap it extend it, and it takes a new peak. -/
def AcuEvent.interval (e : AcuEvent) (x : ZoneProc) (q : ZonePar) (now : Nat) : AcuEvent :=
  match x.dets.find? (fun o => o.det = e.det) with
  | none => e
  | some o =>
    let on := (List.range (e.last + 1 - e.first)).any (fun i => o.active.getD (e.first + i) false)
    let mine := o.clusters.filter (fun c => cellsMeet c.first c.last e.first e.last)
    let first := mine.foldl (fun m c => min m c.first) e.first
    let last := mine.foldl (fun m c => max m c.last) e.last
    let (cell, level) := x.peak e.band first last
    let e := { e with first := first, last := last, activeAt := if on then now else e.activeAt, maxLevel := max e.maxLevel level }
    if e.level < level then { e with bin := q.first + cell * q.cell, extent := q.extent first last, level := level } else e

/-- The clusters of a detector that open an event now (R134): they have persisted for the minimum on time and meet no open event of the
same detector. -/
def State.ripe (s : State) (f z : Nat) (o : DetProc) : List ClusterRun :=
  o.clusters.filter (fun c => !c.tried && decide (c.since + s.cfg.sens.detMinOn f o.det ≤ s.clk.up) &&
    !s.events.any (fun e => e.fibre = f && e.zone = z && e.det = o.det && cellsMeet c.first c.last e.first e.last))

/-- MAP_INTERVAL (R132, R134): the cell levels of a VALID zone, its detectors on them, the events that continue, end and open. -/
def opMapInterval (f z : Nat) (s : State) : State :=
  if (s.zone f z).state ≠ 3 then s
  else
    let p := s.cfg.sens
    let now := s.clk.up
    let q := s.zonePar f z
    let cells := p.cellCount f z
    let x := s.zproc f z
    let x := { x with levels := (now, x.formLevels q cells now) :: recent now 600000000000 x.levels }
    let x := { x with dets := (p.zoneDets f z).map (fun d => x.detect p f now cells q.cell d) }
    let s := s.setZproc f z x
    let mine (e : AcuEvent) : Bool := e.fibre = f && e.zone = z
    let s := { s with events := s.events.map (fun e => if mine e then e.interval x q now else e) }
    let s := s.closeEvents (fun e => mine e && e.activeAt ≠ now &&
      decide (e.activeAt + p.nat 4 7 0x049 [f, e.det] * 1000000000 ≤ now)) 1
    let s := x.dets.foldl (fun s o => (s.ripe f z o).foldl (fun s c => s.wouldOpen f z o.det c) s) s
    let done (o : DetProc) : DetProc :=
      { o with clusters := o.clusters.map (fun c => if c.since + p.detMinOn f o.det ≤ now then { c with tried := true } else c) }
    (s.setZproc f z { x with dets := x.dets.map done }).linksEvaluate

/-- EVENT_HEARTBEAT (R135): the peak since the previous heartbeat. -/
def opEventHeartbeat (f z id : Nat) (s : State) : State :=
  match s.events.find? (fun e => e.fibre = f && e.zone = z && e.id = id) with
  | some e =>
    let s := { s with events := s.events.map (fun x => if x = e then { x with level := 0 } else x) }
    s.emit (srcZone f z) Code.EVENT_HEARTBEAT (le 4 e.id ++ le 4 e.bin ++ le 2 e.extent ++ le 2 e.level)
  | none => s

/-- The would-be openings of some zones in the second that ends at a run time. -/
def State.opensAt (s : State) (f : Nat) (zs : List Nat) (t : Nat) : Nat :=
  (zs.map (fun z => ((s.zone f z).openTimes.filter (fun u => u ≤ t && t < u + 1000000000)).length)).sum

/-- Whether the would-be openings of some zones have stayed below half a limit for 5 s (R136): at the start of the 5 s, and at each
opening since, for they rise at openings alone. -/
def State.stormQuiet (s : State) (f : Nat) (zs : List Nat) (limit : Nat) : Bool :=
  let from' := s.clk.up - 5000000000
  let ts := from' :: (zs.flatMap (fun z => (s.zone f z).openTimes)).filter (fun t => from' ≤ t)
  decide (5000000000 ≤ s.clk.up) && ts.all (fun t => 2 * s.opensAt f zs t < limit)

/-- ZONE_STORM_END (R136): the would-be openings have stayed below half the limit that started the storm for 5 s. -/
def opZoneStormEnd (f z : Nat) (s : State) : State :=
  let x := s.zone f z
  let calm := if x.stormWhy = 2 then s.stormQuiet f (s.zoneList f) (s.cfg.sens.nat 3 1 0x048 [f])
    else s.stormQuiet f [z] (s.cfg.sens.nat 3 4 0x08B [f, z])
  if x.storm ∧ x.stormSince + 5000000000 ≤ s.clk.up ∧ calm then
    let s := s.setZone f z { x with storm := false, stormSuppr := 0, stormWhy := 0 }
    (s.emit (srcZone f z) Code.ZONE_STORM_END
      (le 4 x.stormSuppr ++ le 4 ((s.clk.up - x.stormSince) / 1000000))).linksEvaluate
  else s

/-- The open events closed before an epoch roll with reason 0x05, and opened again after it (R135). -/
def State.eventsRollClose (s : State) : List AcuEvent × State :=
  (s.events, s.closeEvents (fun _ => true) 5)

def State.eventsRollOpen (s : State) (es : List AcuEvent) : State := es.foldl (fun s e => s.openEvent e true) s

/-- ACU_CLEAR_COUNTS (R154). -/
def opAcuClearCounts (s : State) : State :=
  let zs := s.zones.map (fun p => (p.1, { p.2 with opens := 0, suppr := 0 }))
  { s with zones := zs.filter (fun p => p.2 ≠ Zone.reset) }

/-! ### Tracks (R137-R140) -/

/-- The next track id (R139): ids rise by 1, those in use left out, and pass from 0xFFFE to the lowest one not in use. -/
def nextTrackId (x : AcuFibre) : Nat :=
  let free (i : Nat) : Bool := x.tracks.all (fun t => t.id ≠ i)
  let up := (List.range 65).map (· + x.nextId)
  match up.find? (fun i => free i && i ≤ 0xFFFE) with
  | some i => i
  | none => (((List.range 65).map (· + 1)).find? free).getD 1

/-- The tracking zone that holds a place on fibre f (R137): in a bridged gap `old` keeps it; none where the place has left the tracked
stretches. -/
def State.trackZone (s : State) (f old : Nat) (cm : Int) : Option Nat :=
  let b := (s.cmBin f cm).toNat
  let zs := s.trackingZones f
  if s.cmBin f cm < 0 then none
  else
    match zs.find? (fun z => z.2.1 ≤ b && b ≤ z.2.2) with
    | some z => some z.1
    | none => if (firstGap (zs.map (·.2)) (s.cfg.sens.nat 3 0 0x04C []) b b).isNone then some old else none

/-- Whether a speed in 0.01 m/s lies inside the speed gate (Table 4.1). -/
def State.inGate (s : State) (speed : Int) : Bool :=
  s.cfg.sens.nat 3 0 0x049 [] ≤ 10 * speed.natAbs && 10 * speed.natAbs ≤ s.cfg.sens.nat 3 0 0x069 []

/-- A new TENTATIVE track (R137). -/
def State.startTrack (s : State) (f z : Nat) (c : TrackCand) : State :=
  let x := s.acuFib f
  let id := nextTrackId x
  let now := s.clk.up
  let t : Track := ⟨id, .tentative, z, c.pos, c.speed, now, now, c.pos, now, some now, false⟩
  let s := s.setAcuFib f { x with tracks := x.tracks ++ [t], nextId := id + 1 }
  s.emit (srcBlock 3) Code.TRACK_START (t.data f)

/-- A candidate at a speed outside the gate, or in no VALID tracking zone (R127), starts nothing; with 64 tracks the oldest COASTING one
is displaced, and with none coasting the candidate is refused, recorded at most once a second (R137, R139). -/
def State.candidate (s : State) (f : Nat) (c : TrackCand) : State :=
  match ((s.trackZone f 256 c.pos).filter (fun z => (s.zone f z).state = 3 && s.inGate c.speed)) with
  | none => s
  | some z =>
    let x := s.acuFib f
    if x.tracks.length < 64 then s.startTrack f z c
    else
      match x.tracks.find? (fun t => t.state = .coasting) with
      | some t => (s.endTrack f t 5 0xFFFF).startTrack f z c
      | none =>
        let now := s.clk.up
        let ts := (x.refused.filter (fun t => now < t + 1000000000)) ++ [now]
        let fresh := match x.limitAt with
          | some t => decide (t + 1000000000 ≤ now)
          | none => true
        if fresh then
          let s := s.setAcuFib f { x with refused := ts, limitAt := some now }
          (s.put (ACU_EVT.TRKLIM f) 1).emit (srcBlock 3) Code.TRACK_LIMIT (le 1 f ++ le 1 (min 255 ts.length))
        else s.setAcuFib f { x with refused := ts }

/-- A track of fibre f replaced. -/
def State.setTrack (s : State) (f : Nat) (t : Track) : State :=
  s.setAcuFib f { s.acuFib f with tracks := (s.acuFib f).tracks.map (fun u => if u.id = t.id then t else u) }

/-- A track with associated clusters (R137): at a speed inside the gate for the confirm time it is CONFIRMED; one that was confirmed
before it coasted stays so. -/
def State.trackSeen (s : State) (f : Nat) (t : Track) : State :=
  let now := s.clk.up
  let gate := if s.inGate t.speed then some (t.gateSince.getD now) else none
  let due := match gate with
    | some g => decide (g + s.cfg.sens.nat 3 0 0x04A [] * 1000000 ≤ now)
    | none => false
  let t := { t with base := t.pos, baseAt := now, gateSince := gate }
  let enter (st : TrackState) : Track := if t.state = st then t else { t with state := st, since := now }
  if t.confirmed then s.setTrack f (enter .confirmed)
  else if due then (s.setTrack f { enter .confirmed with confirmed := true }).emit (srcBlock 3) Code.TRACK_CONFIRM (t.data f)
  else s.setTrack f (enter .tentative)

/-- A track without associated clusters (R137): COASTING, and ended after the coast time. -/
def State.trackUnseen (s : State) (f : Nat) (t : Track) : State :=
  let now := s.clk.up
  let t := { t with gateSince := none }
  if t.state = .coasting then
    if t.since + s.cfg.sens.nat 3 0 0x04B [] * 1000000000 ≤ now then s.endTrack f t 1 0xFFFF else s.setTrack f t
  else s.setTrack f { t with state := .coasting, since := now }

/-- The position that a track without associated clusters is predicted at (R137). -/
def Track.predict (t : Track) (now : Nat) : Int := t.base + t.speed * ((now - t.baseAt : Nat) : Int) / 1000000000

/-- One track after an observation (R127, R137): clusters count in a VALID zone only; a track that has left the tracked stretches ends. -/
def State.trackStep (s : State) (f : Nat) (o : TrackObs) : State :=
  match (s.acuFib f).tracks.find? (fun t => t.id = o.id) with
  | none => s
  | some t =>
    let near : Bool := match s.trackZone f t.zone o.pos with
      | some z => (s.zone f z).state = 3
      | none => true
    let seen := o.seen && near
    let t := if seen then { t with pos := o.pos, speed := o.speed } else { t with pos := t.predict s.clk.up }
    match s.trackZone f t.zone t.pos with
    | none => s.endTrack f t 3 0xFFFF
    | some z => if seen then s.trackSeen f { t with zone := z } else s.trackUnseen f { t with zone := z }

/-- Whether two tracks are within 20 m of each other with speeds within 1 m/s (R137). -/
def tracksClose (a b : Track) : Bool := (a.pos - b.pos).natAbs ≤ 2000 && (a.speed - b.speed).natAbs ≤ 100

/-- Pairs that have stayed close for 2 s merge: the higher id ends with reason 0x02 (R137). -/
def State.mergeTracks (s : State) (f : Nat) : State :=
  let x := s.acuFib f
  let now := s.clk.up
  let near := x.tracks.flatMap (fun a => (x.tracks.filter (fun b => a.id < b.id && tracksClose a b)).map
    (fun b => (a.id, b.id)))
  let pairs := near.map (fun p =>
    match x.pairs.find? (fun q => q.1 = p.1 && q.2.1 = p.2) with
    | some q => q
    | none => (p.1, p.2, now))
  let s := s.setAcuFib f { x with pairs := pairs }
  (pairs.filter (fun q => q.2.2 + 2000000000 ≤ now)).foldl
    (fun s q => match (s.acuFib f).tracks.find? (fun t => t.id = q.2.1) with
      | some t => s.endTrack f t 2 q.1
      | none => s) s

/-- `TRACK_UPDATE` records, one per heartbeat interval of the zone that holds the track (R140). -/
def State.trackRecords (s : State) (f : Nat) : State :=
  let now := s.clk.up
  let due (t : Track) : Bool := t.lastRec + s.cfg.sens.nat 3 4 0x08A [f, t.zone] * 1000000 ≤ now
  let ts := (s.acuFib f).tracks
  let s := s.setAcuFib f { s.acuFib f with tracks := ts.map (fun t => if due t then { t with lastRec := now } else t) }
  (ts.filter due).foldl (fun s t => s.emit (srcBlock 3) Code.TRACK_UPDATE (t.data f)) s

/-- TRACK_UPDATE (R119, R137-R140, R148): the tracker works on a fibre in FULL that is served; a track that `obs` does not name has no
associated cluster. -/
def opTrackUpdate (f : Nat) (obs : List TrackObs) (cands : List TrackCand) (s : State) : State :=
  if s.fibreServed f = false then s.linksEvaluate
  else
    let rest := ((s.acuFib f).tracks.filter (fun t => obs.all (fun o => o.id ≠ t.id))).map (fun t => (⟨t.id, false, 0, 0⟩ : TrackObs))
    let s := (obs ++ rest).foldl (fun s o => s.trackStep f o) s
    let s := s.mergeTracks f
    let s := s.setAcuFib f { s.acuFib f with trackedAt := s.clk.up }
    let s := cands.foldl (fun s c => s.candidate f c) s
    (s.trackRecords f).linksEvaluate

/-! ### Permits on the sensing die (R148) -/

/-- Whether a link has been healthy and untriggered for its hold, with approach brightening on. -/
def State.linkQualifies (s : State) (l : Nat) : Bool :=
  s.brightening && match (s.link l).okSince with
  | some t => t + s.linkNat 7 l * 1000000000 ≤ s.clk.up
  | none => false

/-- A qualifying link sends its permit to the signal die; `LINK_DIM` where it starts to (R148). -/
def State.permitSend (s : State) (l : Nat) : State :=
  if s.linkQualifies l = false then s
  else
    let s := s.setLink l { s.link l with permitOut := true }
    if s.on (linkFld l) then s
    else (s.put (linkFld l) 1).emit (srcBlock 3) Code.LINK_DIM (le 1 l ++ le 1 (s.linkNat 1 l))

/-- DIM_PERMIT_SEND (R148). -/
def opDimPermitSend (s : State) : State := s.linkList.foldl (fun s l => s.permitSend l) s

end Sys2Proof.Machine
end

