-- ==== Sys2Proof/Machine/Acq.lean ====
section
/-! DEFINITION. Coherent acquisition (03_coherent_acquisition.md): channelizers and their handover (R97-R100),
Landings and lost traces (R103-R107), I/Q calibration (R108-R111), overrange (R114) and the snapshot (R118). -/

namespace Sys2Proof.Machine

def State.chz (s : State) (c : Nat) : Chz := sparseGet .reset s.chzs c
def State.setChz (s : State) (c : Nat) (x : Chz) : State := { s with chzs := sparseSet .reset s.chzs c x }
def State.acq (s : State) (f : Nat) : AcqFibre := sparseGet .reset s.acqs f
def State.setAcq (s : State) (f : Nat) (x : AcqFibre) : State := { s with acqs := sparseSet .reset s.acqs f x }

/-- When a Landing of fibre f last ended a drop (run time; 0 never). -/
def State.acqEnd (s : State) (f : Nat) (raman : Bool) : Nat := if raman then (s.acq f).rdropEnd else (s.acq f).dropEnd

/-! ### Traces on their way (R103, R105, R106) -/

/-- The probe cycle length of fibre f in ns. -/
def State.cycleNs (s : State) (f : Nat) : Nat := 8 * s.get (PRB_CYC.LEN f)

/-- The window of a trace record, coherent or Raman, while it is neither processed nor lost. -/
def TraceRec.window (r : TraceRec) (raman : Bool) : Option (Int × Int) := if raman then r.rwin else r.win

/-- The same record with that window gone. -/
def TraceRec.take (r : TraceRec) (raman : Bool) : TraceRec := if raman then { r with rwin := none } else { r with win := none }

/-- Whether a window overlaps a stretch of run time in ns (R105). -/
def windowOverlaps (a b : Nat) (w : Int × Int) : Bool := w.1 ≤ 8 * b && 8 * a ≤ w.2

/-- The traces of fibre f whose window meets a test are lost whole: their records, and the state without them. -/
def State.takeLost (s : State) (f : Nat) (raman : Bool) (p : Int × Int → Bool) : List TraceRec × State :=
  let x := s.fib f
  let hit (r : TraceRec) : Bool := match r.window raman with
    | some w => p w
    | none => false
  let left := (x.traces.map (fun r => if hit r then r.take raman else r)).filter (fun r => r.win.isSome || r.rwin.isSome)
  (x.traces.filter hit, s.setFib f { x with traces := left })

/-- The coherent trace of one cycle is lost (R63): its record, and the state without it. -/
def State.loseCycle (s : State) (f n : Nat) : List TraceRec × State :=
  let x := s.fib f
  let hit (r : TraceRec) : Bool := r.cycle = n && r.win.isSome
  let left := (x.traces.map (fun r => if hit r then r.take false else r)).filter (fun r => r.win.isSome || r.rwin.isSome)
  (x.traces.filter hit, s.setFib f { x with traces := left })

/-- A loss of `n` coherent traces counted and passed to every zone of the fibre (R105, R130): from the cycle `first` that started at
run time `start`. -/
def State.lossToZones (s : State) (f n first start cause : Nat) : State :=
  if n = 0 then s
  else
    let us := n * s.cycleNs f / 1000
    ((s.inc (ACQ_LOST.COUNT f) n).gapZones f us first cause start).zonesLoss f n

/-- A loss of `n` Raman traces counted and passed to the fibre's Raman output (R105, R180). -/
def State.lossToRaman (s : State) (f n first start cause : Nat) : State :=
  if n = 0 then s
  else (s.inc (ACQ_RLOST.COUNT f) n).gapData (srcRamanLanding f) (n * s.cycleNs f / 1000) (first % 2 ^ 32) cause start

/-- The first of some lost traces: cycle and run time of its start. -/
def firstLost (rs : List TraceRec) (cycle now : Nat) : Nat × Nat :=
  match rs with
  | [] => (cycle, now)
  | r :: _ => (r.cycle, r.fired)

/-- The traces in flight are lost because synthesiser lock is lost, coherent, check and Raman: `GAP_DATA` with cause 0x05 (R106). -/
def State.loseInFlight (s : State) (f : Nat) : State :=
  let now := s.clk.up
  let (rs, s) := s.takeLost f false (fun w => 8 * now < w.2)
  let (n0, t0) := firstLost rs (s.cycle f) now
  let s := s.lossToZones f rs.length n0 t0 0x05
  let (qs, s) := s.takeLost f true (fun w => 8 * now < w.2)
  let (n1, t1) := firstLost qs (s.cycle f) now
  s.lossToRaman f qs.length n1 t1 0x05

/-- A Raman pulse of the cycle that has started (R156, R158): its edge, its trace's window and the one before. -/
def State.ramanFired (s : State) (f : Nat) : State :=
  let x := s.fib f
  if x.raman then
    let t := s.tmp f
    let w := s.ramanWindow f x.startedAt
    s.setTmp f { t with edge := some (8 * (x.startedAt : Int) + 256 * s.get (PRB_GATE.RMN_OFS f)), prevEnd := t.winEnd, winEnd := w.2,
                        fired := t.fired.filter (fun u => s.clk.up < u + 600000000000) ++ [x.startedAt] }
  else s

/-- The record of the trace that a cycle fires (R102, R103); its Raman window where the Raman laser fired. While no channelizer serves
the fibre, and where the window begins within a drop, the coherent trace is lost with it (R99, R105). -/
def State.fireTrace (s : State) (f : Nat) : State :=
  let s := s.ramanFired f
  let x := s.fib f
  let d0 := s.d0 f
  let win : Option (Int × Int) :=
    match x.plan with
    | [] => none
    | p :: ps =>
      let first := ((p :: ps).map (·.start)).foldl min p.start
      let last := ((p :: ps).map (·.start)).foldl max p.start
      let w := traceWindow d0 x.startedAt first last (s.get (PRB_BINS.NBINS f)) p.len
      if s.get (ACQ_STAT.CHZ f) = 3 ∨ w.1 < 8 * (s.acqEnd f false : Int) then none else some w
  let rwin := if x.raman then
      let w := s.ramanWindow f x.startedAt
      if w.1 < 8 * (s.acqEnd f true : Int) then none else some w
    else none
  if win.isNone && rwin.isNone then s
  else
    let full := decide (s.get (PRB_STAT.FSTATE f) = 3)
    s.setFib f { x with traces := x.traces ++ [⟨s.cycle f, x.startedAt, x.plan, full, win, rwin⟩] }

/-! ### Channelizers (R97-R100, Table 3.3) -/

/-- The channelizers that have not been retired. -/
def State.chzWorking (s : State) : List Nat := (List.range 3).filter (fun c => s.get (ACQ_CHZ.STATE c) ≠ 5)

/-- Channelizer c serves fibre f. -/
def State.chzServe (s : State) (c f : Nat) : State :=
  (s.put (ACQ_CHZ.STATE c) (1 + f)).put (ACQ_STAT.CHZ f) c

/-- An enabled fibre that nothing serves takes the lowest spare channelizer (R97). -/
def State.chzAssign (s : State) (f : Nat) : State :=
  if s.on (PRB_CYC.EN f) && s.get (ACQ_STAT.CHZ f) = 3 && !(s.acq f).unserved then
    match (List.range 3).find? (fun c => s.get (ACQ_CHZ.STATE c) = 0) with
    | some c => s.chzServe c f
    | none => s
  else s

/-- The PROBE section's seed of one polarisation: five signed 16-bit values (R219); 0 where absent. -/
def Plane.iqSeed (p : Plane) (f : Nat) (y : Bool) : IqCoef :=
  let b := (p.bytes 2 3 0x089 [f, b2n y]).getD []
  let v (i : Nat) : Rat := toSigned 16 (leAt b (2 * i) 2)
  ⟨v 0, v 1, v 2, v 3, v 4⟩

def iqFld (f : Nat) (y : Bool) : Fld := if y then ACQ_STAT.IQY f else ACQ_STAT.IQX f
def iqIdx (f : Nat) (y : Bool) : Nat := 2 * f + b2n y

def State.iq (s : State) (f : Nat) (y : Bool) : Iq := sparseGet .reset s.iqs (iqIdx f y)
def State.setIq (s : State) (f : Nat) (y : Bool) (x : Iq) : State := { s with iqs := sparseSet .reset s.iqs (iqIdx f y) x }

/-- The coefficients applied by the channelizer, and the registers that show them (R109). -/
def State.iqApply (s : State) (f : Nat) (y : Bool) (e : IqCoef) : State :=
  let n := iqIdx f y
  let v (q : Rat) : Int := satS 16 (roundHalf q)
  let s := s.setIq f y { s.iq f y with cur := e, next := none }
  let s := ((s.puti (ACQ_IQGP.GAIN n) (v e.gain)).puti (ACQ_IQGP.PHASE n) (v e.phase)).puti (ACQ_IQSD.SKEW n) (v e.skew)
  (s.puti (ACQ_IQDC.DC_I n) (v e.dcI)).puti (ACQ_IQDC.DC_Q n) (v e.dcQ)

/-- An estimator in OFF with its seed applied unchanged (Table 3.4). -/
def State.iqOff (s : State) (f : Nat) (y : Bool) : State :=
  (s.iqApply f y (s.cfg.sens.iqSeed f y)).put (iqFld f y) 0

/-- A fibre that is no longer served (R100): its channelizer becomes spare, its zones go INVALID, its estimators are
OFF (Table 3.4). -/
def State.noChannelizer (s : State) (f : Nat) : State :=
  if (s.acq f).unserved || !s.on (PRB_CYC.EN f) then s
  else
    let c := s.get (ACQ_STAT.CHZ f)
    let s := if c = 3 then s else s.put (ACQ_CHZ.STATE c) 0
    let s := (((s.put (ACQ_STAT.CHZ f) 3).put (ACQ_EVT.NOCHZ f) 1).iqOff f false).iqOff f true
    let s := s.setAcq f { s.acq f with unserved := true }
    let s := s.emit (srcBlock 2) Code.NO_CHANNELIZER (le 1 f ++ le 1 s.chzWorking.length)
    s.zonesInvalid f 0x02 (s.get (PRB_STAT.FSTATE f))

/-- Whether the working channelizers let fibre f be served (R100). -/
def State.chzMay (s : State) (f : Nat) : Bool :=
  2 ≤ s.chzWorking.length || (s.chzWorking.length = 1 && s.get ACQ_CFG.KEEP = f)

/-- With one working channelizer left only the fibre to be kept is served, with none neither (R100). -/
def State.chzShortage (s : State) : State :=
  [0, 1].foldl (fun s f => if s.chzMay f then s else s.noChannelizer f) s

/-- The channelizer of a disabled fibre becomes spare (R97). -/
def State.chzFree (s : State) (f : Nat) : State :=
  let c := s.get (ACQ_STAT.CHZ f)
  if s.on (PRB_CYC.EN f) || c = 3 then s else (s.put (ACQ_CHZ.STATE c) 0).put (ACQ_STAT.CHZ f) 3

/-- Service at a load and at a profile switch (R97, R100): a fibre lost for want of channelizers may be served again, a fibre that
cannot be is not, and every other enabled fibre has its channelizer. -/
def State.chzService (s : State) : State :=
  let s := [0, 1].foldl (fun s f => s.setAcq f { s.acq f with unserved := (s.acq f).unserved && !s.chzMay f }) s
  let s := (s.chzShortage.chzFree 0).chzFree 1
  ((((s.chzAssign 0).chzAssign 1)).zonesStart 0).zonesStart 1

/-- A handover of fibre f in progress ends without a comparison (R107). -/
def State.endHandover (s : State) (f : Nat) : State :=
  (List.range 3).foldl
    (fun s c => if s.get (ACQ_CHZ.STATE c) = 3 ∧ (s.chz c).fibre = f then s.put (ACQ_CHZ.STATE c) 0 else s) s

/-- CHZ_HANDOVER_START (R98 item 1, R107): a spare candidate runs beside the incumbent of fibre f from the window of the trace of the
present cycle on, which begins after the last drop has ended. -/
def opChzHandoverStart (c f : Nat) (s : State) : State :=
  let i := s.get (ACQ_STAT.CHZ f)
  let w := (traceWindow (s.d0 f) (s.fib f).startedAt 0 0 1 0).1
  if s.get (ACQ_CHZ.STATE c) = 0 ∧ i ≠ 3 ∧ s.get (ACQ_STAT.DROP f) = 0 ∧ (8 * s.acqEnd f false : Int) ≤ w + 1008 then
    let s := { s with gal := { s.gal with handover := none, chzRun := sparseSet none s.gal.chzRun (20 + c) none } }
    (s.put (ACQ_CHZ.STATE c) 3).setChz c { s.chz c with fibre := f, incumbent := i, trace := s.cycle f }
  else s

/-- CHZ_HANDOVER (R98 items 3-5). -/
def opChzHandover (c : Nat) (agree : Bool) (s : State) : State :=
  if s.get (ACQ_CHZ.STATE c) ≠ 3 then s
  else
    let x := s.chz c
    let i := x.incumbent
    let f := x.fibre
    if agree then
      let s := ((s.put (ACQ_CHZ.STATE i) 0).chzServe c f).setChz c .reset
      s.emit (srcChz c) Code.CHZ_HANDOVER (le 1 i ++ le 1 f ++ le 8 (x.trace + 1))
    else
      let s := s.put ACQ_EVT.CHZMIS 1
      let again := match x.suspect with
        | some (j, _) => j = i && x.passed
        | none => false
      if again then
        let first := match x.suspect with
          | some (_, n) => n
          | none => x.trace
        let s := (((s.put (ACQ_CHZ.STATE i) 4).mustTest (20 + i)).chzServe c f).setChz c .reset
        (s.put (ACQ_EVT.CHZFAIL i) 1).emit (srcChz i) Code.CHZ_FAIL (le 1 f ++ le 8 first ++ le 1 0 ++ le 1 3)
      else
        let s := ((s.put (ACQ_CHZ.STATE c) 4).mustTest (20 + c)).setChz c { x with suspect := some (i, x.trace), passed := false }
        s.emit (srcChz c) Code.CHZ_MISMATCH (le 1 i ++ le 1 f ++ le 8 x.trace)

/-- The cycles of fibre f that start within 100 us from now: the traces that a takeover leaves out (R99). -/
def State.beforeTakeover (s : State) (f : Nat) : Nat :=
  let c := s.cycleNs f
  let since := s.clk.up - (s.fib f).startedAt
  if c = 0 ∨ (s.fib f).started = 0 ∨ (s.fib f).plan = [] then 0 else (since + 100000 - 1) / c - since / c

/-- CHZ_FAIL (R99, R100): `stall` gives cause 0x02, an integrity failure 0x01. The traces not delivered completely are lost, and those
that start before a takeover. -/
def opChzFail (c : Nat) (stall : Bool) (s : State) : State :=
  let st := s.get (ACQ_CHZ.STATE c)
  if st = 1 ∨ st = 2 then
    let f := st - 1
    let now := s.clk.up
    let next := s.beforeTakeover f
    let (rs, s) := s.takeLost f false (fun w => 8 * now < w.2)
    let (first, start) := firstLost rs (s.cycle f + 1) now
    let lost := rs.length + next
    let s := (s.endHandover f).puts [(ACQ_CHZ.STATE c, 5), (ACQ_STAT.CHZ f, 3), (ACQ_EVT.CHZFAIL c, 1)]
    let s := s.setAcq f { s.acq f with failAt := some now }
    let s := s.emit (srcChz c) Code.CHZ_FAIL
      (le 1 f ++ le 8 first ++ le 1 (min 255 lost) ++ le 1 (if stall then 2 else 1))
    ((s.repairEntry (20 + c) 4 0 0).lossToZones f lost first start 0x05).chzShortage
  else s

/-- CHZ_TAKEOVER (R99): at least 100 us after the failure a channelizer in SPARE, or in UNDER_TEST with its slice abandoned, serves
fibre f. -/
def opChzTakeover (c f : Nat) (s : State) : State :=
  let st := s.get (ACQ_CHZ.STATE c)
  let due : Bool := match (s.acq f).failAt with
    | some t => decide (t + 100000 ≤ s.clk.up)
    | none => true
  if s.get (ACQ_STAT.CHZ f) = 3 ∧ (st = 0 ∨ st = 4) ∧ s.on (PRB_CYC.EN f) ∧ (s.acq f).unserved = false ∧ due then
    let s := if st = 4 then s.sliceAbandon (20 + c) else s
    (((s.chzServe c f).setChz c .reset).setAcq f { s.acq f with failAt := none }).zonesStart f
  else s

/-! ### Landings (R104, R105) -/

def landFill (raman : Bool) (f : Nat) : Fld := if raman then ACQ_RLAND.FILL f else ACQ_LAND.FILL f
def landPeak (raman : Bool) (f : Nat) : Fld := if raman then ACQ_RLAND.PEAK f else ACQ_LAND.PEAK f
def landDrops (raman : Bool) (f : Nat) : Fld := if raman then ACQ_RLAND.DROPS f else ACQ_LAND.DROPS f
def srcLand (raman : Bool) (f : Nat) : Nat := if raman then srcRamanLanding f else srcLanding f

/-- A Landing's fill in microseconds, and the peak since the last clear (R104). -/
def State.landed (s : State) (raman : Bool) (f us : Nat) : State :=
  let s := s.putSat (landFill raman f) us
  s.putSat (landPeak raman f) (max (s.get (landPeak raman f)) us)

/-- LANDING_HIGH (R104): the fill in microseconds; recorded where it reaches the high mark after being below it. -/
def opLandingHigh (f : Nat) (raman : Bool) (fill : Nat) (s : State) : State :=
  let old := s.get (landFill raman f)
  let high := s.get ACQ_CFG.HIGH
  let s := s.landed raman f fill
  if old < high ∧ high ≤ fill then
    (s.put (ACQ_EVT.HIGH f) 1).emit (srcLand raman f) Code.LANDING_HIGH (le 2 fill ++ le 8 (s.cycle f))
  else s

/-- LANDING_DROP_START (R105, R107): the Landing holds its 64 us and drops. -/
def opLandingDropStart (f : Nat) (raman : Bool) (s : State) : State :=
  let x := s.acq f
  if (if raman then x.rdrop else x.drop).isSome then s
  else
    let now := some s.clk.up
    let s := ((s.landed raman f 64).inc (landDrops raman f)).setAcq f
      (if raman then { x with rdrop := now } else { x with drop := now })
    if raman then s.put (ACQ_STAT.RDROP f) 1 else (s.put (ACQ_STAT.DROP f) 1).endHandover f

/-- The traces that a drop from run time `a` to now loses: those on their way whose window overlaps it, and the next cycle's where its
window has begun (R105). -/
def State.dropLost (s : State) (f : Nat) (raman : Bool) (a : Nat) : List TraceRec × Nat × State :=
  let now := s.clk.up
  let (rs, s) := s.takeLost f raman (windowOverlaps a now)
  let t := (s.fib f).startedAt + s.cycleNs f
  let w := if raman then (s.ramanWindow f t).1 else (traceWindow (s.d0 f) t 0 0 1 0).1
  let fires := if raman then (s.fib f).raman else decide ((s.fib f).plan ≠ [])
  (rs, b2n (fires && decide (w < 8 * (now : Int))), s)

/-- LANDING_OVERFLOW (R105): the drop ends with 16 us left; the traces whose windows overlap it are lost, counted and reported. -/
def opLandingOverflow (f : Nat) (raman : Bool) (s : State) : State :=
  match (if raman then (s.acq f).rdrop else (s.acq f).drop) with
  | none => s
  | some a =>
    let now := s.clk.up
    let (rs, next, s) := s.dropLost f raman a
    let (first, start) := firstLost rs (s.cycle f + next) now
    let lost := rs.length + next
    let x := s.acq f
    let s := (s.landed raman f 16).setAcq f
      (if raman then { x with rdrop := none, rdropEnd := now } else { x with drop := none, dropEnd := now })
    let data := le 8 first ++ le 2 (min 0xFFFF lost) ++ le 2 (min 0xFFFF ((now - a) / 1000))
    let s := if raman then s.puts [(ACQ_STAT.RDROP f, 0), (ACQ_EVT.ROVF f, 1)] else s.puts [(ACQ_STAT.DROP f, 0), (ACQ_EVT.OVF f, 1)]
    let s := s.emit (srcLand raman f) Code.LANDING_OVERFLOW data
    if raman then s.lossToRaman f lost first start 0x01 else s.lossToZones f lost first start 0x01

/-! ### I/Q calibration (R108-R111, Tables 3.4, 3.7) -/

/-- The parameters of an estimate outside the correctable ranges (Table 3.4): bit 0 gain (2 dB of amplitude ratio
less 1), bit 1 phase (11 degrees), bit 2 skew (150 ps), bit 3 DC. -/
def iqOut (e : IqEst) : Nat :=
  b2n (decide (e.gain < -20567 ∨ 25892 < e.gain)) + 2 * b2n (decide (19198 < e.phase.natAbs)) +
  4 * b2n (decide (15000 < e.skew.natAbs)) + 8 * b2n (decide (32767 < e.dcI.natAbs ∨ 32767 < e.dcQ.natAbs))

/-- A fibre enters FULL with calibration enabled and a channelizer: the estimators leave OFF; except from APR or
HELD they start from the seed (R109, Table 3.4). -/
def State.iqEnterFull (s : State) (f : Nat) (fromSeed : Bool) : State :=
  if s.on (ACQ_CFG.IQ_EN f) && s.get (ACQ_STAT.CHZ f) ≠ 3 then
    let one (s : State) (y : Bool) : State :=
      let s := if fromSeed then
          let s := s.iqApply f y (s.cfg.sens.iqSeed f y)
          s.setIq f y { s.iq f y with start := s.clk.up, last := s.clk.up, okSince := none, lowSince := none }
        else s
      if fromSeed || s.get (iqFld f y) = 0 then s.put (iqFld f y) 1 else s
    one (one s false) true
  else s

/-- Whether the estimators of fibre f work: in FULL, served, enabled (R109, R111, Table 3.4). -/
def State.iqLive (s : State) (f : Nat) : Bool :=
  s.get (PRB_STAT.FSTATE f) = 3 && s.get (ACQ_STAT.CHZ f) ≠ 3 && s.on (ACQ_CFG.IQ_EN f)

/-- The time constant in ns: 0.2 s for 2 s after a start or a clearing of `IQ_RANGE`, then `IQ_TAU` (R109). -/
def State.iqTau (s : State) (x : Iq) : Nat :=
  if s.clk.up < x.start + 2000000000 then 200000000 else s.get ACQ_CFG.IQ_TAU * 1000000000

/-- A coefficient moved towards its estimate by a share of the way. -/
def IqCoef.towards (c : IqCoef) (e : IqEst) (a : Rat) : IqCoef :=
  ⟨c.gain + (e.gain - c.gain) * a, c.phase + (e.phase - c.phase) * a, c.skew + (e.skew - c.skew) * a,
   c.dcI + (e.dcI - c.dcI) * a, c.dcQ + (e.dcQ - c.dcQ) * a⟩

/-- A run of time during which a test holds: since when. -/
def runSince (old : Option Nat) (holds : Bool) (now : Nat) : Option Nat := if holds then some (old.getD now) else none

/-- IQ_ESTIMATE_UPDATE (R108-R110): an estimate from a FULL trace without overrange and above -40 dBFS moves the coefficients, which
change at the next cycle start; the estimator's state follows Table 3.4. -/
def opIqEstimateUpdate (f : Nat) (y : Bool) (o : IqObs) (s : State) : State :=
  if s.iqLive f = false ∨ o.ovr ∨ o.power ≤ -40 then s
  else
    let now := s.clk.up
    let s := s.put (ACQ_IQSD.IMG (iqIdx f y)) (min 99 o.img)
    let s := if s.get (iqFld f y) = 0 then
        (s.put (iqFld f y) 1).setIq f y { s.iq f y with start := now, last := now }
      else s
    let st := s.get (iqFld f y)
    let x := s.iq f y
    if st = 3 then s.setIq f y { x with okSince := runSince x.okSince (iqOut o.est = 0) now, last := now }
    else if iqOut o.est ≠ 0 then
      let s := s.setIq f y { x with next := none, okSince := none, lowSince := none, last := now }
      ((s.put (iqFld f y) 3).put (ACQ_EVT.IQR f) 1).emit (srcBlock 2) Code.IQ_RANGE
        (le 1 f ++ le 1 (b2n y) ++ le 1 (iqOut o.est))
    else
      let a := Config.firstOrder ((now - x.last : Nat) : Rat) (s.iqTau x)
      let s := s.setIq f y { x with next := some ((x.next.getD x.cur).towards o.est a), last := now,
                                    lowSince := runSince x.lowSince (st = 2 && o.img < 50) now }
      if st = 1 ∧ 55 ≤ o.img then
        (s.put (iqFld f y) 2).emit (srcBlock 2) Code.IQ_TRACKING (le 1 f ++ le 1 (b2n y) ++ le 1 (min 99 o.img))
      else s

/-- The coefficients reached are applied at a cycle start (R109). -/
def State.iqCycle (s : State) (f : Nat) : State :=
  [false, true].foldl (fun s y => match (s.iq f y).next with
    | some c => s.iqApply f y c
    | none => s) s

/-- IQ_HOLD_EXIT (R109, R110): the estimate has stayed within range for 10 s; HOLD gives way to CONVERGING, with the short time
constant. -/
def opIqHoldExit (f : Nat) (y : Bool) (s : State) : State :=
  if s.iqLive f ∧ s.get (iqFld f y) = 3 then
    (s.put (iqFld f y) 1).setIq f y { s.iq f y with start := s.clk.up, okSince := none }
  else s

/-- IQ_RECONVERGE (R110): the rejection has stayed below 50 dB for 10 s. -/
def opIqReconverge (f : Nat) (y : Bool) (s : State) : State :=
  if s.iqLive f ∧ s.get (iqFld f y) = 2 then
    (s.put (iqFld f y) 1).setIq f y { s.iq f y with lowSince := none }
  else s

/-! ### Overrange, snapshot, clears (R114, R117, R118) -/

/-- A trace seen by a converter (R114): it counts where it holds an overranged sample. -/
def State.countOvr (s : State) (a cycle : Nat) (xs : List Sample) : State :=
  if xs.any (·.ovr) then
    let x := sparseGet .reset s.ovrs a
    let x := { x with first := if x.traces = 0 then cycle else x.first, traces := x.traces + 1, run := max x.run (longestRun 0 xs) }
    { s.inc (ACQ_OVR.COUNT a) with ovrs := sparseSet .reset s.ovrs a x }
  else s

/-- OVERRANGE (R114): the overrange of converter a since its last record, at most one record per second. -/
def opOverrange (a : Nat) (s : State) : State :=
  let f := if a < 8 then a / 4 else (a - 8) / 2
  let x := sparseGet .reset s.ovrs a
  let due := match x.recAt with
    | some t => decide (t + 1000000000 ≤ s.clk.up)
    | none => true
  if x.traces = 0 ∨ due = false then s
  else
    let s : State := { s.put (ACQ_EVT.OVR f) 1 with ovrs := sparseSet .reset s.ovrs a ⟨0, 0, 0, some s.clk.up⟩ }
    s.emit (srcBlock 2) Code.OVERRANGE
      (le 1 a ++ le 4 (x.first % 2 ^ 32) ++ le 2 (min 0xFFFF x.traces) ++ le 2 (min 0xFFFF x.run))

/-- SNAPSHOT_ARM (R118). -/
def opSnapshotArm (s : State) : State :=
  let s := s.puts [(ACQ_SNAP_STAT.DONE, 0), (ACQ_SNAP_STAT.LOST, 0), (ACQ_SNAP_STAT.ARMED, 1)]
  { s with snap := ⟨s.get ACQ_SNAP_CTL.FIBRE, s.on ACQ_SNAP_CTL.RAMAN, s.get ACQ_SNAP_CTL.OFS, none⟩ }

/-- The first cycle of the chosen fibre after `ARM` has its capture, from `OFS` on (R118). -/
def State.snapCycle (s : State) (f : Nat) : State :=
  if s.on ACQ_SNAP_STAT.ARMED && s.snap.fibre = f then
    { s.put ACQ_SNAP_STAT.ARMED 0 with snap := { s.snap with capture := some (s.cycle f, s.clk.up + 8 * s.snap.ofs) } }
  else s

/-- Whether a stretch of run time from `a` to `b` overlaps a drop of the chosen Landing or a loss of lock (R118). -/
def State.snapLost (s : State) (a b : Nat) : Bool :=
  let x := s.acq s.snap.fibre
  let open' (o : Option Nat) : Bool := match o with
    | some t => t ≤ b
    | none => false
  open' (if s.snap.raman then x.rdrop else x.drop) || a < s.acqEnd s.snap.fibre s.snap.raman || open' s.tb.noLock ||
  a < s.tb.lockAt

/-- The words of `ACQ_SNAP_DATA` from word j on. -/
def State.snapWords (s : State) : Nat → List Word → State
  | _, [] => s
  | j, w :: t => ((s.wr (ACQ_SNAP_DATA j) w).snapWords (j + 1) t)

/-- 2,048 samples as 1,024 words, sample 2j + 1 in the upper half (Table 3.7). -/
def snapPack (xs : List Sample) : List Word :=
  let at' (j : Nat) : Nat := ((xs[j]?).map Sample.word).getD 0
  (List.range 1024).map (fun j => BitVec.ofNat 32 (at' (2 * j) + 65536 * at' (2 * j + 1)))

/-- SNAPSHOT_DONE (R118): `volts` is what each converter of the group saw over the capture. The sample words (R89) of four coherent or
two Raman converters fill `ACQ_SNAP_DATA`; the rest reads 0. -/
def opSnapshotDone (volts : List (List Rat)) (s : State) : State :=
  match s.snap.capture with
  | none => s
  | some (n, a) =>
    let r := s.snap.raman
    let trains := (volts.take (if r then 2 else 4)).map (fun v => if r then ramanTrain v else coherentTrain v)
    let lost := s.snapLost a (a + 2048 * (if r then 8 else 2))
    let s := { s with regs := s.regs.filter (fun p => p.1 < ACQ_SNAP_DATA 0 || ACQ_SNAP_DATA 4095 < p.1) }
    let s := s.snapWords 0 (trains.flatMap snapPack)
    let s := s.puts [(ACQ_SNAP_STAT.DONE, 1), (ACQ_SNAP_STAT.LOST, b2n lost), (ACQ_EVT.SNAP, 1), (ACQ_SNAP_CYC.CYC, n)]
    { s with snap := { s.snap with capture := none } }

/-- ACQ_CLEAR_PEAK (Table 3.7): bits PEAK0, PEAK1, RPEAK0, RPEAK1. -/
def opAcqClearPeak (p0 p1 r0 r1 : Bool) (s : State) : State :=
  let s := if p0 then s.put (ACQ_LAND.PEAK 0) 0 else s
  let s := if p1 then s.put (ACQ_LAND.PEAK 1) 0 else s
  let s := if r0 then s.put (ACQ_RLAND.PEAK 0) 0 else s
  if r1 then s.put (ACQ_RLAND.PEAK 1) 0 else s

/-- ACQ_CLEAR_COUNTS (Table 3.7). -/
def opAcqClearCounts (s : State) : State :=
  let fib (s : State) (f : Nat) : State :=
    s.puts [(ACQ_LAND.DROPS f, 0), (ACQ_RLAND.DROPS f, 0), (ACQ_LOST.COUNT f, 0), (ACQ_RLOST.COUNT f, 0)]
  (List.range 12).foldl (fun s a => s.put (ACQ_OVR.COUNT a) 0) (fib (fib s 0) 1)

/-! ### The PROBE section's acquisition registers (R94) -/

/-- The acquisition registers of fibre f under a plane; an estimator in OFF has the seed applied (Table 3.4). They read 0 until the
first PROBE section loads (R116). -/
def State.loadAcqFibre (s : State) (p : Plane) (f : Nat) : State :=
  if decide (2 ∈ p.secs ∨ 2 ∈ s.cfg.loaded) = false then s
  else
    let v (fid : Nat) : Nat := p.nat 2 1 fid [f]
    let s := s.puts [(ACQ_ZERO.DELAY f, v 0x082), (ACQ_ZERO.CBIN f, v 0x083), (ACQ_RZERO.RDELAY f, v 0x084),
      (ACQ_CFG.WEIGHT f, v 0x085), (ACQ_CFG.IQ_EN f, v 0x087)]
    [false, true].foldl (fun s y =>
      if v 0x087 = 0 ∨ s.get (iqFld f y) = 0 then (s.iqApply f y (p.iqSeed f y)).put (iqFld f y) 0 else s) s

/-- The top-level acquisition registers under a plane. -/
def State.loadAcqTop (s : State) (p : Plane) : State :=
  if decide (2 ∈ p.secs ∨ 2 ∈ s.cfg.loaded) = false then s
  else s.puts [(ACQ_NG.NG, p.nat 2 0 0x081 []), (ACQ_CFG.HIGH, p.nat 2 0 0x086 []), (ACQ_CFG.IQ_TAU, p.nat 2 0 0x088 []),
    (ACQ_CFG.KEEP, p.nat 2 0 0x08A [])]

end Sys2Proof.Machine
end

