-- ==== Sys2Proof/Machine/Probe.lean ====
section
/-! DEFINITION. Probe generation and the timebase (02_probe_and_timebase.md): timebase states (R55-R60, R78), probe
cycles (R61, R66), laser monitor (R70, R71), automatic power reduction (R72-R77) and PPS (R79-R82). -/

namespace Sys2Proof.Machine

/-! ### Fibres -/

/-- Whether the modes of R69 and profile F let a fibre emit. -/
def State.emissionMode (s : State) : Bool :=
  (s.md.mode = .hold || s.md.mode = .commission || s.md.mode = .family || s.md.mode = .safe) &&
  s.get CFG_STAT.ACTIVE ≠ 4 && s.get CFG_STAT.ACTIVE ≠ 7

/-- The state fibre f of Table 2.7 entered, with its pad levels: the laser is off in OFF and LOCKOUT and, with
LSR_OFF, between the bursts of APR and HELD; a full probe leaves in FULL only (R73), and outside it a shot in progress is cut off
(R74, R77, R78). A check under way and a pending entry into FULL end; an entry into APR sets its flag (Table 2.10). Zones of a
fibre that leaves FULL go INVALID (R127). -/
def State.setFstate (s : State) (f st : Nat) : State :=
  let old := s.get (PRB_STAT.FSTATE f)
  let x := if st = 3 then s.fib f else (s.fib f).quiet
  let lsr := decide (st = 1 ∨ st = 2 ∨ st = 3 ∨ ((st = 4 ∨ st = 5) ∧ s.get PRB_APR.LSR_OFF = 0))
  let keepMark := decide (st = 4 ∨ st = 5)
  let s := s.setFib f { x with toFull := 0, check := false, burst := 0, want := false, ready := x.ready && lsr,
                               passes := if st = old ∨ st = 5 then x.passes else 0, raman := false,
                               aprSince := if st = 4 then s.clk.up else x.aprSince,
                               confirmed := if st = 3 then s.clk.up else x.confirmed }
  let s := (s.put (PRB_STAT.FSTATE f) st).putB (PRB_STAT.LSR f) lsr
  let s := s.putB (PRB_STAT.EMIT f) (st = 3)
  let s := if st = 4 then s.put (PRB_EVT.APR f) 1 else s
  let s := if keepMark then s else s.put (PRB_STAT.FORCED f) 0
  if old = 3 ∧ st ≠ 3 then
    (s.setAcuFib f { s.acuFib f with cliffs := 0, fullSince := none, confirm := false }).zonesInvalid f 0x01 st
  else if st = 3 then s.setAcuFib f { s.acuFib f with fullSince := some s.clk.up } else s

/-- OFF left and entered by rule (R69, R73, R55): OFF where the mode, the profile or a disabled fibre requires it;
WAIT_READY from OFF where everything permits. -/
def State.fibreUpdate (s : State) (f : Nat) : State :=
  let may := s.emissionMode && s.on (PRB_CYC.EN f)
  let st := s.get (PRB_STAT.FSTATE f)
  if st ≠ 0 ∧ may = false then s.setFstate f 0
  else if st = 0 ∧ may ∧ s.get PRB_STAT.TB ≠ 0 ∧ (s.get PRB_REF.SRC = 1 → s.tb.everRef) then s.setFstate f 1
  else s

def State.fibresUpdate (s : State) : State := (s.fibreUpdate 0).fibreUpdate 1

/-- Entry into APR with its record (R74-R76). -/
def State.enterApr (s : State) (f trigger bin : Nat) : State :=
  (s.setFstate f 4).emit (srcBlock 1) Code.APR_ENTER (le 1 f ++ le 1 trigger ++ le 4 bin)

/-- Entry into LOCKOUT with its record and event flag (R71, R77); in the modes and under the profile of R69 a fibre stays OFF. -/
def State.enterLockout (s : State) (f cause : Nat) : State :=
  if s.emissionMode = false then s
  else ((s.setFstate f 6).put (PRB_EVT.LOCKOUT f) 1).emit (srcBlock 1) Code.APR_LOCKOUT (le 1 f ++ le 1 cause)

/-! ### Timebase -/

/-- Emission stopped by a loss of lock: every fibre in START, FULL, APR or HELD goes to WAIT_READY, and its zones
take GAP_DATA with cause 0x05 (R60, R78). -/
def State.stopFibre (s : State) (f : Nat) : State :=
  let st := s.get (PRB_STAT.FSTATE f)
  if st = 2 ∨ st = 3 ∨ st = 4 ∨ st = 5 then (s.loseInFlight f).setFstate f 1 else s

/-- The synthesiser out of lock: UNLOCKED, emission stopped, the Pacer on its last calibration (R31, R60, R78). -/
def State.unlock (s : State) : State :=
  let s := (s.put PRB_STAT.TB 0).put PRB_STAT.DIRECT 0
  let s : State := { s with tb := { s.tb with noLock := some (s.tb.noLock.getD s.clk.up) } }
  ((s.put LMP_STAT.PACER_CAL 0).stopFibre 0).stopFibre 1

/-- The state the synthesiser can lock to next: the crystal while it is in use, `REF_IN` directly after a crystal
failure, or nothing (R55, R60). -/
def State.nextTarget (s : State) : Nat := if !s.tb.xoFailed then 1 else if s.on PRB_STAT.REF_OK then 2 else 0

/-- The timebase starts at the end of BOOT (R55). -/
def State.timebaseStart (s : State) : State :=
  let s := s.putB PRB_STAT.XO_OK (!s.tb.xoFailed)
  { s with tb := { s.tb with target := s.nextTarget, targetDirect := s.tb.xoFailed } }

/-- The synthesiser moves to a good `REF_IN` where the source allows it (R55), directly where the crystal has failed (R60). -/
def State.seekRef (s : State) : State :=
  if s.get PRB_REF.SRC = 2 ∨ s.get PRB_STAT.REF_OK = 0 ∨ s.get PRB_STAT.TB = 2 ∨ s.get PRB_STAT.TB = 3 then s
  else { s with tb := { s.tb with target := 2, targetDirect := s.tb.xoFailed } }

/-- `PRB_REF.FOFS` (Table 2.10): saturating short of 0x8000, which says that there is no measurement (log entry 98). -/
def fofsCode (fofs : Int) : Int := max (-32767) (satS 16 fofs)

/-- REF_IN_QUALIFIED (R55, R56): `REF_IN` has been good for 10 s with the given offset against nominal. -/
def opRefInQualified (fofs : Int) (s : State) : State :=
  ((s.put PRB_STAT.REF_OK 1).puti PRB_REF.FOFS (fofsCode fofs)).seekRef

/-- The source of R55 put in force: XO_ONLY takes the timebase from `REF_IN` back to the crystal, and drops a lock to `REF_IN` in
progress; another source seeks a `REF_IN` that is good already. -/
def State.loadSource (s : State) (src : Nat) : State :=
  let s := s.put PRB_REF.SRC src
  if src = 2 then
    if !s.tb.xoFailed && (s.get PRB_STAT.TB = 2 || s.get PRB_STAT.TB = 3 || s.tb.target = 2) then
      { s with tb := { s.tb with target := 1, targetDirect := false } }
    else s
  else s.seekRef

/-- A fibre in WAIT_READY whose laser is ready goes on to START; while UNLOCKED it waits (R70, R73, R78). -/
def State.startReady (s : State) (f : Nat) : State :=
  if s.get (PRB_STAT.FSTATE f) = 1 ∧ (s.fib f).ready ∧ s.get PRB_STAT.TB ≠ 0 then
    (s.setFstate f 2).emit (srcBlock 1) Code.LASER_READY (le 1 f)
  else s

/-- TIMEBASE_LOCK (R56): the lock in progress completes and the new state is recorded. -/
def opTimebaseLock (s : State) : State :=
  if s.tb.target = 0 then s
  else
    let t := s.tb.target
    let d := s.tb.targetDirect
    let s := (s.put PRB_STAT.TB t).putB PRB_STAT.DIRECT d
    let tb := { s.tb with target := 0, targetDirect := false, everRef := s.tb.everRef || decide (t = 2) }
    let s := { s with tb := { tb with noLock := none, lockAt := s.clk.up } }
    let s := s.emit (srcBlock 1) Code.TIMEBASE_LOCK (le 1 t ++ le 1 (b2n d))
    let s := s.fibresUpdate
    (s.startReady 0).startReady 1

/-- TIMEBASE_UNLOCK (R60, R78): cause 1 no reference, 2 crystal failed, 3 synthesiser lock lost. -/
def opTimebaseUnlock (cause : Nat) (s : State) : State :=
  let s := (s.unlock).put PRB_EVT.UNLOCK 1
  let s := s.emit (srcBlock 1) Code.TIMEBASE_UNLOCK (le 1 cause)
  { s with tb := { s.tb with target := s.nextTarget, targetDirect := s.tb.xoFailed } }

/-- The event flag of a reference loss: a gap, or off frequency (R55, R58). -/
def State.refFlag (s : State) (offFreq : Bool) : State :=
  (s.put PRB_STAT.REF_OK 0).put (if offFreq then PRB_EVT.REF_BAD else PRB_EVT.REF_LOST) 1

/-- HOLDOVER_ENTER (R58; XO_ONLY ignores `REF_IN`, R55): in LOCKED_REF through the DPLL the last correction is frozen; in a direct lock holdover is
unavailable and the state is UNLOCKED (R60). -/
def opHoldoverEnter (offFreq : Bool) (corr : Int) (s : State) : State :=
  if s.get PRB_STAT.TB ≠ 2 then s
  else if s.get PRB_REF.SRC = 2 then s.refFlag offFreq
  else if s.on PRB_STAT.DIRECT then opTimebaseUnlock 1 (s.refFlag offFreq)
  else
    let s := s.refFlag offFreq
    let s := ((s.put PRB_STAT.TB 3).put PRB_HOLDOVER.SECS 0).inc PRB_HOLDOVER.COUNT
    let s := { s with tb := { s.tb with frozen := corr, holdSince := s.clk.up } }
    s.emit (srcBlock 1) Code.HOLDOVER_ENTER (le 1 (if offFreq then 2 else 1) ++ leI 2 (satS 16 corr))

/-- The seconds of the present or last holdover (Table 2.10 `SECS`). -/
def State.holdSecs (s : State) : Nat :=
  if s.get PRB_STAT.TB = 3 then (s.clk.up - s.tb.holdSince) / 1000000000 else s.get PRB_HOLDOVER.SECS

/-- HOLDOVER_EXIT (R59): `REF_IN` has been good for 10 s; XO_ONLY ignores it (R55). -/
def opHoldoverExit (s : State) : State :=
  if s.get PRB_STAT.TB ≠ 3 ∨ s.get PRB_REF.SRC = 2 then s
  else
    let secs := s.holdSecs
    let s := ((s.putSat PRB_HOLDOVER.SECS secs).put PRB_STAT.TB 2).put PRB_STAT.REF_OK 1
    s.emit (srcBlock 1) Code.HOLDOVER_EXIT (le 4 secs)

/-- REF_IN_BAD (R55): outside LOCKED_REF the reference stops being good. -/
def opRefInBad (offFreq : Bool) (s : State) : State :=
  if s.get PRB_STAT.TB = 2 then s
  else
    let s := s.refFlag offFreq
    if s.tb.target = 2 then { s with tb := { s.tb with target := s.nextTarget, targetDirect := false } } else s

/-- The witness of R60 that can speak: PTP while device time is LOCKED, `PPS_IN` while QUALIFIED; 0 none. -/
def State.witness (s : State) (o : XoObs) : Nat :=
  if o.witness = 1 ∧ s.get NET_TSTAT.STATE = 2 then 1
  else if o.witness = 2 ∧ s.get PRB_STAT.PPS_IN = 2 then 2
  else 0

/-- `REF_IN` against nominal as the witness places it, in 10^-18: the product of both frequency ratios less 1. -/
def xoTrueRef (o : XoObs) : Int := (1000000000 + o.ref) * (1000000000 + o.ofs) - 1000000000 * 1000000000

/-- Whether the witness places `REF_IN` within 25 ppm of 10 MHz. -/
def xoRefPlaced (o : XoObs) : Bool := (xoTrueRef o).natAbs ≤ 25000 * 1000000000

/-- Whether the crystal is declared failed as off frequency: the four conditions of R60. -/
def xoOffFreq (o : XoObs) (witness : Nat) : Bool :=
  o.edges && decide (100000 < o.ref.natAbs) && decide (witness ≠ 0) && decide (100000 < o.ofs.natAbs) && xoRefPlaced o

/-- Whether `REF_IN` is good while the crystal is declared failed: the edge test, and the frequency test against the witness where
one exists (R55). -/
def xoRefGood (o : XoObs) (witness : Nat) : Bool := o.edges && (witness = 0 || xoRefPlaced o)

/-- XO_FAIL (R60): the crystal judged. Where it is declared failed the synthesiser relocks directly to a good `REF_IN`, whatever the
source (log entry 99); otherwise the state is UNLOCKED. Where it is not, it stays in use and a `REF_IN` more than 100 ppm off is not
good. -/
def opXoFail (o : XoObs) (s : State) : State :=
  let w := s.witness o
  if s.tb.xoFailed then s
  else if o.amplitude = false ∧ xoOffFreq o w = false then
    if 100000 < o.ref.natAbs ∧ s.get PRB_STAT.TB ≠ 2 then s.refFlag true else s
  else
    let s := { s with tb := { s.tb with xoFailed := true } }
    let s := (s.put PRB_STAT.XO_OK 0).put PRB_EVT.XO_FAIL 1
    let s := s.emit (srcBlock 1) Code.XO_FAIL
      (le 1 (if o.amplitude then 1 else 2) ++ le 1 w ++ leI 4 (if w = 0 then 0 else o.ofs))
    if xoRefGood o w then
      let s := (s.put PRB_STAT.REF_OK 1).unlock
      { s with tb := { s.tb with target := 2, targetDirect := true } }
    else opTimebaseUnlock 2 (s.put PRB_STAT.REF_OK 0)

/-! ### Probe cycles and the laser -/

/-- What the cycle that has started emits (R62, R68, R73, R78): all active tones in FULL, tone 0 at reduced amplitude in a check
burst, nothing while UNLOCKED; the Raman pulse in FULL on multiples of RMN_DIV. Spoilt tones have been restored (R63). -/
def State.cycleEmits (s : State) (f : Nat) : State :=
  let x := s.fib f
  let lit := decide (s.get PRB_STAT.TB ≠ 0)
  let full := lit && decide (s.get (PRB_STAT.FSTATE f) = 3)
  let plan := if full then s.fullShots f else if lit && decide (0 < x.burst) then s.checkShots f else []
  let raman := full && s.get (PRB_GATE.RMN_W f) ≠ 0 && s.cycle f % (s.get (PRB_GATE.RMN_DIV f) + 1) = 0
  s.setFib f { x with shots := shotTones plan, plan := plan, raman := raman, burst := x.burst - 1, spoilt := 0,
                      burstEnd := if x.burst = 1 then x.startedAt + s.cycleNs f else x.burstEnd
                      pins := plan.flatMap (fun q => s.shotPins f q) ++ (if raman then s.ramanPins f else []) }

/-- PROBE_CYCLE_START (R66, R68, R73): the number rises and the start is stamped; a pending entry into FULL takes effect with
`APR_EXIT`; the cycle's shots fire. -/
def opProbeCycleStart (f : Nat) (s : State) : State :=
  let x := s.fib f
  let s := s.setFib f { x with started := x.started + 1, startedAt := s.clk.up, startDev := s.clk.dev }
  let n := s.cycle f
  let reason := (s.fib f).toFull
  let s :=
    if reason ≠ 0 then
      let s := (s.setFstate f 3).iqEnterFull f (reason = 1)
      let s := s.emit (srcBlock 1) Code.APR_EXIT (le 1 f ++ le 1 reason ++ le 8 n)
      s.zonesStart f
    else s
  (((s.snapCycle f).iqCycle f).cycleEmits f).fireTrace f

/-- The laser monitor of fibre f as last reported: mean code and its place against the ready window (R70). -/
def State.pmon (s : State) (f avg : Nat) : State :=
  let (lo, hi) := (s.fib f).win
  (s.put (PRB_PMON.AVG f) avg).put (PRB_PMON.WIN f) (if avg < lo then 2 else if hi < avg then 3 else 1)

/-- A check burst starts: 16 cycles of tone 0 (R73). -/
def State.burstStart (s : State) (f : Nat) : State :=
  (s.setFib f { s.fib f with check := true, burst := 16, want := false }).setAco f { s.aco f with burst := (0, [], 0) }

/-- LASER_READY (R70, R73): the mean has stayed inside the window for 100 ms with the laser on. WAIT_READY gives way to START; in APR
and HELD a burst that waits for the laser starts. -/
def opLaserReady (f avg : Nat) (s : State) : State :=
  let s := s.pmon f avg
  if s.get (PRB_PMON.WIN f) = 1 ∧ s.on (PRB_STAT.LSR f) then
    let s := (s.setFib f { s.fib f with ready := true }).startReady f
    if (s.fib f).want then s.burstStart f else s
  else s

/-- LASER_NOT_READY (R71): the fibre stays in WAIT_READY with its laser on. -/
def opLaserNotReady (f avg : Nat) (s : State) : State :=
  let s := s.pmon f avg
  if s.get (PRB_STAT.FSTATE f) = 1 then
    ((s.setFib f { s.fib f with ready := false }).put (PRB_EVT.NOTREADY f) 1).emit (srcBlock 1) Code.LASER_NOT_READY
      (le 1 f ++ le 2 avg)
  else s

/-- PMON_OUT (R71, R73): above the window for 100 ms leads to LOCKOUT from every state but OFF and LOCKOUT; below it
for 100 ms leads FULL to WAIT_READY. -/
def opPmonOut (f avg : Nat) (s : State) : State :=
  let s := s.pmon f avg
  let s := if s.get (PRB_PMON.WIN f) = 1 then s else s.setFib f { s.fib f with ready := false }
  let st := s.get (PRB_STAT.FSTATE f)
  let w := s.get (PRB_PMON.WIN f)
  if w = 3 ∧ st ≠ 0 ∧ st ≠ 6 then
    let s := (s.put (PRB_EVT.PMON f) 1).emit (srcBlock 1) Code.PMON_OUT (le 1 f ++ le 1 2 ++ le 2 avg)
    s.enterLockout f 2
  else if w = 2 ∧ st = 3 then
    let s := (s.put (PRB_EVT.PMON f) 1).emit (srcBlock 1) Code.PMON_OUT (le 1 f ++ le 1 1 ++ le 2 avg)
    s.setFstate f 1
  else s

/-! ### Automatic power reduction -/

/-- CHECK_BURST (R73, R78): 16 cycles of tone 0 in START, APR or HELD. With LSR_OFF the laser is raised first and the burst starts
once it is ready again; while UNLOCKED none starts. -/
def opCheckBurst (f : Nat) (s : State) : State :=
  let st := s.get (PRB_STAT.FSTATE f)
  if (st = 2 ∨ st = 4 ∨ st = 5) ∧ s.get PRB_STAT.TB ≠ 0 then
    if s.on (PRB_STAT.LSR f) && (s.fib f).ready then s.burstStart f
    else (s.setFib f { s.fib f with want := true }).put (PRB_STAT.LSR f) 1
  else s

/-- What the result of a check leads to (R73, Table 2.7), `last` the last continuous bin and `openBin` the open-end bin of an
`APR_ENTER`: K consecutive passes lead START to FULL, and APR to FULL
with AUTO and without the forced mark, to HELD otherwise; a failure leads START and HELD to APR. -/
def State.checkResult (s : State) (f : Nat) (pass : Bool) (last openBin : Nat) : State :=
  if (s.fib f).check = false then s
  else
    let st := s.get (PRB_STAT.FSTATE f)
    let x := s.fib f
    let n := if pass then x.passes + 1 else 0
    let dark := decide ((st = 4 ∨ st = 5) ∧ s.on PRB_APR.LSR_OFF)
    let s := s.setFib f { x with check := false, passes := n, ready := x.ready && !dark }
    let s := if dark then s.put (PRB_STAT.LSR f) 0 else s
    let s := s.putB (ACU_BRK.CHECK f) pass
    let s := if pass then s.continuous f 2 (s.cycle f) else s
    let s := s.emit (srcBlock 1) Code.APR_CHECK (le 1 f ++ le 1 (b2n pass) ++ le 1 (min n 255) ++ le 4 last)
    let enough := decide (s.get PRB_APR.K ≤ n)
    if st = 2 then
      if !pass then s.enterApr f 4 openBin
      else if enough then s.setFib f { s.fib f with toFull := 1 } else s
    else if st = 4 then
      if pass && enough then
        if s.on PRB_APR.AUTO && !s.on (PRB_STAT.FORCED f) then s.setFib f { s.fib f with toFull := 2 }
        else s.setFstate f 5
      else s
    else if st = 5 then if !pass then s.setFstate f 4 else s
    else s

/-- APR_CHECK (R73, R144): the verdict over the 16 shots of the burst; a burst of which a shot is lost has no result (R72). -/
def opAprCheck (f : Nat) (s : State) : State :=
  let b := (s.aco f).burst
  if b.1 < 16 then s
  else
    let (pass, bin) := checkVerdict b (s.acuFib f).profile (s.aco f).prof (s.get (ACU_BRK.DROP f)) (s.get PRB_APR.ATTEN)
      (s.get (ACQ_ZERO.CBIN f)) (s.get (PRB_BINS.NBINS f))
    (s.setAco f { s.aco f with burst := (0, [], 0) }).checkResult f pass bin bin

/-- CHECK_RESULT_TIMEOUT (R72): no result within 100 ms of the burst's end counts as failed. The check's last
continuous bin is not stated: a free value; `APR_ENTER` has no open-end bin to name (Table 2.8). -/
def opCheckResultTimeout (f : Nat) (s : State) : State :=
  let x := s.fib f
  if x.check ∧ x.burst = 0 ∧ x.burstEnd + 100000000 ≤ s.clk.up then (s.drawn).checkResult f false (s.free 32) 0xFFFFFFFF else s

/-- OPEN_END_INDICATION (R74, R141): the report on its way reaches the front-end die, which ends full-power emission. -/
def opOpenEndIndication (f : Nat) (s : State) : State :=
  match (s.acuFib f).openSent with
  | none => s
  | some bin =>
    let s := s.setAcuFib f { s.acuFib f with openSent := none }
    if s.get (PRB_STAT.FSTATE f) = 3 then s.enterApr f 1 bin else s

/-- CONTINUITY_CONFIRMATION (R75, R143): the confirmation on its way reaches the front-end die. -/
def opContinuityConfirmation (f : Nat) (s : State) : State :=
  if (s.acuFib f).confirm then
    (s.setAcuFib f { s.acuFib f with confirm := false }).setFib f { s.fib f with confirmed := s.clk.up }
  else s

/-- CONFIRMATION_TIMEOUT (R75): no confirmation for CONFIRM ms in FULL. -/
def opConfirmationTimeout (f : Nat) (s : State) : State :=
  if s.get (PRB_STAT.FSTATE f) = 3 ∧ (s.fib f).confirmed + 1000000 * s.get PRB_APR.CONFIRM ≤ s.clk.up then s.enterApr f 2 0xFFFFFFFF else s

/-- FORCE (R76). -/
def opForce (f : Nat) (s : State) : State :=
  let st := s.get (PRB_STAT.FSTATE f)
  if st = 2 ∨ st = 3 ∨ st = 4 then (s.enterApr f 3 0xFFFFFFFF).put (PRB_STAT.FORCED f) 1 else s

/-- RESTORE (R76): HELD to FULL at the next boundary, LOCKOUT to WAIT_READY unless R69 keeps the fibre OFF; refused in any other
state. -/
def opRestore (f : Nat) (s : State) : State :=
  let st := s.get (PRB_STAT.FSTATE f)
  if st = 5 then s.setFib f { s.fib f with toFull := 3 }
  else if st = 6 then (s.setFstate f 1).fibreUpdate f
  else s.emit (srcBlock 1) Code.RESTORE_REFUSED (le 1 f ++ le 1 st)

/-- A signed write of PRB_APR_CMD: FORCE and RESTORE per fibre; FORCE alone where both are set (R76). -/
def opAprCmd (w : Nat) (s : State) : State :=
  let one (f : Nat) (s : State) : State :=
    if bitOf w f then opForce f s else if bitOf w (4 + f) then opRestore f s else s
  one 1 (one 0 s)

/-- APR_LOCKOUT (R77): a readback mismatch. -/
def opAprLockout (f : Nat) (s : State) : State := s.enterLockout f 1

/-- WFM_ERROR (R63): in playback the shot ends, and the tone is restored before its next shot; at load the bank that fails its check
twice is not used. -/
def opWfmError (f tone : Nat) (load : Option BankCheck) (s : State) : State :=
  let s' := (s.put (PRB_EVT.WFM f) 1).emit (srcBlock 1) Code.WFM_ERROR
    (le 1 f ++ le 1 tone ++ le 1 (if load.isSome then 2 else 1) ++ le 4 (s.cycle f))
  match load with
  | some c => if bankFails c then s'.setFib f { s'.fib f with badBank := true, shadow := [] } else s
  | none =>
    let n := s.cycle f
    let (rs, s) := (s'.setFib f ((s'.fib f).cut tone)).loseCycle f n
    if rs = [] then s else (s.gapZones f (s.cycleNs f / 1000) n 0x05 (s.fib f).startedAt).zonesLoss f 1

/-! ### The PROBE section's registers (R64, R84) -/

/-- Whether a section's registers show applied values: it is in force, or has been since the reset (R85, R116, R182). -/
def State.shows (s : State) (p : Plane) (sec : Nat) : Bool := decide (sec ∈ p.secs ∨ sec ∈ s.cfg.loaded)

/-- The sections of a plane that has been put in force have loaded. -/
def State.noteLoaded (s : State) (p : Plane) : State :=
  { s with cfg := { s.cfg with loaded := (s.cfg.loaded ++ p.secs).eraseDups } }

/-- The registers of fibre f under a plane's PROBE section, and its ready window and bank (R63, R64); a fibre without a record is
disabled (R218). They read 0 until the first section loads (R85). -/
def State.loadProbeFibre (s : State) (p : Plane) (f : Nat) : State :=
  if s.shows p 2 = false then s
  else
    let v (fid : Nat) : Nat := p.nat 2 1 fid [f]
    let t (fid k : Nat) : Nat := p.nat 2 2 fid [f, k]
    let s := s.setFib f { s.fib f with win := (v 0x04D, v 0x06D), bank := p.waveBank f, shadow := [] }
    s.puts [(PRB_CYC.EN f, b2n (p.hasRec 2 1 [f] && p.flag 2 1 0x041 [f])), (PRB_CYC.LEN f, v 0x043),
      (PRB_BINS.NBINS f, v 0x042), (PRB_CHIRP.LEN f, v 0x044),
      (PRB_CHIRP.DIR f, t 0x045 0 + 2 * t 0x045 1 + 4 * t 0x045 2 + 8 * t 0x045 3), (PRB_CHIRP.TAPER f, v 0x046),
      (PRB_AMP.A f 0, t 0x047 0), (PRB_AMP.A f 1, t 0x047 1), (PRB_AMP.A f 2, t 0x047 2), (PRB_AMP.A f 3, t 0x047 3),
      (PRB_GATE.SOA_LEAD f, v 0x048), (PRB_GATE.SOA_LAG f, v 0x049), (PRB_GATE.RMN_W f, v 0x04A),
      (PRB_GATE.RMN_DIV f, v 0x04B - 1), (PRB_GATE.RMN_OFS f, v 0x04C)]

/-- The top-level PROBE registers under a plane; without a section ever loaded they read 0, the reference source AUTO (R55, R85).
`PPS_OUT` is low once its enable is 0 (R81). -/
def State.loadProbeTop (s : State) (p : Plane) : State :=
  if s.shows p 2 = false then s
  else
    let v (fid : Nat) : Nat := p.nat 2 0 fid []
    let s := s.puts [(PRB_APR.ATTEN, v 0x04F), (PRB_APR.K, v 0x050), (PRB_APR.INTERVAL, v 0x051), (PRB_APR.CONFIRM, v 0x052),
      (PRB_APR.AUTO, v 0x053), (PRB_APR.LSR_OFF, v 0x054), (PRB_PPS.MODE, v 0x056), (PRB_PPS.OUT_EN, v 0x057),
      (PRB_PPS.OUT_W, v 0x058)]
    let s := s.loadSource (v 0x055)
    let s : State := { s with pps := { s.pps with outPin := s.pps.outPin && s.on PRB_PPS.OUT_EN } }
    if s.get PRB_PPS.MODE = 0 then s.put PRB_STAT.PPS_IN 0
    else if s.get PRB_STAT.PPS_IN = 0 then s.put PRB_STAT.PPS_IN 1 else s

/-! ### PPS (R79-R82; the servo's part stands in TimeSync.lean) -/

/-- The signed distance of a device time from the nearest whole second, ns. -/
def ppsOffset (dev : Nat) : Int :=
  let r := dev % 1000000000
  if r < 500000000 then r else (r : Int) - 1000000000

/-- How a `PPS_IN` edge is judged in QUALIFIED (R79 items 4, 5): accepted within 10 us of the last accepted edge plus
a whole number of seconds. -/
def ppsAccepts (last now : Nat) : Bool :=
  let d := now - last
  let r := d % 1000000000
  (500000000 ≤ d) && (r ≤ 10000 || 999990000 ≤ r)

/-- PPS_IN_EDGE without the servo (R79, R80): the new state, and whether the edge was accepted. `high` is how long
the high level lasts, ns. -/
def State.ppsEdge (s : State) (high : Nat) : Bool × State :=
  let st := s.get PRB_STAT.PPS_IN
  let now := s.clk.up
  if high < 100 ∨ st = 0 then (false, s)
  else if st = 3 then
    (false, { s.put PRB_STAT.PPS_IN 1 with pps := { s.pps with lastEdge := some now, count := 0, lastOk := none } })
  else if st = 1 then
    let good := match s.pps.lastEdge with
      | some t => decide (999000000 ≤ now - t ∧ now - t ≤ 1001000000)
      | none => false
    let n := if good then s.pps.count + 1 else 0
    let s := { s with pps := { s.pps with lastEdge := some now, count := n } }
    if 3 ≤ n then
      let s := { s with pps := { s.pps with lastOk := some now, extras := [] } }
      (false, ((s.put PRB_STAT.PPS_IN 2).put PRB_EVT.PPS_QUAL 1).emit (srcBlock 1) Code.PPS_QUALIFIED [])
    else (false, s)
  else if ppsAccepts (s.pps.lastOk.getD 0) now then
    let s := { s with pps := { s.pps with lastEdge := some now, lastOk := some now } }
    (true, s.puti PRB_PPS_OFS.V (ppsOffset s.clk.dev))
  else
    let ex := (now :: s.pps.extras).filter (fun t => now < t + 10000000000)
    let s := ({ s with pps := { s.pps with lastEdge := some now, extras := ex } }).inc PRB_PPS.EXTRA
    if 1 < ex.length then
      let s := { s with pps := { s.pps with count := 0, lastOk := none } }
      (false, ((s.put PRB_STAT.PPS_IN 1).put PRB_EVT.PPS_NOISY 1).emit (srcBlock 1) Code.PPS_NOISY (le 2 ex.length))
    else (false, s)

/-- PPS_LOST without the servo (R80): in QUALIFIED with its record; in UNQUALIFIED after 3 s without an edge. -/
def State.ppsLost (s : State) : State :=
  let st := s.get PRB_STAT.PPS_IN
  let lost (s : State) : State :=
    { (s.put PRB_STAT.PPS_IN 3).put PRB_EVT.PPS_LOST 1 with pps := { s.pps with count := 0, lastOk := none } }
  if st = 2 then (lost s).emit (srcBlock 1) Code.PPS_LOST [] else if st = 1 then lost s else s

end Sys2Proof.Machine
end

