-- ==== Sys2Proof/Machine/Temp.lean ====
section
/-! DEFINITION. Temperature (05_temperature.md): dark level (R156), Raman updates and the anchor (R158-R161), fusion
(R163-R169) and the auxiliary channels (R170-R177). -/

namespace Sys2Proof.Machine

/-- The value of "none" in a temperature register (Table 5.9). -/
def noTemp : Int := -0x80000000

/-! ### Dark level (R156) -/

/-- Whether the dark block before the last Raman pulse can be taken (R156): the pulse lies within the last second, the window of the
Raman trace before it ended at least 2 us before its edge, and no drop of the Raman Landing reaches the block, 2 us to 1 us before it. -/
def State.darkUsable (s : State) (f : Nat) : Bool :=
  let x := s.tmp f
  match x.edge with
  | none => false
  | some e =>
    let open' := match (s.acq f).rdrop with
      | some t => decide (8 * (t : Int) ≤ e - 8000)
      | none => false
    decide (8 * (s.clk.up : Int) ≤ e + 8000000000) && decide (x.prevEnd + 16000 ≤ e) && !open' &&
    decide (8 * ((s.acq f).rdropEnd : Int) < e - 16000)

/-- RAMAN_DARK_MEASURE (R156): the mean of the 125 samples of each converter, in codes; where the block cannot be taken the previous
level stays. -/
def opRamanDarkMeasure (f : Nat) (as st : List Rat) (s : State) : State :=
  let mean (vs : List Rat) : Rat := meanOf ((ramanTrain (vs.take 125)).map (fun x => (x.code : Rat)))
  if s.darkUsable f then
    s.setTmp f { s.tmp f with darkAs := mean as, darkSt := mean st, darkAt := s.clk.up, dark := false }
  else s

/-- RAMAN_DARK (R156): 60 s without a dark level; recorded once, every Raman bin NODATA. -/
def opRamanDark (f : Nat) (s : State) : State :=
  let x := s.tmp f
  if x.dark then s
  else
    let s := (s.setTmp f { x with dark := true, profile := [] }).put (TMP_EVT.DARK f) 1
    s.emit (srcRamanLanding f) Code.RAMAN_DARK (le 1 (min 255 (max 60 ((s.clk.up - x.darkAt) / 1000000000))))

/-! ### Anchor (R159-R161) -/

/-- The distance of a bin from the connector in metres (R92), bins counted in halves. -/
def State.metres (s : State) (f halfBins : Nat) : Rat :=
  let ng := s.get ACQ_NG.NG
  if ng = 0 then 0
  else ((halfBins : Rat) / 2 - s.get (ACQ_ZERO.CBIN f)) * (1199169832 / 1000 : Rat) / ng

/-- ln 10 to 18 decimal places. -/
def ln10 : Rat := 2302585092994045684 / 1000000000000000000

/-- The differential attenuation in nepers per metre (R159). -/
def State.dalphaN (s : State) (f : Nat) : Rat := (s.geti (TMP_DALPHA.DALPHA f) : Rat) / 100000 * ln10 / 10000

/-- The scale temperature in use, K. -/
def State.gamma (s : State) (f : Nat) : Rat := (s.get (TMP_GAMMA.GAMMA f) : Rat) / 100

/-- The mean distance of the coil A bins. -/
def State.zCoilA (s : State) (f : Nat) : Rat :=
  s.metres f (2 * s.get (ACU_REF.FIRST f) + s.get (ACU_REF.LEN f) - 1)

/-- The mean distance of the coil B bins. -/
def State.zCoilB (s : State) (f : Nat) : Rat :=
  s.metres f (2 * s.get (TMP_COIL.B_FIRST f) + s.get (TMP_COIL.B_LEN f) - 1)

/-- Whether the linearisation table of an auxiliary channel declares the unit mK (R160). -/
def State.rtdUnit (s : State) (c : Nat) : Bool := s.on (AUX_CFG.TABLE c) && s.get (AUX_CFG.UNIT c) = 0

/-! ### Averages and ratios (R155, R158) -/

/-- A Raman trace delivered whole (R155), with the cycle start `t`. -/
def State.ramanTraceDone (s : State) (f t : Nat) (v : TraceVolts) : State :=
  let bins := ((s.ramanTrace f v.ras).zip (s.ramanTrace f v.rst)).map (fun q => (⟨q.1.1, q.2.1, q.1.2 || q.2.2⟩ : RamanBin))
  let x := s.tmp f
  s.setTmp f { x with traces := recent s.clk.up 600000000000 x.traces ++ [(t, bins)] }

/-- The averaging time in ns. -/
def State.tauR (s : State) : Nat := s.get TMP_CFG.TAU_R * 1000000000

/-- The averages P_AS and P_ST of a bin less the dark levels, and the traces that contributed (R155, R158). -/
def State.ramanPowers (s : State) (f b : Nat) : Nat × Rat × Rat :=
  let x := s.tmp f
  let vs := (recent s.clk.up s.tauR x.traces).filterMap (fun t => (t.2[b]?).filter (fun q => !q.ovr))
  (vs.length, meanOf (vs.map (·.as)) - x.darkAs, meanOf (vs.map (·.st)) - x.darkSt)

/-- Whether a bin is valid (R156, R158): at least half of the traces fired contributed, and both averages are positive. -/
def State.ramanValid (s : State) (f b : Nat) : Bool :=
  let x := s.tmp f
  let fired := (x.fired.filter (fun t => s.clk.up < t + s.tauR)).length
  let (n, a, t) := s.ramanPowers f b
  !x.dark && n ≠ 0 && fired ≤ 2 * n && 0 < a && 0 < t

/-- The logarithm of a bin's ratio (R158, R159); none where the bin is NODATA. -/
def State.lnRho (s : State) (f b : Nat) : Option Rat :=
  if s.ramanValid f b then some (Config.ln ((s.ramanPowers f b).2.1 / (s.ramanPowers f b).2.2)) else none

/-- The bins of a coil from its first bin and length. -/
def coilBins (first len : Nat) : List Nat := (List.range len).map (· + first)

/-- The logarithm of a coil's ratio, from the sums over all its bins (R159). -/
def State.lnCoil (s : State) (f : Nat) (bins : List Nat) : Rat :=
  let ps := bins.map (fun b => (s.ramanPowers f b).2)
  Config.ln ((ps.map (·.1)).sum / (ps.map (·.2)).sum)

/-- Whether at least 90 % of a coil's bins are valid (R160). -/
def State.coilValid (s : State) (f : Nat) (bins : List Nat) : Bool := 9 * bins.length ≤ 10 * (bins.filter (s.ramanValid f)).length

/-! ### The values of an RTD (R160) -/

def State.aux (s : State) (c : Nat) : AuxCh := sparseGet .reset s.auxs c
def State.setAux (s : State) (c : Nat) (x : AuxCh) : State := { s with auxs := sparseSet .reset s.auxs c x }

/-- The excited channels (Table 5.4). -/
def State.excited (s : State) : List Nat := (List.range 8).filter (fun c => 2 ≤ s.get (AUX_CFG.TYPE c))

/-- The length of the SHARED cycle in 0.1 ms (R174). -/
def State.sharedCycle (s : State) : Nat :=
  (s.excited.map (fun c => 10 * s.get AUX_SCHED.SETTLE + (3 + s.get AUX_SCHED.M) * 10000 / s.get (AUX_CFG.RATE c))).sum

/-- The values that channel c is expected to deliver in the averaging time: half the conversions with chopping (R172), in SHARED mode M
conversions a dwell for an excited channel (R174). -/
def State.expectedValues (s : State) (c : Nat) : Nat :=
  let per := if s.on (AUX_CFG.CHOP c) then 2 else 1
  let tau := s.get TMP_CFG.TAU_R
  if s.get AUX_STAT.MODE = 1 ∧ c ∈ s.excited then
    if s.sharedCycle = 0 then 0 else tau * 10000 * (s.get AUX_SCHED.M / per) / s.sharedCycle
  else tau * s.get (AUX_CFG.RATE c) / per

/-- The mean of an RTD over the averaging time in K, where at least half of the values expected are valid and not suspect (R160). -/
def State.rtdMean (s : State) (c : Nat) : Option Rat :=
  let vs := ((s.aux c).vals.filter (fun v => decide (s.clk.up < v.at_ + s.tauR) && !v.suspect)).filterMap (·.value)
  if vs ≠ [] ∧ s.expectedValues c ≤ 2 * vs.length then some (meanOf (vs.map (fun v => (v : Rat))) / 1000 + 27315 / 100) else none

/-- The latest temperature of coil A in K: the last valid value of its RTD (R164). -/
def State.coilNow (s : State) (f : Nat) : Rat :=
  match ((s.aux (s.get (TMP_COIL.CHA f))).vals.reverse.find? (fun v => v.value.isSome)).bind (·.value) with
  | some v => (v : Rat) / 1000 + 27315 / 100
  | none => 0

/-! ### The anchor and the scale temperature (R159-R161) -/

/-- The bins of coil A and coil B. -/
def State.coilA (s : State) (f : Nat) : List Nat := coilBins (s.get (ACU_REF.FIRST f)) (s.get (ACU_REF.LEN f))
def State.coilB (s : State) (f : Nat) : List Nat := coilBins (s.get (TMP_COIL.B_FIRST f)) (s.get (TMP_COIL.B_LEN f))

/-- The coil A temperature of an anchor formed now, or why none can be (R160, Table 5.7). -/
def State.anchorT (s : State) (f : Nat) : Except Nat Rat :=
  if s.get (ACU_REF.LEN f) = 0 then .error 3
  else if s.on (TMP_COIL.CHA_EN f) = false then .error 1
  else if s.rtdUnit (s.get (TMP_COIL.CHA f)) = false then .error 4
  else
    match s.rtdMean (s.get (TMP_COIL.CHA f)) with
    | none => .error 1
    | some t => if s.coilValid f (s.coilA f) then .ok t else .error 2

/-- The anchor state in both registers that show it. -/
def State.setAnchor (s : State) (f st : Nat) : State := (s.put (TMP_STAT.ANCH f) st).put (TMP_ANCH.STATE f) st

/-- The coil B temperature where gamma can be estimated beside an anchor at `ta` (R161). -/
def State.gammaT (s : State) (f : Nat) (ta : Rat) : Option Rat :=
  let c := s.get (TMP_COIL.CHB f)
  if s.cfg.sens.flag 5 0 0x048 [] && s.get (TMP_COIL.B_LEN f) ≠ 0 && s.on (TMP_COIL.CHB_EN f) && s.rtdUnit c &&
      s.coilValid f (s.coilB f) then
    (s.rtdMean c).filter (fun tb => decide (5 ≤ |ta - tb|))
  else none

/-- The estimate of the scale temperature (R161). -/
def State.gammaEstimate (s : State) (f : Nat) (ta : Rat) : State :=
  match s.gammaT f ta with
  | none => s
  | some tb =>
    let e := (s.lnCoil f (s.coilA f) - s.lnCoil f (s.coilB f) + s.dalphaN f * (s.zCoilA f - s.zCoilB f)) / (1 / tb - 1 / ta)
    if 600 ≤ e ∧ e ≤ 680 then
      let gs := (e :: (s.tmp f).gammas).take 32
      let s := s.setTmp f { s.tmp f with gammas := gs }
      (s.put (TMP_GAMMA.GAMMA f) (roundHalf (gs.sum / gs.length * 100)).toNat).put (TMP_GAMMA.SRC f) 1
    else
      (s.put (TMP_EVT.EST f) 1).emit (srcBlock 4) Code.TEMP_ESTIMATE_RANGE
        (le 1 f ++ le 1 1 ++ leI 4 (satS 32 (roundHalf (e * 100))))

/-- The anchor at an update (R160). -/
def State.anchor (s : State) (f : Nat) : State :=
  match s.anchorT f with
  | .ok t =>
    let s := s.gammaEstimate f t
    let k := s.gamma f / t + s.lnCoil f (s.coilA f) + s.dalphaN f * s.zCoilA f
    let s := s.setTmp f { s.tmp f with anchorAt := some s.clk.up, const := k }
    let ta := satS 32 (roundHalf ((t - 27315 / 100) * 1000))
    let s := (s.setAnchor f 1).puti (TMP_TA.TA f) ta
    s.emit (srcBlock 4) Code.RAMAN_ANCHOR
      (le 1 f ++ leI 4 ta ++ le 4 (s.get (TMP_GAMMA.GAMMA f)) ++ le 1 (s.get (TMP_GAMMA.SRC f)))
  | .error why =>
    if s.get (TMP_STAT.ANCH f) = 1 then
      let s := (s.setAnchor f 2).put (TMP_EVT.HOLD f) 1
      let s := s.setTmp f { s.tmp f with holdSince := s.clk.up }
      s.emit (srcBlock 4) Code.ANCHOR_HOLD (le 1 f ++ le 1 why)
    else s

/-- The Raman temperature of one bin in mK (R159). -/
def State.ramanT (s : State) (f b : Nat) (lnRho : Rat) : Int :=
  let d := (s.tmp f).const - lnRho - s.dalphaN f * s.metres f (2 * b)
  satS 32 (roundHalf ((s.gamma f / d - 27315 / 100) * 1000))

/-- The valid bins of a profile, of all N. -/
def State.ramanBins (s : State) (f : Nat) : List (Nat × Int) :=
  (List.range (s.get (PRB_BINS.NBINS f))).filterMap (fun b => (s.lnRho f b).map (fun r => (b, s.ramanT f b r)))

/-! ### Fused cells (R163-R169) -/

/-- beta_T in use, nanostrain per K. -/
def State.beta (s : State) (f : Nat) : Rat := s.get (TMP_BETA.BETA f)

/-- The Raman temperatures of a cell's valid bins in K. -/
def State.cellTemps (s : State) (f z c : Nat) : List Rat :=
  let size := s.cfg.sens.nat 3 4 0x084 [f, z]
  let a := s.cfg.sens.nat 3 4 0x081 [f, z] + c * size
  let e := min (s.cfg.sens.nat 3 4 0x082 [f, z]) (a + size - 1)
  ((s.tmp f).profile.filter (fun p => a ≤ p.1 && p.1 ≤ e)).map (fun p => (p.2 : Rat) / 1000)

/-- The mean Raman temperature of a cell's valid bins, K (R165). -/
def State.cellRaman (s : State) (f z c : Nat) : Option Rat :=
  if s.cellTemps f z c = [] then none else some (meanOf (s.cellTemps f z c))

/-- The drift of a cell in nanostrain, kappa Phi_c - kappa_R Phi_ref (R164): the mean over its bins of their strain, less the reference
section's, for kappa G / G_R is kappa_R. -/
def State.cellRaw (s : State) (f z c : Nat) : Rat :=
  let size := s.cfg.sens.nat 3 4 0x084 [f, z]
  meanOf ((((s.zproc f z).bins.drop (c * size)).take size).map (·.strain)) - (s.aco f).refBin.strain

/-- The temperature drift of a cell in K at a drift `raw` and a coil temperature (R164): the coil's own part of Phi_L is
beta_T (T_coil - T_coil(t0)). -/
def State.cellDrift (s : State) (f : Nat) (x : Cell) (raw coil : Rat) : Rat := raw / s.beta f + (coil - x.coil0)

/-- A FULL trace has been processed: one more sample of every fused cell of the fibre's VALID zones (R164). -/
def State.cellsSample (s : State) (f : Nat) : State :=
  let coil := s.coilNow f
  (s.zoneList f).foldl (fun s z =>
    if (s.zone f z).state ≠ 3 then s
    else (s.fusedCells f z).foldl (fun s c =>
      let x := s.cell f z c
      let raw := s.cellRaw f z c
      s.setCell f z c { x with raw := raw, acc := x.acc ++ [(raw, coil)] }) s) s

/-- The mean of Delta T_c over the averaging interval in K (R165), for a t0 at which the coil has temperature `coil0`. -/
def State.cellMeanDrift (s : State) (f : Nat) (x : Cell) (coil0 : Rat) : Rat :=
  meanOf ((recent s.clk.up s.tauR x.hist).map (fun h => s.cellDrift f { x with coil0 := coil0 } h.2.1 h.2.2))

/-- The square of the Raman repeatability of a cell over the averaging time in K^2 (R169; log entry 104): the scatter of its bins about
their mean; none from a single bin. -/
def cellVariance (ts : List Rat) : Option Rat :=
  let m := meanOf ts
  if ts.length < 2 then none else some ((ts.map (fun t => (t - m) * (t - m))).sum / (ts.length * (ts.length - 1) : Nat))

/-- A cell's suspicion after an update whose residual is in K (R169). -/
def State.cellSuspect (s : State) (f z c : Nat) (resid : Rat) (var : Option Rat) : State :=
  let x := s.cell f z c
  let k := s.cfg.sens.nat 5 0 0x04E []
  let beyond : Bool := match var with
    | some v => decide ((k * k : Nat) * v < resid * resid)
    | none => false
  if beyond = x.suspect then s.setCell f z c { x with streak := 0 }
  else if x.streak + 1 < 3 then s.setCell f z c { x with streak := x.streak + 1 }
  else
    let s := s.setCell f z c { x with suspect := beyond, streak := 0, fits := if beyond then [] else x.fits }
    let s := if beyond then s.put (TMP_EVT.SUSP f) 1 else s
    s.emit (srcZone f z) Code.STRAIN_SUSPECT (le 2 c ++ le 1 (b2n beyond) ++ leI 4 (satS 32 (roundHalf (resid * 1000))))

/-- One fused cell at a Raman update (R165, R167, R169): a WAITING cell, or a REBASE cell whose averaging interval
began after the loss, enters FUSED; a FUSED cell's offset moves towards the Raman scale. -/
def State.cellUpdate (s : State) (f z c : Nat) : State :=
  let x := s.cell f z c
  match s.cellRaman f z c with
  | none => s
  | some r =>
    let lock := (x.state = 1 && (s.get (TMP_STAT.ANCH f) = 1 || s.get (TMP_STAT.ANCH f) = 2)) ||
      (x.state = 3 && x.lostAt + s.tauR ≤ s.clk.up)
    let rb := some (satS 32 (roundHalf (r * 1000)))
    if lock then
      let coil := s.coilNow f
      let o := r - s.cellMeanDrift f x coil
      let x := { x with state := 2, offset := o, coil0 := coil, rbar := rb, streak := 0 }
      let t := satS 32 (roundHalf ((s.cellDrift f x x.raw coil + o) * 1000))
      (s.setCell f z c { x with tf := some t }).emit (srcZone f z) Code.FUSED_LOCK (le 2 c ++ leI 4 t)
    else if x.state = 2 then
      let d := s.cellMeanDrift f x x.coil0
      let e := r - d - x.offset
      let s := s.cellSuspect f z c e (cellVariance (s.cellTemps f z c))
      let x := s.cell f z c
      let tx := s.get TMP_CFG.TAU_X * 10
      let fit := (r, (d + x.offset) * s.beta f)
      let x := { x with offset := x.offset + e * s.get TMP_CFG.UPD / tx, rbar := rb }
      s.setCell f z c { x with fits := if x.suspect then [] else recent s.clk.up 86400000000000 x.fits ++ [(s.clk.up, fit)] }
    else s.setCell f z c (if x.state = 0 then x else { x with rbar := rb })

/-- RAMAN_UPDATE (R158-R161, R165, R167, R169): the anchor, the profile and every fused cell. Without an anchor ever every bin is
NODATA. -/
def opRamanUpdate (f : Nat) (s : State) : State :=
  let s := s.anchor f
  let bins := if s.get (TMP_STAT.ANCH f) = 0 then [] else s.ramanBins f
  let x := s.tmp f
  let s := s.setTmp f { x with profile := bins, have_ := true, updates := x.updates.filter (fun t => s.clk.up < t + 86400000000000) ++ [s.clk.up] }
  (s.zoneList f).foldl (fun s z => (s.fusedCells f z).foldl (fun s c => s.cellUpdate f z c) s) s

/-- ANCHOR_STALE (R160). -/
def opAnchorStale (f : Nat) (s : State) : State :=
  if s.get (TMP_STAT.ANCH f) = 2 then
    let h := max (s.cfg.sens.nat 5 0 0x04D []) ((s.clk.up - (s.tmp f).holdSince) / 3600000000000)
    ((s.setAnchor f 3).put (TMP_EVT.STALE f) 1).emit (srcBlock 4) Code.ANCHOR_STALE (le 1 f ++ le 2 (min 0xFFFF h))
  else s

/-- A change of beta_T (R166): every offset is resolved so that T_F at this instant is unchanged. -/
def State.setBeta (s : State) (f n : Nat) : State :=
  let old := s.beta f
  let s := s.put (TMP_BETA.BETA f) n
  { s with cells := s.cells.map (fun p =>
      if p.1 / (256 * 4096) = f ∧ p.2.state = 2 then
        (p.1, { p.2 with offset := p.2.offset + p.2.raw / old - p.2.raw / s.beta f })
      else p) }

/-- The cells of fibre f that can take part in the fit of R166: FUSED and not SUSPECT at every update of the last 24 h, with a Raman
span of 2 K or more. -/
def State.fitCells (s : State) (f : Nat) : List (List (Rat × Rat)) :=
  let n := ((s.tmp f).updates.filter (fun t => s.clk.up < t + 86400000000000)).length
  let span (l : List (Rat × Rat)) : Bool := l.any (fun a => l.any (fun b => decide (2 ≤ a.1 - b.1)))
  ((s.cells.filter (fun p => p.1 / (256 * 4096) = f && p.2.state = 2)).map
    (fun p => (recent s.clk.up 86400000000000 p.2.fits).map (·.2))).filter (fun l => l.length = n && span l)

/-- BETA_UPDATE (R166): the hourly estimate in nanostrain per K, made with at least 10 cells. Within 20 % of the configured value it is
applied, with every offset resolved so that T_F is unchanged. -/
def opBetaUpdate (f : Nat) (s : State) : State :=
  let cells := s.fitCells f
  if s.cfg.sens.flag 5 0 0x04B [] = false ∨ cells.length < 10 then s
  else
    let e := Config.betaFit cells
    let conf : Rat := s.cfg.sens.nat 5 1 0x04A [f]
    let n := (roundHalf e).toNat
    if |e - conf| * 5 ≤ conf then
      let old := s.get (TMP_BETA.BETA f)
      ((s.setBeta f n).put (TMP_BETA.SRC f) 1).emit (srcBlock 4) Code.BETA_UPDATE (le 1 f ++ le 2 old ++ le 2 n)
    else
      (s.put (TMP_EVT.EST f) 1).emit (srcBlock 4) Code.TEMP_ESTIMATE_RANGE (le 1 f ++ le 1 2 ++ leI 4 (satS 32 (roundHalf e)))

/-- The standard deviation of the mean of some samples, in 0.1 mK from K. -/
def meanSigma (ts : List Rat) : Nat :=
  match cellVariance ts with
  | some v => (roundHalf (10000 * Config.sqrt v)).toNat
  | none => 0

/-- FUSED_OUTPUT (R164, R167): the mean fused temperature of each cell over the second that ends; a data loss in it gives the GAP flag
(R168). A FUSED cell has its value, every cell its mean of the second for the averaging interval. -/
def opFusedOutput (f : Nat) (s : State) : State :=
  (s.zoneList f).foldl (fun s z =>
    let gap := (s.zproc f z).gaps.any (fun t => s.clk.up < t + 1000000000)
    (s.fusedCells f z).foldl (fun s c =>
      let x := s.cell f z c
      if x.acc = [] then s
      else
        let ts := x.acc.map (fun a => s.cellDrift f x a.1 a.2 + x.offset)
        let mean := (meanOf (x.acc.map (·.1)), meanOf (x.acc.map (·.2)))
        let x : Cell := { x with acc := [], hist := recent s.clk.up 600000000000 x.hist ++ [(s.clk.up, mean)] }
        s.setCell f z c (if x.state = 2 then
          { x with tf := some (satS 32 (roundHalf (meanOf ts * 1000))), sigma := min 0xFFFF (meanSigma ts), gap := gap } else x)) s) s

/-- Whether more than half of a cell's bin-samples of the last second were dead (R168). -/
def State.cellDead (s : State) (f z c : Nat) : Bool :=
  let ds := (recent s.clk.up 1000000000 (s.zproc f z).dead).map (fun e => e.2.getD c (0, 0))
  (ds.map (·.2)).sum < 2 * (ds.map (·.1)).sum

/-- FUSED_REBASE (R168): the reference LOST for 60 s (cause 2), dead bins for 1 s (3), or the zone settles (1). -/
def opFusedRebase (f z c cause : Nat) (s : State) : State :=
  let holds : Bool :=
    if cause = 2 then
      match (s.aco f).refLost with
      | some t => s.get (ACU_REF.STATE f) = 2 && decide (t + 60000000000 ≤ s.clk.up)
      | none => false
    else if cause = 3 then s.cellDead f z c
    else (s.zone f z).state = 2
  if holds then s.cellRebase f z c cause else s

/-- The output of a fused cell (R167): the fused value, the Raman value in REBASE, or none. -/
def Cell.value (x : Cell) : Int :=
  if x.state = 2 then x.tf.getD noTemp else if x.state = 3 then x.rbar.getD noTemp else noTemp

/-- The flags of a cell's output (R179). -/
def State.cellFlags (s : State) (f : Nat) (x : Cell) : Nat :=
  b2n (x.value = noTemp) + 2 * b2n (s.get (TMP_STAT.ANCH f) = 3) + 4 * b2n x.gap +
  8 * b2n (x.state = 2 ∧ s.get (ACU_REF.STATE f) = 2) + 16 * b2n x.suspect + 32 * b2n (x.state = 3)

/-- The cells of fibre f that meet a test. -/
def State.cellTally (s : State) (f : Nat) (p : Cell → Bool) : Nat :=
  (s.cells.filter (fun q => q.1 / (256 * 4096) = f && p q.2)).length

/-- TMP_STAT.RAMANf (Table 5.9): 0 off, 1 averaging, 2 profile valid, 3 NODATA. -/
def State.ramanState (s : State) (f : Nat) : Nat :=
  if s.get (PRB_STAT.FSTATE f) ≠ 3 ∨ s.get (PRB_GATE.RMN_W f) = 0 then 0
  else if (s.tmp f).dark then 3
  else if (s.tmp f).have_ ∧ s.get (TMP_STAT.ANCH f) ≠ 0 then 2 else 1

/-! ### Auxiliary channels (R170-R177) -/

/-- A 33-point table's breakpoint j (R177, R220): x and y as SINT32, least significant byte first (R9). -/
def pwlPoint (t : List Byte) (j : Nat) : Int × Int := (toSigned 32 (leAt t (8 * j) 4), toSigned 32 (leAt t (8 * j + 4) 4))

/-- The linearised value of a code and whether it lies below (1) or above (2) the table (R177). -/
def pwl (t : List Byte) (x : Int) : Int × Nat :=
  let (x0, y0) := pwlPoint t 0
  let (xe, ye) := pwlPoint t 32
  if x < x0 then (y0, 1)
  else if xe < x then (ye, 2)
  else
    let j := ((List.range 32).filter (fun j => (pwlPoint t j).1 ≤ x)).length - 1
    let (xa, ya) := pwlPoint t j
    let (xb, yb) := pwlPoint t (j + 1)
    (roundHalf ((ya : Rat) + (x - xa : Int) * (yb - ya : Int) / (xb - xa : Int)), 0)

/-- The sequence of R175: the filter restarts and the first three outputs are discarded. -/
def State.auxSettle (s : State) (c : Nat) : State := s.setAux c { s.aux c with discard := 3 }

/-- The unlimited code of a conversion (R171): `v` the filtered input in volts. -/
def State.auxCode (s : State) (c : Nat) (o : AuxConv) : Int :=
  let ref : Rat := if s.on (AUX_CFG.REF c) then o.ref else 25 / 10
  roundHalf (8388608 * (2 ^ s.get (AUX_CFG.GAIN c) : Nat) * Config.sinc3 o.input / ref)

/-- An output's code and overrange flag (R171-R173): one conversion, or the mean of a chopped pair, the second member with its polarity
turned back; flagged where a member lies outside the range or saturated, or where compliance falls into its span. -/
def State.auxCombine (s : State) (c : Nat) (a b : AuxConv) : Int × Bool :=
  let out (x : AuxConv) : Int × Bool :=
    let k := s.auxCode c x
    (satS 24 k, x.sat || decide (k ≠ satS 24 k))
  if s.on (AUX_CFG.CHOP c) then
    let (p, q) := (out a, out b)
    (satS 24 (roundHalf (((p.1 - q.1 : Int) : Rat) / 2)), p.2 || q.2)
  else out a

/-- The conversion period of channel c in ns. -/
def State.auxPeriod (s : State) (c : Nat) : Nat := 1000000000 / s.get (AUX_CFG.RATE c)

/-- The span of an output of channel c in ns: three conversion periods, and one more for the second member of a chopped pair (R172). -/
def State.auxSpan (s : State) (c : Nat) : Nat := (if s.on (AUX_CFG.CHOP c) then 4 else 3) * s.auxPeriod c

/-- Whether compliance falls into the span of an output that ends now (R173). -/
def State.auxCompl (s : State) (c : Nat) : Bool :=
  match (s.aux c).compl with
  | some (_, none) => true
  | some (_, some t) => decide (s.clk.up < t + s.auxSpan c)
  | none => false

/-- One delivered code (R171, R177). -/
def State.auxDeliver (s : State) (c : Nat) (code : Int) (ovr : Bool) : State :=
  let s := (s.puti (AUX_RAW.CODE c) code).putB (AUX_RAW.OVR c) ovr
  let s := if s.get (AUX_STAT.STATE c) = 1 then s.put (AUX_STAT.STATE c) 2 else s
  let note (s : State) (v : Option Int) : State :=
    let x := s.aux c
    s.setAux c { x with vals := x.vals.filter (fun e => s.clk.up < e.at_ + 600000000000) ++ [⟨s.clk.up, v, false⟩] }
  if ovr ∨ s.get (AUX_STAT.STATE c) = 3 then
    note ((s.put (AUX_RAW.OOT c) 0).puti (AUX_VAL.VAL c) noTemp) none
  else if s.on (AUX_CFG.TABLE c) then
    let (y, out) := pwl ((s.cfg.sens.bytes 12 9 0x042 [c]).getD []) code
    let s := note ((s.putB (AUX_RAW.OOT c) (out ≠ 0)).puti (AUX_VAL.VAL c) y) (some y)
    let fresh : Bool := match (s.aux c).tableAt with
      | some t => decide (t + 60000000000 ≤ s.clk.up)
      | none => true
    if out ≠ 0 ∧ fresh then
      let s := (s.setAux c { s.aux c with tableAt := some s.clk.up }).put (AUX_EVT.TABLE c) 1
      s.emit (srcAux c) Code.AUX_TABLE (le 1 out)
    else s
  else note ((s.put (AUX_RAW.OOT c) 0).puti (AUX_VAL.VAL c) code) (some code)

/-- AUX_OUTPUT (R171-R173, R175, R177): a delivered or discarded output, or a loss in the Landing. -/
def opAuxOutput (c : Nat) (o : AuxSample) (s : State) : State :=
  if s.get (AUX_STAT.STATE c) = 0 then s
  else
    let now := s.clk.up
    match o with
    | .lost us => s.gapData (srcAux c) us noCycle 0x01 (now - us * 1000)
    | .value a b =>
      let x := { s.aux c with lastOut := some now }
      if 0 < x.discard then (s.setAux c { x with discard := x.discard - 1 }).inc (AUX_RAW.DISC c)
      else
        let (code, flag) := s.auxCombine c a b
        let ovr := flag || s.auxCompl c
        let x := if s.get (AUX_STAT.STATE c) = 3 then { x with lost := x.lost + 1 } else x
        let seen := recent now 1000000000 x.ovrs
        let x := { x with ovrs := if ovr then seen ++ [(now, decide (code < 0))] else seen }
        (s.setAux c x).auxDeliver c code ovr

/-- The run time of the first output of channel c whose span overlaps the interval that starts at `a` (R176): the first of its outputs
at or after `a`, on the grid of the one before; now where there has been none. -/
def State.auxFirst (s : State) (c a : Nat) : Nat :=
  let p := (if s.on (AUX_CFG.CHOP c) then 2 else 1) * s.auxPeriod c
  match (s.aux c).lastOut with
  | none => s.clk.up
  | some t =>
    if p = 0 then t else if t < a then t + (a - t + p - 1) / p * p else t - (t - a) / p * p

/-- AUX_OPEN (R173, R176): cause 1 saturation with the burn-out current, 2 and 3 compliance of IEX0 and IEX1. The outputs delivered since
the lookback are suspect, and the record names the time of the first. -/
def opAuxOpen (c cause : Nat) (s : State) : State :=
  let ty := s.get (AUX_CFG.TYPE c)
  let ok := if cause = 1 then ty = 1 && s.get (AUX_CFG.BO c) ≠ 0 else 2 ≤ ty
  let st := s.get (AUX_STAT.STATE c)
  if ok ∧ st ≠ 0 ∧ st ≠ 3 then
    let now := s.clk.up
    let first := s.auxFirst c (now - 4000000 * s.get (AUX_CFG.LB c))
    let x := s.aux c
    let vals := x.vals.map (fun v => if first ≤ v.at_ then { v with suspect := true } else v)
    let s := s.puts [(AUX_STAT.STATE c, 3), (AUX_EVT.OPEN c, 1), (AUX_EXC.COMPL c, b2n (cause ≠ 1))]
    let s := s.setAux c { x with lost := 0, vals := vals, compl := if cause = 1 then x.compl else some (now, none) }
    s.emit (srcAux c) Code.AUX_OPEN (le 1 cause ++ le 8 ((s.clk.dev : Int) + first - now).toNat)
  else s

/-- AUX_RESTORED (R175, R176). -/
def opAuxRestored (c : Nat) (s : State) : State :=
  if s.get (AUX_STAT.STATE c) = 3 then
    let x := { s.aux c with compl := (s.aux c).compl.map (fun q => (q.1, some s.clk.up)), discard := 3 }
    ((s.puts [(AUX_STAT.STATE c, 1), (AUX_EXC.COMPL c, 0)]).setAux c x).emit (srcAux c) Code.AUX_RESTORED (le 4 x.lost)
  else s

/-- AUX_DWELL (R174, R175): in SHARED mode the sources move to the next excited channel in ascending order. -/
def opAuxDwell (s : State) : State :=
  if s.get AUX_STAT.MODE = 0 then s
  else
    match s.excited with
    | [] => s
    | c :: t =>
      let next := match s.dwell with
        | some d => ((c :: t).find? (fun k => d < k)).getD c
        | none => c
      { s with dwell := some next }.auxSettle next

/-- AUX_OVERRANGE (R180): the outputs flagged in the last second and the sign of the latest, at most once a second. -/
def opAuxOverrange (c : Nat) (s : State) : State :=
  let x := s.aux c
  let now := s.clk.up
  let due : Bool := match x.ovrAt with
    | some t => decide (t + 1000000000 ≤ now)
    | none => true
  match (recent now 1000000000 x.ovrs).reverse with
  | [] => s
  | o :: rest =>
    if s.get (AUX_STAT.STATE c) = 3 ∨ due = false then s
    else
      ((s.setAux c { x with ovrAt := some now }).put (AUX_EVT.OVR c) 1).emit (srcAux c) Code.AUX_OVERRANGE
        (le 1 (if o.2 then 2 else 1) ++ le 2 (min 0xFFFF (rest.length + 1)))

/-! ### The TEMPERATURE and PWL_TABLES sections' registers (R157, R174, R178) -/

/-- The Raman and fusion registers of fibre f. Where the section newly loads or the fibre's record changes, gamma and beta_T go back to
the configured values, a change of beta_T with the offsets resolved (R166); otherwise the estimates stay. -/
def State.loadTmpFibre (s : State) (old p : Plane) (f : Nat) : State :=
  let v (fid : Nat) : Nat := p.nat 5 1 fid [f]
  let ch (fid : Nat) : Option Nat := if p.num 5 1 fid [f] < 0 then none else some (v fid)
  let s := s.puts [(TMP_COIL.CHA f, (ch 0x044).getD 0), (TMP_COIL.CHA_EN f, b2n (ch 0x044).isSome),
    (TMP_COIL.CHB f, (ch 0x046).getD 0), (TMP_COIL.CHB_EN f, b2n (ch 0x046).isSome),
    (TMP_COIL.B_FIRST f, v 0x045), (TMP_COIL.B_LEN f, v 0x065)]
  let s := s.puti (TMP_DALPHA.DALPHA f) (p.num 5 1 0x049 [f])
  let same := [0x044, 0x045, 0x065, 0x046, 0x047, 0x049, 0x04A].all (fun i => decide (old.num 5 1 i [f] = p.num 5 1 i [f]))
  if 5 ∈ old.secs ∧ same then s
  else
    let s := (s.puts [(TMP_GAMMA.GAMMA f, v 0x047), (TMP_GAMMA.SRC f, 0)]).setTmp f { s.tmp f with gammas := [] }
    (s.setBeta f (v 0x04A)).put (TMP_BETA.SRC f) 0

/-- The registers of auxiliary channel c; a channel whose configuration changes starts anew (R175). -/
def State.loadAux (s : State) (old p : Plane) (c : Nat) : State :=
  let v (q : Plane) (fid : Nat) : Int := if q.hasRec 5 8 [c] then q.num 5 8 fid [c] else 0
  let ids := [0x081, 0x082, 0x083, 0x084, 0x085, 0x086, 0x087, 0x0A7, 0x088, 0x089]
  let same := decide (ids.map (v old) = ids.map (v p)) && decide (old.bytes 12 9 0x042 [c] = p.bytes 12 9 0x042 [c])
  let n (fid : Nat) : Nat := (v p fid).toNat
  let s := s.puts [(AUX_CFG.TYPE c, n 0x081), (AUX_CFG.REF c, n 0x082), (AUX_CFG.GAIN c, n 0x083),
    (AUX_CFG.RATE c, n 0x084), (AUX_CFG.CHOP c, n 0x085), (AUX_CFG.BO c, n 0x088), (AUX_CFG.LB c, n 0x089),
    (AUX_CFG.TABLE c, b2n (p.hasRec 12 9 [c])),
    (AUX_CFG.UNIT c, if p.hasRec 12 9 [c] then p.nat 12 9 0x041 [c] else 2),
    (AUX_EXC.CUR c, n 0x086), (AUX_EXC.PIN0 c, n 0x087), (AUX_EXC.PIN1 c, n 0x0A7)]
  if n 0x081 = 0 then (s.put (AUX_STAT.STATE c) 0).setAux c .reset
  else if same ∧ s.get (AUX_STAT.STATE c) ≠ 0 then s
  else (s.put (AUX_STAT.STATE c) 1).auxSettle c

/-- The excitation schedule (R174): STATIC where two sources are enough and no EXTERNAL channel shares them. Where SHARED gives way to
STATIC, excitation arrives at the pins of the channels that did not hold the sources (R175). -/
def State.loadSched (s : State) (p : Plane) : State :=
  let was := s.get AUX_STAT.MODE
  let need := (s.excited.map (fun c => if s.get (AUX_CFG.TYPE c) = 3 then 2 else 1)).sum
  let ext := s.excited.any (fun c => s.on (AUX_CFG.REF c))
  let shared := decide (2 < need) || (ext && 1 < s.excited.length)
  let s := s.puts [(AUX_SCHED.M, p.nat 5 0 0x08B []), (AUX_SCHED.SETTLE, p.nat 5 0 0x08A []), (AUX_STAT.MODE, b2n shared)]
  let s := s.put AUX_SCHED.CYCLE (if shared then min 0xFFFF s.sharedCycle else 0)
  if shared then s
  else
    let s := if was = 1 then (s.excited.filter (fun c => s.dwell ≠ some c)).foldl (fun s c => s.auxSettle c) s else s
    { s with dwell := none }

/-- The whole section: top-level registers, fibres, channels, schedule. They read 0 until the first TEMPERATURE section loads (R182). -/
def State.loadTemp (s : State) (old p : Plane) : State :=
  if s.shows p 5 = false then s
  else
    let s := s.puts [(TMP_CFG.TAU_R, p.nat 5 0 0x041 []), (TMP_CFG.UPD, p.nat 5 0 0x042 []),
      (TMP_CFG.TAU_X, p.nat 5 0 0x043 [])]
    let s := (s.loadTmpFibre old p 0).loadTmpFibre old p 1
    ((List.range 8).foldl (fun s c => s.loadAux old p c) s).loadSched p

end Sys2Proof.Machine
end

