-- ==== Sys2Proof/Machine/Traces.lean ====
section
/-! DEFINITION. What a processed trace does (R119, R120-R125, R141-R145, R155), and how a load and a switch move zones, detectors, links
and strain-free cells (R122, R131, R146, R163, R166). -/

namespace Sys2Proof.Machine

/-! ### Traces -/

/-- Whether the estimator of a polarisation is in HOLD (R123). -/
def State.polHeld (s : State) (f p : Nat) : Bool := s.get (if p = 0 then ACQ_STAT.IQX f else ACQ_STAT.IQY f) = 3

/-- The reference section as a zone of one gauge, for the factor kappa_R (R164). -/
def State.refPar (s : State) (f : Nat) : ZonePar :=
  let g := s.get (ACU_REF.GAUGE f)
  { first := s.get (ACU_REF.FIRST f), last := s.get (ACU_REF.FIRST f), gauge := g, cell := 1, edges := []
    kappa := kappaTurn (s.get ACU_OPT.LAMBDA) (s.get ACU_OPT.XI) g, fs := s.sampleRate f, integ := 0 }

/-- A shot's reference taken, and the shot noted for the NOREF share (R120, R121). -/
def State.shotReference (s : State) (f now k : Nat) (ls : List Look) : Option Rat × State :=
  let (r, x) := (s.aco f).reference (s.refPar f) now (s.cycleNs f) (s.get (ACU_REF.FIRST f)) (s.get (ACU_REF.LEN f))
    (s.get (ACU_REF.GAUGE f)) k s.fadeRatio (s.polHeld f) ls
  (r.excess, s.setAco f { x with shots := recent now 1000000000 x.shots ++ [(now, r.excess.isNone, r.ovr)] })

/-- The zones that settle or are VALID after a shot (R123-R125, R132). -/
def State.shotZones (s : State) (f now k : Nat) (ref : Option Rat) (ls : List Look) : State :=
  (s.zoneList f).foldl (fun s z =>
    if (s.zone f z).state < 2 then s
    else s.setZproc f z ((s.zproc f z).shot (s.zonePar f z) (s.cfg.sens.cellCount f z) now k ref (s.get (ACU_REF.GAUGE f)) s.fadeRatio
      (s.polHeld f) ls)) s

/-- The powers of a shot noted: the reference profile (time constant 10 s, R141), and guard and far bins (R145). -/
def State.shotPowersNoted (s : State) (f now : Nat) (ps : List Rat) : State :=
  let n := s.get (PRB_BINS.NBINS f)
  let x := s.aco f
  let dt : Rat := s.cycleNs f / popCount 4 (s.activeTonesOf f)
  let cells := cellPowers ps (s.get (ACQ_ZERO.CBIN f)) n
  let al := recent now 1000000000 x.alias_ ++ [(now, meanOf ((ps.drop n).take 64), meanOf ((ps.take n).drop (n - 64)))]
  s.setAco f { x with
    prof := cells.zipIdx.map (fun c => runMean (x.prof[c.2]?) c.1 (Config.firstOrder dt 10000000000))
    lastShot := ps
    alias_ := al
    aliasOk := if 13 < aliasMargin al then some (x.aliasOk.getD now) else none }

/-- One shot of a FULL trace: whether it shows a cliff (R141). Two consecutive shots with a cliff declare an open end. -/
def State.shotProcess (s : State) (f : Nat) (r : TraceRec) (ls : List Look) (noise : Rat) (x : Shot) : Bool × State :=
  let now := r.fired + x.start
  let n := s.get (PRB_BINS.NBINS f)
  let cbin := s.get (ACQ_ZERO.CBIN f)
  let (ref, s) := s.shotReference f now x.tone ls
  let s := s.shotZones f now x.tone ref ls
  let ps := shotPowers ls x.tone (n + 64)
  let cells := cellPowers ps cbin n
  let a := s.aco f
  let have' := (s.acuFib f).profile
  let floor' := cellFloor have' a.prof (s.get (ACU_BRK.DROP f)) noise
  let cliff := tailRun (fun c => decide (cells.getD c 0 ≤ floor' c)) cells.length
  let k := if cliff.isSome then (s.acuFib f).cliffs + 1 else 0
  let s := s.setAcuFib f { s.acuFib f with cliffs := k }
  let s := match cliff with
    | some c =>
      if 2 ≤ k ∧ s.on (ACU_BRK.OPEN f) = false then
        let four := (List.range n).map (fun b => (a.lastShot.getD b 0 + ps.getD b 0) / 2)
        let bin := lastReaching four floor' cbin (cbin + 64 * c)
        if have' then s.openEnd f bin (roundHalf (10 * decibels (a.prof.getD c 0 / cells.getD c 0))).toNat r.cycle
        else s.drawn.openEnd f bin (s.free 16) r.cycle
      else s
    | none => s
  (cliff.isSome, s.shotPowersNoted f now ps)

/-- The shots of a FULL trace in order: whether any shows a cliff. -/
def State.shotsProcess (s : State) (f : Nat) (r : TraceRec) (ls : List Look) (noise : Rat) : List Shot → Bool × State
  | [] => (false, s)
  | x :: t =>
    let (a, s) := s.shotProcess f r ls noise x
    let (b, s) := s.shotsProcess f r ls noise t
    (a || b, s)

/-- The dead and NOREF shares of fibre f in the last second (Table 4.10). -/
def State.healthShares (s : State) (f : Nat) : State :=
  let ts := (s.zoneList f).map (fun z => (s.zproc f z).lastSecond s.clk.up)
  let (n, m, _) := s.norefShots f
  s.puts [(ACU_HLTH.DEAD f, share ((ts.map (·.dead)).sum) ((ts.map (·.all)).sum)), (ACU_HLTH.NOREF f, share m n)]

/-- A FULL trace (R119): its shots, the settling zones, the fused cells, the shares. Without a cliff in it and without a candidate
pending it sends the continuity confirmation (R143) and is evidence of continuity. -/
def State.fullTrace (s : State) (f : Nat) (r : TraceRec) (v : TraceVolts) : State :=
  let x := s.acuFib f
  let since := x.fullSince.getD s.clk.up
  let s := s.setAcuFib f { x with fullSince := some since, profile := x.profile || decide (since + 2000000000 ≤ s.clk.up) }
  let (cliff, s) := s.shotsProcess f r (s.traceLooks f r v (s.get (PRB_BINS.NBINS f) + 64)) v.noise r.plan
  let tc := s.cycleNs f
  let s := (s.zoneList f).foldl (fun s z =>
    if (s.zone f z).state = 2 then s.setZproc f z { s.zproc f z with seen := (s.zproc f z).seen + tc } else s) s
  let s := (s.cellsSample f).healthShares f
  if cliff ∨ x.cliffs ≠ 0 ∨ s.carried f = false then s
  else (s.setAcuFib f { s.acuFib f with confirm := true }).continuous f 1 r.cycle

/-- A trace of a check burst (R119, R144): its tone 0 power, and the noise on the streams of the silent tones. -/
def State.checkTrace (s : State) (f : Nat) (r : TraceRec) (v : TraceVolts) : State :=
  match r.plan with
  | [] => s
  | x :: _ =>
    let n := s.get (PRB_BINS.NBINS f)
    let ps := shotPowers (s.traceLooks f r v n) x.tone n
    let quiet := [1, 2, 3].map (fun k => { x with tone := k })
    let noise := meanOf (quiet.flatMap (fun q => shotPowers (s.traceLooks f { r with plan := [q] } v n) q.tone n))
    let b := (s.aco f).burst
    let run (old new : Rat) : Rat := (old * b.1 + new) / (b.1 + 1 : Nat)
    s.setAco f { s.aco f with burst := (b.1 + 1, ps.zipIdx.map (fun p => run (b.2.1.getD p.2 0) p.1), run b.2.2 noise) }

/-- The converters of a trace seen for their overrange (R114): the four coherent or the two Raman ones of fibre f. -/
def State.traceOvr (s : State) (f cycle : Nat) (v : TraceVolts) (raman : Bool) : State :=
  if raman then
    ([v.ras, v.rst].zipIdx).foldl (fun s q => s.countOvr (8 + 2 * f + q.2) cycle (ramanTrain q.1)) s
  else ([v.xi, v.xq, v.yi, v.yq].zipIdx).foldl (fun s q => s.countOvr (4 * f + q.2) cycle (coherentTrain q.1)) s

/-- TRACE_PROCESSED (R102, R119, R155): the trace of cycle n of fibre f, once its windows have ended, with what its receivers saw. What
is done with it follows its emission kind; a trace not fired or lost feeds nothing. While a COMPRESS task of the fibre waits for an
engine its traces wait for the restart that discards them (R192); with too few engines no trace is processed (R187), and on a stopped
sensing die none is (R201). -/
def opTraceProcessed (f n : Nat) (v : TraceVolts) (s : State) : State :=
  match (s.fib f).traces.find? (fun r => r.cycle = n) with
  | none => s
  | some r =>
    let over' (w : Option (Int × Int)) : Bool := match w with
      | some w => decide (w.2 ≤ 8 * (s.clk.up : Int))
      | none => true
    if over' r.win && over' r.rwin && !s.gal.tooFew && !s.sensStopped &&
        !s.gal.tasks.any (fun p => p.2.fibre = some f && p.2.cls = 1 && p.2.state = 3) then
      let s := s.setFib f { s.fib f with traces := (s.fib f).traces.filter (fun q => q.cycle ≠ n) }
      let s := if r.win.isSome then
          let s := s.traceOvr f n v false
          match r.kind with
          | .full => s.fullTrace f r v
          | .check => s.checkTrace f r v
          | .none => s
        else s
      if r.rwin.isSome then (s.traceOvr f n v true).ramanTraceDone f r.fired v else s
    else s

/-! ### Registers at a load -/

/-- The registers of the acoustic parameters (Table 4.1); they read 0 until the first ZONES section loads. -/
def State.loadAcuRegs (s : State) (p : Plane) : State :=
  if s.shows p 3 = false then s
  else
    let fade := ((-(p.num 3 0 0x046 []) - 3) / 2).toNat
    let s := s.puts [(ACU_OPT.LAMBDA, p.nat 3 0 0x041 []), (ACU_OPT.XI, p.nat 3 0 0x042 []), (ACU_OPT.FADE, fade)]
    [0, 1].foldl (fun s f =>
      let len := p.nat 3 1 0x044 [f]
      let old := s.get (ACU_REF.STATE f)
      let st := if len < 4 then 0 else if old = 0 then 1 else old
      s.puts [(ACU_REF.FIRST f, p.nat 3 1 0x043 [f]), (ACU_REF.LEN f, len), (ACU_REF.GAUGE f, p.nat 3 1 0x045 [f]),
        (ACU_REF.STATE f, st), (ACU_BRK.DROP f, p.nat 3 1 0x047 [f]), (ACU_STAT.NOREF f, b2n (decide (st ≠ 1)))]) s

/-- The raw windows within their limit, and the registers that show it (R151). -/
def State.rawLoaded (s : State) : State :=
  let kept := s.rawKept
  let trimmed := decide ((kept.map (·.len)).sum < (s.raws.map (·.len)).sum)
  let used := ((kept.map s.rawLoad).sum / 1000).floor.toNat
  { (s.putSat ACU_RAW.USED used).putB ACU_RAW.TRIMMED trimmed with raws := kept }

/-! ### Zones at an exchange of planes (R131) -/

/-- Every numeric field of a record, by the dictionary. -/
def Plane.fields (p : Plane) (sec kind : Nat) (path : List Nat) : List Int :=
  ((dictOf sec).filter (fun r => r.kind = kind)).map (fun r => p.num sec kind r.fid path)

/-- What R131 calls a zone's geometry: FIRST, LAST, G, cell size and band edges. -/
def Plane.zoneGeometry (p : Plane) (f z : Nat) : List Int :=
  [0x081, 0x082, 0x083, 0x084].map (fun i => p.num 3 4 i [f, z]) ++
  (List.range 4).flatMap (fun j => [p.num 3 5 0x085 [f, z, j], p.num 3 5 0x0A5 [f, z, j]])

/-- Whether a detector of fibre f is the same in two planes. -/
def sameDetector (old new : Plane) (f d : Nat) : Bool :=
  new.hasRec 4 7 [f, d] && decide (old.fields 4 7 [f, d] = new.fields 4 7 [f, d])

/-- One zone of fibre f under a new plane, the old one still in force. -/
def State.zoneBefore (s : State) (new : Plane) (f z : Nat) : State :=
  let old := s.cfg.sens
  if new.hasRec 3 4 [f, z] = false then
    let s := s.closeEvents (fun e => e.fibre = f && e.zone = z) 4
    ((s.setZone f z .reset).setZproc f z .reset).cellsInvalid f z
  else if old.zoneGeometry f z ≠ new.zoneGeometry f z then
    if 2 ≤ (s.zone f z).state then s.zoneSettle f z 3 else s
  else
    let s := s.closeEvents (fun e => e.fibre = f && e.zone = z && !sameDetector old new f e.det) 4
    let x := s.zproc f z
    s.setZproc f z { x with dets := x.dets.filter (fun d => sameDetector old new f d.det) }

/-- The zones of fibre f under the plane in force before it is exchanged. -/
def State.zonesBefore (s : State) (new : Plane) (f : Nat) : State := (s.zoneList f).foldl (fun s z => s.zoneBefore new f z) s

/-- The zones of fibre f after the exchange: a zone newly configured is INVALID, and settles where its fibre is served (Table 4.4);
cells of zones that take no part in fusion any more are gone, those that newly do wait (R163). -/
def State.zonesAfter (s : State) (old : Plane) (f : Nat) : State :=
  let s := (s.zoneList f).foldl (fun s z =>
    if (s.zone f z).state = 0 then s.setZone f z { Zone.reset with state := 1 } else s) s
  let s := s.zonesStart f
  let gone := (old.strainFree f).filter (fun z => z ∉ s.cfg.sens.strainFree f)
  let s : State := { s with cells := s.cells.filter (fun (q : Nat × Cell) => !(gone.any (fun z => q.1 / 4096 = 256 * f + z))) }
  ((s.cfg.sens.strainFree f).filter (fun z => z ∉ old.strainFree f)).foldl (fun s z =>
    if (s.zone f z).state = 3 then s.cellsWait f z else s) s

/-- Tracks at a profile switch: they end with reason 0x04 where the tracking parameters of Table 4.1 change (R140). -/
def State.tracksBefore (s : State) (new : Plane) : State :=
  let par (p : Plane) : List Int := [0x049, 0x069, 0x04A, 0x04B, 0x04C].map (fun i => p.num 3 0 i [])
  if par s.cfg.sens = par new then s else (s.endTracks 0 4).endTracks 1 4

/-- The permitting links that the new plane no longer configures stop (R148, R152; log entry 105). -/
def State.linksBefore (s : State) (new : Plane) : State :=
  (s.linkList.filter (fun l => !new.hasRec 3 6 [l])).foldl (fun s l => s.linkStop l 5 none) s

/-- The approach links under the plane in force: a link no longer configured stops, an uncovered one is recorded (R146). -/
def State.loadLinks (s : State) : State :=
  let s := (List.range 64).foldl (fun s l =>
    if s.cfg.sens.hasRec 3 6 [l] then
      match s.firstUncovered l with
      | some b =>
        ((s.setLink l { s.link l with uncovered := true }).put ACU_EVT.UNCOV 1).emit (srcBlock 3) Code.LINK_UNCOVERED
          (le 1 l ++ le 4 b)
      | none => s.setLink l { s.link l with uncovered := false }
    else s.setLink l { s.link l with uncovered := false, okSince := none }) s
  s.linksEvaluate

/-- A changed PROBE section clears the reference profile (R141). -/
def State.profileClear (s : State) (f : Nat) : State :=
  (s.setAcuFib f { s.acuFib f with profile := false
                                   fullSince := if s.get (PRB_STAT.FSTATE f) = 3 then some s.clk.up else none }).setAco f
    { s.aco f with prof := [] }

end Sys2Proof.Machine
end

