-- ==== Sys2Proof/Machine/Gallery.lean ====
section
/-! DEFINITION. The Gallery (06_gallery.md): engines and tasks (R183-R194), slack and the Stair (R196-R201), the margin
planner and its fast path (R203-R207). -/

namespace Sys2Proof.Machine

/-! ### Engines (R187, R188, Table 6.4) -/

def State.eng (s : State) (e : Nat) : Nat := s.get (GAL_ENG.STATE e)

/-- The free spares: SPARE engines other than the reserve. -/
def State.freeSpares (s : State) : List Nat :=
  (List.range 20).filter (fun e => s.eng e = 0 && s.get GAL_STAT.RESERVE ≠ e)

/-- The tasks on an engine. -/
def State.tasksOn (s : State) (e : Nat) : List Nat :=
  (s.gal.tasks.filter (fun p => p.2.engine = e && p.2.state ≠ 3)).map (·.1)

def State.task (s : State) (t : Nat) : GalTask := sparseGet .none s.gal.tasks t
def State.setTask (s : State) (t : Nat) (x : GalTask) : State :=
  { s with gal := { s.gal with tasks := sparseSet .none s.gal.tasks t x } }

/-- The reserve role given to an engine (0x1F: none). -/
def State.setReserve (s : State) (e : Nat) : State :=
  let old := s.get GAL_STAT.RESERVE
  let s := if old < 20 then s.put (GAL_ENG.RESERVE old) 0 else s
  let s := (s.put GAL_STAT.RESERVE e).put TST_STAT.RESERVE e
  if e < 20 then s.put (GAL_ENG.RESERVE e) 1 else s

/-- The reserve, where it has been retired or committed, passes to the lowest free spare (Table 13.2), or with no spare to an engine that
is receiving a task or under test: exactly one engine that is neither RETIRED nor COMMITTED is the reserve while there is one (R188). -/
def State.fixReserve (s : State) : State :=
  let r := s.get GAL_STAT.RESERVE
  let idle (e : Nat) : Bool := s.eng e = 0 || s.eng e = 2 || s.eng e = 3
  if r < 20 ∧ idle r then s
  else
    match (List.range 20).find? (fun e => s.eng e = 0) with
    | some e => s.setReserve e
    | none => s.setReserve (((List.range 20).find? idle).getD 0x1F)

/-- The reserve, except while a rotation step vacates an engine for it (R389), and every count of `GAL_STAT` and `GAL_ENGe` brought up
to date (Table 6.11). -/
def State.galSync (s : State) : State :=
  let s := if s.gal.vacate.isSome then s else s.fixReserve
  let s := (List.range 20).foldl (fun s e => s.put (GAL_ENG.TASKS e) (s.tasksOn e).length) s
  let begun : Bool := match s.gal.move with
    | some m => m.begun.isSome
    | none => false
  let plan : Bool := match s.gal.move with
    | some m => m.begun.isSome && m.reason = 1
    | none => false
  s.puts [(GAL_STAT.COMMITTED, ((List.range 20).filter (fun e => s.eng e = 1)).length),
    (GAL_STAT.FREE, min 7 s.freeSpares.length), (GAL_STAT.MOVE, b2n begun),
    (GAL_STAT.REPLAN, b2n (plan || s.gal.restore ≠ []))]

/-- SPARE_LOW where the last free spare has just been committed or retired (R208). -/
def State.spareLow (s : State) (before : Nat) : State :=
  if before ≠ 0 ∧ s.freeSpares = [] then
    let r := s.get GAL_STAT.RESERVE
    (s.put GAL_EVT.SPARELOW 1).emit srcPlanner Code.SPARE_LOW (le 1 0 ++ le 1 (if r = 0x1F then 0xFF else r))
  else s

/-- An engine retired, with its entry in the repair map (R192, R397). -/
def State.retireEngine (s : State) (e cause : Nat) : State :=
  let s := (s.puts [(GAL_ENG.STATE e, 4), (GAL_ENG.CAUSE e, cause), (GAL_ENG.PRED e, 0)]).repairEntry e 3 0 0
  s.fixReserve

/-! ### What losing an engine does to a task (R185, R192, Table 6.3) -/

/-- The links of a fibre get no permits until their hold has run again. -/
def State.linksRestart (s : State) (f : Nat) : State :=
  (s.linkList.filter (fun l => s.linkNat 2 l = f)).foldl
    (fun s l => (s.setLink l { s.link l with okSince := none }).linkStop l 3 none) s

/-- Every zone of a fibre settles with cause 0x02, as after a data loss longer than 10 ms. -/
def State.zonesResettle (s : State) (f : Nat) : State :=
  ((s.zoneList f).foldl (fun s z => if (s.zone f z).state = 3 then s.zoneSettle f z 2 else s) s).linksEvaluate

/-- The coherent traces of a fibre that wait for the task that has been restarted are lost, with cause 0x05 (Table 6.3). -/
def State.tracesDiscard (s : State) (f : Nat) : State :=
  let (rs, s) := s.takeLost f false (fun _ => true)
  let (first, start) := firstLost rs (s.cycle f) s.clk.up
  s.lossToZones f rs.length first start 0x05

/-- The effect on the work of one task whose state is cleared. -/
def State.taskCleared (s : State) (x : GalTask) : State :=
  let f := x.fibre.getD 0
  match x.cls with
  | 1 => s.tracesDiscard f
  | 2 => s.zonesResettle f
  | 3 => s.zonesResettle f
  | 4 => (s.endTracks f 4).linksRestart f
  | 5 => (s.profileClear f).setAco f { (s.profileClear f).aco f with alias_ := [], aliasOk := none }
  | 6 => s.setTmp f { s.tmp f with fired := [], traces := [] }
  | 7 => s.zonesResettle f
  | 8 => (List.range 8).foldl (fun s c =>
      if s.get (AUX_STAT.STATE c) = 1 ∨ s.get (AUX_STAT.STATE c) = 2 then (s.put (AUX_STAT.STATE c) 1).auxSettle c else s) s
  | _ => s

/-! ### Moves (R189-R193) -/

/-- A move ends without effect (Table 6.5): reasons 0x01 candidate failed, 0x02 profile switch, 0x03 Landing drop. -/
def State.moveAbandon (s : State) (reason : Nat) : State :=
  match s.gal.move with
  | none => s
  | some m =>
    if m.begun.isNone then s
    else
      let s := { s with gal := { s.gal with move := none } }
      let s := s.setTask m.task { s.task m.task with state := 1 }
      let s := if s.eng m.dst = 2 then s.put (GAL_ENG.STATE m.dst) 0 else s
      let s := (s.inc GAL_CNT.ABANDONED).galSync
      s.emit srcPlanner Code.MOVE_ABANDONED (le 1 m.task ++ le 1 reason)

/-- The highest fill of the coherent and Raman Landings, microseconds. -/
def State.landMax (s : State) : Nat :=
  max (max (s.get (ACQ_LAND.FILL 0)) (s.get (ACQ_LAND.FILL 1)))
    (max (s.get (ACQ_RLAND.FILL 0)) (s.get (ACQ_RLAND.FILL 1)))

/-- The highest fill, in microseconds, of the Landings that feed a task (R190, Table 6.3): the Raman Landing of its fibre for RAMAN,
both for FUSE, the coherent one for the other classes of a fibre; for AUX none that a fibre fills, for EXPORT all. -/
def State.feedFill (s : State) (t : Nat) : Nat :=
  let x := s.task t
  match x.fibre with
  | none => if x.cls = 8 then 0 else s.landMax
  | some f =>
    let co := if x.cls = 6 then 0 else s.get (ACQ_LAND.FILL f)
    let ra := if x.cls = 6 ∨ x.cls = 7 then s.get (ACQ_RLAND.FILL f) else 0
    max co ra

/-- Whether R190 lets a waiting move begin. -/
def State.moveMay (s : State) (m : Move) : Bool := s.feedFill m.task < 16 && s.get CFG_STAT.SWSTATE = 0

/-- TASK_MOVE_START (R189 steps 1, 2; R190): the snapshot is taken and the candidate runs in parallel. -/
def opTaskMoveStart (s : State) : State :=
  match s.gal.move with
  | none => s
  | some m =>
    if m.begun.isSome ∨ s.moveMay m = false then s
    else
      let n := match (s.task m.task).fibre with
        | some f => s.cycle f
        | none => s.clk.up / 1000000
      let s := { s with gal := { s.gal with move := some { m with begun := some n } } }
      let s := s.setTask m.task { s.task m.task with state := 2 }
      (if s.eng m.dst = 0 then s.put (GAL_ENG.STATE m.dst) 2 else s).galSync

/-- MOVE_DEFERRED (R190): once per waiting move that cannot start. -/
def opMoveDeferred (s : State) : State :=
  match s.gal.move with
  | none => s
  | some m =>
    if m.begun.isSome ∨ m.deferred ∨ s.moveMay m then s
    else
      let s := { s with gal := { s.gal with move := some { m with deferred := true } } }
      (s.put GAL_EVT.DEFER 1).emit srcPlanner Code.MOVE_DEFERRED (le 1 m.task ++ le 2 (s.feedFill m.task))

/-- ENGINE_FAIL's record, count and flag (Table 6.9). -/
def State.engineFailed (s : State) (e cause tasks first : Nat) : State :=
  let s := (s.inc GAL_CNT.FAILS).put GAL_EVT.ENGFAIL 1
  s.emit (srcEngine e) Code.ENGINE_FAIL
    (le 1 cause ++ le 1 tasks ++ le 8 first ++ le 1 s.freeSpares.length)

/-- The next task of the engine that a rotation step vacates moves to the tested reserve; an empty engine becomes the
reserve (R389 step 2). -/
def State.rotationNext (s : State) (dst : Nat) : State :=
  match s.gal.vacate with
  | none => s
  | some e =>
    match s.tasksOn e with
    | t :: _ => { s with gal := { s.gal with move := some ⟨t, e, dst, 2, none, false⟩ } }
    | [] =>
      let s := { s with gal := { s.gal with vacate := none, map := s.gal.map.map (fun q => if q = e then dst else q) } }
      ((s.put (GAL_ENG.STATE e) 0).setReserve e).galSync

/-- The candidate takes the task: COMMITTED, the incumbent drops it and is SPARE once it carries nothing. -/
def State.moveTake (s : State) (m : Move) : State :=
  let before := s.freeSpares.length
  let s := { s with gal := { s.gal with move := none } }
  let s := (s.put (GAL_ENG.STATE m.dst) 1).setTask m.task { s.task m.task with engine := m.dst, state := 1 }
  let s := if m.reason = 1 then s.repairEntry m.dst 5 m.task m.dst else s
  let s : State := if m.reason = 1 then { s with gal := { s.gal with moved := sparseSet 20 s.gal.moved m.task m.dst } } else s
  let s := if s.gal.vacate ≠ some m.src ∧ s.eng m.src = 1 ∧ s.tasksOn m.src = [] then s.put (GAL_ENG.STATE m.src) 0 else s
  let s := if m.reason = 1 then s.fixReserve else s
  (s.galSync).spareLow before

/-- TASK_MOVE (R189 steps 4, 5; R191): the comparison of cycles n + 1 to n + 4; `bad` names the first mismatching one. -/
def opTaskMove (bad : Option Nat) (s : State) : State :=
  match s.gal.move with
  | none => s
  | some m =>
    match m.begun with
    | none => s
    | some n =>
      match bad with
      | none =>
        let s := ((s.moveTake m).inc GAL_CNT.MOVES).put GAL_EVT.MOVED 1
        let s := { s with gal := { s.gal with suspects := s.gal.suspects.filter (fun q => q.cand ≠ m.dst) } }
        let s := s.emit srcPlanner Code.TASK_MOVE (le 1 m.task ++ le 1 m.src ++ le 1 m.dst ++ le 1 m.reason ++ le 8 (n + 5))
        if m.reason = 2 then s.rotationNext m.dst else s
      | some c =>
        match s.gal.suspects.find? (fun q => q.cand = m.dst && q.inc = m.src && q.passed) with
        | some q =>
          let tasks := (s.tasksOn m.src).length
          let s := ((s.moveTake m).inc GAL_CNT.MOVES).put GAL_EVT.MISMATCH 1
          let s := { s with gal := { s.gal with suspects := s.gal.suspects.filter (fun p => p ≠ q) } }
          let s := (s.put (GAL_ENG.STATE m.src) 3).engineFailed m.src 3 tasks q.cycle
          (s.mustTest m.src).galSync
        | none =>
          let q : Suspect := ⟨m.dst, m.src, c, false⟩
          let l := (s.gal.suspects.filter (fun (p : Suspect) => p.cand ≠ m.dst)) ++ [q]
          let s := { s with gal := { s.gal with move := none, suspects := l } }
          let s := s.setTask m.task { s.task m.task with state := 1 }
          let s := if s.eng m.dst = 2 then ((s.put (GAL_ENG.STATE m.dst) 3).put GAL_STAT.TESTING 1).mustTest m.dst else s
          (s.put GAL_EVT.MISMATCH 1).galSync.emit (srcEngine m.dst) Code.MOVE_MISMATCH
            (le 1 m.task ++ le 1 m.src ++ le 8 c)

/-- An engine that carries tasks fails (R192, R193): retired, its tasks to be restarted; a move it takes part in ends, and one that has
not begun is dropped. -/
def State.engineLost (s : State) (e cause first : Nat) : State :=
  let before := s.freeSpares.length
  let ts := s.tasksOn e
  let s := match s.gal.move with
    | some m =>
      if m.begun.isNone then if m.dst = e ∨ m.src = e then { s with gal := { s.gal with move := none } } else s
      else if m.dst = e then s.moveAbandon 1
      else if m.src = e then s.moveTake m
      else s
    | none => s
  let left := ts.filter (fun t => (s.task t).engine = e)
  let s := s.retireEngine e cause
  let s := left.foldl (fun s t => s.setTask t { s.task t with state := 3 }) s
  let s := { s with gal := { s.gal with
    restore := s.gal.restore ++ left
    vacate := if s.gal.vacate = some e then none else s.gal.vacate } }
  ((s.galSync).engineFailed e cause ts.length first).spareLow before

/-- The first cycle that an engine's failure loses: the oldest trace not yet processed of the fibre of its first task, or the cycle
to come; for work of no fibre the periods of 1 ms count. -/
def State.firstUndone (s : State) (e : Nat) : Nat :=
  match (s.tasksOn e).findSome? (fun t => (s.task t).fibre) with
  | some f => (firstLost ((s.fib f).traces.filter (fun r => r.win.isSome)) (s.cycle f + 1) 0).1
  | none => s.clk.up / 1000000

/-- ENGINE_FAIL (R192): cause 1 integrity, 2 stall, 5 memory. With no free spare a slice of the reserve is abandoned (Table 6.5). -/
def opEngineFail (e cause : Nat) (s : State) : State :=
  if s.eng e = 1 ∨ s.eng e = 2 then
    let s := s.engineLost e cause (s.firstUndone e)
    if s.gal.restore ≠ [] ∧ s.freeSpares = [] ∧ s.get TST_STAT.UNIT = s.get GAL_STAT.RESERVE then s.bistInterrupt 2 else s
  else s

/-- A record in formation that is lost takes its number with it and is reported by `GAP_RECORD` with cause 0x05
(R46, Table 6.3). -/
def State.loseFormed (s : State) (src : Nat) : State :=
  let (r, s) := s.number src 0 (s.stamp src) []
  { s.lose r 0x05 with recs := { (s.lose r 0x05).recs with log := s.recs.log.drop 1 } }

/-- The tasks without an engine (R192, R193). -/
def State.stranded (s : State) : List Nat := (s.gal.tasks.filter (fun p => p.2.state = 3)).map (·.1)

/-- The engine on which tasks restart: the lowest free spare, else the reserve while it is not under test (R192, R193). -/
def State.restartOn (s : State) : Option Nat :=
  let r := s.get GAL_STAT.RESERVE
  match s.freeSpares with
  | e :: _ => some e
  | [] => if r < 20 ∧ s.eng r = 0 then some r else none

/-- TASK_RESTART (R192): the tasks restart with cleared state; records in formation (one source each) of an EXPORT task are lost.
With no engine the zones of their fibres go INVALID with cause 0x02; they restart once an engine is there (R193). -/
def opTaskRestart (formed : List Nat) (s : State) : State :=
  let ts := s.stranded
  if ts = [] then s
  else
    let before := s.freeSpares.length
    match s.restartOn with
    | some e =>
      let s := s.put (GAL_ENG.STATE e) 1
      let s := ts.foldl (fun s t => s.setTask t { s.task t with engine := e, state := 1 }) s
      let s := { s with gal := { s.gal with restore := [] } }
      let s := ((s.fixReserve).galSync).spareLow before
      let s := ts.foldl (fun s t => s.taskCleared (s.task t)) s
      let s := if ts.any (fun t => (s.task t).cls = 9) then formed.foldl (fun s q => s.loseFormed q) s else s
      (s.zonesStart 0).zonesStart 1
    | none =>
      let s := (ts.filterMap (fun t => (s.task t).fibre)).eraseDups.foldl
        (fun s f => s.zonesInvalid f 0x02 (s.get (PRB_STAT.FSTATE f))) s
      { s with gal := { s.gal with restore := [] } }.galSync

/-- LANDING_DROP_START (R105, R107) with the move that it abandons (Table 6.5). -/
def opDropStart (f : Nat) (raman : Bool) (s : State) : State := (opLandingDropStart f raman s).moveAbandon 3

/-! ### The Stair (R199-R201) -/

/-- The Stair at a step, kept in the store die (R199, R200); a slice in progress is interrupted (R386). -/
def State.stairSet (s : State) (k : Nat) : State :=
  let s := { s with stairStored := some k, gal := { s.gal with stairAt := some s.clk.up } }
  let s := s.puts [(GAL_STAT.STEP, k), (GAL_STAIR.SET, k), (GAL_STAIR.STORED, k),
    (GAL_STAIR.MAX, max k (s.get GAL_STAIR.MAX))]
  (s.inc GAL_STAIR.CHANGES).bistInterrupt 1

/-- STAIR_STEP (R199, Table 6.9): reasons 0x01 hourly run, 0x02 fast path, 0x03 lowering; slack in 0.1 %. -/
def State.stairStep (s : State) (k reason : Nat) (smin : Int) (worst : Nat) : State :=
  let old := s.get GAL_STAT.STEP
  let s := (s.stairSet k).put GAL_EVT.STEP 1
  s.emit srcPlanner Code.STAIR_STEP (le 1 old ++ le 1 k ++ le 1 reason ++ leI 2 (satS 16 smin) ++ le 1 worst)

/-- Whether the Stair may change: no more than one step per 10 ms (R199). -/
def State.stairMay (s : State) : Bool :=
  match s.gal.stairAt with
  | some t => decide (t + 10000000 ≤ s.clk.up)
  | none => true

/-- STAIR_FAULT (R201): the core supply more than 30 mV below the set point for 1 ms, or above 0.90 V, which switches the Stair off and
stops the sensing die. -/
def opStairFault (high : Bool) (mv : Nat) (s : State) : State :=
  if s.gal.stairOff ∨ (if high then mv ≤ 900 else 720 + 10 * s.get GAL_STAIR.SET ≤ mv + 30) then s
  else
  let g := s.gal
  let s := { s with gal := if high then { g with stairOff := true } else { g with stairLow := true } }
  let s := (s.putSat GAL_STAIR.VCORE mv).put GAL_EVT.STAIRFLT 1
  s.emit (srcBlock 5) Code.STAIR_FAULT (le 1 (if high then 2 else 1) ++ le 2 (min 0xFFFF mv))

/-! ### Slack (R196) -/

/-- The register field of a unit's slack. -/
def slackFld (u : Nat) : Fld := if u < 20 then GAL_ENG.SLACK u else GAL_CHZ.SLACK (u - 20)
def predFld (u : Nat) : Fld := if u < 20 then GAL_ENG.PRED u else GAL_CHZ.PRED (u - 20)

/-- Whether a unit is a channelizer in a CANDIDATE or BIST run (R195). -/
def State.chzOnTrial (s : State) (u : Nat) : Bool :=
  20 ≤ u && (s.get (ACQ_CHZ.STATE (u - 20)) = 3 || s.get (ACQ_CHZ.STATE (u - 20)) = 4)

/-- SLACK_WINDOW (R196, R208): a 10 ms window of a unit with its utilisation in 0.1 % and the junction temperature in
0.1 degC. -/
def opSlackWindow (u util : Nat) (tj : Int) (s : State) : State :=
  let w := (util :: sparseGet [] s.gal.wins u).take 10
  let g := { s.gal with
    wins := sparseSet [] s.gal.wins u w
    peaks := sparseSet 0 s.gal.peaks u (max util (sparseGet 0 s.gal.peaks u))
    dayPeak := sparseSet 0 s.gal.dayPeak u (max util (sparseGet 0 s.gal.dayPeak u))
    chzRun := if s.chzOnTrial u then sparseSet none s.gal.chzRun u (some (max util ((sparseGet none s.gal.chzRun u).getD 0))) else s.gal.chzRun }
  let bin := 10 * u + min 9 (util / 100)
  let h := if u < 20 then sparseSet 0 s.hist bin (sparseGet 0 s.hist bin + 1) else s.hist
  let s := { s with gal := g, hist := h }
  let s := s.puti (slackFld u) (satS 11 (1000 - w.foldl max 0))
  let fresh := sparseGet 0 g.lowAt u = 0 || sparseGet 0 g.lowAt u + 1000000000 ≤ s.clk.up + 1
  let slack : Int := 1000 - util
  if slack < 10 * s.get GAL_POLICY.ALARM ∧ fresh then
    let s := { s with gal := { s.gal with lowAt := sparseSet 0 s.gal.lowAt u (s.clk.up + 1) } }
    (s.put GAL_EVT.SLACKLOW 1).emit (if u < 20 then srcEngine u else srcChz (u - 20)) Code.SLACK_LOW
      (leI 2 (satS 16 slack) ++ le 1 (s.get GAL_STAT.STEP) ++ leI 2 (satS 16 tj))
  else s

/-! ### The margin planner (R197, R198, R203-R207) -/

/-- The units the planner watches: COMMITTED engines and ACTIVE channelizers. -/
def State.planUnits (s : State) : List Nat :=
  (List.range 20).filter (fun e => s.eng e = 1) ++
  ((List.range 3).filter (fun c => s.get (ACQ_CHZ.STATE c) = 1 || s.get (ACQ_CHZ.STATE c) = 2)).map (· + 20)

/-- The highest utilisation of a unit since the previous run. -/
def State.peak (s : State) (u : Nat) : Rat := (sparseGet 0 s.gal.peaks u : Nat) / 1000

def State.mon (s : State) (m : Nat) : Monitor := sparseGet .reset s.mons m

/-- The DELAY monitors of the sensing die (Table 13.5). -/
def sensDelays : List Nat := List.range 31

/-- The Lichen replica of a unit (R398): the monitor of its number; where that one has failed, the DELAY monitor of the sensing die
with the highest drift among those in service (R400). -/
def State.replica (s : State) (u : Nat) : Nat :=
  if (s.mon u).failed = false then u
  else (sensDelays.filter (fun m => !(s.mon m).failed)).foldl
    (fun b m => if (s.mon b).failed || (s.mon b).drift < (s.mon m).drift then m else b) u

/-- The predicted slack of a unit (R198). -/
def State.predicted (s : State) (o : PlanObs) (u : Nat) : Rat := 1 - s.peak u * sparseGet 1 o.ratio (s.replica u)

/-- The slack of a spare channelizer, predicted from its last CANDIDATE or BIST run (R195); none before its first. -/
def State.spareSlack (s : State) (o : PlanObs) (c : Nat) : Option Rat :=
  (sparseGet none s.gal.chzRun (20 + c)).map (fun u => 1 - (u : Rat) / 1000 * sparseGet 1 o.ratio (s.replica (20 + c)))

/-- The lowest of a list of values with its unit. -/
def lowest : List (Nat × Rat) → Option (Nat × Rat)
  | [] => none
  | p :: t =>
    match lowest t with
    | none => some p
    | some q => if q.2 < p.2 then some q else some p

/-- The destination of a task of a share (R204): the COMMITTED engine that keeps the highest predicted slack, at least
20 %; failing that the lowest free spare. -/
def State.moveDest (s : State) (o : PlanObs) (src : Nat) (share : Rat) : Option Nat :=
  let cand := ((List.range 20).filter (fun e => e ≠ src && s.eng e = 1 && (s.tasksOn e).length < 8)).map
    (fun e => (e, -(1 - (s.peak e + share) * sparseGet 1 o.ratio (s.replica e))))
  match lowest (cand.filter (fun p => p.2 ≤ -(1 / 5 : Rat))) with
  | some p => some p.1
  | none => s.freeSpares.head?

/-- The task that R204 takes from an engine: the smallest declared load whose removal reaches the target, else the
largest. -/
def State.moveTask (s : State) (o : PlanObs) (e : Nat) : Option Nat :=
  let ts := s.tasksOn e
  let target : Rat := (s.get GAL_POLICY.TARGET : Nat) / 100
  let good := ts.filter (fun t => target ≤ 1 - (s.peak e - sparseGet 0 o.shares t) * sparseGet 1 o.ratio (s.replica e))
  match lowest (good.map (fun t => (t, ((s.task t).load : Rat)))) with
  | some p => some p.1
  | none => (lowest (ts.map (fun t => (t, -((s.task t).load : Rat))))).map (·.1)

/-- The planned move of R204, if a task and a destination exist. -/
def State.planMove (s : State) (o : PlanObs) (e : Nat) : Option Move :=
  match s.moveTask o e with
  | none => none
  | some t =>
    match s.moveDest o e (sparseGet 0 o.shares t) with
    | none => none
    | some d => some ⟨t, e, d, 1, none, false⟩

/-- The request for the rate profile (R206): made only for a slot that holds a valid profile, in a mode that accepts a
switch, and where it is not the profile in force. -/
def State.rateRequest (s : State) (why : Nat) : State :=
  let r := s.get GAL_POLICY.RATE_SLOT
  if r < 4 ∧ (s.slot r).state = 2 ∧ s.get CFG_STAT.SWSTATE = 0 ∧ s.switchMode ∧ s.get CFG_STAT.ACTIVE ≠ r then
    let s := (s.put GAL_EVT.RATE 1).emit srcPlanner Code.RATE_PROFILE (le 1 r ++ le 1 why)
    s.switchStart r 2 false
  else s

/-- NO_MARGIN (R203). -/
def State.noMargin (s : State) (worst : Nat) (smin : Rat) : State :=
  let s := (s.put GAL_STAT.NOMARGIN 1).put GAL_EVT.NOMARGIN 1
  let s := s.emit srcPlanner Code.NO_MARGIN
    (le 1 worst ++ leI 2 (satS 16 (roundHalf (smin * 1000))) ++ le 1 (s.get GAL_STAT.STEP))
  s.rateRequest 1

/-- Whether the planner runs in the present mode (R207, Table 13.2). -/
def State.plannerRuns (s : State) : Bool :=
  !s.gal.hkFailed && !s.gal.stairOff &&
  (s.md.mode = .hold || s.md.mode = .commission || s.md.mode = .family || s.md.mode = .safe)

/-- The worst expected junction temperature in degC (R197): the design temperature, or the highest that the ledger holds for the last
365 days and 5 K more, rounded up. -/
def State.worstTj (s : State) : Nat :=
  let design := s.get GAL_POLICY.T_DESIGN
  min 125 ((s.led.dayMax.take 365).foldl (fun w t => max w (((t + 9) / 10 + 5).toNat)) design)

/-- PLANNER_RUN (R198, R203): one action by the first row of Table 6.7 whose condition holds. -/
def State.plan (s : State) (o : PlanObs) : State :=
  let busy : Bool := s.gal.move.isSome || s.get CFG_STAT.SWSTATE ≠ 0
  if s.plannerRuns = false ∨ busy then s
  else
    let us := s.planUnits
    match lowest (us.map (fun u => (u, s.predicted o u))) with
    | none => { s with gal := { s.gal with planAt := s.clk.up, peaks := [] } }
    | some (worst, smin) =>
      let step := s.get GAL_STAT.STEP
      let target : Rat := (s.get GAL_POLICY.TARGET : Nat) / 100
      let up : Rat := (s.get GAL_POLICY.LOWER : Nat) / 100
      let down := us.all (fun u => up ≤ 1 - s.peak u * sparseGet 1 o.lower (s.replica u))
      let ok := if 0 < step && down then s.gal.okRuns + 1 else 0
      let pred := us.map (fun u => (u, s.predicted o u))
      let s := (List.range 23).foldl (fun s u => s.puti (predFld u)
        (satS 10 (roundHalf (((pred.find? (fun p => p.1 = u)).map (·.2)).getD 0 * 500)))) s
      let s := s.puts [(GAL_PLAN.WORST, worst), (GAL_PLAN.TW, s.worstTj), (GAL_STAT.NOMARGIN, 0)]
      let s := s.puti GAL_STAT.SLACK_MIN (satS 8 (roundHalf (smin * 100)))
      let m := s.planMove o worst
      let s' := { s with gal := { s.gal with planAt := s.clk.up, peaks := [], okRuns := ok } }
      let s10 := roundHalf (smin * 1000)
      if smin < target then
        if step < 14 ∧ s.gal.stairLow = false then if s.stairMay then s'.stairStep (step + 1) 1 s10 worst else s'
        else if worst < 20 then
          match m with
          | some m => { s' with gal := { s'.gal with move := some m } }
          | none => s'.noMargin worst smin
        else
          match (List.range 3).find? (fun c => s.get (ACQ_CHZ.STATE c) = 0) with
          | some c =>
            if (s.spareSlack o c).any (fun q => smin + 2 / 100 ≤ q) then
              { s' with gal := { s'.gal with handover := some (c, s.get (ACQ_CHZ.STATE (worst - 20)) - 1) } }
            else s'.noMargin worst smin
          | none => s'.noMargin worst smin
      else if 24 ≤ ok ∧ s.on GAL_POLICY.LOWER_EN ∧ s.stairMay then
        { s' with gal := { s'.gal with okRuns := 0 } }.stairStep (step - 1) 3 s10 worst
      else s'

def opPlannerRun (o : PlanObs) (s : State) : State := s.plan o

/-- RUN_NOW (R203): an immediate run. -/
def opRunNow (o : PlanObs) (s : State) : State := s.plan o

/-- The lowest slack of the last 10 ms windows, 0.1 %, with its unit. -/
def State.slackNow (s : State) : Option (Nat × Rat) :=
  lowest ((s.planUnits.filter (fun u => sparseGet [] s.gal.wins u ≠ [])).map
    (fun u => (u, 1000 - ((sparseGet [] s.gal.wins u).headD 0 : Rat))))

/-- Whether a Landing is dropping or has dropped since the counters were last cleared. -/
def State.hasDropped (s : State) : Bool :=
  [0, 1].any (fun f => s.get (ACQ_LAND.DROPS f) ≠ 0 || s.get (ACQ_RLAND.DROPS f) ≠ 0)

/-- FAST_PATH (R205): a slack below the alarm or a Landing at its high mark. -/
def opFastPath (o : PlanObs) (s : State) : State :=
  if s.plannerRuns = false then s
  else
    match s.slackNow with
    | none => s
    | some (u, slack) =>
      let step := s.get GAL_STAT.STEP
      let trigger := slack < 10 * s.get GAL_POLICY.ALARM || s.get ACQ_CFG.HIGH ≤ s.landMax || s.on GAL_STAT.FAST
      if trigger = false then s
      else if step < 14 ∧ s.gal.stairLow = false then
        if slack < 100 then
          let s := s.put GAL_STAT.FAST 1
          if s.stairMay then s.stairStep (step + 1) 2 (roundHalf slack) u else s
        else s.put GAL_STAT.FAST 0
      else if s.gal.move.isSome then s.put GAL_STAT.FAST 1
      else
        match (if u < 20 then s.planMove o u else none) with
        | some m => opTaskMoveStart { s.put GAL_STAT.FAST 1 with gal := { s.gal with move := some m } }
        | none => if s.hasDropped then (s.put GAL_STAT.FAST 1).rateRequest 2 else s.put GAL_STAT.FAST 0

/-- GAL_CLEAR_COUNTS (R210). -/
def opGalClearCounts (s : State) : State :=
  s.puts [(GAL_CNT.MOVES, 0), (GAL_CNT.FAILS, 0), (GAL_CNT.ABANDONED, 0), (GAL_STAIR.MAX, 0)]

/-! ### Placement of a FABRIC section (R186, R187, R194) -/

/-- A plane's tasks. -/
def Plane.taskIds (p : Plane) : List Nat := (List.range 128).filter (fun t => p.hasRec 1 0x0A [t])

/-- The first failure of R186: reason and task or engine concerned (Table 6.9). -/
def Plane.unplaceable (p : Plane) : Option (Nat × Nat) :=
  let ts := p.taskIds
  let on (e : Nat) : List Nat := ts.filter (fun t => p.nat 1 0x0A 0x046 [t] = e)
  let load (l : List Nat) : Nat := (l.map (fun t => p.nat 1 0x0A 0x044 [t])).sum
  match ts.find? (fun t => 262144 < p.nat 1 0x0A 0x045 [t]) with
  | some t => some (1, t)
  | none =>
    match (List.range 16).find? (fun e => 8 < (on e).length) with
    | some e => some (2, e)
    | none =>
      match (List.range 16).find? (fun e => 850 < load (on e)) with
      | some e => some (3, e)
      | none => if 16 * 720 < load ts then some (4, 0) else none

/-- FABRIC_UNPLACEABLE (R186, R187). -/
def State.unplaceable (s : State) (reason what : Nat) : State :=
  (s.put GAL_EVT.UNPLACE 1).emit (srcBlock 5) Code.FABRIC_UNPLACEABLE (le 1 reason ++ le 1 what)

/-- The physical engines of Iadon's numbers (R187): each keeps its engine while it is COMMITTED, otherwise takes the first of
`free`. `used` are the engines already taken. -/
def mapEngines (keep : Nat → Bool) (free : List Nat) : List Nat → List Nat → List (Option Nat)
  | [], _ => []
  | e :: t, used =>
    if keep e ∧ e ∉ used then some e :: mapEngines keep free t (e :: used)
    else
      match free.find? (fun q => q ∉ used) with
      | some q => some q :: mapEngines keep free t (q :: used)
      | none => none :: mapEngines keep free t used

/-- The engines that a new placement may take, in order (R187): those that carry nothing once the tasks before it are dropped, lowest
first; then those under test after a mismatch; at last the reserve (log entry 107). -/
def State.placeable (s : State) (kept : List Nat) : List Nat :=
  let r := s.get GAL_STAT.RESERVE
  let rest := (List.range 20).filter (fun e => e ≠ r && s.eng e ≠ 4 && e ∉ kept)
  rest.filter (fun e => s.eng e ≠ 3) ++ rest.filter (fun e => s.eng e = 3) ++
  (if r < 20 ∧ s.eng r ≠ 4 ∧ r ∉ kept then [r] else [])

/-- The tasks of a plane on the engines of a map, the planner's moves kept (R187, R194). -/
def Plane.placedTasks (p : Plane) (map : List Nat) (moved : List (Nat × Nat)) : List (Nat × GalTask) :=
  p.taskIds.map (fun t =>
    let f := p.num 1 0x0A 0x042 [t]
    let e := sparseGet 20 moved t
    (t, ⟨p.nat 1 0x0A 0x041 [t] + 1, if f < 0 then none else some f.toNat, p.nat 1 0x0A 0x044 [t],
      if e < 20 then e else map.getD (p.nat 1 0x0A 0x046 [t]) 0, 1⟩))

/-- With too few engines nothing runs (R187): no task is placed, and the zones of both fibres are INVALID with cause 0x02. -/
def State.noSensing (s : State) (engines : Nat) : State :=
  let s : State := { s with gal := { s.gal with tasks := [], restore := [], move := none, tooFew := true } }
  let s := [0, 1].foldl (fun s f => s.zonesInvalid f 0x02 (s.get (PRB_STAT.FSTATE f))) s
  s.galSync.unplaceable 5 engines

/-- The engines after a placement: those taken are COMMITTED, a slice on one of them is abandoned, those left over are SPARE. -/
def State.engineStates (s : State) (taken : List Nat) : State :=
  (List.range 20).foldl (fun s e =>
    if s.eng e = 4 then s
    else if e ∈ taken then (if s.eng e = 3 then s.sliceAbandon e else s).put (GAL_ENG.STATE e) 1
    else if s.eng e = 3 then s
    else s.put (GAL_ENG.STATE e) 0) s

/-- The FABRIC fields of a plane. -/
def Plane.fabricFields (p : Plane) : List (PKey × Int) := p.nums.filter (fun q => q.1.sec = 1)

/-- The planner's moves that stay in force under a plane: those made under the same FABRIC section (R194). -/
def State.movedUnder (s : State) (p : Plane) : List (Nat × Nat) :=
  if p.fabricFields = s.gal.fabric then s.gal.moved.filter (fun q => s.eng q.2 ≠ 4) else []

/-- The physical engines that Iadon's numbers get under a plane (R187). -/
def State.engineMap (s : State) (p : Plane) : List (Option Nat) :=
  let keep (e : Nat) : Bool := s.eng e = 1
  let free := s.placeable (s.gal.map.filter keep)
  let taken (e : Nat) : Bool := (s.movedUnder p).any (fun q => q.2 = e)
  mapEngines keep (free.filter (fun e => !taken e) ++ free.filter taken) s.gal.map []

/-- A FABRIC section in force: engines mapped, tasks placed (R187); with too few engines nothing runs. Moves that the planner
made under the same section stay in force, across a reset too (R194). -/
def State.placeFabric (s : State) (p : Plane) : State :=
  let moved := s.movedUnder p
  let m := s.engineMap p
  if m.any Option.isNone then s.noSensing (m.filter Option.isSome).length
  else
    let map := m.filterMap id
    let s := { s with gal := { s.gal with map := map, tasks := p.placedTasks map moved, move := none, vacate := none, restore := [],
                                          moved := moved, fabric := p.fabricFields, tooFew := false } }
    ((s.engineStates (map ++ moved.map (·.2))).fixReserve).galSync

/-- The POLICY section's planner parameters (R202). -/
def State.loadPlanner (s : State) (p : Plane) : State :=
  let r := p.num 11 0 0x046 []
  s.puts [(GAL_POLICY.TARGET, p.nat 11 0 0x041 []), (GAL_POLICY.LOWER, p.nat 11 0 0x042 []),
    (GAL_POLICY.LOWER_EN, p.nat 11 0 0x043 []), (GAL_POLICY.ALARM, p.nat 11 0 0x044 []),
    (GAL_POLICY.T_DESIGN, p.nat 11 0 0x045 []), (GAL_POLICY.RATE_SLOT, if r < 0 then 4 else r.toNat)]

end Sys2Proof.Machine
end

