-- ==== Sys2Proof/Machine/Firmware.lean ====
section
/-! DEFINITION. Firmware images (R372-R375): the transfer to the image that does not run, its verification, activation, trial and
confirmation. The operations of Table 12.4 answer the result code of Table 12.6 with the state. -/

namespace Sys2Proof.Machine

/-! ### Images -/

/-- The bytes of image k: what has been transferred, or the factory image (log entry 31). -/
def State.imageBytes (s : State) (k : Nat) : List Byte :=
  match s.cls.images.find? (fun p => p.1 = k) with
  | some p => p.2
  | none => Config.factoryImage

/-- Whether image k verifies against the vendor firmware key (R372). -/
def State.imageSigned (s : State) (k : Nat) : Bool :=
  match s.cls.images.find? (fun p => p.1 = k) with
  | some p => p.2 ≠ [] && Config.imageSigned p.2
  | none => true

/-- Anti-rollback counter n (Table 12.1): counter 1 is `CFG_ROLLBACK`. -/
def State.otpCounter (s : State) (n : Nat) : Nat :=
  if n = 1 then (s.rd CFG_ROLLBACK).toNat % 256 else sparseGet 0 s.cls.otp n

/-- Whether the rollback value of image k is not below counter 0 (R372). -/
def State.imageFresh (s : State) (k : Nat) : Bool := s.otpCounter 0 ≤ Config.imageRollback (s.imageBytes k)

/-- Image k's bytes replaced. -/
def State.setImage (s : State) (k : Nat) (b : List Byte) : State :=
  { s with cls := { s.cls with images := (k, b) :: s.cls.images.filter (fun (p : Nat × List Byte) => p.1 ≠ k),
                               confirmed := s.cls.confirmed.filter (fun (j : Nat) => j ≠ k) } }

/-- CLS_FW (Table 12.12): 1 verified, 2 failed, 3 activated, 4 confirmed, 5 rollback committed. -/
def State.fwRecord (s : State) (k what : Nat) : State :=
  (s.put CLS_EVT.FW 1).emit srcCloister Code.CLS_FW (le 1 k ++ le 1 what)

/-! ### The transfer (R375) -/

/-- FW_BEGIN: the image that is not running, and its length. The image reads invalid from then on (Table 12.11). -/
def State.fwBegin (s : State) (k len : Nat) : Nat × State :=
  if k = s.cls.run then (8, s)
  else
    let s := s.setImage k []
    let s : State := { s with cls := { s.cls with fw := [], fwLen := len } }
    (0, s.puts [(CLS_FW_STAT.STATE, 1), (CLS_FW_STAT.IMG, k), (CLS_FW_STAT.RECEIVED, 0)])

/-- The first `n` bytes of the chunk buffer. -/
def State.fwChunk (s : State) (n : Nat) : List Byte :=
  ((List.range ((n + 3) / 4)).flatMap (fun w => wordBe (s.rd (CLS_FW_BUF w)))).take n

/-- FW_APPEND (R375, Table 12.14): 1-16,384 bytes, while receiving. In ROM recovery the first chunk begins a transfer into
image A (R374, log entry 32). -/
def opFwAppend (n : Nat) (s : State) : State :=
  let s := if s.cls.rom ∧ s.get CLS_FW_STAT.STATE ≠ 1 ∧ s.get CLS_FW_STAT.STATE ≠ 2 then
      let s := s.setImage 0 []
      let s : State := { s with cls := { s.cls with fw := [], fwLen := 0 } }
      s.puts [(CLS_FW_STAT.STATE, 1), (CLS_FW_STAT.IMG, 0), (CLS_FW_STAT.RECEIVED, 0)]
    else s
  if s.get CLS_FW_STAT.STATE ≠ 1 ∨ n = 0 ∨ 16384 < n then s
  else
    let s : State := { s with cls := { s.cls with fw := s.cls.fw ++ s.fwChunk n } }
    s.putSat CLS_FW_STAT.RECEIVED s.cls.fw.length

/-- FW_COMMIT: verification starts; its end is the row CLS_FW. -/
def State.fwCommit (s : State) : Nat × State :=
  if s.get CLS_FW_STAT.STATE = 1 then (0, s.put CLS_FW_STAT.STATE 2) else (8, s)

/-- CLS_FW (R375): verification ends. The image holds as many bytes as FW_BEGIN named, verifies against the vendor key, and its
rollback value is not below counter 0. In ROM recovery no FW_BEGIN names a length, and an image that does not verify yet goes on
being received (R374). -/
def opClsFw (s : State) : State :=
  let st := s.get CLS_FW_STAT.STATE
  let k := s.get CLS_FW_STAT.IMG
  let b := s.cls.fw
  let ok := b ≠ [] && (s.cls.rom || b.length = s.cls.fwLen) && Config.imageSigned b &&
    decide (s.otpCounter 0 ≤ Config.imageRollback b)
  if st = 2 ∨ (s.cls.rom ∧ st = 1 ∧ ok) then
    if ok then ((s.setImage k b).put CLS_FW_STAT.STATE 3).fwRecord k 1
    else (s.put CLS_FW_STAT.STATE 4).fwRecord k 2
  else s

/-! ### Activation and confirmation (R373, R375) -/

/-- FW_ACTIVATE: the image is preferred from the next reset onwards; its trial starts are counted from 0. -/
def State.fwActivate (s : State) (k : Nat) : Nat × State :=
  let s : State := { s with cls := { s.cls with pref := k, trials := 0 } }
  (0, s.fwRecord k 3)

/-- The running image confirmed. -/
def State.fwConfirmed (s : State) : State :=
  let c := s.cls
  let s : State := { s with cls := { c with confirmed := c.run :: c.confirmed.filter (fun (j : Nat) => j ≠ c.run),
                                            trial := false, trials := 0 } }
  s.fwRecord s.cls.run 4

/-- FW_CONFIRM: a trial image is confirmed; with no image on trial the operation fails. -/
def State.fwConfirm (s : State) : Nat × State := if s.cls.trial then (0, s.fwConfirmed) else (8, s)

/-- Whether 600 s have passed in HOLD or a later mode, and since the last fault at F3 (R373); a fault at F4 is a reset. -/
def State.trialOver (s : State) : Bool :=
  !(s.md.mode = .reset || s.md.mode = .boot || s.md.mode = .load) && decide (s.md.holdAt + 600000000000 ≤ s.clk.up) &&
  s.flt.f3At.all (fun t => decide (t + 600000000000 ≤ s.clk.up))

/-- TRIAL_CONFIRM (R373): 600 s in HOLD or a later mode without a fault at F3 or F4. -/
def opTrialConfirm (s : State) : State := if s.cls.trial ∧ s.trialOver then s.fwConfirmed else s

/-- FW_COMMIT_RB: counter 0 raised to the rollback value of the running image, if it is confirmed. -/
def State.fwCommitRb (s : State) : Nat × State :=
  if s.cls.run ∈ s.cls.confirmed then
    let v := min 255 (max (s.otpCounter 0) (Config.imageRollback (s.imageBytes s.cls.run)))
    let s : State := { s with cls := { s.cls with otp := sparseSet 0 s.cls.otp 0 v } }
    (0, s.fwRecord s.cls.run 5)
  else (8, s)

end Sys2Proof.Machine
end

