-- ==== Sys2Proof/Machine/Lamps.lean ====
section
/-! DEFINITION. Lamp channels (08_aspects_and_drive.md): PWM periods and duty counts (R242-R251), flash groups
(R252-R254), and the entry of a channel into its proving states (R278). -/

namespace Sys2Proof.Machine

def State.chan (s : State) (n : Nat) : Chan := sparseGet .reset s.chans n
def State.setChan (s : State) (n : Nat) (x : Chan) : State := { s with chans := sparseSet .reset s.chans n x }
def State.prv (s : State) (n : Nat) : Prv := sparseGet .reset s.prvs n
def State.setPrv (s : State) (n : Nat) (x : Prv) : State := { s with prvs := sparseSet .reset s.prvs n x }
def State.flash (s : State) (k : Nat) : Flash := sparseGet .reset s.flashes k
def State.setFlash (s : State) (k : Nat) (x : Flash) : State := { s with flashes := sparseSet .reset s.flashes k x }

def State.bank (s : State) (b : Nat) : LampBank := sparseGet .reset s.banks b
def State.setBank (s : State) (b : Nat) (x : LampBank) : State := { s with banks := sparseSet .reset s.banks b x }

/-- Whether the Pacer runs on its last calibration, its device-time copy left alone (R31). -/
def State.pacerFree (s : State) : Bool := s.get LMP_STAT.PACER_CAL = 0

/-- Rounding to nearest of a natural quotient, ties upwards. -/
def roundDiv (a b : Nat) : Nat := (2 * a + b) / (2 * b)

/-! ### PWM (R246, R249) -/

/-- A bank's resolution in bits and its prescale. -/
def State.pwmBits (s : State) (b : Nat) : Nat := s.cfg.sig.nat 7 0x0D 0x041 [b]
def State.pwmPre (s : State) (b : Nat) : Nat := s.cfg.sig.nat 7 0x0D 0x042 [b]

/-- T_PWM of a bank in ns. -/
def State.tPwm (s : State) (b : Nat) : Nat := 2 ^ (s.pwmBits b - 8) * s.pwmPre b * 10

/-- D_min of a bank: no lit on-phase is shorter than 8 us. -/
def State.dMin (s : State) (b : Nat) : Nat :=
  let t := s.tPwm b
  (8000 * 2 ^ s.pwmBits b + t - 1) / t

/-- The duty count of a lit channel at a level in 0.1 %. -/
def State.dutyAt (s : State) (n level : Nat) : Nat :=
  max (s.dMin (n / 16)) (roundDiv (level * 2 ^ s.pwmBits (n / 16)) 1000)

/-- The on-time of a duty count in ns: each edge on the nearest 10 ns step. -/
def State.onTime (s : State) (n duty : Nat) : Nat := roundDiv (duty * s.pwmPre (n / 16)) 256 * 10

/-- The start of a channel's period after its bank's, in ns, on the nearest 10 ns step (R246). -/
def State.stagger (s : State) (n : Nat) : Nat :=
  if s.on (LMP_PWM.STAGGER (n / 16)) then roundDiv (n % 16 * s.tPwm (n / 16)) 160 * 10 else 0

/-- Whether a distance in ns is a whole number of a bank's periods, within the tolerance of R248: 20 ns, and 0.05 % of a period. -/
def State.onPeriod (s : State) (b : Nat) (d : Int) : Bool :=
  let t : Int := s.tPwm b
  let tol := 20 + t / 2000
  decide (d % t ≤ tol) || decide (t - d % t ≤ tol)

/-- Whether a channel flashes and is to go on flashing. -/
def State.flashing (s : State) (n : Nat) : Bool := decide (2 ≤ (s.chan n).applied) && decide (2 ≤ (s.chan n).code)

/-- Whether a period of channel n starts now (R246, R248, R253): a whole number of periods after the last on-edge of a flashing channel,
after the bank's last period start and the channel's stagger for any other. Without calibration R31 governs. -/
def State.periodDue (s : State) (n : Nat) : Bool :=
  s.pacerFree ||
  match (if s.flashing n then (s.chan n).edge.map (fun t => (t : Int)) else (s.bank (n / 16)).start.map (· + s.stagger n)) with
  | some t => s.onPeriod (n / 16) (s.clk.up - t)
  | none => true

/-- Whether the mode lets gates be driven (Table 8.8). -/
def State.gatesLive (s : State) : Bool :=
  s.md.mode = .hold || s.md.mode = .commission || s.md.mode = .family || s.md.mode = .safe || s.md.mode = .quiesce

/-! ### Proving states (R277, R278, R286) -/

/-- Whether a channel is proved: not OFF, from the end of LOAD. -/
def State.proved (s : State) (n : Nat) : Bool :=
  s.get (LMP_CH.MODE n) ≠ 0 &&
  !(s.md.mode = .reset || s.md.mode = .boot || s.md.mode = .load)

/-- Whether a channel counts as failed (R263). -/
def State.lampFailed (s : State) (n : Nat) : Bool := s.get (LMP_PRV.STATE n) = 3

/-- Whether a channel is lit at the gate now: steady, or in a flash on-phase, and not held off. -/
def State.litNow (s : State) (n : Nat) : Bool :=
  let c := s.chan n
  (c.applied = 1 || (2 ≤ c.applied && c.flashOn)) && !s.on (LMP_CH.HELDOFF n)

/-- Counts of `LMP_PSTAT` (Table 9.10). -/
def State.provingSync (s : State) : State :=
  s.puts [(LMP_PSTAT.FAILED, popCount 32 (s.rd (LMP_FAIL 0)).toNat + popCount 32 (s.rd (LMP_FAIL 1)).toNat),
    (LMP_PSTAT.OVERDUE, popCount 32 (s.rd (LMP_OVD 0)).toNat + popCount 32 (s.rd (LMP_OVD 1)).toNat)]

/-- A channel's overdue bit from the kinds that are overdue (R286). -/
def State.ovdSync (s : State) (n : Nat) : State :=
  (s.putB (LMP_OVD.C (n / 32) (n % 32)) ((s.prv n).ovd ≠ [])).provingSync

/-- A channel enters LIT or DARK (R278): a change between steady states ends the overdue conditions of the tests that the
state served; a flash edge keeps them (R286) and the count of lit samples (R279). -/
def State.chanEnter (s : State) (n : Nat) (lit flashEdge : Bool) : State :=
  if s.proved n = false then s
  else
    let x := s.prv n
    let now := s.clk.up
    let x := if lit then { x with bad := x.bad.filter (fun c => c ≠ 5 && c ≠ 7 && c ≠ 6) }
      else { x with stuck := 0, dopen := 0, bad := x.bad.filter (fun c => c = 5 || c = 7 || 9 ≤ c) }
    let x := if flashEdge then x
      else { x with run := 0, cold := 0, since := now, ovd := [], done := [], litSince := if lit then now else x.litSince }
    let s := s.setPrv n x
    let s := if s.lampFailed n then s else s.put (LMP_PRV.STATE n) (if lit then 1 else 2)
    s.ovdSync n

/-- The gate of a channel goes dark now. -/
def State.chanDark (s : State) (n : Nat) : State :=
  let c := s.chan n
  let was := c.applied
  let s := s.setChan n { c with applied := 0, flashOn := false, gateUntil := s.clk.up }
  if was = 0 then s else s.chanEnter n false false

/-! ### Commanding channels (R253, R260) -/

/-- The mean of some lit samples in 0.1 mA; a code is 50 uA. -/
def lampMean (p : Int × Nat) : Nat := (roundHalf ((p.1 : Rat) / (2 * p.2))).toNat

/-- The lit time of a channel up to now, ns. -/
def State.litTime (s : State) (x : LampLife) : Nat := x.lit + (match x.since with | some t => s.clk.up - t | none => 0)

/-- A passing lit sample counted towards the month's mean, and towards the reference while the channel's first 30 days of lit operation
under its record last; at their end the reference stands (R406). -/
def State.lampPasses (s : State) (n : Nat) (code : Int) : State :=
  let x := sparseGet .reset s.lamps n
  let x := { x with month := (x.month.1 + code, x.month.2 + 1) }
  let x := if x.ref.isSome then x
    else if s.litTime x < x.refFrom + 2592000000000000 then { x with first := (x.first.1 + code, x.first.2 + 1) }
    else if x.first.2 = 0 then { x with ref := some (lampMean (code, 1)) }
    else { x with ref := some (lampMean x.first) }
  { s with lamps := sparseSet .reset s.lamps n x }

/-- The reference of a channel restarts (R406). -/
def State.lampRestart (s : State) (n : Nat) : State :=
  let x := sparseGet .reset s.lamps n
  { s with lamps := sparseSet .reset s.lamps n { x with ref := none, first := (0, 0), refFrom := s.litTime x } }

/-- What of a channel's LAMP record the reference rests on: its lit band, mode and I_set. -/
def State.lampBasis (s : State) (n : Nat) : List Nat :=
  [s.get (LMP_BAND.LO n), s.get (LMP_BAND.HI n), s.get (LMP_CH.MODE n), s.get (LMP_DUTY.ISET n)]

/-- Every channel whose basis differs from that in `old` restarts its reference (R406). -/
def State.lampsRestart (s old : State) : State :=
  (List.range 64).foldl (fun s n => if s.lampBasis n = old.lampBasis n then s else s.lampRestart n) s

/-- Lit seconds and switching count on a change of a channel's commanded state (R406). -/
def State.lifeSwitch (s : State) (n : Nat) (lit : Bool) : State :=
  let x := sparseGet .reset s.lamps n
  let now := s.clk.up
  let y : LampLife := match x.since, lit with
    | none, true => { x with since := some now, switched := x.switched + 1 }
    | some t, false => { x with since := none, lit := x.lit + (now - t) }
    | _, _ => x
  { s with lamps := sparseSet .reset s.lamps n y }

/-- A lamp code commanded on a channel. A flashing position that becomes dark goes dark at once; every other change waits
for the next period start or on-edge (R253, R261). -/
def State.setCode (s : State) (n code group : Nat) : State :=
  if s.get (LMP_CH.MODE n) = 0 then s
  else
    let c := s.chan n
    let s := s.setChan n { c with code := code, group := group }
    let s := ((s.putB (LMP_CH.ON n) (code ≠ 0)).putB (LMP_CH.FLASH n) (2 ≤ code)).lifeSwitch n (code ≠ 0)
    let s := s.putB (LMP_PRV.FLASH n) (2 ≤ code && s.proved n)
    if code = 0 ∧ 2 ≤ c.applied then s.chanDark n else s

/-- A new level on a channel (R251): a rise applies at the next period start, a fall runs as a ramp of 16 steps; a ramp
time of 0 applies the new count at the next period start. -/
def State.setDuty (s : State) (n new ramp : Nat) : State :=
  let c := s.chan n
  let old := s.get (LMP_DUTY.DUTY n)
  if new < old ∧ ramp ≠ 0 then s.setChan n { c with pend := none, ramp := some ⟨old, new, 0, ramp, none⟩ }
  else s.setChan n { c with pend := some new, ramp := none }

/-! ### Flash timing (R252) -/

/-- The rate of a flash group per minute. -/
def State.flashRate (s : State) (g : Nat) : Nat := s.cfg.sig.nat 6 0x11 0x0C1 [g]

/-- Where a time of the Pacer lies in the period of a group, counted from its on-edge in units of 1 / (6 rate) ns, in which a period
is 360e9. -/
def State.flashAt (s : State) (g : Nat) (anti : Bool) (pacer : Nat) : Nat :=
  let phase := s.cfg.sig.nat 6 0x11 0x0C3 [g]
  (pacer * s.flashRate g * 6 + 720000000000 - phase * 1000000000 - (if anti then 180000000000 else 0)) % 360000000000

/-- The on fraction of a group in those units. -/
def State.flashOnLen (s : State) (g : Nat) : Nat := s.cfg.sig.nat 6 0x11 0x0C2 [g] * 3600000000

/-- Nanoseconds until the off-edge of the on-phase of group g that a time of the Pacer lies in; none in an off-phase. -/
def State.flashLeft (s : State) (g : Nat) (anti : Bool) (pacer : Nat) : Option Nat :=
  let u := s.flashAt g anti pacer
  if u < s.flashOnLen g then some ((s.flashOnLen g - u) / (6 * s.flashRate g)) else none

/-- Whether an edge of a group falls now, within the 20 us of R252; `place` is the edge's place in the period. Without calibration R31
governs. -/
def State.flashDue (s : State) (g : Nat) (anti : Bool) (place : Nat) : Bool :=
  let tol := 20000 * 6 * s.flashRate g
  let d := (s.flashAt g anti s.clk.pacer + 360000000000 - place) % 360000000000
  s.pacerFree || decide (d ≤ tol) || decide (360000000000 - d ≤ tol)

/-- An on-phase of a channel starts now: the gate is driven for the duty count in force. -/
def State.onPhase (s : State) (n : Nat) : State :=
  let c := s.chan n
  let t := s.onTime n (s.get (LMP_DUTY.DUTY n))
  let skip : Bool := if c.applied < 2 then false else
    match s.flashLeft c.group (c.applied = 3) s.clk.pacer with
    | some left => decide (left < 8000 ∧ left < t)
    | none => false
  if s.on (LMP_CH.HELDOFF n) || skip then s.setChan n { c with gateUntil := s.clk.up }
  else s.setChan n { c with gateUntil := s.clk.up + t, onAt := s.clk.up }

/-- PWM_PERIOD_START (R246, R251, R253, R261): a commanded change and a pending level take effect, and the on-phase starts. -/
def opPwmPeriodStart (n : Nat) (s : State) : State :=
  if s.get (LMP_CH.MODE n) = 0 ∨ s.gatesLive = false ∨ s.periodDue n = false then s
  else
    let c := s.chan n
    let s := if s.flashing n then s else s.setBank (n / 16) { s.bank (n / 16) with start := some (s.clk.up - s.stagger n) }
    let s := match c.pend with
      | some d => (s.setChan n { c with pend := none }).put (LMP_DUTY.DUTY n) d
      | none => s
    let c := s.chan n
    let s :=
      if c.code = 0 then s.chanDark n
      else if c.code = 1 then
        if c.applied = 1 then s
        else
          let s := s.setChan n { c with applied := 1, flashOn := false }
          s.chanEnter n true false
      else if c.applied = 1 ∨ (2 ≤ c.applied ∧ c.applied ≠ c.code) then
        let on := (s.flash (2 * c.group + b2n (c.code = 3))).on
        let s := s.setChan n { c with applied := c.code, flashOn := on }
        if on then s else s.chanEnter n false true
      else s
    if s.litNow n then s.onPhase n else s.setChan n { s.chan n with gateUntil := s.clk.up }

/-- Whether the next step of a ramp may be applied (R251): step k from (k - 1) / 15 of the ramp time after step 1 on. -/
def Ramp.due (r : Ramp) (now : Nat) : Bool :=
  match r.first with
  | none => true
  | some t => decide (r.k * r.ms * 1000000 ≤ 15 * (now - t))

/-- DIM_RAMP_STEP (R251): the next of the 16 steps of a fall, once it is due. -/
def opDimRampStep (n : Nat) (s : State) : State :=
  let c := s.chan n
  match c.ramp with
  | none => s
  | some r =>
    if r.due s.clk.up = false then s
    else
      let k := r.k + 1
      let d := r.old - roundDiv ((r.old - r.new) * k) 16
      let r := { r with k := k, first := some (r.first.getD s.clk.up) }
      let s := s.setChan n { c with ramp := if 16 ≤ k then none else some r }
      s.put (LMP_DUTY.DUTY n) d

/-- FLASH_ON_EDGE (R252-R254): every channel flashing in the group with this code starts a PWM period. While the group
re-phases, an edge sooner than a quarter period after its last on-phase is passed over. -/
def opFlashOnEdge (g : Nat) (anti : Bool) (s : State) : State :=
  let k := 2 * g + b2n anti
  let x := s.flash k
  let quarter := 15000000000 / s.flashRate g
  if s.on (LMP_FLASH.EN g) = false ∨ s.gatesLive = false ∨ s.flashDue g anti 0 = false ∨ (x.rephase ∧ (x.on ∨ s.clk.up < x.endedAt + quarter)) then s
  else
    let s := s.setFlash k { x with on := true, rephase := false }
    let code := 2 + b2n anti
    let ns := (List.range 64).filter (fun n =>
      (s.chan n).code = code && (s.chan n).group = g && s.get (LMP_CH.MODE n) ≠ 0 && (s.chan n).applied ≠ 1)
    ns.foldl (fun s n =>
      let c := s.chan n
      let fresh := decide (c.applied = 0)
      let s := s.setChan n { c with applied := code, flashOn := true, edge := some s.clk.up }
      let s := match c.pend with
        | some d => (s.setChan n { s.chan n with pend := none }).put (LMP_DUTY.DUTY n) d
        | none => s
      (s.chanEnter n true (!fresh)).onPhase n) s

/-- FLASH_OFF_EDGE (R253, R254): any on-phase in progress ends; one that a re-phasing met completes to full length first. -/
def opFlashOffEdge (g : Nat) (anti : Bool) (s : State) : State :=
  let k := 2 * g + b2n anti
  let x := s.flash k
  if x.on = false ∨ (if x.rephase then s.clk.up + 20000 < x.until_ else s.flashDue g anti (s.flashOnLen g) = false) then s
  else
    let s := s.setFlash k { x with on := false, endedAt := s.clk.up }
    let code := 2 + b2n anti
    let ns := (List.range 64).filter (fun n => (s.chan n).applied = code && (s.chan n).group = g)
    ns.foldl (fun s n =>
      (s.setChan n { s.chan n with flashOn := false, gateUntil := s.clk.up }).chanEnter n false true) s

/-- FLASH_REPHASE (R254): the Pacer's copy has moved by more than 1 ms at once, from the time `was`. -/
def State.flashRephase (s : State) (was : Nat) (moved : Int) : State :=
  if moved.natAbs ≤ 1000000 then s
  else
    let gs := (List.range 8).filter (fun g => s.on (LMP_FLASH.EN g))
    let s := (gs.flatMap (fun g => [(g, false), (g, true)])).foldl (fun s q =>
      let k := 2 * q.1 + b2n q.2
      let left := (s.flashLeft q.1 q.2 was).getD 0
      s.setFlash k { s.flash k with rephase := true, until_ := s.clk.up + left }) s
    (s.put LMP_EVT.REPHASE 1).emit srcPacer Code.FLASH_REPHASE
      (le 1 ((gs.map (fun g => 2 ^ g)).sum) ++ leI 8 (satS 64 moved))

/-! ### The regulator (R243) -/

/-- REG_LIMIT (R243): `full` tells that the gate reached its maximum drive in this on-phase; current in mA. -/
def State.regulate (s : State) (n : Nat) (full : Bool) (ma : Int) : State :=
  if s.get (LMP_CH.MODE n) ≠ 2 then s
  else
    let iset := s.get (LMP_DUTY.ISET n)
    let c := s.chan n
    let low := full && 10 * ma < 9 * iset
    let good := decide (50 * (ma - iset).natAbs ≤ iset + 50)
    let c := { c with low := if low then c.low + 1 else 0, ok := if good then c.ok + 1 else 0 }
    let s := s.setChan n c
    let data := leI 2 (satS 16 ma) ++ le 2 iset
    if s.on (LMP_CH.REGLIM n) = false ∧ 3 ≤ c.low then
      ((s.put (LMP_CH.REGLIM n) 1).put LMP_EVT.REGLIM 1).emit (srcLamp n) Code.REG_LIMIT (le 1 1 ++ data)
    else if s.on (LMP_CH.REGLIM n) ∧ 3 ≤ c.ok then
      (s.put (LMP_CH.REGLIM n) 0).emitAt 0 (srcLamp n) Code.REG_LIMIT (le 1 0 ++ data)
    else s

/-! ### Registers at a load (R245, R255, R266) -/

/-- The head and position that hold a channel. -/
def Plane.placeOf (p : Plane) (n : Nat) : Option (Nat × Nat) :=
  ((List.range 32).flatMap (fun h =>
    if p.hasRec 6 0x0F [h] then
      (((p.bytes 6 0x0F 0x041 [h]).getD []).zipIdx.filter (fun q => q.1.toNat = n)).map (fun q => (h, q.2))
    else [])).head?

/-- The drive registers of one channel under a plane. An OFF channel is dark at once (R242). -/
def State.loadChan (s : State) (p : Plane) (n : Nat) : State :=
  let mode := if p.hasRec 7 0x0E [n] then p.nat 7 0x0E 0x081 [n] else 0
  let (h, k) := (p.placeOf n).getD (0x1F, 0)
  let s := if mode = 0 then
    let s := s.chanDark n
    (s.setChan n .reset).puts [(LMP_CH.ON n, 0), (LMP_CH.FLASH n, 0), (LMP_CH.REGLIM n, 0), (LMP_CH.HELDOFF n, 0),
      (LMP_DUTY.DUTY n, 0)]
    else s
  let has := p.hasRec 7 0x0E [n]
  s.puts [(LMP_CH.MODE n, mode), (LMP_CH.LOAD n, if has then p.nat 7 0x0E 0x082 [n] else 0),
    (LMP_CH.HEAD n, h), (LMP_CH.POS n, k), (LMP_DUTY.ISET n, if has then p.nat 7 0x0E 0x083 [n] else 0)]

/-- A bank's PWM periods count anew where its parameters change (R246). -/
def State.bankPwm (s : State) (p : Plane) (b : Nat) : State :=
  let old := [s.get (LMP_PWM.BITS b), s.get (LMP_PWM.PRE b), s.get (LMP_PWM.STAGGER b)]
  if old = [p.nat 7 0x0D 0x041 [b], p.nat 7 0x0D 0x042 [b], p.nat 7 0x0D 0x043 [b]] then s
  else s.setBank b { s.bank b with start := none }

/-- The drive registers of banks, groups and channels (Tables 8.11, 8.12). Until the first load of the sections they read
0 (R266). -/
def State.loadDrive (s : State) (p : Plane) : State :=
  let s := if 7 ∈ p.secs ∨ s.get (LMP_PWM.BITS 0) ≠ 0 then
    (List.range 4).foldl (fun s b => (s.bankPwm p b).puts [(LMP_PWM.BITS b, p.nat 7 0x0D 0x041 [b]), (LMP_PWM.PRE b, p.nat 7 0x0D 0x042 [b]),
      (LMP_PWM.STAGGER b, p.nat 7 0x0D 0x043 [b]), (LMP_PWM.SLEW b, p.nat 7 0x0D 0x044 [b])]) s
    else s
  let s := (List.range 8).foldl (fun s g =>
    if p.hasRec 6 0x11 [g] then
      s.puts [(LMP_FLASH.RATE g, p.nat 6 0x11 0x0C1 [g]), (LMP_FLASH.ONPCT g, p.nat 6 0x11 0x0C2 [g]),
        (LMP_FLASH.PHASE g, p.nat 6 0x11 0x0C3 [g]), (LMP_FLASH.EN g, 1)]
    else (s.puts [(LMP_FLASH.RATE g, 0), (LMP_FLASH.ONPCT g, 0), (LMP_FLASH.PHASE g, 0), (LMP_FLASH.EN g, 0)])) s
  (List.range 64).foldl (fun s n => s.loadChan p n) s

end Sys2Proof.Machine
end

