-- ==== Sys2Proof/Machine/Heads.lean ====
section
/-! DEFINITION. Heads and aspects (08_aspects_and_drive.md): demands (R257), levels and approach dimming (R148, R250),
what heads show by mode (R258), changes of aspect (R259-R262) and fallback (R263, R264). -/

namespace Sys2Proof.Machine

def State.head (s : State) (h : Nat) : Head := sparseGet .reset s.heads h
def State.setHead (s : State) (h : Nat) (x : Head) : State := { s with heads := sparseSet .reset s.heads h x }

/-! ### Configuration (Tables 8.6, 8.7) -/

/-- The configured heads of a plane. -/
def Plane.headList (p : Plane) : List Nat := (List.range 32).filter (fun h => p.hasRec 6 0x0F [h])

def State.headList (s : State) : List Nat := s.cfg.sig.headList

/-- A field of a head (row r of Table 8.6). -/
def State.headNat (s : State) (r h : Nat) : Nat := s.cfg.sig.nat 6 0x0F (0x040 + r) [h]

/-- The channels of a head, by position. -/
def Plane.headChans (p : Plane) (h : Nat) : List Nat := ((p.bytes 6 0x0F 0x041 [h]).getD []).map (·.toNat)

def State.headChans (s : State) (h : Nat) : List Nat := s.cfg.sig.headChans h

/-- The rank of a position. -/
def State.posRank (s : State) (h k : Nat) : Nat :=
  match s.cfg.sig.bytes 6 0x0F 0x042 [h] with
  | some b => (b.getD k 0).toNat
  | none => k

/-- Whether a head has an aspect. -/
def Plane.hasAspect (p : Plane) (h a : Nat) : Bool := a < 16 && p.hasRec 6 0x10 [h, a]

/-- The meaning code of an aspect; DARK has 0x0000. -/
def Plane.meaning (p : Plane) (h a : Nat) : Nat := if p.hasAspect h a then p.nat 6 0x10 0x081 [h, a] else 0

/-- The rank for comparisons: DARK and no aspect are more restrictive than every aspect (R259). -/
def State.aspRank (s : State) (h a : Nat) : Nat :=
  if s.cfg.sig.hasAspect h a then s.cfg.sig.nat 6 0x10 0x082 [h, a] + 1 else 0

/-- The lamp code of position k in an aspect (R255). -/
def State.aspCode (s : State) (h a k : Nat) : Nat :=
  if s.cfg.sig.hasAspect h a then s.cfg.sig.nat 6 0x10 0x083 [h, a] / 4 ^ k % 4 else 0

/-- The flash group of an aspect; 0 where it has none (R256 then allows no flashing code). -/
def State.aspGroup (s : State) (h a : Nat) : Nat :=
  if s.cfg.sig.hasAspect h a then s.cfg.sig.nat 6 0x10 0x084 [h, a] else 0

/-- The failed channels that an aspect lights (R263). -/
def State.failedIn (s : State) (h a : Nat) : List Nat :=
  (((s.headChans h).zipIdx).filter (fun q => s.aspCode h a q.2 ≠ 0 && s.lampFailed q.1)).map (·.1)

/-! ### Counts and levels (R148, R250) -/

/-- `LMP_STAT` brought up to date. -/
def State.headSync (s : State) : State :=
  s.puts [(LMP_STAT.HEADS, s.headList.length), (LMP_STAT.FB, popCount 32 (s.rd LMP_FB).toNat),
    (LMP_STAT.STBY, popCount 32 (s.rd LMP_STBY).toNat)]

/-- The links of a head. -/
def State.headLinks (s : State) (h : Nat) : List Nat :=
  (List.range 64).filter (fun l => s.cfg.sig.hasRec 3 6 [l] && s.cfg.sig.nat 3 6 0x0C1 [l] = h)

/-- Whether a link's last dim permit, received after its last revoke, is no older than 250 ms (R148). -/
def State.permitFresh (s : State) (l : Nat) : Bool :=
  match (s.link l).permitAt with
  | some t => decide (s.clk.up ≤ t + 250000000)
  | none => false

/-- Whether R148 permits the standby level: approach brightening enabled, and every link of the head, which has at
least one, holds a permit no older than 250 ms. -/
def State.dimPermitted (s : State) (h : Nat) : Bool :=
  s.cfg.sig.flag 11 0 0x084 [] && s.headLinks h ≠ [] && (s.headLinks h).all (fun l => s.permitFresh l)

/-- L_lit (R250). -/
def State.litLevel (s : State) (h : Nat) : Nat :=
  if (s.head h).dsrc = 3 ∨ s.get (LMP_NIGHT.H h) = 0 then s.headNat 8 h else s.headNat 9 h

/-- The head at the level that R250 gives it, with its standby bit. -/
def State.applyLevel (s : State) (h : Nat) : State :=
  let stby := s.md.mode = .family && s.dimPermitted h
  let lit := s.litLevel h
  let l := if stby then roundDiv (lit * s.headNat 10 h) 100 else lit
  let s := (s.putB (LMP_STBY.H h) stby).headSync
  let x := s.head h
  if x.level = l then s
  else
    let s := s.setHead h { x with level := l }
    (s.headChans h).foldl (fun s n => s.setDuty n (s.dutyAt n l) (s.headNat 11 h)) s

/-- DIM_PERMIT_RECEIVED (R148): a permit on its way reaches the signal die. -/
def opDimPermitReceived (l : Nat) (s : State) : State :=
  if (s.link l).permitOut && !s.lnk.absent then
    (s.setLink l { s.link l with permitOut := false, permitAt := some s.clk.up }).applyLevel (s.cfg.sig.nat 3 6 0x0C1 [l])
  else s

/-- A link's permission gone on the signal die: its head returns to the lit level. -/
def State.permitGone (s : State) (l : Nat) : State :=
  (s.setLink l { s.link l with permitAt := none }).applyLevel (s.cfg.sig.nat 3 6 0x0C1 [l])

/-- REVOKE_RECEIVED (R148): a revoke on its way reaches the signal die. Frames of the die link keep their order, so a permit still on
its way then was sent before it and counts no more. -/
def opRevokeReceived (l : Nat) (s : State) : State :=
  if (s.link l).revokeOut && !s.lnk.absent then
    (s.setLink l { s.link l with revokeOut := false, permitOut := false }).permitGone l
  else s

/-- PERMIT_AGE_EXPIRY (R148): the last permit has become older than 250 ms; before that it still stands. -/
def opPermitAgeExpiry (l : Nat) (s : State) : State := if s.permitFresh l then s else s.permitGone l

/-- HEAD_LEVEL (Table 8.10): source 1 Bornak, 2 command, 3 load. -/
def State.levelRecord (s : State) (h src : Nat) : State :=
  (s.put LMP_EVT.LEVEL 1).emit (srcHead h) Code.HEAD_LEVEL
    (le 1 (if s.on (LMP_NIGHT.H h) then 2 else 1) ++ le 1 src ++ le 2 (s.litLevel h))

/-- The level set of a configured head selected (R251, R257). -/
def State.selectLevel (s : State) (h : Nat) (night : Bool) (src : Nat) : State :=
  if s.cfg.sig.hasRec 6 0x0F [h] = false ∨ s.on (LMP_NIGHT.H h) = night then s
  else ((s.putB (LMP_NIGHT.H h) night).applyLevel h).levelRecord h src

/-! ### Changes of aspect (R259-R262) -/

/-- Insertion by key, stable. -/
def insertKey (p : Nat × Nat × Nat) : List (Nat × Nat × Nat) → List (Nat × Nat × Nat)
  | [] => [p]
  | q :: t => if p.1 < q.1 then p :: q :: t else q :: insertKey p t

/-- Runs of consecutive adds, or of consecutive removes, of an ordered list (R260 RANK). -/
def runsOf : List (Nat × Nat × Nat) → List (List (Nat × Nat))
  | [] => []
  | p :: t =>
    match t, runsOf t with
    | q :: _, r :: rs => if decide (p.2.2 = 0) = decide (q.2.2 = 0) then (p.2 :: r) :: rs else [p.2] :: r :: rs
    | _, _ => [[p.2]]

/-- The steps of a change to an aspect from the lamps as they are commanded: positions with their new codes (R260). -/
def State.changeSteps (s : State) (h a : Nat) : List (List (Nat × Nat)) :=
  let ps := (s.headChans h).zipIdx.map (fun q => (q.2, (s.chan q.1).code, s.aspCode h a q.2))
  let adds := (ps.filter (fun q => q.2.1 = 0 && q.2.2 ≠ 0)).map (fun q => (q.1, q.2.2))
  let rems := (ps.filter (fun q => q.2.1 ≠ 0 && q.2.2 = 0)).map (fun q => (q.1, 0))
  let swaps := (ps.filter (fun q => q.2.1 ≠ 0 && q.2.2 ≠ 0 && q.2.1 ≠ q.2.2)).map (fun q => (q.1, q.2.2))
  let steps : List (List (Nat × Nat)) :=
    match s.headNat 5 h with
    | 0 => runsOf (((adds.map (fun q => (2 * s.posRank h q.1, q))) ++
        (rems.map (fun q => (2 * s.posRank h q.1 + 1, q)))).foldl (fun l p => insertKey p l) [])
    | 1 => [adds, rems].filter (· ≠ [])
    | _ => [adds ++ rems].filter (· ≠ [])
  if swaps = [] then steps
  else
    -- new codes go into step 1: with MAKE_FIRST that is the step of the adds
    match s.headNat 5 h, steps with
    | 1, st => if adds = [] then swaps :: st else (swaps ++ st.headD []) :: st.tail
    | _, st => (swaps ++ st.headD []) :: st.tail

/-- What Table 8.8 has a head show before fallback: the resolved demand in the run family, else the safe aspect. -/
def State.headBase (s : State) (h : Nat) : Nat :=
  if s.md.mode = .family then (s.head h).demand else s.headNat 3 h

/-- The last step of a change has been applied (R260); a return from fallback ends it (R264). -/
def State.headFinish (s : State) (h : Nat) : State :=
  let x := s.head h
  match x.change with
  | none => s
  | some c =>
    let prev := x.shown
    let back := x.fallback && c.target = s.headBase h && s.failedIn h c.target = []
    let dur := (s.clk.up - c.t0) / 100000
    let s := s.setHead h { x with
      shown := c.target
      change := none
      changes := x.changes + 1
      fallback := x.fallback && !back
      goal := if back then none else x.goal }
    let s := s.emit (srcHead h) Code.ASPECT_SHOWN
      (le 1 c.target ++ le 1 prev ++ le 2 (s.cfg.sig.meaning h c.target) ++ le 1 c.cause ++ le 1 c.total ++
        le 2 (min 0xFFFF dur))
    if back then
      ((s.put (LMP_FB.H h) 0).headSync).emit (srcHead h) Code.HEAD_FALLBACK_END (le 1 c.target)
    else s

/-- The next step of the change in progress applied to the lamps. -/
def State.headStep (s : State) (h : Nat) : State :=
  let x := s.head h
  match x.change with
  | none => s
  | some c =>
    match c.rest with
    | [] => s.headFinish h
    | st :: rest =>
      let ns := s.headChans h
      let s := st.foldl (fun s q => s.setCode (ns.getD q.1 64) q.2 (s.aspGroup h c.target)) s
      let s := s.setHead h { s.head h with change := some { c with rest := rest } }
      if rest = [] then s.headFinish h else s

/-- HEAD_FALLBACK (R263). -/
def State.fallbackRecord (s : State) (h ch option : Nat) : State :=
  let x := s.head h
  (s.put LMP_EVT.FALLBACK 1).emit (srcHead h) Code.HEAD_FALLBACK
    (le 1 ch ++ le 1 option ++ le 1 x.demand ++ le 1 x.shown)

/-- A change starts (R260, R262): it abandons one in progress, runs from the lamps as they are, and applies its first
step. -/
def State.headStart (s : State) (h goal cause : Nat) : State :=
  let x := s.head h
  let known := s.failedIn h x.shown ++ s.failedIn h ((x.change.map (·.target)).getD 0x1F)
  let fresh := (s.failedIn h goal).filter (fun n => n ∉ known)
  let s := match fresh with
    | n :: _ => if s.headNat 4 h = 2 then s.fallbackRecord h n 3 else s
    | [] => s
  let st := s.changeSteps h goal
  let x := s.head h
  let s := s.setHead h { x with
    held := none, lastStart := some s.clk.up, change := some ⟨goal, cause, s.clk.up, st.length, st⟩ }
  s.headStep h

/-- Whether the minimum dwell since the start of the last change has passed (R259). -/
def State.dwellOver (s : State) (h : Nat) : Bool :=
  match (s.head h).lastStart with
  | some t => decide (t + s.headNat 7 h * 1000000 ≤ s.clk.up)
  | none => true

/-- A held demand starts once no change is in progress and the dwell has passed (R259). -/
def State.tryHeld (s : State) (h : Nat) : State :=
  let x := s.head h
  match x.held with
  | some a => if x.change.isNone && s.dwellOver h then s.headStart h a x.heldCause else s
  | none => s

/-! ### Deciding a change (R258, R259, R263, R264) -/

/-- ASPECT_DEMAND (R259): disposition and the held demand replaced (0xFF none). -/
def State.demandRecord (s : State) (h disp replaced : Nat) : State :=
  let x := s.head h
  let s := s.put LMP_EVT.DEMAND 1
  let s := if disp = 2 ∨ disp = 3 ∨ replaced ≠ 0xFF then s.put LMP_EVT.HELD 1 else s
  s.emit (srcHead h) Code.ASPECT_DEMAND
    (le 1 x.demand ++ le 1 x.dsrc ++ le 2 (s.cfg.sig.meaning h x.demand) ++ le 1 disp ++ le 1 x.dslot ++ le 1 replaced)

/-- The aspect that RESTRICT finds: the most restrictive that uses no failed lamp and is no less restrictive than the
demand; DARK if none (R263). -/
def State.restrict (s : State) (h base : Nat) : Nat :=
  let ok := (List.range 16).filter (fun a =>
    s.cfg.sig.hasAspect h a && s.aspRank h a ≤ s.aspRank h base && s.failedIn h a = [])
  ok.foldl (fun b a => if s.aspRank h b = 0 ∨ s.aspRank h a < s.aspRank h b then a else b) 0x10

/-- One decision: the head moves to the aspect that its mode, demand and failed lamps require, or holds it. `note` asks
for an `ASPECT_DEMAND`. -/
def State.headDecide (s : State) (h cause : Nat) (note : Bool) : State :=
  let x := s.head h
  let base := s.headBase h
  let course := (x.change.map (·.target)).getD x.shown
  let opt := s.headNat 4 h
  let bad := s.failedIn h base ++ s.failedIn h course
  let need := opt ≠ 2 && bad ≠ []
  let goal := if need then (if opt = 1 then 0x10 else s.restrict h base) else base
  let cause := if need then 2 else if x.fallback then 5 else cause
  let s := if need && !(x.fallback && x.goal = some goal) then
      let s := (s.put (LMP_FB.H h) 1).headSync
      (s.setHead h { s.head h with fallback := true, goal := some goal }).fallbackRecord h (bad.headD 0xFF) (opt + 1)
    else s
  let atOnce := goal = course || need || s.aspRank h goal ≤ s.aspRank h course ||
    (x.change.isNone && s.dwellOver h)
  let replaced : Nat := match x.held with
    | some a => if a = goal ∧ goal ≠ course ∧ atOnce = false then 0xFF else a
    | none => 0xFF
  let disp := if atOnce then 1 else if replaced ≠ 0xFF then 3 else 2
  let s := if note ∧ replaced ≠ 0xFF ∧ x.held ≠ some goal then
      s.setHead h { s.head h with coalesced := x.coalesced + 1 }
    else s
  let s := if note then s.demandRecord h disp replaced else s
  if goal = course then
    let s := s.setHead h { s.head h with held := none }
    if x.fallback && !need && x.change.isNone then
      let s := s.setHead h { s.head h with fallback := false, goal := none }
      ((s.put (LMP_FB.H h) 0).headSync).emit (srcHead h) Code.HEAD_FALLBACK_END (le 1 course)
    else s
  else if atOnce then (s.headStart h goal cause).tryHeld h
  else s.setHead h { s.head h with held := some goal, heldCause := cause }

/-- The decision, and a second one where the fallback of an aspect still shown leaves the demand free of failed lamps: the
head returns to it as a new change (R264). -/
def State.headAct (s : State) (h cause : Nat) (note : Bool) : State :=
  let low := s.gatesLive = false
  if low ∨ (note ∧ s.md.mode ≠ .family) then if note then s.demandRecord h 5 0xFF else s
  else
    let s := s.headDecide h cause note
    let x := s.head h
    let base := s.headBase h
    if x.fallback && s.failedIn h base = [] && (x.change.map (·.target)).getD x.shown ≠ base && x.held ≠ some base then
      s.headDecide h 5 false
    else s

/-! ### Demands (R257) -/

/-- A value that a head can show: an undefined aspect becomes the safe aspect. -/
def State.defined (s : State) (h v : Nat) : Nat := if v = 0x10 ∨ s.cfg.sig.hasAspect h v then v else s.headNat 3 h

/-- ASPECT_UNKNOWN where a value names an undefined aspect. -/
def State.unknownRecord (s : State) (h v src : Nat) : State :=
  if s.defined h v = v then s
  else (s.put LMP_EVT.UNKNOWN 1).emit (srcHead h) Code.ASPECT_UNKNOWN (le 1 v ++ le 1 src)

/-- The resolved demand with its source and slot: the more restrictive of the Bornak and the command value, the Bornak
value of two that agree, the safe aspect with neither. -/
def State.resolve (s : State) (h : Nat) : Nat × Nat × Nat :=
  let x := s.head h
  match x.bor, x.cmd with
  | some (b, src, slot), some c =>
    let b := s.defined h b
    if s.aspRank h c < s.aspRank h b then (c, 2, 0xFF) else (b, src, slot)
  | some (b, src, slot), none => (s.defined h b, src, slot)
  | none, some c => (c, 2, 0xFF)
  | none, none => (s.headNat 3 h, 2, 0xFF)

/-- The resolved demand found again; a change of it is recorded and acted on (R259). -/
def State.headUpdate (s : State) (h : Nat) : State :=
  let (v, src, slot) := s.resolve h
  let x := s.head h
  let s := (s.setHead h { x with demand := v, dsrc := src, dslot := slot }).applyLevel h
  if v = x.demand then s else s.headAct h 1 true

/-- A value from a head's Bornak connection (source 1) or its substitutes (source 3); the value in force repeated makes no record
(R259). -/
def State.headBornak (s : State) (h v src slot : Nat) : State :=
  if s.cfg.sig.hasRec 6 0x0F [h] = false then s
  else
    let s := if (s.head h).bor = some (v, src, slot) then s else s.unknownRecord h v src
    (s.setHead h { s.head h with bor := some (v, src, slot) }).headUpdate h

/-- ASPECT_COMMAND (R257): `LMP_CMD.SET` on a head; refused with disposition 0x04 while its mask bit is clear. -/
def opAspectCommand (h v : Nat) (s : State) : State :=
  let s := (s.put LMP_CMD.HEAD h).put LMP_CMD.ASPECT v
  if s.cfg.sig.hasRec 6 0x0F [h] = false then s
  else if bitOf (s.cfg.sig.nat 11 0 0x085 []) h then
    let s := s.unknownRecord h v 2
    (s.setHead h { s.head h with cmd := some (s.defined h v) }).headUpdate h
  else
    (s.put LMP_EVT.DEMAND 1).emit (srcHead h) Code.ASPECT_DEMAND
      (le 1 v ++ le 1 2 ++ le 2 (s.cfg.sig.meaning h v) ++ le 1 4 ++ le 1 0xFF ++ le 1 0xFF)

/-- LEVEL_COMMAND (R257): 1 DAY, 2 NIGHT; 3 is reserved and leaves the level set. -/
def opLevelCommand (h level : Nat) (s : State) : State :=
  let s := s.put LMP_CMD.HEAD h
  if level = 1 then s.selectLevel h false 2 else if level = 2 then s.selectLevel h true 2 else s

/-- Whether the next step of a change is due (R260): step s from (s - 1) x T_step after the start of the change on. -/
def State.stepDue (s : State) (h : Nat) (c : HChange) : Bool :=
  decide (c.t0 + (c.total - c.rest.length) * s.headNat 6 h * 1000000 ≤ s.clk.up)

/-- ASPECT_CHANGE_STEP (R260): the next step of a change in progress, once it is due. -/
def opAspectChangeStep (h : Nat) (s : State) : State :=
  match (s.head h).change with
  | some c => if s.stepDue h c then (s.headStep h).tryHeld h else s
  | none => s

/-- DWELL_EXPIRY (R259): the minimum dwell has passed, so the held demand starts if no change is in progress. -/
def opDwellExpiry (h : Nat) (s : State) : State := s.tryHeld h

/-- LMP_CLEAR_COUNTS (R267). -/
def opLmpClearCounts (s : State) : State :=
  (List.range 32).foldl (fun s h => s.setHead h { s.head h with changes := 0, coalesced := 0 }) s

/-! ### Failures and modes (R258, R263, R264) -/

/-- A lamp has failed (R263). -/
def State.headLampFailed (s : State) (n : Nat) : State :=
  match s.cfg.sig.placeOf n with
  | none => s
  | some (h, k) =>
    if s.gatesLive = false then s
    else
      let x := s.head h
      if s.headNat 4 h = 2 then
        if s.aspCode h x.shown k ≠ 0 ∨ s.aspCode h ((x.change.map (·.target)).getD 0x1F) k ≠ 0 then
          s.fallbackRecord h n 3
        else s
      else s.headAct h 2 false

/-- Failures of lamps have ended (R264). -/
def State.headLampsCleared (s : State) (ns : List Nat) : State :=
  let hs := s.headList.filter (fun h => ns.any (fun n => n ∈ s.headChans h))
  hs.foldl (fun s h => s.headAct h 1 false) s

/-- Every gate low, no sequence (Table 8.8, first row). -/
def State.headsDark (s : State) : State :=
  let s := (List.range 64).foldl (fun s n =>
    let s := s.chanDark n
    let c := s.chan n
    let s := s.setChan n { c with code := 0, pattern := false, ramp := none }
    ((s.put (LMP_CH.ON n) 0).put (LMP_CH.FLASH n) 0).lifeSwitch n false) s
  let s := s.headList.foldl (fun s h => s.setHead h { s.head h with
    shown := 0x1F, change := none, held := none, fallback := false, goal := none }) s
  (s.wr LMP_FB 0).headSync

/-- Heads on a change of mode (R258). -/
def State.headsMode (s : State) : State :=
  if s.gatesLive then s.headList.foldl (fun s h => (s.applyLevel h).headAct h 3 false) s else s.headsDark

/-! ### Loading heads (R255, R257) -/

/-- A head as a load finds it: initial level set, resolved demand from its sources, duty counts of its level. `bor` is the
substitute value of its connection. -/
def State.loadHead (s : State) (h : Nat) (bor : Option (Nat × Nat × Nat)) : State :=
  let s := s.putB (LMP_NIGHT.H h) (s.headNat 12 h = 1)
  let s := s.setHead h { Head.reset with bor := bor }
  let (v, src, slot) := s.resolve h
  let s := s.setHead h { s.head h with demand := v, dsrc := src, dslot := slot }
  let l := s.litLevel h
  let s := (s.setHead h { s.head h with level := l }).put (LMP_STBY.H h) 0
  (s.headChans h).foldl (fun s n => if s.get (LMP_CH.MODE n) = 0 then s else s.put (LMP_DUTY.DUTY n) (s.dutyAt n l)) s

/-! ### The selected head (Table 8.12) -/

/-- `LMP_HCFG` of a head. -/
def State.hcfg (s : State) (h : Nat) : Nat :=
  if s.cfg.sig.hasRec 6 0x0F [h] then
    s.headNat 3 h + 16 * s.headNat 4 h + 64 * s.headNat 5 h + 256 * (s.headChans h).length +
    65536 * (((List.range 16).filter (fun a => s.cfg.sig.hasAspect h a)).map (fun a => 2 ^ a)).sum
  else 0

/-- `LMP_HSTAT` of a head. -/
def State.hstat (s : State) (h : Nat) : Nat :=
  let x := s.head h
  x.shown + 32 * x.demand + 1024 * b2n x.change.isSome + 2048 * b2n x.held.isSome + 4096 * b2n x.fallback +
  8192 * s.get (LMP_NIGHT.H h) + 16384 * s.get (LMP_STBY.H h) + 32768 * b2n (x.dsrc = 3) + 65536 * x.level

/-- `LMP_HCNT` of a head. -/
def State.hcnt (s : State) (h : Nat) : Nat :=
  let x := s.head h
  min 0xFFFF x.changes + 65536 * min 0xFFFF x.coalesced

end Sys2Proof.Machine
end

