-- ==== Sys2Proof/Machine/Proving.lean ====
section
/-! DEFINITION. Lamp proving and the supervision converters (09_lamp_proving.md). Currents are codes of 50 uA and
voltages codes of 2.5 mV (Table 9.1), calibrated and limited to 16 bits signed (R268, R270). -/

namespace Sys2Proof.Machine

def State.sup (s : State) (c : Nat) : SupConv := sparseGet .reset s.sups c
def State.setSup (s : State) (c : Nat) (x : SupConv) : State := { s with sups := sparseSet .reset s.sups c x }
def State.uslot (s : State) (i : Nat) : SupSlot := sparseGet .reset s.uslots i
def State.setUslot (s : State) (i : Nat) (x : SupSlot) : State := { s with uslots := sparseSet .reset s.uslots i x }

/-- A current code in mA and a voltage code in units of 10 mV, to nearest. -/
def codeMa (c : Int) : Int := (c + 10) / 20
def codeCv (c : Int) : Int := (c + 2) / 4

/-! ### Calibrated codes (R268, R270, R273) -/

/-- The converter that takes a bank's captures: its own, or the other one while its own is failed or settles (R271, R275). -/
def State.proverOf (s : State) (b : Nat) : Nat :=
  let c := s.get (LMP_LV.CONV b)
  let st (c : Nat) : Nat := s.get (SUP_STAT.STATE c)
  if st c = 3 ∨ (st c = 2 ∧ st (1 - c) = 1) then 1 - c else c

/-- What a conversion gives with its converter's own corrections: an input beyond full scale gives the saturated code (R270). -/
def State.calConv (s : State) (c : Nat) (raw : Int) : Rat :=
  (satS 16 raw : Rat) * (1 + (s.geti (SUP_CAL.GAIN c) : Rat) / 100000) + (s.geti (SUP_CAL.OFS c) : Rat) / 100

/-- The code of a path with an offset in codes and a gain error in 0.01 %. -/
def calPath (x ofs : Rat) (gain : Int) : Int := satS 16 (roundHalf ((x - ofs) / (1 + (gain : Rat) / 10000)))

/-- The calibrated codes of a channel's shunt current (offset in 0.1 mA: two codes) and drain (offset in 10 mV: four codes), and of a
bank's supply, from what the converter reads. -/
def State.calLsBy (s : State) (c n : Nat) (raw : Int) : Int :=
  calPath (s.calConv c raw) (2 * s.geti (LMP_CAL.OFS n) : Int) (s.geti (LMP_CAL.GAIN n))
def State.calLdBy (s : State) (c n : Nat) (raw : Int) : Int :=
  calPath (s.calConv c raw) (4 * (s.prv n).ofsLd : Int) (s.prv n).gainLd
def State.calLs (s : State) (n : Nat) (raw : Int) : Int := s.calLsBy (s.proverOf (n / 16)) n raw
def State.calLd (s : State) (n : Nat) (raw : Int) : Int := s.calLdBy (s.proverOf (n / 16)) n raw
def State.calLv (s : State) (b : Nat) (raw : Int) : Int := calPath (s.calConv (s.proverOf b) raw) 0 0

/-- The latest `LVb` code of a channel's bank. -/
def State.lvCode (s : State) (n : Nat) : Int := (s.bank (n / 16)).volt

/-- Whether a channel's bank supply is lost. -/
def State.supplyLost (s : State) (n : Nat) : Bool := s.on (LMP_LV.LOST (n / 16))

/-- N_dark of a channel after R277. -/
def State.nDark (s : State) (n : Nat) : Nat := s.get (LMP_PCFG.NDARK n) + 1

/-- Whether a drain code lies below the dark drain low of a channel (R281). -/
def State.drainLow (s : State) (n : Nat) (drain : Int) : Bool :=
  decide (100 * drain < (s.get (LMP_PCFG.DRAIN n) : Int) * s.lvCode n)

/-! ### Failure and recovery (R289) -/

/-- A finding noted as present or absent, with `COUNT` and the continuous pass that automatic recovery needs. -/
def State.finding (s : State) (n cause : Nat) (bad : Bool) : State :=
  let x := s.prv n
  let l := x.bad.filter (fun c => c ≠ cause)
  let x := { x with
    bad := if bad then l ++ [cause] else l
    goodSince := if bad then none else if x.goodSince.isNone && l = [] then some s.clk.up else x.goodSince }
  (s.setPrv n x).put (LMP_PRV.COUNT n) (min 7 (if s.litNow n then x.run else max x.stuck (max x.dopen x.cold)))

/-- LAMP_FAIL's state byte. -/
def State.lampState (s : State) (n : Nat) : Nat :=
  if 2 ≤ (s.chan n).code then 3 else if s.litNow n || (s.chan n).applied = 1 then 1 else 2

/-- A channel fails with a cause, or a failed channel shows a further one (R289). SUPPLY makes no record of its own
(R287). -/
def State.lampFail (s : State) (n cause : Nat) (cur drain : Int) (other : Nat) : State :=
  let x := s.prv n
  let record (s : State) : State :=
    if cause = 0x0A then s
    else
      (s.put LMP_PEVT.FAIL 1).emit (srcLamp n) Code.LAMP_FAIL
        (le 1 cause ++ le 1 (s.lampState n) ++ leI 2 (satS 16 (codeMa cur)) ++ leI 2 (satS 16 (codeCv drain)) ++
          le 1 (if s.get (LMP_CH.HEAD n) = 0x1F then 0xFF else s.get (LMP_CH.HEAD n)) ++ le 1 other)
  if s.proved n = false then s
  else if s.lampFailed n then
    if cause ∈ x.found then s else record (s.setPrv n { x with found := x.found ++ [cause] })
  else
    let s := s.setPrv n { x with found := [cause], failAt := s.clk.up, goodSince := none }
    let s := (s.put (LMP_PRV.STATE n) 3).put (LMP_PRV.CAUSE n) cause
    let s := (record ((s.put (LMP_FAIL.C (n / 32) (n % 32)) 1).provingSync))
    s.headLampFailed n

/-- The end of one failure, with LAMP_RESTORED: 1 automatic, 2 command, 3 supply restored, 4 channel set OFF. -/
def State.lampRestore (s : State) (n how : Nat) : State :=
  let cause := s.get (LMP_PRV.CAUSE n)
  let x := s.prv n
  let s := s.setPrv n { x with run := 0, stuck := 0, dopen := 0, cold := 0, nbrLo := 0, nbrHi := 0, found := [],
                               bad := [], goodSince := none }
  let s := s.puts [(LMP_CH.HELDOFF n, 0), (LMP_PRV.CAUSE n, 0), (LMP_PRV.COUNT n, 0), (LMP_FAIL.C (n / 32) (n % 32), 0)]
  let s := s.put (LMP_PRV.STATE n) (if how = 4 then 0 else if s.litNow n then 1 else 2)
  ((s.provingSync).put LMP_PEVT.RESTORED 1).emit (srcLamp n) Code.LAMP_RESTORED (le 1 cause ++ le 1 how)

/-- Failures that one happening ends together. -/
def State.lampsRestore (s : State) (ns : List Nat) (how : Nat) : State :=
  (ns.foldl (fun s n => s.lampRestore n how) s).headLampsCleared ns

/-- Whether `CLEAR` may end a failure: none of the conditions found in it is present now (R289). -/
def State.clearable (s : State) (n : Nat) : Bool :=
  s.lampFailed n &&
  (s.get (LMP_PRV.CAUSE n) = 3 || (s.prv n).found.all (fun c => c ∉ (s.prv n).bad))

/-- LAMP_CLEAR (R289). -/
def opLampClear (n : Nat) (s : State) : State :=
  let s := s.put LMP_PCMD.CHAN n
  if s.clearable n then s.lampsRestore [n] 2 else s

/-- LAMP_CLEAR_ALL (R289). -/
def opLampClearAll (s : State) : State := s.lampsRestore ((List.range 64).filter (fun n => s.clearable n)) 2

/-- Whether a failed channel has passed everything for its bank's recovery time (R289). -/
def State.recovered (s : State) (n : Nat) : Bool :=
  match (s.prv n).goodSince with
  | some t => decide (t + s.get (LMP_LV.RECOV (n / 16)) * 1000000000 ≤ s.clk.up)
  | none => false

/-- AUTO_RECOVERY (R289): every sample and test has passed for the recovery time. -/
def opAutoRecovery (n : Nat) (s : State) : State :=
  let c := s.get (LMP_PRV.CAUSE n)
  if s.lampFailed n ∧ s.on (LMP_PCFG.AUTO n) ∧ c ≠ 3 ∧ c ≠ 6 ∧ c ≠ 9 ∧ (s.prv n).bad = [] ∧ s.recovered n then
    s.lampsRestore [n] 1
  else s

/-! ### Lit proving (R279, R280) -/

/-- Whether a channel is in its inrush blanking. -/
def State.blanking (s : State) (n : Nat) : Bool :=
  s.litNow n && decide (s.clk.up < (s.prv n).litSince + s.get (LMP_PCFG.BLANK n) * 1000000)

/-- The cause of a failing lit sample; 0 where it passes (R279). -/
def State.litCause (s : State) (n : Nat) (cur drain : Int) : Nat :=
  if cur < 20 * (s.get (LMP_BAND.LO n) : Int) then 1
  else if 20 * (s.get (LMP_BAND.HI n) : Int) < cur then 2
  else if s.get (LMP_CH.MODE n) = 2 ∧ 4 * s.lvCode n < 5 * drain then 4
  else 0

/-- Whether the lit sample of the last on-phase is to be judged: once, from the lit sample delay after its on-edge on (R279). -/
def State.litDue (s : State) (n : Nat) : Bool :=
  let t := (s.chan n).onAt
  decide (t + 250 * s.get (LMP_PCFG.DELAY n) ≤ s.clk.up) && decide ((s.prv n).litAt ≠ some t)

/-- The off-phase of a channel's PWM period, ns (R246). -/
def State.offPhase (s : State) (n : Nat) : Nat := s.tPwm (n / 16) - s.onTime n (s.get (LMP_DUTY.DUTY n))

/-- The tests of channel n fall due n x 15.625 ms after each whole second of the Pacer's copy (R284): the last due instant, in whole
seconds from the first. -/
def State.testSlot (s : State) (n : Nat) : Nat := (s.clk.pacer + 1000000000 - n * 15625000) / 1000000000

/-- Whether a test kind of a channel has not been done since its last due instant (R282-R285). -/
def State.testPending (s : State) (n kind : Nat) : Bool := sparseGet 0 (s.prv n).slots kind ≠ s.testSlot n

/-- Whether an off-test of a channel needs an inserted pulse: it is due, and no natural off-phase lasts W_off (R283). -/
def State.insertsTest (s : State) (n : Nat) : Bool :=
  s.testPending n 1 && !s.flashing n && decide (s.offPhase n < 1000 * s.get (LMP_TEST.WOFF n))

/-- LIT_SAMPLE (R279, R243): `full` tells that the gate was at its maximum drive, `inserted` that the period carries an
inserted off-test. -/
def opLitSample (n : Nat) (cur drain : Int) (full inserted : Bool) (s : State) : State :=
  let cur := s.calLs n cur
  let drain := s.calLd n drain
  if s.proved n = false ∨ s.litNow n = false ∨ s.litDue n = false then s
  else
    let s := s.regulate n full (codeMa cur)
    let s := s.put (LMP_PRV.LAST n) (codeMa cur).toNat
    let s := s.setPrv n { s.prv n with lastLit := some cur, litAt := some (s.chan n).onAt }
    if (inserted && s.insertsTest n) ∨ s.blanking n ∨ s.supplyLost n then s
    else
      let cause := s.litCause n cur drain
      let run := if cause = 0 then 0 else (s.prv n).run + 1
      let s := s.setPrv n { s.prv n with run := run }
      let s := [1, 2, 4].foldl (fun s c => s.finding n c (c = cause)) s
      if cause = 0 then s.lampPasses n cur
      else if s.nDark n ≤ run then s.lampFail n cause cur drain 0xFF else s

/-- The comparator's limit in codes of 50 uA: 1.5 times the lit band high, limited to 1,600 mA; 1,600 mA in the inrush blanking (R280). -/
def State.tripCode (s : State) (n : Nat) : Nat := if s.blanking n then 32000 else min 32000 (30 * s.get (LMP_BAND.HI n))

/-- OVERCURRENT_TRIP (R280): the comparator of a lit channel, or of a dark one under a lit test pulse (R291), trips. The gate is held
low until the failure is cleared. -/
def opOvercurrentTrip (n : Nat) (cur drain : Int) (s : State) : State :=
  if s.proved n ∧ s.on (LMP_CH.HELDOFF n) = false ∧ (s.litNow n ∨ s.get (LMP_PCFG.COLD n) = 2) ∧
      (s.tripCode n : Int) < satS 16 cur then
    let st := s.litNow n
    let s := s.setChan n { s.chan n with gateUntil := s.clk.up }
    let s := if st then s.setPrv n { s.prv n with bad := [] } else s
    (s.lampFail n 3 (satS 16 cur) (satS 16 drain) 0xFF).put (LMP_CH.HELDOFF n) 1
  else s

/-! ### Dark proving and cold tests (R281, R282) -/

/-- A test completed: its age restarts, its overdue condition ends (R286) and it is due again a second later (R284). -/
def State.testDone (s : State) (n kind : Nat) : State :=
  let x := s.prv n
  (s.setPrv n { x with done := sparseSet 0 x.done kind (s.clk.up + 1), absSince := 0,
                       ovd := x.ovd.filter (fun k => k ≠ kind),
                       slots := sparseSet 0 x.slots kind (s.testSlot n) }).ovdSync n

/-- A test cut short by a demand (R285): counted, and not done. -/
def State.testAbsorbed (s : State) (n : Nat) : State :=
  (s.setPrv n { s.prv n with absSince := (s.prv n).absSince + 1 }).inc (LMP_TCNT.ABS n)

/-- The failures that dark samples lead to: two by current, N_dark by drain; STUCK_ON first (R281). -/
def State.darkJudge (s : State) (n : Nat) (cur drain : Int) : State :=
  let x := s.prv n
  let s := (s.finding n 6 (x.stuck ≠ 0)).finding n 5 (x.dopen ≠ 0)
  if 2 ≤ x.stuck then s.lampFail n 6 cur drain 0xFF
  else if s.nDark n ≤ x.dopen then s.lampFail n 5 cur drain 0xFF
  else s

/-- The last instant of a dark channel's grid: every 1 ms from 1 ms after it went dark on (R281). -/
def State.darkGrid (s : State) (n : Nat) : Option Nat :=
  let t := (s.chan n).gateUntil
  if t + 1000000 ≤ s.clk.up then some (s.clk.up - (s.clk.up - t) % 1000000) else none

/-- Whether the sample of that instant is still to be judged. -/
def State.darkDue (s : State) (n : Nat) : Bool := (s.darkGrid n).isSome && decide ((s.prv n).darkAt ≠ s.darkGrid n)

/-- DARK_SAMPLE (R281). -/
def opDarkSample (n : Nat) (cur drain : Int) (s : State) : State :=
  let cur := s.calLs n cur
  let drain := s.calLd n drain
  if s.proved n = false ∨ s.litNow n ∨ s.darkDue n = false ∨ s.supplyLost n then s
  else
    let x := s.prv n
    let s := s.put (LMP_PRV.LAST n) (codeMa cur).toNat
    let s := s.setPrv n { x with
      darkAt := s.darkGrid n
      stuck := if 20 * (s.get (LMP_BAND.DARK n) : Int) < cur then x.stuck + 1 else 0
      dopen := if s.drainLow n drain then x.dopen + 1 else 0 }
    s.darkJudge n cur drain

/-- COLD_TEST (R282, R285): by current the capture is also a dark sample, whose drain is not counted; by pulse it is judged
against the lit band. -/
def opColdTest (n : Nat) (cur drain : Int) (absorbed : Bool) (s : State) : State :=
  let cur := s.calLs n cur
  let drain := s.calLd n drain
  let m := s.get (LMP_PCFG.COLD n)
  if s.proved n = false ∨ m = 0 ∨ (s.chan n).code ≠ 0 ∨ (s.chan n).applied ≠ 0 ∨ s.on (LMP_CH.HELDOFF n) ∨ s.testPending n (m + 1) = false ∨
      (m = 1 ∧ s.darkDue n = false) then s
  else if absorbed then s.testAbsorbed n
  else if s.supplyLost n then s.testDone n (m + 1)
  else
    let x := s.prv n
    let icold : Int := 20 * s.get (LMP_PCFG.ICOLD n)
    let weak := if m = 1 then decide (2 * cur < icold)
      else decide (cur < 20 * (s.get (LMP_BAND.LO n) : Int) ∨ 20 * (s.get (LMP_BAND.HI n) : Int) < cur)
    let stuck := if m = 1 then (if 3 * icold < 2 * cur then x.stuck + 1 else 0) else x.stuck
    let cold := if weak then x.cold + 1 else 0
    let s := s.put (LMP_PRV.LAST n) (codeMa cur).toNat
    let s := (s.setPrv n { x with stuck := stuck, cold := cold, darkAt := if m = 1 then s.darkGrid n else x.darkAt }).testDone n (m + 1)
    let s := s.finding n 7 weak
    let s := if m = 1 then s.darkJudge n cur drain else s
    if weak ∧ s.nDark n ≤ cold then s.lampFail n 7 cur drain 0xFF else s

/-! ### Off-tests and neighbours (R283, R288) -/

/-- The neighbour part of an off-test (R288): coupling found twice in succession fails both channels. -/
def State.neighbourTest (s : State) (n : Nat) (cur drain : Int) (o : NbrObs) : State :=
  let m := if o.above then n + 1 else n - 1
  if (o.above ∧ 63 ≤ n) ∨ (o.above = false ∧ n = 0) ∨ s.get (LMP_PRV.STATE m) ≠ 2 then s
  else if o.changed then s
  else
    let second := s.calLd m o.second
    let hit := decide (2 * s.calLd m o.first < second) && !s.drainLow m second
    let x := s.prv n
    let run := if hit then (if o.above then x.nbrHi else x.nbrLo) + 1 else 0
    let s := s.setPrv n (if o.above then { x with nbrHi := run } else { x with nbrLo := run })
    let s := (s.finding n 9 hit).finding m 9 hit
    if 2 ≤ run then (s.lampFail n 9 cur drain m).lampFail m 9 0 second n else s

/-- OFF_TEST (R283, R285, R288): current and drain at the capture. -/
def opOffTest (n : Nat) (cur drain : Int) (nbrs : List NbrObs) (absorbed : Bool) (s : State) : State :=
  let cur := s.calLs n cur
  let drain := s.calLd n drain
  if s.proved n = false ∨ (s.chan n).applied = 0 ∨ s.on (LMP_CH.HELDOFF n) ∨ s.testPending n 1 = false then s
  else if absorbed then s.testAbsorbed n
  else
    let nbr := s.on (LMP_PCFG.NBR n)
    let s := s.testDone n 1
    let s := if nbr && !nbrs.any (·.changed) then s.testDone n 4 else s
    if s.supplyLost n then s
    else
      let stuck := decide (20 * (s.get (LMP_BAND.DARK n) : Int) < cur) && s.drainLow n drain
      let frozen : Bool := match (s.prv n).lastLit with
        | some c => decide ((cur - c).natAbs < 2) && decide ((s.get (LMP_PCFG.DRAIN n) : Int) * s.lvCode n < 100 * drain)
        | none => false
      let s := (s.finding n 6 stuck).finding n 8 (frozen && !stuck)
      let s := if stuck then s.lampFail n 6 cur drain 0xFF else if frozen then s.lampFail n 8 cur drain 0xFF else s
      if nbr then nbrs.foldl (fun s o => s.neighbourTest n cur drain o) s else s

/-! ### Overdue tests (R286) -/

/-- Whether a test kind serves a channel's present state: 1 off-test, 2 cold current, 3 lit pulse, 4 neighbour. -/
def State.testServes (s : State) (n kind : Nat) : Bool :=
  let lit := (s.chan n).applied ≠ 0
  match kind with
  | 1 => lit
  | 4 => lit && s.on (LMP_PCFG.NBR n)
  | k => !lit && (s.chan n).code = 0 && s.get (LMP_PCFG.COLD n) + 1 = k && k ≠ 1

/-- The age of a due test kind in seconds. -/
def State.testAge (s : State) (n kind : Nat) : Nat :=
  let x := s.prv n
  (s.clk.up - max x.since (sparseGet 0 x.done kind - 1)) / 1000000000

/-- Whether that age exceeds the test maximum interval. -/
def State.testLate (s : State) (n kind : Nat) : Bool :=
  let x := s.prv n
  decide (max x.since (sparseGet 0 x.done kind - 1) + s.get (LMP_TEST.MAXINT n) * 1000000000 < s.clk.up)

/-- TEST_OVERDUE (R286): the age of a due test kind exceeds the test maximum interval. -/
def opTestOverdue (n kind : Nat) (s : State) : State :=
  let x := s.prv n
  if s.proved n ∧ s.testServes n kind ∧ kind ∉ x.ovd ∧ s.testLate n kind then
    let s := (s.setPrv n { x with ovd := x.ovd ++ [kind] }).ovdSync n
    (s.put LMP_PEVT.OVERDUE 1).emit (srcLamp n) Code.TEST_OVERDUE
      (le 1 kind ++ le 2 (min 0xFFFF (s.testAge n kind)) ++ le 2 (min 0xFFFF x.absSince))
  else s

/-- `LMP_TCNTn.AGE`: the age of the oldest test kind due. -/
def State.oldestTest (s : State) (n : Nat) : Nat :=
  if s.proved n then
    min 0xFFFF (([1, 2, 3, 4].filter (fun k => s.testServes n k)).foldl (fun a k => max a (s.testAge n k)) 0)
  else 0

/-- PROVING_CLEAR_COUNTS (R296). -/
def opProvingClearCounts (s : State) : State := (List.range 64).foldl (fun s n => s.put (LMP_TCNT.ABS n) 0) s

/-! ### Bank supplies (R287) -/

/-- The proved channels of a bank. -/
def State.bankChans (s : State) (b : Nat) : List Nat :=
  (List.range 16).map (· + 16 * b) |>.filter (fun n => s.proved n)

/-- BANK_SUPPLY (R287), at level F1 when lost and F0 when restored (R423). -/
def State.bankRecord (s : State) (b : Nat) (lost : Bool) : State :=
  let n := ((s.bankChans b).filter (fun n => s.lampFailed n && s.get (LMP_PRV.CAUSE n) = 0x0A)).length
  (s.put LMP_PEVT.SUPPLY 1).emitAt (if lost then 1 else 0) (srcBlock 7) Code.BANK_SUPPLY
    (le 1 b ++ le 1 (b2n lost) ++ leI 2 (satS 16 (codeCv (s.bank b).volt)) ++ le 1 n)

/-- BANK_SUPPLY_SAMPLE (R287): three consecutive captures below the threshold declare the supply lost. -/
def opBankSupplySample (b : Nat) (code : Int) (s : State) : State :=
  let code := s.calLv b code
  if 7 ∉ s.cfg.sig.secs ∨ s.md.mode = .reset ∨ s.md.mode = .boot ∨ s.md.mode = .load then s
  else
    let x := s.bank b
    let thr : Int := 400 * s.get (LMP_LV.THR b)
    let s := s.putSat (LMP_LV.VOLT b) (codeCv code).toNat
    if s.on (LMP_LV.LOST b) then
      s.setBank b { x with volt := code, okSince := if thr + 400 ≤ code then some (x.okSince.getD s.clk.up) else none }
    else
      let below := if code < thr then x.below + 1 else 0
      let s := s.setBank b { x with volt := code, below := below }
      if below < 3 then s
      else
        let s := s.setBank b { s.bank b with okSince := none, lostAt := s.clk.up, below := 0 }
        let s := (s.put (LMP_LV.LOST b) 1).put LMP_PSTAT.LOST (setBitOf (s.get LMP_PSTAT.LOST) b true)
        let fresh := (s.bankChans b).filter (fun n => !s.lampFailed n)
        let s := (s.bankChans b).foldl (fun s n => s.finding n 0x0A true) s
        let s := fresh.foldl (fun s n => s.lampFail n 0x0A 0 code 0xFF) s
        s.bankRecord b true

/-- Whether a lost supply has stayed 1 V above its threshold for 100 ms. -/
def State.supplyBack (s : State) (b : Nat) : Bool :=
  match (s.bank b).okSince with
  | some t => decide (t + 100000000 ≤ s.clk.up)
  | none => false

/-- BANK_SUPPLY_RESTORED (R287): `LVb` has stayed 1 V above the threshold for 100 ms. -/
def opBankSupplyRestored (b : Nat) (s : State) : State :=
  let x := s.bank b
  if s.on (LMP_LV.LOST b) ∧ s.supplyBack b then
    let s := (s.put (LMP_LV.LOST b) 0).put LMP_PSTAT.LOST (setBitOf (s.get LMP_PSTAT.LOST) b false)
    let s := (s.setBank b { x with okSince := none }).bankRecord b false
    let s := (s.bankChans b).foldl (fun s n => s.finding n 0x0A false) s
    s.lampsRestore ((s.bankChans b).filter (fun n => s.lampFailed n &&
      (s.get (LMP_PRV.CAUSE n) = 0x0A || (x.lostAt ≤ (s.prv n).failAt + 20000000 && (s.prv n).failAt ≤ x.lostAt)))) 3
  else s

/-! ### Supervision converters (R268-R275) -/

/-- Converters in service: RUN or SETTLING. -/
def State.supsLeft (s : State) : List Nat := [0, 1].filter (fun c => s.get (SUP_STAT.STATE c) = 1 || s.get (SUP_STAT.STATE c) = 2)

/-- `SUP_STAT.FAILOVER`, `LMP_PSTAT.CONVc` and `SUP_LOADc.USER` brought up to date. -/
def State.supSync (s : State) : State :=
  let run := ([0, 1].filter (fun c => s.get (SUP_STAT.STATE c) = 1)).length
  let user (c : Nat) : Nat := ((List.range 256).filter (fun i => (s.uslot (256 * c + i)).active)).length
  s.puts [(SUP_STAT.FAILOVER, b2n (run = 1)), (LMP_PSTAT.CONV0, b2n (0 ∈ s.supsLeft)), (LMP_PSTAT.CONV1, b2n (1 ∈ s.supsLeft)),
    (SUP_LOAD.USER 0, user 0), (SUP_LOAD.USER 1, user 1)]

/-- The proving slots that a converter carries: three per proved channel and one per bank that it proves; both converters'
where the other has failed. -/
def State.provingSlots (s : State) (c : Nat) (both : Bool) : Nat :=
  (((List.range 4).filter (fun b => both || s.get (LMP_LV.CONV b) = c)).map (fun b => 1 + 3 * (s.bankChans b).length)).sum

/-- A user slot stopped. -/
def State.uslotStop (s : State) (i : Nat) : State :=
  (s.setUslot i { s.uslot i with active := false, out := false, run := 0 }).put (SUP_OUT.S (i / 32) (i % 32)) 0

/-- A converter fails (R275): cause 1 check conversion, 2 handshake, 3 paths. The other carries every proving slot and as
many of its user slots as fit; with none left every proved channel fails with cause CONVERTER. -/
def State.supFail (s : State) (c cause : Nat) : State :=
  if c ∉ s.supsLeft then s
  else
    let s := (s.put (SUP_STAT.STATE c) 3).put (SUP_EVT.FAIL c) 1
    let s := (List.range 256).foldl (fun s i => if (s.uslot (256 * c + i)).active then s.uslotStop (256 * c + i) else s) s
    let o := 1 - c
    let left := s.supsLeft.length
    let room := 256 - s.provingSlots o true
    let act := ((List.range 256).map (· + 256 * o)).filter (fun i => (s.uslot i).active)
    let s := if left = 1 then (act.drop room).foldl (fun s i => s.uslotStop i) s else s
    let s := s.supSync
    let s := s.emitAt (if left = 0 then 3 else 1) (srcBlock 8) Code.SUP_FAIL (le 1 c ++ le 1 cause ++ le 1 left)
    if left = 0 then
      ((List.range 64).filter (fun n => s.proved n)).foldl
        (fun s n => (s.finding n 0x0C true).lampFail n 0x0C 0 0 0xFF) s
    else s

/-- CONVERTER_CHECK (R275): the deviation of the 1.250 V check in 0.01 %, with the corrections and the conversion rate that
`SUP_CALc` and `SUP_LOADc` report. -/
def opConverterCheck (c : Nat) (err gain ofs : Int) (rate : Nat) (s : State) : State :=
  if c ∉ s.supsLeft then s
  else
    let s := ((s.puti (SUP_CAL.GAIN c) (satS 16 gain)).puti (SUP_CAL.OFS c) (satS 16 ofs)).putSat (SUP_LOAD.RATE c) rate
    let n := if 50 < err.natAbs then (s.sup c).badCheck + 1 else 0
    let s := s.setSup c { s.sup c with badCheck := n }
    if 2 ≤ n then s.supFail c 1 else s

/-- CONVERTER_HANDSHAKE_STALL (R275). -/
def opConverterHandshakeStall (c : Nat) (s : State) : State := s.supFail c 2

/-- Nanoseconds until the next period start at which a channel may light, until its next flash on-edge, and until the next dark sample
of a dark one; none where no such instant is known. -/
def State.nextEdges (s : State) (n : Nat) : List (Option Nat) :=
  let c := s.chan n
  let T := s.tPwm (n / 16)
  let t0 : Option Int := if s.flashing n then c.edge.map (fun t => (t : Int)) else (s.bank (n / 16)).start.map (· + s.stagger n)
  [t0.map (fun t => T - (((s.clk.up : Int) - t) % T).toNat),
   if 2 ≤ c.code then some ((360000000000 - s.flashAt c.group (c.code = 3) s.clk.pacer) / (6 * s.flashRate c.group)) else none,
   if s.litNow n then none else some (1000000 - (s.clk.up - c.gateUntil) % 1000000)]

/-- Whether a calibration window of 12 us may begin here (R273): the gate is off, the window ends 2 us or more before every instant above,
and the converter took its last path 50 ms ago or more. -/
def State.calWindow (s : State) (n : Nat) : Bool :=
  let c := s.proverOf (n / 16)
  decide (c ∈ s.supsLeft) && decide ((s.chan n).gateUntil ≤ s.clk.up) &&
  (s.nextEdges n).all (fun d => match d with | some d => decide (14000 ≤ d) | none => true) &&
  (match (s.sup c).calAt with | some t => decide (t + 50000000 ≤ s.clk.up) | none => true)

/-- CALIBRATION_WINDOW (R273-R275): gain error in 0.01 % and offset in 0.1 mA (`LS`) or 10 mV (`LD`). -/
def opCalibrationWindow (n : Nat) (ld : Bool) (gain ofs : Int) (s : State) : State :=
  let c := s.proverOf (n / 16)
  if s.proved n = false ∨ s.calWindow n = false then s
  else
    let s := s.setSup c { s.sup c with calAt := some s.clk.up }
    let x := s.prv n
    if gain.natAbs ≤ 200 ∧ ofs.natAbs ≤ 50 then
      let s := if ld then s else (s.puti (LMP_CAL.GAIN n) (satS 12 gain)).puti (LMP_CAL.OFS n) (satS 10 ofs)
      let x := if ld then { x with calLd := some s.clk.up, badLd := false, gainLd := gain, ofsLd := ofs } else { x with calLs := some s.clk.up, badLs := false }
      (s.setPrv n x).finding n 0x0B (x.badLs || x.badLd)
    else if (if ld then x.badLd else x.badLs) = false then
      s.setPrv n (if ld then { x with badLd := true } else { x with badLs := true })
    else
      let path := 2 * n + b2n ld
      let s := (s.put LMP_PEVT.CAL 1).emit (srcLamp n) Code.CAL_FAIL
        (le 1 (b2n ld) ++ leI 2 (satS 16 gain) ++ leI 2 (satS 16 ofs))
      let l := ((s.sup c).calFails.filter (fun q => q.1 ≠ path && s.clk.up ≤ q.2 + 10000000000)) ++ [(path, s.clk.up)]
      let s := s.setSup c { s.sup c with calFails := l }
      let s := (s.finding n 0x0B true).lampFail n 0x0B 0 0 0xFF
      if 4 ≤ l.length ∧ c ∈ s.supsLeft then
        let s := s.setSup c { s.sup c with calFails := [] }
        let ns := l.map (fun q => q.1 / 2)
        let s := ns.foldl (fun s n => (s.setPrv n { s.prv n with badLs := false, badLd := false }).finding n 0x0B false) s
        let s := s.supFail c 3
        s.lampsRestore (((List.range 64).filter (fun n => n ∈ ns)).filter
          (fun n => s.lampFailed n && s.get (LMP_PRV.CAUSE n) = 0x0B)) 1
      else s

/-- A change of the reference in use (R271): the converter settles; SUP_REF with its cause. -/
def State.refChange (s : State) (c ref cause : Nat) : State :=
  let s := s.setSup c { s.sup c with refAt := s.clk.up }
  let s := (s.put (SUP_STAT.REF c) ref).put (SUP_EVT.REF c) 1
  let s := if s.get (SUP_STAT.STATE c) = 1 then s.put (SUP_STAT.STATE c) 2 else s
  (s.supSync).emit (srcBlock 8) Code.SUP_REF (le 1 c ++ le 1 ref ++ le 1 cause)

/-- SUP_REF (R271): the external reference has been out of its window for 1 ms, or back within it for 1 s. -/
def opSupRef (c : Nat) (ok : Bool) (s : State) : State :=
  let s := s.putB SUP_STAT.XREF_OK ok
  if (s.sup c).ref ≠ 1 ∨ c ∉ s.supsLeft then s
  else if ok then if s.get (SUP_STAT.REF c) = 0 then s.refChange c 1 3 else s
  else if s.get (SUP_STAT.REF c) = 1 then s.refChange c 0 2 else s

/-- REFERENCE_SETTLED (R271): 2 ms after a change. -/
def opReferenceSettled (c : Nat) (s : State) : State :=
  if s.get (SUP_STAT.STATE c) = 2 ∧ (s.sup c).refAt + 2000000 ≤ s.clk.up then (s.put (SUP_STAT.STATE c) 1).supSync else s

/-- The last trigger of a user slot (R269): a whole number of timer periods from the load on, or the last gate edge named and the
delay after it. -/
def State.slotTrigger (s : State) (i : Nat) : Option Nat :=
  let p := s.cfg.sig
  let v (r : Nat) : Nat := p.nat 7 0x13 (0x180 + r) [i]
  if v 2 = 0 then
    let t := (s.uslot i).loadedAt
    let q := 1000 * v 3
    if t + q ≤ s.clk.up then some (s.clk.up - (s.clk.up - t) % q) else none
  else
    let c := s.chan (v 4)
    let t := if v 5 = 0 then c.onAt else c.gateUntil
    if t ≠ 0 ∧ t + 250 * v 6 ≤ s.clk.up then some t else none

/-- The calibrated code of an input of Table 9.1, as a converter's user slot reads it. -/
def State.slotCode (s : State) (c input : Nat) (raw : Int) : Int :=
  if input < 0x40 then s.calLsBy c input raw
  else if input < 0x80 then s.calLdBy c (input - 0x40) raw
  else calPath (s.calConv c raw) 0 0

/-- USER_SLOT_TRIGGER (R269, R270): `busy` tells that the previous capture has not yet been converted. -/
def opUserSlotTrigger (i : Nat) (code : Int) (busy : Bool) (s : State) : State :=
  let x := s.uslot i
  let c := i / 256
  let t := s.slotTrigger i
  if x.active = false ∨ t = none ∨ x.last = t then s
  else if busy then
    ((s.setUslot i { x with last := t }).setSup c { s.sup c with skipped := (s.sup c).skipped + 1 }).inc (SUP_LOAD.MISSED c)
  else
    let ovr := decide (code < -32768 ∨ 32767 < code)
    let v := s.slotCode c (s.cfg.sig.nat 7 0x13 0x181 [i]) code
    let settling := decide (s.get (SUP_STAT.STATE c) = 2)
    let s := if ovr then s.put (SUP_EVT.OVR c) 1 else s
    let x := { x with code := v, ovr := ovr, settling := settling, last := t }
    if settling then s.setUslot i x
    else
      let p := s.cfg.sig
      let out := ovr || decide (v < p.num 7 0x13 0x187 [i] ∨ p.num 7 0x13 0x188 [i] < v)
      let run := if out = x.out then 0 else x.run + 1
      if p.nat 7 0x13 0x189 [i] ≤ run then
        let s := (s.setUslot i { x with out := out, run := 0 }).putB (SUP_OUT.S (i / 32) (i % 32)) out
        (s.put (SUP_EVT.BAND c) 1).emit (srcBlock 8) Code.SUP_BAND
          (le 1 c ++ le 1 (i % 256) ++ leI 2 v ++ le 1 (b2n out) ++ le 1 (b2n ovr))
      else s.setUslot i { x with run := run }

/-- SUP_MISSED (R269). -/
def opSupMissed (c : Nat) (s : State) : State :=
  let x := s.sup c
  if x.skipped = 0 ∨ (x.missAt.isSome ∧ s.clk.up < x.missAt.getD 0 + 1000000000) then s
  else
    ((s.setSup c { x with skipped := 0, missAt := some s.clk.up }).put (SUP_EVT.MISS c) 1).emit (srcBlock 8) Code.SUP_MISSED
      (le 1 c ++ le 2 (min 0xFFFF x.skipped))

/-- SUP_CLEAR_COUNTS (R298). -/
def opSupClearCounts (s : State) : State := (s.put (SUP_LOAD.MISSED 0) 0).put (SUP_LOAD.MISSED 1) 0

/-! ### Test patterns and the matrix test (R292, R293) -/

/-- The heads with a channel in a bank. -/
def State.bankHeads (s : State) (b : Nat) : List Nat := s.headList.filter (fun h => (s.headChans h).any (fun n => n / 16 = b))

/-- The heads whose consent a pattern on a channel needs. -/
def State.patternHeads (s : State) (n : Nat) : List Nat :=
  match s.cfg.sig.placeOf n with
  | some (h, _) => [h]
  | none => s.bankHeads (n / 16)

def State.consented (s : State) (hs : List Nat) : Bool := hs.all (fun h => (s.head h).consent)

/-- `LMP_PSTAT.PATTERN`. -/
def State.patternSync (s : State) : State :=
  s.putB LMP_PSTAT.PATTERN ((List.range 64).any (fun n => (s.chan n).pattern))

/-- LIGHT (R292): a channel lit as a test pattern at its head's day level; the head then shows the pattern. A channel in no
head has no stated level: a free one. -/
def opLight (n : Nat) (s : State) : State :=
  let s := s.put LMP_PCMD.CHAN n
  if s.md.mode ≠ .commission ∨ s.get (LMP_CH.MODE n) = 0 ∨ s.consented (s.patternHeads n) = false then s
  else
    match s.cfg.sig.placeOf n with
    | some (h, _) =>
      let ns := s.headChans h
      let s := if ns.any (fun m => (s.chan m).pattern) then s
        else
          let s := ns.foldl (fun s m => s.setCode m 0 0) s
          s.setHead h { s.head h with shown := 0x1F, change := none, held := none }
      let s := s.setDuty n (s.dutyAt n (s.headNat 8 h)) 0
      ((s.setChan n { s.chan n with pattern := true }).setCode n 1 0).patternSync
    | none =>
      let d := s.dutyAt n (min 1000 (s.free 10))
      let s := (s.drawn).setDuty n d 0
      ((s.setChan n { s.chan n with pattern := true }).setCode n 1 0).patternSync

/-- The patterns of some channels end (R292): 1 command, 2 consent lost, 3 mode left. Their heads return to the safe aspect
where the mode shows one. -/
def State.patternsEnd (s : State) (ns : List Nat) (reason : Nat) : State :=
  let hs := s.headList.filter (fun h => (s.headChans h).any (fun n => n ∈ ns && (s.chan n).pattern))
  let s := ns.foldl (fun s n =>
    if (s.chan n).pattern then
      let s := s.setChan n { s.chan n with pattern := false }
      if (s.cfg.sig.placeOf n).isSome then s else s.setCode n 0 0
    else s) s
  hs.foldl (fun s h =>
    let s := (s.headChans h).foldl (fun s n =>
      let l := (s.head h).level
      if (s.chan n).pattern then s else s.setDuty n (s.dutyAt n l) 0) s
    let s := (s.put LMP_PEVT.PATEND 1).emit (srcHead h) Code.PATTERN_END (le 1 reason)
    if s.md.mode = .commission then s.headStart h (s.headNat 3 h) 3 else s) s.patternSync

/-- DARK_ALL (R292). -/
def opDarkAll (s : State) : State := s.patternsEnd (List.range 64) 1

/-- MATRIX_DONE (Table 9.8). -/
def State.matrixRecord (s : State) (n mask : Nat) (complete : Bool) : State :=
  (s.put LMP_PEVT.MATRIX 1).emit (srcBlock 7) Code.MATRIX_DONE (le 1 n ++ le 8 mask ++ le 1 (b2n complete))

/-- The matrix test aborted (R293). -/
def State.matrixAbort (s : State) : State :=
  match s.matrix.left with
  | [] => s
  | n :: _ =>
    let s := { s with matrix := { s.matrix with left := [] } }
    (s.put LMP_PSTAT.MATRIX 0).matrixRecord n 0 false

/-- MATRIX (R293). -/
def opMatrix (s : State) : State :=
  if s.md.mode = .commission ∧ s.consented s.headList ∧ s.matrix.left = [] then
    let ns := (List.range 64).filter (fun n => s.proved n)
    { s with matrix := ⟨ns, [], s.clk.up⟩ }.putB LMP_PSTAT.MATRIX (ns ≠ [])
  else s

/-- MATRIX_DRIVE_STEP (R293): the drive of the next channel ends with its own test current `drive` and what the other
proved channels showed. -/
def opMatrixDriveStep (drive : Int) (obs : List MatrixObs) (s : State) : State :=
  match s.matrix.left with
  | [] => s
  | n :: rest =>
   if s.clk.up < s.matrix.since + 2000000 then s
   else
    let drive := s.calLs n drive
    let hit := (obs.filter (fun o => o.chan < 64 && o.chan ≠ n && s.proved o.chan &&
      (decide (drive ≤ 2 * s.calLs o.chan o.cur) || decide (2 * s.calLd o.chan o.during < s.calLd o.chan o.before)))).map (·.chan)
    let mask := ((List.range 64).filter (fun m => m ∈ hit)).map (fun m => 2 ^ m) |>.sum
    let s := { s with matrix := ⟨rest, sparseSet 0 s.matrix.coupled n mask, s.clk.up⟩ }
    let s := (s.putB LMP_PSTAT.MATRIX (rest ≠ [])).matrixRecord n mask true
    ((List.range 64).filter (fun m => m ∈ hit)).foldl (fun s m =>
      let s := (s.finding n 9 true).finding m 9 true
      (s.lampFail n 9 drive 0 m).lampFail m 9 0 0 n) s

/-- A head's consent flag as its connection gives it (R292): patterns and the matrix test end when it is lost. -/
def State.headConsent (s : State) (h : Nat) (b : Bool) : State :=
  let had := (s.head h).consent
  let s := s.setHead h { s.head h with consent := b }
  if had && !b && s.md.mode = .commission then
    let matrix := s.matrix.left ≠ []
    let s := s.matrixAbort
    s.patternsEnd ((List.range 64).filter (fun n => matrix || h ∈ s.patternHeads n)) 2
  else s

/-- COMMISSION left (R292). -/
def State.commissionLeft (s : State) : State := (s.matrixAbort).patternsEnd (List.range 64) 3

/-! ### Loading (R276, R295, R297) -/

/-- The applied cold method (R276): AUTO is CURRENT for FILAMENT and LED, PULSE for LED_DRIVER. -/
def Plane.coldMethod (p : Plane) (n : Nat) : Nat :=
  match p.nat 7 0x0E 0x108 [n] with
  | 0 => if p.nat 7 0x0E 0x082 [n] = 2 then 2 else 1
  | m => m - 1

/-- The proving registers of a channel under a plane. A channel set OFF leaves proving, its failure ends (R289); one newly
proved starts DARK; others go on. -/
def State.loadProvingChan (s : State) (p : Plane) (n : Nat) : State :=
  let has := p.hasRec 7 0x0E [n]
  let mode := if has then p.nat 7 0x0E 0x081 [n] else 0
  let v (r : Nat) : Nat := if has then p.nat 7 0x0E (0x100 + r) [n] else 0
  let s := s.puts [(LMP_BAND.LO n, v 1), (LMP_BAND.HI n, v 2), (LMP_BAND.DARK n, v 3), (LMP_PCFG.DRAIN n, v 4),
    (LMP_PCFG.NDARK n, v 5 - 1), (LMP_PCFG.BLANK n, v 6), (LMP_PCFG.DELAY n, v 7),
    (LMP_PCFG.COLD n, if has then p.coldMethod n else 0), (LMP_PCFG.ICOLD n, v 9), (LMP_TEST.WCOLD n, v 10),
    (LMP_TEST.WLIT n, v 11), (LMP_TEST.WOFF n, v 12), (LMP_TEST.MAXINT n, v 13), (LMP_PCFG.NBR n, v 14),
    (LMP_PCFG.AUTO n, v 15)]
  if mode = 0 then
    let s := if s.lampFailed n then s.lampsRestore [n] 4 else s
    ((s.setPrv n .reset).puts [(LMP_PRV.STATE n, 0), (LMP_PRV.FLASH n, 0), (LMP_PRV.COUNT n, 0),
      (LMP_OVD.C (n / 32) (n % 32), 0)]).provingSync
  else if s.get (LMP_PRV.STATE n) = 0 then
    (s.setPrv n { Prv.reset with since := s.clk.up }).put (LMP_PRV.STATE n) 2
  else s

/-- The proving and converter registers under a plane. -/
def State.loadProving (s : State) (p : Plane) : State :=
  let s := (List.range 4).foldl (fun s b =>
    if 7 ∈ p.secs then s.puts [(LMP_LV.CONV b, p.nat 7 0x0D 0x0C1 [b]), (LMP_LV.THR b, p.nat 7 0x0D 0x0C2 [b]),
      (LMP_LV.RECOV b, p.nat 7 0x0D 0x0C3 [b])] else s) s
  let s := (List.range 64).foldl (fun s n => s.loadProvingChan p n) s
  let s := [0, 1].foldl (fun s c =>
    let ref := if 7 ∈ p.secs then p.nat 7 0x12 0x141 [c] else 0
    let s := s.setSup c { s.sup c with ref := ref }
    let s := if s.get (SUP_STAT.STATE c) = 3 then s
      else if 7 ∈ p.secs then (if s.get (SUP_STAT.STATE c) = 0 then s.put (SUP_STAT.STATE c) 1 else s)
      else s.put (SUP_STAT.STATE c) 0
    if c ∈ s.supsLeft ∧ s.get (SUP_STAT.REF c) ≠ ref then s.refChange c ref 1 else s) s
  let s := (List.range 512).foldl (fun s i =>
    let want := p.hasRec 7 0x13 [i] && s.get (SUP_STAT.STATE (i / 256)) ≠ 3
    if want then s.setUslot i { s.uslot i with active := true, loadedAt := s.clk.up, last := none }
    else if (s.uslot i).active then s.uslotStop i else s) s
  s.supSync

/-! ### The selected slot (Table 9.12) -/

def State.supScfg (s : State) (i : Nat) : Nat :=
  let p := s.cfg.sig
  if p.hasRec 7 0x13 [i] then
    p.nat 7 0x13 0x181 [i] + 256 * p.nat 7 0x13 0x182 [i] + 512 * p.nat 7 0x13 0x185 [i] + 1024 * p.nat 7 0x13 0x184 [i] +
    65536 * p.nat 7 0x13 0x186 [i] + 67108864 * p.nat 7 0x13 0x189 [i] + 2147483648 * b2n (s.uslot i).active
  else 0

def State.supSper (s : State) (i : Nat) : Nat := if s.cfg.sig.hasRec 7 0x13 [i] then s.cfg.sig.nat 7 0x13 0x183 [i] else 0

def State.supSband (s : State) (i : Nat) : Nat :=
  if s.cfg.sig.hasRec 7 0x13 [i] then
    ofSigned 16 (s.cfg.sig.num 7 0x13 0x187 [i]) + 65536 * ofSigned 16 (s.cfg.sig.num 7 0x13 0x188 [i])
  else 0

def State.supSval (s : State) (i : Nat) : Nat :=
  let x := s.uslot i
  ofSigned 16 x.code + 65536 * b2n x.ovr + 131072 * b2n x.settling + 262144 * b2n x.out

end Sys2Proof.Machine
end

