-- ==== Sys2Proof/Machine/SafetyIo.lean ====
section
/-! DEFINITION. Safety inputs, outputs and brakes (10_safety_io.md): test-pulse sources (R302, R303), inputs and pairs
(R304-R308), outputs with EDM (R309-R313), brake channels (R314-R317), the clear commands (R308, R313) and pairing
(R324). -/

namespace Sys2Proof.Machine

def srcSio : Nat := srcBlock 9

def State.tpo (s : State) (k : Nat) : Tpo := sparseGet .reset s.sio.tpos k
def State.setTpo (s : State) (k : Nat) (x : Tpo) : State :=
  { s with sio := { s.sio with tpos := sparseSet .reset s.sio.tpos k x } }
def State.sin (s : State) (i : Nat) : SIn := sparseGet .reset s.sio.ins i
def State.setSin (s : State) (i : Nat) (x : SIn) : State :=
  { s with sio := { s.sio with ins := sparseSet .reset s.sio.ins i x } }
def State.sout (s : State) (o : Nat) : SOut := sparseGet .reset s.sio.outs o
def State.setSout (s : State) (o : Nat) (x : SOut) : State :=
  { s with sio := { s.sio with outs := sparseSet .reset s.sio.outs o x } }
def State.brk (s : State) (k : Nat) : Brake := sparseGet .reset s.sio.brks k
def State.setBrk (s : State) (k : Nat) (x : Brake) : State :=
  { s with sio := { s.sio with brks := sparseSet .reset s.sio.brks k x } }

/-- Test pulses run and inputs are evaluated (Table 10.1). -/
def State.sioLive (s : State) : Bool :=
  s.md.mode = .hold || s.md.mode = .commission || s.md.mode = .family || s.md.mode = .safe || s.md.mode = .quiesce

/-- The sources enabled. -/
def State.tpoEn (s : State) : Nat := s.cfg.sig.nat 8 0 0x043 []

def State.useOf (s : State) (i : Nat) : Nat := s.get (SIO_ICFG.USE i)
def State.faultOf (s : State) (i : Nat) : Nat := s.get (SIO_IST.FAULT i)

/-- The partner of an input in its pair. -/
def partner (i : Nat) : Nat := if i % 2 = 0 then i + 1 else i - 1

/-- Whether pair p is in use. -/
def State.pairUsed (s : State) (p : Nat) : Bool :=
  s.cfg.sig.hasRec 8 0x15 [p] && s.useOf (2 * p) = 2 && s.useOf (2 * p + 1) = 2

/-- Tested inputs: in use, with a source, and not of a pair in mode DISCREPANCY (R305, R307). -/
def State.testedIn (s : State) (i : Nat) : Bool :=
  s.useOf i ≠ 0 && s.get (SIO_ICFG.SRC i) ≠ 0 && !(s.useOf i = 2 && s.on (SIO_PCFG.MODE (i / 2)))

/-! ### The test pattern (R302) -/

/-- P in ns, and the mask of a pulse: W_tp and 100 us (R304). -/
def State.patPeriod (s : State) : Nat := 1000000 * s.get SIO_GEN.PERIOD
def State.maskLen (s : State) : Nat := 100000 * s.get SIO_GEN.WTP + 100000

/-- How long ago the last pulse of source k began, in the pattern period under way. -/
def State.pulseAge (s : State) (k : Nat) : Option Nat :=
  s.sio.pattern.map (fun t => (s.clk.up - t + s.patPeriod - k * s.patPeriod / 4) % s.patPeriod)

/-- Whether a sample falls into the mask of an enabled source (R304). -/
def State.masked (s : State) : Bool :=
  (List.range 4).any (fun k => bitOf s.tpoEn k && (match s.pulseAge k with | some d => decide (d < s.maskLen) | none => false))

/-- The last instant that lies `d` after the start of a pulse of source k: none before the first. -/
def State.afterPulse (s : State) (k d : Nat) : Option Nat :=
  match s.sio.pattern with
  | none => none
  | some t =>
    let a := t + k * s.patPeriod / 4 + d
    if a ≤ s.clk.up then some (s.clk.up - (s.clk.up - a) % s.patPeriod) else none

/-- The end of the last mask of source k, at which its captures are judged (R305); the midpoint between its last pulse and the next, by
which both readbacks are taken (R303). -/
def State.maskEnd (s : State) (k : Nat) : Option Nat := s.afterPulse k s.maskLen
def State.midPulse (s : State) (k : Nat) : Option Nat := s.afterPulse k ((s.patPeriod + 100000 * s.get SIO_GEN.WTP) / 2)

/-! ### Outputs (R309, R310, R313) -/

/-- The first permit input of a mask that is not ON. -/
def State.permitOff (s : State) (mask : Nat) : Option Nat :=
  (List.range 32).find? (fun i => bitOf mask i && !s.on (SIO_LOGIC.I i))

/-- A lock of an output (R312, R313). -/
def SOut.lock (x : SOut) : Bool := x.overload || x.welded

/-- The demand of an output (R309). -/
def State.outDemand (s : State) (o : Nat) : Bool := s.get (SIO_OCFG.DEMSRC o) = 0 || bitOf s.sio.outDemand o

/-- The condition of R309 for an output, without its restart. -/
def State.outCond (s : State) (o : Nat) : Bool :=
  s.on (SIO_OCFG.USE o) && s.md.mode = .family && s.outDemand o && (s.permitOff (s.get (SIO_OPERM.MASK o))).isNone &&
  !(s.sout o).lock

/-- The registers that show an output's faults and demand (Table 10.13). -/
def State.outSync (s : State) (o : Nat) : State :=
  let x := s.sout o
  let used := s.on (SIO_OCFG.USE o)
  let bits (f : Fld) (b : Bool) (s : State) : State := s.put f (setBitOf (s.get f) o b)
  let s := bits SIO_OUT.LOCK (used && x.lock) s
  let s := bits SIO_OUT.DEMAND (used && s.outDemand o) s
  let s := bits SIO_OUT.PERMIT (used && (s.permitOff (s.get (SIO_OPERM.MASK o))).isNone) s
  let s := bits SIO_EDM.WELD x.welded s
  let s := bits SIO_EDM.LOST x.edmLost s
  let none_ := !x.stuck && !x.overload && !x.welded && !x.edmLost
  let s := if none_ then s.put (SIO_OCFG.FAULT o) 0 else s
  (s.putB (SIO_OCFG.LOCK o) x.lock).putB (SIO_OCFG.ARMED o) (used && s.on (SIO_OCFG.RESTART o) && x.armed)

/-- SO_FAULT (Table 10.11); `mv` is the readback in 100 mV. -/
def State.outFault (s : State) (o code lvl mv : Nat) : State :=
  let s := (s.put (SIO_OCFG.FAULT o) code).put SIO_EVT.OUTFAULT 1
  let s := if code = 3 ∨ code = 4 then s.put SIO_EVT.EDM 1 else s
  (s.emitAt lvl (srcOutput o) Code.SO_FAULT
    (le 1 code ++ le 2 mv ++ le 2 (min 0xFFFF ((s.clk.up - (s.sout o).switchedAt) / 1000000)))).outSync o

/-- An output's stage switched, with SO_STATE: causes of Table 10.11. With EDM a switch-on that finds `EDMo` low is refused
as WELDED (R313). -/
def State.outSwitch (s : State) (o : Nat) (on : Bool) (cause inp : Nat) : State :=
  let x := s.sout o
  if on ∧ s.on (SIO_OCFG.EDM o) ∧ x.edmLost = false ∧ x.edm = [false, false] then
    (s.setSout o { x with welded := true }).outFault o 3 1 x.mv
  else
    let s := s.setSout o { x with stage := on, switchedAt := s.clk.up, stuckN := 0 }
    (s.put SIO_EVT.OUTCHG 1).emit (srcOutput o) Code.SO_STATE
      (le 1 (b2n on) ++ le 1 cause ++ le 1 (if cause = 2 then inp else 0xFF))

/-- Every output has been judged by two samples since the cut-off switch closed; until then none is switched on (R311). -/
def State.outsChecked (s : State) : Bool := (List.range 8).all (fun o => decide (2 ≤ (s.sout o).seen))

/-- One output evaluated (R309, R310). -/
def State.outEval (s : State) (o : Nat) : State :=
  if s.on (SIO_OCFG.USE o) = false then
    if (s.sout o).stage then (s.outSwitch o false 1 0xFF).outSync o else s.outSync o
  else
    let x := s.sout o
    let now := s.clk.up
    let mode := decide (s.md.mode = .family)
    let off := s.permitOff (s.get (SIO_OPERM.MASK o))
    let demand := s.outDemand o
    let others := mode && !x.lock && off.isNone
    let manual := s.on (SIO_OCFG.RESTART o)
    let lv := s.on (SIO_LOGIC.I (s.get (SIO_OCFG.RSTIN o)))
    -- the press of the restart input
    let rstOn : Option Nat := if !others then none
      else if lv && !x.rstPrev then some now else if lv then x.rstOn else none
    let held : Bool := match x.rstOn with
      | some t => decide (t + 100000000 ≤ now ∧ now ≤ t + 5000000000)
      | none => false
    let pressed := manual && x.armed && others && !lv && x.rstPrev && held
    let armed := if !manual then x.armed else if !others then true else if pressed then false else x.armed
    let want := others && demand && !(manual && armed) && (x.stage || s.outsChecked)
    let cause :=
      if want then
        if pressed then 5
        else if mode && !x.prev.1 then 3 else if !x.lock && !x.prev.2.1 then 4 else if off.isNone && !x.prev.2.2.1 then 2 else 1
      else if !mode then 3 else if x.lock then 4 else if off.isSome then 2 else 1
    let s := s.setSout o { x with armed := armed, rstOn := rstOn, rstPrev := lv, prev := (mode && (x.stage || s.outsChecked), !x.lock, off.isNone, demand) }
    let s := if want = x.stage then s else s.outSwitch o want cause (off.getD 0xFF)
    s.outSync o

/-! ### Brakes (R314, R316) -/

def State.brkDemand (s : State) (k : Nat) : Bool := s.get (SIO_BCFG.DEMSRC k) = 0 || bitOf s.sio.brkDemand k
def Brake.lock (x : Brake) : Bool := x.notReleased

/-- The release condition of a brake (R314), apart from a test in progress. -/
def State.brkCond (s : State) (k : Nat) : Bool :=
  s.on (SIO_BCFG.USE k) && s.md.mode = .family && s.brkDemand k && (s.permitOff (s.get (SIO_BPERM.MASK k))).isNone &&
  !(s.brk k).lock

/-- Whether a brake is released: both gates on. -/
def State.released (s : State) (k : Nat) : Bool := s.on (SIO_BRK.HG k) && s.on (SIO_BRK.LG k)

/-- The registers that show a brake's state (Table 10.13). -/
def State.brkSync (s : State) (k : Nat) : State :=
  let x := s.brk k
  s.puts [(SIO_BRK.STATE k, if s.get (SIO_BCFG.USE k) = 0 then 0 else if x.lock then 3 else if s.released k then 2 else 1),
    (SIO_BRK.TESTING k, b2n x.test.isSome), (SIO_BRK.TQREQ k, b2n x.test.isSome), (SIO_BRK.FAILONCE k, b2n (x.fails ≠ 0)),
    (SIO_BRK.DEG k, b2n (x.swStuck ≠ 0 || x.fails ≠ 0 || x.lapsed))]

/-- BRK_FAULT (Table 10.11): fault, switch (0xFF none), current in mA, movement. -/
def State.brkFault (s : State) (k fault lvl sw cur : Nat) (move : Int) : State :=
  ((s.put (SIO_BRK.FAULT k) fault).put SIO_EVT.BRKFAULT 1).emitAt lvl (srcBrake k) Code.BRK_FAULT
    (le 1 fault ++ le 1 sw ++ le 2 (min 0xFFFF cur) ++ leI 4 move)

/-- Both gates of a brake, with BRK_STATE: cause as SO_STATE. -/
def State.brkGates (s : State) (k : Nat) (on : Bool) (cause : Nat) : State :=
  if s.released k = on then s
  else
    let s := (s.putB (SIO_BRK.HG k) on).putB (SIO_BRK.LG k) on
    let s := s.setBrk k { s.brk k with changedAt := s.clk.up, decay := true }
    (s.emit (srcBrake k) Code.BRK_STATE
      (le 1 (if on then 1 else 2) ++ le 2 (s.get (SIO_BRK.CURRENT k)) ++ le 1 cause)).brkSync k

/-- BRK_TEST (R316): 1 passed, 2 failed, 3 aborted with its reason; the test in progress ends and `TQREQk` falls. -/
def State.brkTestEnd (s : State) (k result reason : Nat) : State :=
  let x := s.brk k
  match x.test with
  | none => s
  | some (t0, _, move) =>
    let s := s.setBrk k { x with test := none }
    let s := s.putSat (SIO_BTST.MOVE k) move.natAbs
    let s := (s.put SIO_EVT.BRKTEST 1).emit (srcBrake k) Code.BRK_TEST
      (le 1 result ++ le 1 reason ++ leI 4 move ++ le 2 (min 0xFFFF ((s.clk.up - t0) / 1000000)))
    s.brkSync k

/-- Why the release condition of a brake does not hold, as a cause of SO_STATE. -/
def State.brkCause (s : State) (k : Nat) : Nat :=
  if s.md.mode ≠ .family then 3 else if (s.brk k).lock then 4
  else if (s.permitOff (s.get (SIO_BPERM.MASK k))).isSome then 2 else 1

/-- One brake evaluated (R314, Table 10.9): a release demand during a test aborts it, and the gates go on after the
torque-off delay. -/
def State.brkEval (s : State) (k : Nat) : State :=
  let want := s.brkCond k
  let x := s.brk k
  let live := s.md.mode = .family || s.md.mode = .commission
  let s :=
    if x.test.isSome then
      if s.md.mode = .safe then s.brkTestEnd k 3 3
      else if !live || s.get (SIO_BCFG.USE k) = 0 then s.brkTestEnd k 3 4
      else if (s.permitOff (s.get (SIO_BPERM.MASK k))).isSome then s.brkTestEnd k 3 2
      else if want then
        let s := s.brkTestEnd k 3 1
        s.setBrk k { s.brk k with pend := some s.clk.up }
      else s
    else s
  let x := s.brk k
  let s :=
    if want then
      if s.released k then s
      else if x.pend.isSome && s.get (SIO_BTIM.TQOFF k) ≠ 0 then s
      else (s.setBrk k { x with pend := none }).brkGates k true 1
    else (s.setBrk k { x with pend := none }).brkGates k false (s.brkCause k)
  s.brkSync k

/-! ### Inputs and pairs (R304-R308) -/

/-- The logical state of a single input and its record. -/
def State.logicSet (s : State) (i kind : Nat) (v : Bool) : State :=
  let is := if kind = 1 then [i] else [i, i + 1]
  if s.on (SIO_LOGIC.I i) = v then s
  else
    let s := is.foldl (fun s i => s.putB (SIO_LOGIC.I i) v) s
    (s.put SIO_EVT.INCHG 1).emit (srcInput i) Code.SI_STATE (le 1 (b2n v) ++ le 1 kind)

/-- The ON conditions of a pair's inputs (R307): input 2p + 1 is read inverted under ANTIVALENT. -/
def State.pairConds (s : State) (p : Nat) : Bool × Bool :=
  ((s.sin (2 * p)).on, if s.on (SIO_PCFG.ANTI p) then !(s.sin (2 * p + 1)).on else (s.sin (2 * p + 1)).on)

/-- One pair evaluated (R307, R308). -/
def State.pairEval (s : State) (p : Nat) : State :=
  let a := 2 * p
  let (ca, cb) := s.pairConds p
  let fa := s.faultOf a ≠ 0
  let fb := s.faultOf (a + 1) ≠ 0
  let s := if s.on (SIO_PCFG.DISCFAULT p) && !ca && !cb && !fa && !fb then
      (s.put (SIO_PCFG.DISCFAULT p) 0).emit (srcInput a) Code.SI_CLEARED (le 1 4 ++ le 1 2)
    else s
  let disc := s.on (SIO_PCFG.DISCFAULT p)
  let v := if fa && fb then false else if fa then cb else if fb then ca else ca && cb && !disc
  let d := decide (ca ≠ cb) && !fa && !fb && !disc
  let old := sparseGet 0 s.sio.disagree p
  let s := { s with sio := { s.sio with
    disagree := sparseSet 0 s.sio.disagree p (if d then (if old = 0 then s.clk.up + 1 else old) else 0) } }
  let s := (s.putB (SIO_PCFG.DEG p) (decide (fa ≠ fb))).putB (SIO_PCFG.ON p) v
  let s := (s.putB (SIO_IST.ALONE a) (fb && !fa)).putB (SIO_IST.ALONE (a + 1)) (fa && !fb)
  s.logicSet a 2 v

/-! ### The peer cross-check (R324) -/

/-- The part's own PEER item (Table 11.10): logical inputs in the cross-check mask, output conditions, release conditions
and the `SAFE` flag. -/
def State.peerItem (s : State) : List Byte :=
  let mask := s.cfg.sig.nat 8 0 0x046 []
  let ins := ((List.range 32).filter (fun i =>
    bitOf mask i && s.on (SIO_LOGIC.I i) && !(s.useOf i = 2 && i % 2 = 1))).map (fun i => 2 ^ i) |>.sum
  let outs := ((List.range 8).filter (fun o => s.outCond o)).map (fun o => 2 ^ o) |>.sum
  let brks := ((List.range 2).filter (fun k => s.brkCond k)).map (fun k => 2 ^ k) |>.sum
  le 4 ins ++ le 1 outs ++ le 1 (brks + 128 * b2n (s.md.mode = .safe)) ++ le 2 0

/-- Whether the part compares with its peer now. -/
def State.peerCompares (s : State) : Bool := s.on SIO_PEER.EN && !s.sio.peerLost && s.sio.peer.isSome

/-- The items on which the two PEER values differ: class (1 input, 2 output, 3 brake, 4 SAFE), index, own and peer value.
Only used outputs and brakes are items. -/
def State.peerDiffs (s : State) : List (Nat × Nat × Bool × Bool) :=
  match (if s.peerCompares then s.sio.peer else none) with
  | none => []
  | some b =>
    let a := s.peerItem
    let items : List (Nat × Nat × Nat × Nat) :=
      (List.range 32).map (fun i => (1, i, 0, i)) ++
      ((List.range 8).filter (fun o => s.on (SIO_OCFG.USE o))).map (fun o => (2, o, 4, o)) ++
      ((List.range 2).filter (fun k => s.on (SIO_BCFG.USE k))).map (fun k => (3, k, 5, k)) ++ [(4, 0, 5, 7)]
    (items.map (fun q => (q.1, q.2.1, bitOf (leAt a q.2.2.1 (if q.1 = 1 then 4 else 1)) q.2.2.2,
      bitOf (leAt b q.2.2.1 (if q.1 = 1 then 4 else 1)) q.2.2.2))).filter (fun q => q.2.2.1 ≠ q.2.2.2)

/-- Since when an item differs. -/
def State.diffSince (s : State) (c i : Nat) : Nat := (s.sio.diffs.lookup (32 * c + i)).getD s.clk.up

/-- The first item that has differed for longer than the cross-check time. -/
def State.peerLate (s : State) : Option (Nat × Nat × Bool × Bool) :=
  s.peerDiffs.find? (fun q => decide (s.diffSince q.1 q.2.1 + 1000000 * s.get SIO_GEN.XTIME < s.clk.up))

/-- `SIO_PEER` and `SIO_STAT.PEER_OK` brought up to date, with the times since which items differ or all match. -/
def State.peerSync (s : State) : State :=
  let ds := s.peerDiffs
  let ok := s.peerCompares && ds = []
  let s := match ds.head? with
    | some (c, i, _, _) => s.put SIO_PEER.ITEM (32 * c + i)
    | none => s
  let s := { s with sio := { s.sio with
    diffs := ds.map (fun (q : Nat × Nat × Bool × Bool) => (32 * q.1 + q.2.1, s.diffSince q.1 q.2.1))
    matchAt := if ok then some (s.sio.matchAt.getD s.clk.up) else none } }
  s.puts [(SIO_PEER.OK, b2n ok), (SIO_PEER.LOST, b2n (s.on SIO_PEER.EN && s.sio.peerLost)), (SIO_STAT.PEER_OK, b2n ok)]

/-- Everything that follows from the inputs, demands, mode and locks: singles, pairs, outputs, brakes, the peer's comparison. -/
def State.sioEval (s : State) : State :=
  let s := if s.sioLive = false then
      let s := (List.range 8).foldl (fun s o => s.outEval o) s
      (s.brkEval 0).brkEval 1
    else
      let s := (List.range 32).foldl (fun s i =>
        let s := s.putB (SIO_IST.ON i) ((s.sin i).on && s.faultOf i = 0)
        if s.useOf i = 1 then s.logicSet i 1 ((s.sin i).on && s.faultOf i = 0) else s) s
      let s := (List.range 16).foldl (fun s p => if s.pairUsed p then s.pairEval p else s) s
      let s := (List.range 8).foldl (fun s o => s.outEval o) s
      (s.brkEval 0).brkEval 1
  if s.on SIO_PEER.EN then s.peerSync else s

/-- An input takes a fault (R308): F2 where its pair's partner carries on, else F1. -/
def State.inFault (s : State) (i cause : Nat) : State :=
  if s.faultOf i ≠ 0 ∨ s.useOf i = 0 then s
  else
    let paired := s.useOf i = 2 && s.pairUsed (i / 2)
    let alone := paired && s.faultOf (partner i) = 0
    let s := (s.put (SIO_IST.FAULT i) cause).put (SIO_IFAULT.I i) 1
    let s := (s.inc (SIO_IST.FAULTS i)).setSin i { s.sin i with valid := 0 }
    (s.put SIO_EVT.INFAULT 1).emitAt (if alone then 2 else 1) (srcInput i) Code.SI_FAULT
      (le 1 cause ++ le 1 (s.get (SIO_IST.PATTERN i)) ++ le 1 (if paired then i / 2 else 0xFF) ++ le 1 (b2n alone))

/-- A new unmasked sample of an input; a new level discards the captures (R305). -/
def State.newSample (s : State) (i : Nat) (level : Bool) : State :=
  ((s.putB (SIO_IST.RAW i) level).putB (SIO_IN.I i) level).setSin i { s.sin i with caps := [], rawAt := s.clk.up }

/-- INPUT_SAMPLE (R304, R305): a masked sample repeats the last one. -/
def opInputSample (i : Nat) (level : Bool) (s : State) : State :=
  if s.sioLive = false ∨ s.useOf i = 0 ∨ s.masked ∨ s.on (SIO_IST.RAW i) = level then s else s.newSample i level

/-- The transitions of the filtered level within the chatter window (R306). -/
def State.recentTrans (s : State) (i : Nat) : List Nat :=
  (s.sin i).trans.filter (fun t => s.clk.up < t + s.get (SIO_ICFG.CHATWIN i) * 100000000)

/-- INPUT_FILTERED (R304, R306): the sample has held a new level for the filter time. -/
def opInputFiltered (i : Nat) (s : State) : State :=
  let raw := s.on (SIO_IST.RAW i)
  if s.sioLive = false ∨ s.useOf i = 0 ∨ s.on (SIO_IST.FILT i) = raw ∨
      s.clk.up < (s.sin i).rawAt + 100000 * s.get (SIO_ICFG.FILTER i) then s
  else
    let s := s.putB (SIO_IST.FILT i) raw
    let l := s.recentTrans i ++ [s.clk.up]
    let on := raw && ((s.sin i).on || s.get (SIO_ICFG.DEBOUNCE i) = 0)
    let s := (s.setSin i { s.sin i with trans := l, on := on, filtAt := s.clk.up }).putSat (SIO_IST.TRANS i) l.length
    let s := if s.get (SIO_ICFG.CHATCNT i) < l.length then s.inFault i 3 else s
    s.sioEval

/-- DEBOUNCE_EXPIRY (R304): the filtered level has been high for the debounce time. -/
def opDebounceExpiry (i : Nat) (s : State) : State :=
  if s.sioLive ∧ s.useOf i ≠ 0 ∧ s.on (SIO_IST.FILT i) ∧ (s.sin i).on = false ∧
      (s.sin i).filtAt + 1000000 * s.get (SIO_ICFG.DEBOUNCE i) ≤ s.clk.up then
    (s.setSin i { s.sin i with on := true }).sioEval
  else s

/-- What a window of captures shows (Table 10.7): 0 valid, 1 STUCK_HIGH once repeated, 2 CROSS. -/
def capturePattern (own : Nat) (w : List (Nat × Bool)) : Nat :=
  let o := w.any (fun c => c.1 = own && c.2)
  let hi := (w.filter (fun c => c.1 ≠ own)).all (·.2)
  let lo := (w.filter (fun c => c.1 ≠ own)).all (fun c => !c.2)
  if o then (if hi then 1 else 2) else if hi || lo then 0 else 2

/-- Whether a capture of an input by a source is still to be judged: once at the end of each mask of the source (R305). -/
def State.captureDue (s : State) (i src : Nat) : Bool :=
  match s.maskEnd src with
  | some t => decide (sparseGet 0 (s.sin i).judged src ≠ t + 1)
  | none => false

/-- INPUT_CAPTURE (R302, R305): the capture of an input by a source, judged on the sample `after` at the end of the source's mask: a
change of the unmasked level seen there discards the captures. -/
def opInputCapture (i src : Nat) (level after : Bool) (s : State) : State :=
  if s.sioLive = false ∨ s.testedIn i = false ∨ bitOf s.tpoEn src = false ∨ s.captureDue i src = false then s
  else
    let s := s.setSin i { s.sin i with judged := sparseSet 0 (s.sin i).judged src ((s.maskEnd src).getD 0 + 1) }
    let x := s.sin i
    let s := s.put (SIO_IST.PATTERN i) (setBitOf (s.get (SIO_IST.PATTERN i)) src level)
    if s.on (SIO_IST.RAW i) ≠ after then s.newSample i after
    else
      let k := popCount 4 s.tpoEn
      let all := x.caps ++ [(src, level)]
      let caps := all.drop (all.length - 2 * k)
      let w := caps.drop (caps.length - k)
      let s := s.setSin i { x with caps := caps }
      let own := s.get (SIO_ICFG.SRC i) - 1
      if caps.length < k ∨ w.any (fun c => c.1 = own) = false then s
      else
        match capturePattern own w with
        | 0 => s.setSin i { s.sin i with valid := x.valid + 1 }
        | 1 =>
          let s := s.setSin i { s.sin i with valid := 0 }
          if caps.length = 2 * k ∧ caps.all (·.2) then (s.inFault i 1).sioEval else s
        | _ => ((s.setSin i { s.sin i with valid := 0 }).inFault i 2).sioEval

/-- Whether the inputs of a pair have disagreed for longer than the discrepancy time. -/
def State.disagreed (s : State) (p : Nat) : Bool :=
  let t := sparseGet 0 s.sio.disagree p
  decide (t ≠ 0) && decide (t + 1000000 * s.get (SIO_PCFG.DISC p) ≤ s.clk.up)

/-- DISCREPANCY_EXPIRY (R307): the inputs of a pair have disagreed for longer than the discrepancy time. -/
def opDiscrepancyExpiry (p : Nat) (s : State) : State :=
  if s.sioLive ∧ s.pairUsed p ∧ s.disagreed p then
    let s := (s.put (SIO_PCFG.DISCFAULT p) 1).put SIO_EVT.INFAULT 1
    let s := s.emitAt 1 (srcInput (2 * p)) Code.SI_FAULT
      (le 1 4 ++ le 1 (s.get (SIO_IST.PATTERN (2 * p))) ++ le 1 p ++ le 1 0)
    s.sioEval
  else s

/-! ### Test-pulse sources (R302, R303) -/

/-- A source fails: TPO_FAIL, and every input on it takes fault SOURCE. -/
def State.tpoFail (s : State) (k cause : Nat) : State :=
  if bitOf (s.get SIO_TPO.FAIL) k then s
  else
    let is := (List.range 32).filter (fun i => s.useOf i ≠ 0 && s.get (SIO_ICFG.SRC i) = k + 1)
    let s := (s.put SIO_TPO.FAIL (setBitOf (s.get SIO_TPO.FAIL) k true)).put SIO_EVT.TPOFAIL 1
    let s := s.emit srcSio Code.TPO_FAIL (le 1 k ++ le 1 cause ++ le 4 ((is.map (fun i => 2 ^ i)).sum))
    (is.foldl (fun s i => s.inFault i 5) s).sioEval

/-- TEST_PULSE (R302, R303): the pulse of a source with its two readbacks in mV: below 2 V at the end of the pulse, above 15 V at the
midpoint between pulses. -/
def opTestPulse (k lo hi : Nat) (s : State) : State :=
  let x := s.tpo k
  if s.sioLive = false ∨ bitOf s.tpoEn k = false ∨ s.midPulse k = none ∨ x.seen = s.midPulse k then s
  else
    let low := decide (lo < 2000)
    let high := decide (15000 < hi)
    let s := s.put SIO_TPO.LEVEL (setBitOf (s.get SIO_TPO.LEVEL) k high)
    let x := { x with seen := s.midPulse k }
    if low && high then s.setTpo k { x with bad := 0, good := x.good + 1 }
    else
      let s := s.setTpo k { x with bad := x.bad + 1, good := 0 }
      if 2 ≤ x.bad + 1 then s.tpoFail k (if high then 1 else 2) else s

/-- TEST_PULSE_SOURCE_OVERLOAD (R303): the source switches off, and its inputs read low. -/
def opTpoOverload (k : Nat) (s : State) : State :=
  if s.sioLive = false ∨ bitOf s.tpoEn k = false then s
  else
    let s := s.setTpo k { s.tpo k with overload := some s.clk.up, good := 0 }
    let s := s.put SIO_TPO.LEVEL (setBitOf (s.get SIO_TPO.LEVEL) k false)
    let is := (List.range 32).filter (fun i => s.useOf i ≠ 0 && s.get (SIO_ICFG.SRC i) = k + 1)
    let s := is.foldl (fun s i => if s.on (SIO_IST.RAW i) then s.newSample i false else s) s
    s.tpoFail k 2

/-- TPO_RETRY (R303): an overloaded source tries again, once every second. -/
def opTpoRetry (k : Nat) (ok : Bool) (s : State) : State :=
  let x := s.tpo k
  match x.overload with
  | none => s
  | some t =>
    if s.clk.up < t + 1000000000 then s
    else if ok then s.setTpo k { x with overload := none }
    else (s.setTpo k { x with overload := some s.clk.up }).tpoFail k 2

/-! ### Output tests and supervision (R311-R313) -/

/-- The cut-off switch opened by a fault (R311). -/
def State.cutOpen (s : State) : State := s.put SIO_STAT.CUTOFF 0

/-- STUCK at F3 (R311). -/
def State.outStuck (s : State) (o mv : Nat) : State :=
  if (s.sout o).stuck then s else ((s.setSout o { s.sout o with stuck := true }).cutOpen).outFault o 1 3 mv

/-- OUTPUT_OFF_TEST (R311): every off-test interval an on output is opened for W_so; its readback at the end in 100 mV. -/
def opOutputOffTest (o mv : Nat) (s : State) : State :=
  let x := s.sout o
  if x.stage = false ∨ s.clk.up < max x.switchedAt x.testAt + 1000000000 * s.get (SIO_OTIM.OTINT o) then s
  else
    let s := s.setSout o { x with testAt := s.clk.up }
    if 20 ≤ mv then s.outStuck o mv else s

/-- OUTPUT_READBACK_SAMPLE (R311): the readback of an output in 100 mV; an off output fails with two consecutive samples of
2 V or more outside the 0.5 ms after its switch-off, while the cut-off switch is closed. Where it completes the check that follows
a closing, outputs may be switched on. -/
def opOutputReadbackSample (o mv : Nat) (s : State) : State :=
  let high := decide (20 ≤ mv)
  let s := (s.put SIO_OUT.ON (setBitOf (s.get SIO_OUT.ON) o (20 < mv))).putB (SIO_OCFG.ON o) (20 < mv)
  let x := { s.sout o with mv := mv }
  if x.stage then s.setSout o x
  else
    let x := if s.on SIO_STAT.CUTOFF then { x with seen := min 2 (x.seen + 1) } else x
    if high ∧ s.on SIO_STAT.CUTOFF ∧ x.switchedAt + 500000 ≤ s.clk.up then
      let s := s.setSout o { x with stuckN := x.stuckN + 1 }
      if 2 ≤ x.stuckN + 1 then s.outStuck o mv else s
    else
      let t := s.setSout o { x with stuckN := 0 }
      if t.outsChecked ∧ s.outsChecked = false then t.sioEval else t

/-- Whether a cut-off test falls due: after each closing of the switch, and every 60 s while any output is on (R311). -/
def State.cutDue (s : State) : Bool :=
  s.on SIO_STAT.CUTOFF && (match s.sio.cutAt with
    | none => true
    | some t => decide (t + 60000000000 ≤ s.clk.up) && (List.range 8).any (fun o => (s.sout o).stage))

/-- CUTOFF_TEST (R311): the cut-off switch opens for 300 us; the readback of every output in 100 mV, which must lie below 2 V where the
output is on. CUTOFF carries the readback of the first output that does not. -/
def opCutoffTest (mv : List Nat) (s : State) : State :=
  if s.cutDue = false then s
  else
    let s := { s with sio := { s.sio with cutAt := some s.clk.up } }
    match (List.range 8).find? (fun o => (s.sout o).stage && decide (20 ≤ mv.getD o 0)) with
    | none => s
    | some o =>
      if s.sio.cutFault then s
      else
        let s := { s with sio := { s.sio with cutFault := true } }
        (s.put SIO_EVT.OUTFAULT 1).emitAt 3 srcSio Code.SO_FAULT
          (le 1 5 ++ le 2 (mv.getD o 0) ++ le 2 (min 0xFFFF ((s.clk.up - (s.sout o).switchedAt) / 1000000)))

/-- OUTPUT_OVERLOAD (R312): above 0.7 A for 1 ms, or thermal shutdown. -/
def opOutputOverload (o mv : Nat) (s : State) : State :=
  let x := s.sout o
  if x.stage ∧ x.overload = false then
    ((s.setSout o { x with overload := true }).outFault o 2 1 mv).sioEval
  else s

/-- EDM_SAMPLE (R313): a sample of `EDMo`, judged on two consecutive samples. -/
def opEdmSample (o : Nat) (level : Bool) (s : State) : State :=
  let s := s.put SIO_EDM.LEVEL (setBitOf (s.get SIO_EDM.LEVEL) o level)
  let x := s.sout o
  let two := decide (x.edm.head? = some level)
  let s := s.setSout o { x with edm := (level :: x.edm).take 2 }
  let x := s.sout o
  let late := decide (x.switchedAt + s.get (SIO_OTIM.EDMT o) * 1000000 ≤ s.clk.up)
  if s.on (SIO_OCFG.USE o) = false ∨ s.on (SIO_OCFG.EDM o) = false ∨ x.edmLost ∨ two = false ∨ late = false then s
  else if x.stage ∧ level then
    (s.setSout o { x with edmLost := true }).outFault o 4 2 x.mv
  else if x.stage = false ∧ level = false ∧ x.welded = false ∧ x.switchedAt ≠ 0 then
    ((s.setSout o { x with welded := true }).outFault o 3 1 x.mv).sioEval
  else s

/-! ### Brake checks and tests (R314-R317) -/

/-- Whether a brake has been released or applied for T_dec. -/
def State.decayed (s : State) (k : Nat) : Bool := decide ((s.brk k).changedAt + 10000000 * s.get (SIO_BCFG.DECAY k) ≤ s.clk.up)

/-- BRAKE_DECAY_CHECK (R314): the coil current in mA, T_dec after a release or an application. -/
def opBrakeDecayCheck (k cur : Nat) (s : State) : State :=
  let x := s.brk k
  if s.on (SIO_BCFG.USE k) = false ∨ x.decay = false ∨ s.decayed k = false then s
  else
    let s := (s.putSat (SIO_BRK.CURRENT k) cur).setBrk k { x with decay := false }
    if s.released k then
      if 10 * s.get (SIO_BCFG.RELLO k) ≤ cur then s
      else
        let s := s.setBrk k { s.brk k with notReleased := true }
        ((s.brkFault k 1 1 0xFF cur 0).brkGates k false 4).sioEval
    else if cur < s.get (SIO_BCFG.APPTHR k) ∨ x.notApplied then s
    else
      let s := s.brkTestEnd k 3 3
      let s := s.setBrk k { s.brk k with notApplied := true }
      (s.brkSync k).brkFault k 2 3 0xFF cur 0

/-- BRAKE_SWITCH_TEST (R315): every switch test interval of an applied brake; coil current with `BHGk` alone and with `BLGk` alone on;
current shows the other switch closed. -/
def opBrakeSwitchTest (k hi lo : Nat) (s : State) : State :=
  let x := s.brk k
  if s.on (SIO_BCFG.USE k) = false ∨ s.released k ∨ x.test.isSome ∨ s.decayed k = false ∨ s.sioLive = false ∨
      s.clk.up < x.swAt + 1000000000 * s.get (SIO_BCFG.SWINT k) then s
  else
    let app := s.get (SIO_BCFG.APPTHR k)
    let sw := if app ≤ hi then 2 else if app ≤ lo then 1 else 0
    let s := s.setBrk k { x with swAt := s.clk.up }
    if sw = 0 ∨ x.swStuck ≠ 0 then s
    else ((s.setBrk k { s.brk k with swStuck := sw }).brkFault k 3 2 sw (max hi lo) 0).brkSync k

/-- The start conditions of a brake test (R316): the interval has elapsed in the run family, or a command has been given. -/
def State.brkTestMay (s : State) (k : Nat) : Bool :=
  let x := s.brk k
  let ps := (x.moves.filter (fun p => s.clk.up ≤ p.1 + 100000000)).map (·.2)
  let now := s.geti (SIO_BPOS.POS k)
  let span := (ps.foldl max now) - (ps.foldl min now)
  s.on (SIO_BCFG.USE k) && !s.released k && !x.lock && x.test.isNone && decide (x.changedAt + 1000000000 ≤ s.clk.up) &&
  !s.brkDemand k && (s.permitOff (s.get (SIO_BPERM.MASK k))).isNone && decide (span ≤ 1) &&
  (x.want || (s.md.mode = .family && decide (x.doneAt + 3600000000000 * s.get (SIO_BTIM.TESTINT k) ≤ s.clk.up))) &&
  (s.md.mode = .family || s.md.mode = .commission)

/-- BRAKE_TEST_START (R316): the interval has elapsed or a test was asked for; the position is latched and `TQREQk` rises. -/
def opBrakeTestStart (k : Nat) (s : State) : State :=
  if s.brkTestMay k then
    (s.setBrk k { s.brk k with want := false, test := some (s.clk.up, s.geti (SIO_BPOS.POS k), 0) }).brkSync k
  else s

/-- The result of a completed test (R316, R317). -/
def State.brkResult (s : State) (k : Nat) (pass : Bool) (move : Int) : State :=
  let s := s.brkTestEnd k (if pass then 1 else 2) 0
  let s := s.setBrk k { s.brk k with doneAt := s.clk.up }
  let x := s.brk k
  if pass then
    let s := s.setBrk k { x with fails := 0, testF3 := false, lapsed := false, passAt := some s.clk.up }
    let s := if s.get (SIO_BRK.FAULT k) = 4 ∨ s.get (SIO_BRK.FAULT k) = 5 then s.put (SIO_BRK.FAULT k) 0 else s
    s.brkSync k
  else
    let s := s.setBrk k { x with fails := x.fails + 1, testF3 := x.testF3 || decide (1 ≤ x.fails) }
    (s.brkFault k 4 (if 1 ≤ x.fails then 3 else 2) 0xFF (s.get (SIO_BRK.CURRENT k)) move).brkSync k

/-- BRAKE_TEST_END (R316): the test duration ends; a test whose window is exceeded has ended before (ENCODER_EDGE). -/
def opBrakeTestEnd (k : Nat) (s : State) : State :=
  match (s.brk k).test with
  | none => s
  | some (t0, _, move) =>
    if s.clk.up < t0 + 10000000 * s.get (SIO_BTIM.TESTDUR k) then s
    else s.brkResult k (move.natAbs ≤ s.get (SIO_BTIM.WINDOW k)) move

/-- ENCODER_EDGE (R316): 0 up, 1 down, 2 both lines together, a quadrature error that counts as movement beyond the
window. A test whose window is exceeded ends at once. -/
def opEncoderEdge (k dir : Nat) (s : State) : State :=
  let p := s.geti (SIO_BPOS.POS k) + (if dir = 0 then 1 else if dir = 1 then -1 else 0)
  let s := s.puti (SIO_BPOS.POS k) p
  let p := s.geti (SIO_BPOS.POS k)
  let x := s.brk k
  let was : Int := p - (if dir = 0 then 1 else if dir = 1 then -1 else 2)
  let ms := (x.moves.filter (fun (q : Nat × Int) => s.clk.up ≤ q.1 + 100000000)) ++ [(s.clk.up, was), (s.clk.up, p)]
  let x := { x with moves := ms }
  match x.test with
  | none => s.setBrk k x
  | some (t0, p0, move) =>
    let w : Int := s.get (SIO_BTIM.WINDOW k)
    let d := p - p0
    let d := if dir = 2 then (if d < 0 then min d (-(w + 1)) else max d (w + 1)) else d
    let move := if move.natAbs < d.natAbs then d else move
    let s := s.setBrk k { x with test := some (t0, p0, move) }
    if w < move.natAbs then s.brkResult k false move else s

/-- BRAKE_TEST_RETRY (R317): 60 s after a failed test the part repeats it, at the next opportunity. -/
def opBrakeTestRetry (k : Nat) (s : State) : State :=
  if (s.brk k).fails = 0 ∨ s.clk.up < (s.brk k).doneAt + 60000000000 then s else opBrakeTestStart k (s.setBrk k { s.brk k with want := true })

/-- BRAKE_TEST_LAPSED (R317): no test has completed for twice the interval. -/
def opBrakeTestLapsed (k : Nat) (s : State) : State :=
  let x := s.brk k
  if s.on (SIO_BCFG.USE k) ∧ x.lapsed = false ∧ x.doneAt + 7200000000000 * s.get (SIO_BTIM.TESTINT k) ≤ s.clk.up then
    ((s.setBrk k { x with lapsed := true }).brkFault k 5 2 0xFF (s.get (SIO_BRK.CURRENT k)) 0).brkSync k
  else s

/-- Whether the torque-off delay of a release that waits is over. -/
def State.torqueOff (s : State) (k : Nat) : Bool :=
  match (s.brk k).pend with
  | some t => decide (t + 20000000 * s.get (SIO_BTIM.TQOFF k) ≤ s.clk.up)
  | none => false

/-- TORQUE_OFF_DELAY (R316, Table 10.9): after an aborted test the gates go on. -/
def opTorqueOffDelay (k : Nat) (s : State) : State :=
  if s.torqueOff k ∧ s.brkCond k then ((s.setBrk k { s.brk k with pend := none }).brkGates k true 1).brkSync k else s

/-- BRK_TEST_REQUEST (R316): in `COMMISSION` and the run family. -/
def opBrkTestRequest (k : Nat) (s : State) : State :=
  let s := s.put SIO_CMD.INDEX k
  if s.md.mode = .commission ∨ s.md.mode = .family then
    opBrakeTestStart k (s.setBrk k { s.brk k with want := true })
  else s

/-! ### Clearing (R303, R308, R311, R313) -/

/-- The SAFE cause of the safety I/O clears once no such fault at F3 remains (Table 14.6). -/
def State.sioCause (s : State) : State :=
  if s.sio.cutFault || (List.range 8).any (fun o => (s.sout o).stuck) ||
      [0, 1].any (fun k => (s.brk k).notApplied || (s.brk k).testF3) then s
  else s.clearCause 2

/-- An input's fault cleared after two full periods of valid patterns (R308). An untested input needs its transitions back
within the chatter count. -/
def State.clearInput (s : State) (i : Nat) : State :=
  let x := s.sin i
  let cause := s.faultOf i
  let src := s.get (SIO_ICFG.SRC i)
  let ok := if s.testedIn i then decide (2 * popCount 4 s.tpoEn ≤ x.valid) && !bitOf (s.get SIO_TPO.FAIL) (src - 1)
    else true
  let ok := ok && decide ((s.recentTrans i).length ≤ s.get (SIO_ICFG.CHATCNT i))
  if cause = 0 ∨ ok = false then s
  else ((s.put (SIO_IST.FAULT i) 0).put (SIO_IFAULT.I i) 0).emit (srcInput i) Code.SI_CLEARED (le 1 cause ++ le 1 1)

/-- An output's faults cleared where they are no longer present (R311, R313). -/
def State.clearOutput (s : State) (o : Nat) : State :=
  let x := s.sout o
  let low := x.edm.head? = some false
  s.setSout o { x with
    stuck := x.stuck && !x.stage && s.on (SIO_OCFG.ON o) && s.on SIO_STAT.CUTOFF
    overload := false
    welded := x.welded && low && s.on (SIO_OCFG.EDM o)
    edmLost := x.edmLost && x.stage && x.edm.head? = some true } |>.outSync o

/-- A brake's faults cleared (R314, R315, R317). -/
def State.clearBrake (s : State) (k : Nat) : State :=
  let x := s.brk k
  let s := s.setBrk k { x with
    notReleased := false
    notApplied := x.notApplied && !s.released k && decide (s.get (SIO_BCFG.APPTHR k) ≤ s.get (SIO_BRK.CURRENT k))
    swStuck := 0
    testF3 := false }
  let y := s.brk k
  let f := s.get (SIO_BRK.FAULT k)
  let s := if f = 2 ∧ y.notApplied ∨ f = 4 ∧ y.fails ≠ 0 ∨ f = 5 ∧ y.lapsed then s else s.put (SIO_BRK.FAULT k) 0
  s.brkSync k

/-- A failed source cleared once its readback has passed in two consecutive periods (R303). -/
def State.clearSource (s : State) (k : Nat) : State :=
  if 2 ≤ (s.tpo k).good ∧ (s.tpo k).overload = none then s.put SIO_TPO.FAIL (setBitOf (s.get SIO_TPO.FAIL) k false) else s

/-- SIO_CLEAR (R308, R313): kind 0 input, 1 output, 2 brake, 3 source. -/
def opSioClear (kind i : Nat) (s : State) : State :=
  let s := (s.put SIO_CMD.KIND kind).put SIO_CMD.INDEX i
  let s :=
    if kind = 0 then s.clearInput i
    else if kind = 1 ∧ i < 8 then s.clearOutput i
    else if kind = 2 ∧ i < 2 then s.clearBrake i
    else if kind = 3 ∧ i < 4 then s.clearSource i
    else s
  (s.sioEval).sioCause

/-- SIO_CLEAR_ALL (R308, R313): sources before inputs; a CUTOFF fault is cleared here. -/
def opSioClearAll (s : State) : State :=
  let s := (List.range 4).foldl (fun s k => s.clearSource k) s
  let s := (List.range 32).foldl (fun s i => s.clearInput i) s
  let s := (List.range 8).foldl (fun s o => s.clearOutput o) s
  let s := (s.clearBrake 0).clearBrake 1
  let s := { s with sio := { s.sio with cutFault := false } }
  (s.sioEval).sioCause

/-- SIO_CLEAR_COUNTS (R328). -/
def opSioClearCounts (s : State) : State := (List.range 32).foldl (fun s i => s.put (SIO_IST.FAULTS i) 0) s

/-! ### Modes (Table 10.1, R320) -/

/-- The safety I/O on a change of mode: the test pattern runs or the sources are low; the cut-off switch is closed in the run family only, and a restart is needed at each
entry into it (R310). -/
def State.sioMode (s : State) : State :=
  let fam := decide (s.md.mode = .family)
  let s := if fam && !s.on SIO_STAT.CUTOFF then
      (List.range 8).foldl (fun s o => s.setSout o { s.sout o with armed := true, rstOn := none, seen := 0 }) s
    else s
  let cut := s.sio.cutAt
  let s := { s with sio := { s.sio with
    pattern := if s.sioLive then some (s.sio.pattern.getD s.clk.up) else none
    cutAt := if fam && s.on SIO_STAT.CUTOFF then cut else none } }
  let s := if s.sioLive then s else s.put SIO_TPO.LEVEL 0
  ((s.putB SIO_STAT.CUTOFF fam).putB SIO_STAT.SO_LEVEL fam).sioEval

/-! ### Pairing (R324) -/

/-- PEER_MISMATCH (R324): an item has differed for longer than the cross-check time. -/
def opPeerMismatch (s : State) : State :=
  match (if s.on SIO_PEER.MISMATCH then none else s.peerLate) with
  | some (c, i, own, peer) =>
    ((s.put SIO_PEER.MISMATCH 1).put SIO_EVT.PEER 1).emit srcSio Code.PEER_MISMATCH
      (le 1 c ++ le 1 i ++ le 1 (b2n own) ++ le 1 (b2n peer))
  | none => s

/-- Whether every item has matched for the cross-check time. -/
def State.peerMatched (s : State) : Bool :=
  s.peerDiffs = [] && (match s.sio.matchAt with
    | some t => decide (t + 1000000 * s.get SIO_GEN.XTIME ≤ s.clk.up)
    | none => false)

/-- PEER_CAUSE_CLEARED (R426): all items have matched for the cross-check time. -/
def opPeerCauseCleared (s : State) : State :=
  if s.peerCompares ∧ s.peerMatched then (s.put SIO_PEER.MISMATCH 0).clearCause 3 else s

/-- PEER_LOST (R324): comparison suspended, or resumed with fresh values (F0, R423). -/
def State.peerState (s : State) (lost : Bool) (conn : Nat) : State :=
  if s.sio.peerLost = lost then s
  else
    let s := { s with sio := { s.sio with peerLost := lost, peer := none } }
    ((s.put SIO_EVT.PEER 1).emitAt (if lost then 2 else 0) srcSio Code.PEER_LOST (le 1 (b2n lost) ++ le 1 conn)).peerSync

/-! ### Loading (R299, R300, R327) -/

/-- The input registers under a plane; an input whose entry changes starts afresh, its fault persists (R237, R308). -/
def State.loadInput (s : State) (p : Plane) (i : Nat) : State :=
  let has := p.hasRec 8 0x14 [i]
  let v (r : Nat) : Nat := if has then p.nat 8 0x14 (0x080 + r) [i] else 0
  let old := s.rd (SIO_ICFG i)
  let s := s.puts [(SIO_ICFG.USE i, v 1), (SIO_ICFG.SRC i, v 2), (SIO_ICFG.FILTER i, v 3), (SIO_ICFG.DEBOUNCE i, v 4),
    (SIO_ICFG.CHATCNT i, v 5), (SIO_ICFG.CHATWIN i, v 6)]
  if s.rd (SIO_ICFG i) = old then s
  else
    let s := (s.setSin i .reset).puts [(SIO_IST.RAW i, 0), (SIO_IST.FILT i, 0), (SIO_IST.ON i, 0), (SIO_IST.PATTERN i, 0),
      (SIO_IST.TRANS i, 0), (SIO_IN.I i, 0)]
    if v 1 = 0 then s.put (SIO_LOGIC.I i) 0 else s

/-- The output registers under a plane; a changed output starts afresh, its faults and locks persist (R237). -/
def State.loadOutput (s : State) (p : Plane) (o : Nat) : State :=
  let has := p.hasRec 8 0x16 [o]
  let v (r : Nat) : Nat := if has then p.nat 8 0x16 (0x100 + r) [o] else 0
  let rst := p.num 8 0x16 0x105 [o]
  let old := (s.rd (SIO_OCFG o) &&& 0x3FF, s.rd (SIO_OPERM o), s.rd (SIO_OTIM o))
  let s := s.puts [(SIO_OCFG.USE o, v 1), (SIO_OCFG.DEMSRC o, v 2), (SIO_OPERM.MASK o, v 3), (SIO_OCFG.RESTART o, v 4),
    (SIO_OCFG.RSTIN o, if !has then 0 else if rst < 0 then 0x3F else rst.toNat), (SIO_OCFG.EDM o, v 6), (SIO_OTIM.EDMT o, v 7),
    (SIO_OTIM.OTINT o, v 8), (SIO_OTIM.OTW o, v 9)]
  if (s.rd (SIO_OCFG o) &&& 0x3FF, s.rd (SIO_OPERM o), s.rd (SIO_OTIM o)) = old then s
  else
    let x := s.sout o
    s.setSout o { x with armed := true, rstOn := none, rstPrev := false, stuckN := 0,
                         prev := (false, false, false, false) }

/-- The brake registers under a plane. -/
def State.loadBrake (s : State) (p : Plane) (k : Nat) : State :=
  let has := p.hasRec 8 0x17 [k]
  let v (r : Nat) : Nat := if has then p.nat 8 0x17 (0x140 + r) [k] else 0
  let s := if s.on (SIO_BCFG.USE k) then s else s.setBrk k { s.brk k with doneAt := s.clk.up }
  s.puts [(SIO_BCFG.USE k, v 1), (SIO_BCFG.DEMSRC k, v 2), (SIO_BPERM.MASK k, v 3), (SIO_BCFG.RELLO k, v 4),
    (SIO_BCFG.APPTHR k, v 5), (SIO_BCFG.DECAY k, v 6), (SIO_BCFG.SWINT k, v 7), (SIO_BTIM.TESTINT k, v 8),
    (SIO_BTIM.TESTDUR k, v 9), (SIO_BTIM.WINDOW k, v 10), (SIO_BTIM.TQOFF k, v 11)] |>.brkSync k

/-- The `SIO_` configuration registers under a plane (R327: 0 until the first SAFETY_IO section loads). -/
def State.loadSio (s : State) (p : Plane) : State :=
  let peer := p.num 8 0 0x044 []
  let old := (s.rd SIO_GEN, s.tpoEn)
  let s := if 8 ∈ p.secs ∨ s.get SIO_GEN.PERIOD ≠ 0 then
      s.puts [(SIO_GEN.PERIOD, p.nat 8 0 0x041 []), (SIO_GEN.WTP, p.nat 8 0 0x042 []), (SIO_TPO.EN, p.nat 8 0 0x043 []),
        (SIO_GEN.PEERCONN, if peer < 0 then 0x7F else peer.toNat), (SIO_GEN.XTIME, p.nat 8 0 0x045 []),
        (SIO_PEER.EN, b2n (0 ≤ peer))]
    else s
  let s := if (s.rd SIO_GEN, s.tpoEn) = old then s
    else { s with sio := { s.sio with pattern := s.sio.pattern.map (fun _ => s.clk.up) } }
  let s := (List.range 32).foldl (fun s i => s.loadInput p i) s
  let s := (List.range 16).foldl (fun s q =>
    let has := p.hasRec 8 0x15 [q]
    let v (r : Nat) : Nat := if has then p.nat 8 0x15 (0x0C0 + r) [q] else 0
    let s := s.puts [(SIO_PCFG.MODE q, v 1), (SIO_PCFG.ANTI q, v 2), (SIO_PCFG.DISC q, v 3)]
    if s.pairUsed q || has then s else s.puts [(SIO_PCFG.ON q, 0), (SIO_PCFG.DEG q, 0), (SIO_PCFG.DISCFAULT q, 0)]) s
  let s := (List.range 8).foldl (fun s o => s.loadOutput p o) s
  (s.loadBrake p 0).loadBrake p 1

end Sys2Proof.Machine
end

