-- ==== Sys2Proof/Machine/TimeSync.lean ====
section
/-! DEFINITION. Ports and PRP (R329, R330), device time and PTP (R331-R334), `PPS_IN` as a source of time and `PPS_OUT`
(R79-R82, R333). -/

namespace Sys2Proof.Machine

def srcNet : Nat := srcBlock 10

/-! ### Ports (R329, R330) -/

/-- Whether a port's link is up. -/
def State.linkUp (s : State) (p : Nat) : Bool := s.on (NET_STAT.LINK p)

/-- Redundancy PRP in force. -/
def State.prp (s : State) : Bool := s.on NET_STAT.PRP

/-- `SFPp_TX_DIS` (R329): high in RESET, BOOT and ANALYSIS and on the port that SINGLE leaves unused. -/
def State.txDisSync (s : State) : State :=
  let off := s.md.mode = .reset || s.md.mode = .boot || s.md.mode = .analysis
  (s.putB (NET_LINK.TX_DIS 0) off).putB (NET_LINK.TX_DIS 1) (off || s.cfg.net.nat 10 0 0x043 [] = 1)

/-- LINK_DOWN (R329): cause 1 LOS, 2 module absent, 3 PCS lock lost, 4 PHY report, the last on a port whose medium is SGMII. -/
def opLinkDown (p cause : Nat) (s : State) : State :=
  if s.linkUp p = false ∨ cause = 4 ∧ s.cfg.net.nat 10 0 (0x041 + p) [] ≠ 2 then s
  else
    let s := s.puts [(NET_STAT.LINK p, 0), (NET_LINK.UP p, 0), (NET_LINK.CAUSE p, cause), (NET_LINK.LOS p, b2n (cause = 1)),
      (NET_LINK.MOD_ABS p, b2n (cause = 2)), (NET_EVT.LINKDN, 1)]
    s.emit (srcPort p) Code.LINK_DOWN (le 1 cause ++ le 1 (b2n (s.linkUp (1 - p))))

/-- LINK_UP (R329). -/
def opLinkUp (p : Nat) (s : State) : State :=
  if s.linkUp p = true ∨ s.on (NET_LINK.TX_DIS p) = true then s
  else
    let s := s.puts [(NET_STAT.LINK p, 1), (NET_LINK.UP p, 1), (NET_LINK.LOS p, 0), (NET_LINK.MOD_ABS p, 0), (NET_EVT.LINKUP, 1)]
    s.emit (srcPort p) Code.LINK_UP (le 1 (s.cfg.net.nat 10 0 (0x041 + p) [] + 1))

/-- The ports that carry traffic (R330): both with PRP, port 0 with SINGLE, those with their link up. -/
def State.trafficPorts (s : State) : List Nat := (if s.prp then [0, 1] else [0]).filter (fun p => s.linkUp p)

/-- The port on which PTP messages travel: port 0 while its link is up, otherwise port 1 (R331). -/
def State.ptpPort (s : State) : Option Nat := if s.linkUp 0 then some 0 else if s.linkUp 1 then some 1 else none

/-- A frame or datagram given to the transmitter (R330): with PRP it leaves on both ports under the next trailer sequence number; a PTP
message (class 1) leaves on its one port, without a trailer. -/
def State.send (s : State) (cls : Nat) (addr : List Byte) (port : Nat) (body : List Byte) : State :=
  let n := s.net
  if cls = 1 then { s with net := { n with sent := ⟨cls, addr, port, body, s.ptpPort.toList, none⟩ :: n.sent } }
  else if s.prp then
    { s with net := { n with sent := ⟨cls, addr, port, body, s.trafficPorts, some n.prpSeq⟩ :: n.sent
                             prpSeq := (n.prpSeq + 1) % 65536 } }
  else { s with net := { n with sent := ⟨cls, addr, port, body, s.trafficPorts, none⟩ :: n.sent } }

/-- A frame received on a port (R36, R330): whether it goes on to its service. A frame on a port whose link is down does not
arrive; one that finds the receive Landing holding two frames is dropped and counted; with SINGLE port 1 carries nothing; with PRP a frame whose source and trailer sequence were seen in the last 400 ms
is a duplicate. -/
def State.netRx (s : State) (c : Carrier) : Bool × State :=
  let p := c.port.val
  if s.linkUp p = false then (false, s)
  else
    let s := s.inc (NET_RX.COUNT p)
    if c.full then (false, s.inc (NET_DROP.COUNT p))
    else if s.prp = false then
      if p = 1 then (false, s.inc (NET_DROP.COUNT p)) else (true, s)
    else
      match c.trailer with
      | none => (true, s)
      | some q =>
        let now := s.clk.up
        let live := s.net.seen.filter (fun e => now < e.2.2 + 400000000)
        let nodes := (c.mac, now) :: s.net.nodes.filter (fun e => e.1 ≠ c.mac && now < e.2 + 60000000000)
        let s : State := { s with net := { s.net with nodes := nodes.take 256 } }
        if live.any (fun e => e.1 = c.mac && e.2.1 = q) then
          (false, { s.inc NET_DUP.COUNT with net := { s.net with seen := live } })
        else (true, { s with net := { s.net with seen := (c.mac, q, now) :: live } })

/-- PRP_SUPERVISION (R330): every 2 s with redundancy PRP. The frame's content is that of IEC 62439-3, which the spec does not repeat
(log entry 133). -/
def opPrpSupervision (s : State) : State :=
  let due := match s.net.supAt with
    | some t => decide (t + 2000000000 ≤ s.clk.up)
    | none => true
  if s.prp && (s.linkUp 0 || s.linkUp 1) && due then
    ({ s with net := { s.net with supAt := some s.clk.up } } : State).send 0 [] 0 []
  else s

/-! ### The part's addresses (R335, R356) -/

/-- The MAC address: row 4 of Table 11.17 or the factory address. -/
def State.macAddr (s : State) : List Byte := (s.cfg.net.bytes 10 0 0x044 []).getD (be 6 Config.factoryMac)

/-- The link-local IPv6 address formed from the MAC address (R356; modified EUI-64, log entry 33). -/
def State.linkLocal (s : State) : List Byte :=
  let m := s.macAddr
  [0xFE, 0x80, 0, 0, 0, 0, 0, 0] ++ (m.take 1).map (fun b => b ^^^ 2) ++ (m.drop 1).take 2 ++ [0xFF, 0xFE] ++ m.drop 3

/-- The addresses that the part answers for. -/
def State.ownAddrs (s : State) : List (List Byte) :=
  (s.cfg.net.bytes 10 0 0x045 []).toList ++ (s.cfg.net.bytes 10 0 0x048 []).toList ++ [s.linkLocal]

/-- ARP_ICMP_ND_REQUEST (R335, R336): kind 0 ARP, 1 ICMP echo, 2 neighbour solicitation, for an address of the part; the
reply goes out in class 3: an echo returns its payload, the other two give the MAC address. -/
def opArpIcmpNdRequest (c : Carrier) (kind : Nat) (target payload : List Byte) (s : State) : State :=
  let (ok, s) := s.netRx c
  if ok && target ∈ s.ownAddrs && (kind = 1 || target.length = (if kind = 0 then 4 else 16)) then
    s.send 3 c.addr 0 (if kind = 1 then payload else s.macAddr)
  else s

/-! ### Device time (R331-R334) -/

/-- TIME_STATE (Table 11.1): the state of device time changes; the data carry the master's identity in octet order. -/
def State.timeState (s : State) (st : Nat) : State :=
  let old := s.get NET_TSTAT.STATE
  if st = old then s
  else
    ((s.put NET_TSTAT.STATE st).put NET_EVT.TSTATE 1).emit srcNet Code.TIME_STATE
      (le 1 st ++ le 1 old ++ slice s.ts.ident 0 8)

/-- TIME_STEP (R333): device time moves by `d` ns at once, and with it the Pacer's copy while it is calibrated (R31, R254);
the Bornak clock does not move (R462). A step above 10 us ends the qualification of `PPS_IN` (R80); the seconds that seals have covered move
with it (R369, log entry 134). -/
def State.timeStep (s : State) (d : Int) (first : Bool) : State :=
  let c := s.clk
  let dev := ((c.dev : Int) + d).toNat
  let pacer := if s.pacerFree then c.pacer else ((c.pacer : Int) + d).toNat
  let t := s.ts
  let s : State := { s with clk := { c with dev := dev, pacer := pacer }
                            ts := { t with slew := 0, out := 0, inSince := none, sync := t.sync.map (fun q => (q.1, q.2 + d)), reqAt := t.reqAt.map (· + d) } }
  let s := if 10000 < d.natAbs ∧ s.get PRB_STAT.PPS_IN = 2 then
      { s.put PRB_STAT.PPS_IN 1 with pps := { s.pps with count := 0, lastOk := none } }
    else s
  let seconds : Int := (dev / 1000000000 : Nat) - (c.dev / 1000000000 : Nat)
  let s : State := { s with net := { s.net with sealAt := s.net.sealAt.map (fun p => (p.1, ((p.2 : Int) + seconds).toNat)) } }
  let s := (s.put NET_EVT.TSTEP 1).emit srcNet Code.TIME_STEP (leI 8 d ++ le 1 (b2n first))
  if s.pacerFree then s else s.flashRephase c.pacer d

/-- The step threshold in ns (Table 11.17 row 17). -/
def State.stepThreshold (s : State) : Nat := s.cfg.net.nat 10 0 0x051 [] * 1000

/-- A received PTP message counted on its port. -/
def State.ptpRx (s : State) : State :=
  match s.ptpPort with
  | some p => s.inc (NET_RX.COUNT p)
  | none => s

/-- A PTP timestamp in ns: 48 bits of seconds and 32 bits of nanoseconds in network byte order (R9; log entry 109). -/
def ptpTime (b : List Byte) : Int := (ofBe (slice b 0 6) : Int) * 1000000000 + ofBe (slice b 6 4)

/-- Device time as a PTP timestamp. -/
def ptpStamp (ns : Nat) : List Byte := be 6 (ns / 1000000000) ++ be 4 (ns % 1000000000)

/-- The interval that octet 33 of a PTP message codes: a signed power of two, in seconds (log entry 109). -/
def ptpInterval (k : Nat) : Nat := if k < 128 then 1000000000 * 2 ^ k else 1000000000 / 2 ^ (256 - k)

/-- The domain, sender and sequence number of a PTP message, and its correction in ns (log entry 109). -/
def ptpDomain (b : List Byte) : Nat := ofBe (slice b 4 1)
def ptpSender (b : List Byte) : List Byte := slice b 20 8
def ptpSeqNo (b : List Byte) : Nat := ofBe (slice b 30 2)
def ptpCorr (b : List Byte) : Int := toSigned 64 (ofBe (slice b 8 8)) / 65536

/-- The instant at the master that a Sync names (R331): of a one-step Sync its own, of a two-step Sync (bit 1 of octet 6) that of the
Follow_Up of the same sender and number, none without it; corrections added. -/
def syncOrigin (b : List Byte) (fu : Option (List Byte)) : Option Int :=
  if ofBe (slice b 6 1) / 2 % 2 = 0 then some (ptpTime (slice b 34 10) + ptpCorr b)
  else
    fu.bind (fun u => if ptpSender u = ptpSender b ∧ ptpSeqNo u = ptpSeqNo b then
      some (ptpTime (slice u 34 10) + ptpCorr b + ptpCorr u) else none)

/-- Whether a PTP message is of the chosen master, in the part's domain. -/
def State.ofMaster (s : State) (b : List Byte) : Bool :=
  s.ts.chosen.any (fun m => decide (m.ident = ptpSender b)) && ptpDomain b = s.cfg.net.nat 10 0 0x050 []

/-- The servo's treatment of a computed offset (R332, R333): `t1` is the Sync's instant at the master. -/
def State.servo (s : State) (t1 : Int) : State :=
  let θ : Int := (s.clk.dev : Int) - t1 - s.ts.delay
  let within := if θ.natAbs ≤ 1000 then s.ts.inSince.or (some s.clk.up) else none
  let s : State := { s.puti NET_OFS.OFS (satS 32 θ) with ts := { s.ts with ofs := θ, sync := some (t1, s.clk.dev), inSince := within } }
  let st := s.get NET_TSTAT.STATE
  if st = 0 then (((s.timeStep (-θ) true).put NET_TSTAT.VALID 1).timeState 1)
  else if s.stepThreshold < θ.natAbs then
    let s := s.timeStep (-θ) false
    if st = 2 then s.timeState 1 else s
  else
    let out : Nat := if st = 2 ∧ 1000 < θ.natAbs then s.ts.out + 1 else 0
    let s : State := { s with ts := { s.ts with slew := -θ, out := out } }
    if 3 ≤ out then { s with ts := { s.ts with out := 0 } }.timeState 1 else s

/-- PTP_SYNC (R331, R333): a Sync of 44 octets arrives at the MAC at this device time, and with it the Follow_Up of a two-step master.
One of the chosen master gives an offset: device time less the master's time, the path delay taken off. -/
def opPtpSync (b : List Byte) (fu : Option (List Byte)) (s : State) : State :=
  if s.ptpPort.isNone then s
  else
    let s := s.ptpRx
    match syncOrigin b fu with
    | none => s
    | some t1 => if s.ofMaster b then s.servo t1 else s

/-- Lexicographic order of announced data sets (R331, log entry 34). -/
def rankLt : List Nat → List Nat → Bool
  | [], [] => false
  | [], _ :: _ => true
  | _ :: _, [] => false
  | a :: s, b :: t => a < b || (a = b && rankLt s t)

/-- The best of the masters heard. -/
def bestMaster : List Master → Option Master
  | [] => none
  | m :: t =>
    match bestMaster t with
    | none => some m
    | some b => if rankLt b.rank m.rank then some b else some m

/-- The best master chosen again; a new one leads from LOCKED, PPS and HOLDOVER to ACQUIRING. -/
def State.choose (s : State) : State :=
  match bestMaster s.ts.masters with
  | none => s
  | some m =>
    if s.ts.chosen.map (·.ident) = some m.ident then { s.putB NET_TSTAT.TAI m.tai with ts := { s.ts with chosen := some m } }
    else
      let s : State := { s.putB NET_TSTAT.TAI m.tai with ts := { s.ts with chosen := some m, ident := m.ident, out := 0, reqEvery := none, inSince := none } }
      if s.get NET_TSTAT.STATE = 0 then s else s.timeState 1

/-- What an Announce message of 64 octets says, in network byte order (R9; log entry 109): its sender's clock identity, the data set in
the order in which the best master clock algorithm compares (priority 1, class, accuracy, variance, priority 2, grandmaster, steps, sender),
whether it announces the PTP timescale, and its announce interval. `now` is the run time at which it is heard. -/
def announced (now : Nat) (b : List Byte) : Master :=
  let n (i k : Nat) : Nat := ofBe (slice b i k)
  { ident := slice b 20 8
    rank := [n 47 1, n 48 1, n 49 1, n 50 2, n 52 1, n 53 8, n 61 2, n 20 8]
    tai := n 7 1 / 8 % 2 = 1
    every := n 33 1
    heard := now }

/-- ANNOUNCE (R331): in the domain of the NETWORK section. -/
def opAnnounce (b : List Byte) (s : State) : State :=
  if s.ptpPort.isNone ∨ b.length ≠ 64 ∨ ptpDomain b ≠ s.cfg.net.nat 10 0 0x050 [] then s
  else
    let s := s.ptpRx
    let a := announced s.clk.up b
    let ms := s.ts.masters.filter (fun m => m.ident ≠ a.ident)
    { s with ts := { s.ts with masters := a :: ms } }.choose

/-- A master of whom three of its announce intervals have passed without an Announce (R331). -/
def Master.silent (m : Master) (now : Nat) : Bool := m.heard + 3 * ptpInterval m.every ≤ now

/-- ANNOUNCE_TIMEOUT (R331, Table 11.1): three intervals without an Announce of the chosen master, whose frequency error is
frozen at `ferr` ppb. The best of the masters still heard is chosen; with none, device time goes to PPS or HOLDOVER. -/
def opAnnounceTimeout (ferr : Nat) (s : State) : State :=
  if s.ts.chosen.any (fun m => m.silent s.clk.up) = false then s
  else
    let rest := s.ts.masters.filter (fun x => !x.silent s.clk.up)
    let s : State := { s with ts := { s.ts with masters := rest, chosen := none } }
    if rest ≠ [] then s.choose
    else
      let s : State := { s.put NET_TSTAT.TAI 0 with
        ts := { s.ts with lostAt := s.clk.up, ferr := ferr, out := 0, reqEvery := none, inSince := none } }
      if s.get NET_TSTAT.STATE = 0 then s
      else s.timeState (if s.get PRB_STAT.PPS_IN = 2 ∧ s.get PRB_PPS.MODE = 2 then 3 else 4)

/-- The part's PTP port identity: the clock identity formed from the MAC address, port 1 (log entry 109). -/
def State.ptpIdent (s : State) : List Byte :=
  let m := s.macAddr
  m.take 3 ++ [0xFF, 0xFE] ++ m.drop 3 ++ be 2 1

/-- The Delay_Req message in network byte order (R9, R331; log entry 109). -/
def State.delayReqBytes (s : State) : List Byte :=
  [0x01, 0x12] ++ be 2 44 ++ be 1 (s.cfg.net.nat 10 0 0x050 []) ++ zeros 15 ++ s.ptpIdent ++ be 2 s.ts.reqSeq ++ [0x01, 0x7F] ++
  ptpStamp s.clk.dev

/-- Whether the interval that the master's last Delay_Resp requests has passed since the last Delay_Req; before its first one nothing bounds
it (log entry 133). -/
def State.delayReqDue (s : State) : Bool :=
  match s.ts.reqUp, s.ts.reqEvery with
  | some t, some k => t + ptpInterval k ≤ s.clk.up
  | _, _ => true

/-- DELAY_REQ (R331): sent at the interval that the master requests, in class 1, over UDP port 319 or layer 2. -/
def opDelayReq (s : State) : State :=
  if s.ptpPort.isSome && s.ts.chosen.isSome && s.delayReqDue then
    let udp := s.on NET_CFG.PTPUDP
    let s := s.send 1 (if udp then [224, 0, 1, 129] else []) (if udp then 319 else 0) s.delayReqBytes
    { s with ts := { s.ts with reqAt := some s.clk.dev, reqSeq := (s.ts.reqSeq + 1) % 65536, reqUp := some s.clk.up } }
  else s

/-- DELAY_RESP (R331): a Delay_Resp of 54 octets of the chosen master that answers the part's last Delay_Req says when the master received
it; with the last Sync it gives the mean path delay, and the interval of the next requests. -/
def opDelayResp (b : List Byte) (s : State) : State :=
  if s.ptpPort.isNone then s
  else
    let s := s.ptpRx
    if s.ofMaster b = false ∨ slice b 44 10 ≠ s.ptpIdent ∨ (ptpSeqNo b + 1) % 65536 ≠ s.ts.reqSeq then s
    else
      let s : State := { s with ts := { s.ts with reqEvery := some (ofBe (slice b 33 1)) } }
      match s.ts.sync, s.ts.reqAt with
      | some (t1, t2), some t3 =>
        let d := ((t2 - t1) + (ptpTime (slice b 34 10) - ptpCorr b - t3)) / 2
        { s.putSat NET_PDELAY.DELAY d.toNat with ts := { s.ts with delay := d, reqAt := none } }
      | _, _ => s

/-- TIME_LOCKED (Table 11.1): the offset has lain within 1 us for 10 s. -/
def opTimeLocked (s : State) : State :=
  if s.get NET_TSTAT.STATE = 1 ∧ s.ts.chosen.isSome ∧ s.ts.inSince.any (fun t => decide (t + 10000000000 ≤ s.clk.up)) then
    { s with ts := { s.ts with out := 0 } }.timeState 2
  else s

/-- The estimated error in HOLDOVER, us (R334). -/
def State.timeErr (s : State) : Nat :=
  if s.get NET_TSTAT.STATE = 4 then
    min 65535 (1 + s.ts.ferr * (s.clk.up - s.ts.lostAt) / 1000000000000)
  else 0

/-! ### PPS (R79-R82, R333) -/

/-- PPS_IN_EDGE (R79, R333): in DISCIPLINE mode an accepted edge corrects the sub-second phase of valid device time, and one that makes
`PPS_IN` QUALIFIED with the master lost leads from HOLDOVER to PPS (Table 11.1; log entry 133). -/
def opPpsInEdge (high : Nat) (s : State) : State :=
  let (acc, s) := s.ppsEdge high
  let s := if s.get NET_TSTAT.STATE = 4 ∧ s.get PRB_STAT.PPS_IN = 2 ∧ s.get PRB_PPS.MODE = 2 then s.timeState 3 else s
  if acc && s.get PRB_PPS.MODE = 2 && s.on NET_TSTAT.VALID then
    let θ := ppsOffset s.clk.dev
    if s.stepThreshold < θ.natAbs then
      let s := s.timeStep (-θ) false
      if s.get NET_TSTAT.STATE = 2 then s.timeState 1 else s
    else { s with ts := { s.ts with slew := -θ } }
  else s

/-- PPS_LOST (R80, Table 11.1): `PPS_IN` lost in state PPS leads to HOLDOVER. -/
def opPpsLost (s : State) : State :=
  let s := s.ppsLost
  if s.get NET_TSTAT.STATE = 3 ∧ s.get PRB_STAT.PPS_IN = 3 then s.timeState 4 else s

/-- PPS_OUT_RISE (R81, R82): within 10 ns of a whole second of valid device time; an edge less than 500 ms after the last is
omitted. -/
def opPpsOutRise (s : State) : State :=
  let live := !(s.md.mode = .reset || s.md.mode = .boot)
  let near := match s.pps.lastRise with
    | some t => decide (s.clk.up < t + 500000000)
    | none => false
  if s.on PRB_PPS.OUT_EN && s.on NET_TSTAT.VALID && live && !near && decide ((ppsOffset s.clk.dev).natAbs ≤ 10) then
    { s with pps := { s.pps with outPin := true, lastRise := some s.clk.up } }
  else s

/-- PPS_OUT_FALL (R81): the pulse has lasted `OUT_W` us. -/
def opPpsOutFall (s : State) : State :=
  match s.pps.lastRise with
  | some t =>
    if t + s.get PRB_PPS.OUT_W * 1000 ≤ s.clk.up then { s with pps := { s.pps with outPin := false } } else s
  | none => s

/-! ### Loading NETWORK (Table 11.20) -/

/-- The network registers under the NETWORK section in force. -/
def State.loadNet (s : State) : State :=
  let p := s.cfg.net
  let v (r : Nat) : Nat := p.nat 10 0 (0x040 + r) []
  let s := s.puts [(NET_CFG.MEDIA0, v 1), (NET_CFG.MEDIA1, v 2), (NET_CFG.RED, v 3), (NET_CFG.PTPUDP, v 15),
    (NET_CFG.UREAD, v 14), (NET_CFG.VLAN, v 10), (NET_CFG.MTU, v 18 / 4), (NET_STAT.PRP, b2n (v 3 = 0)),
    (NET_IP4.ADDR, ofBe ((p.bytes 10 0 0x045 []).getD [])), (NET_UDP.MGMT, v 11), (NET_UDP.BORNAK, v 12),
    (NET_UDP2.DATA, v 13), (NET_UDP2.DOMAIN, v 16)]
  s.txDisSync

/-- NET_CLEAR_COUNTS (R358): every `NET_` counter. -/
def opNetClearCounts (s : State) : State :=
  s.puts [(NET_STAT.UNKNOWN, 0), (NET_RX.COUNT 0, 0), (NET_RX.COUNT 1, 0), (NET_DROP.COUNT 0, 0), (NET_DROP.COUNT 1, 0),
    (NET_DUP.COUNT, 0), (NET_TXDROP.COUNT, 0), (NET_SPI.CRC, 0), (NET_SPI.BUSY, 0), (NET_SPI.BADCMD, 0)]

end Sys2Proof.Machine
end

