-- ==== Sys2Proof/Machine/Bornak.lean ====
section
/-! DEFINITION. The Bornak safe transport (R339-R349, R462): frames, consumers and producers of the connections, payload
items, and the `BNK_` registers that show them. -/

set_option Elab.async false

namespace Sys2Proof.Machine

def State.conn (s : State) (c : Nat) : Conn := sparseGet .reset s.conns c
def State.setConn (s : State) (c : Nat) (x : Conn) : State := { s with conns := sparseSet .reset s.conns c x }

/-! ### Settings (Tables 11.7-11.10) -/

/-- The connection slots that a plane configures. -/
def Plane.connList (p : Plane) : List Nat := (List.range 64).filter (fun c => p.hasRec 9 0x18 [c])

/-- A row of Table 11.7. -/
def Plane.connNat (p : Plane) (r c : Nat) : Nat := p.nat 9 0x18 (0x040 + r) [c]

/-- An item of a payload: kind, element, offset, head substitute (1 DARK). -/
structure Item where
  kind : Nat
  elem : Nat
  ofs : Nat
  sub : Nat
  deriving DecidableEq, Repr

/-- The receive items of a connection, in record order. -/
def Plane.rxItems (p : Plane) (c : Nat) : List Item :=
  ((List.range 16).filter (fun i => p.hasRec 9 0x19 [c, i])).map (fun i =>
    ⟨p.nat 9 0x19 0x081 [c, i], p.nat 9 0x19 0x082 [c, i], p.nat 9 0x19 0x083 [c, i], p.nat 9 0x19 0x084 [c, i]⟩)

/-- The transmit items of a connection, in record order. -/
def Plane.txItems (p : Plane) (c : Nat) : List Item :=
  ((List.range 16).filter (fun i => p.hasRec 9 0x1A [c, i])).map (fun i =>
    ⟨p.nat 9 0x1A 0x0C1 [c, i], p.nat 9 0x1A 0x0C2 [c, i], p.nat 9 0x1A 0x0C3 [c, i], 0⟩)

/-- Sizes of Table 11.10: HEAD, OUTPUTS, BRAKES 1; PEER 8. -/
def rxSize (kind : Nat) : Nat := if kind = 3 then 8 else 1

/-- Sizes of Table 11.10: HEAD_STATUS 2, INPUTS 4, OUTPUTS_STATUS 2, BRAKES_STATUS 1, DEVICE 2, PEER 8. -/
def txSize (kind : Nat) : Nat :=
  match kind with
  | 0 => 2
  | 1 => 4
  | 2 => 2
  | 3 => 1
  | 4 => 2
  | _ => 8

/-- The payload length of a direction (R342). -/
def payloadLen (size : Nat → Nat) (is : List Item) : Nat := (is.map (fun i => i.ofs + size i.kind)).foldl max 0

/-- The payload lengths of a connection. -/
def Plane.lrx (p : Plane) (c : Nat) : Nat := payloadLen rxSize (p.rxItems c)
def Plane.ltx (p : Plane) (c : Nat) : Nat := payloadLen txSize (p.txItems c)

/-- The CMAC key where authentication is CMAC. -/
def Plane.connKey (p : Plane) (c : Nat) : Option (List Byte) :=
  if p.connNat 8 c = 1 then p.bytes 9 0x18 0x049 [c] else none

/-- Every field of a connection (R347). -/
def Plane.connFields (p : Plane) (c : Nat) : List Nat × List (Option (List Byte)) × List Item × List Item :=
  (1 :: ([1, 2, 4, 5, 6, 7, 8].map (fun r => p.connNat r c)), [p.bytes 9 0x18 0x043 [c], p.bytes 9 0x18 0x049 [c]],
    p.rxItems c, p.txItems c)

/-- T_e in ns. -/
def State.te (s : State) (c : Nat) : Nat := s.cfg.sig.connNat 5 c * 1000000

/-- The connection and substitute of a head's receive item: DARK or the safe aspect, as source 3 (R257, Table 11.10). -/
def Plane.headItem (p : Plane) (h : Nat) : Option (Nat × Nat × Nat) :=
  let cs := p.connList.filterMap (fun c =>
    ((p.rxItems c).find? (fun i => i.kind = 0 && i.elem = h)).map (fun i => (c, i.sub)))
  cs.head?.map (fun q => (if q.2 = 1 then 0x10 else p.nat 6 0x0F 0x043 [h], 3, q.1))

/-! ### Payload items (Table 11.10) -/

/-- The PEER item between record order and network order (R9): bytes 0-3 are one number. -/
def peerSwap (b : List Byte) : List Byte := (b.take 4).reverse ++ b.drop 4

/-- A receive item under a payload, or under its substitute. -/
def State.applyItem (s : State) (c : Nat) (data : Option (List Byte)) (i : Item) : State :=
  match i.kind, data with
  | 0, some b =>
    let v := leAt b i.ofs 1
    ((s.headBornak i.elem (v % 32) 1 c).selectLevel i.elem (bitOf v 5) 1).headConsent i.elem (bitOf v 6)
  | 0, none =>
    let v := if i.sub = 1 then 0x10 else s.headNat 3 i.elem
    ((s.headBornak i.elem v 3 c).selectLevel i.elem false 1).headConsent i.elem false
  | 1, b => { s with sio := { s.sio with outDemand := (b.map (fun b => leAt b i.ofs 1)).getD 0 } }
  | 2, b => { s with sio := { s.sio with brkDemand := (b.map (fun b => leAt b i.ofs 1 % 4)).getD 0 } }
  | _, some b => { s with sio := { s.sio with peer := some (peerSwap (slice b i.ofs 8)), peerAt := s.clk.up } }
  | _, none => s

/-- Every receive item of a connection, then the safety functions evaluated. -/
def State.applyItems (s : State) (c : Nat) (data : Option (List Byte)) : State :=
  ((s.cfg.sig.rxItems c).foldl (fun s i => s.applyItem c data i) s).sioEval

/-- Whether a connection is the peer connection of Table 10.2. -/
def State.isPeer (s : State) (c : Nat) : Bool := s.on SIO_PEER.EN && s.get SIO_GEN.PEERCONN = c

/-- A transmit item's bytes. -/
def State.txBytes (s : State) (i : Item) : List Byte :=
  match i.kind with
  | 0 =>
    let x := s.head i.elem
    le 1 x.shown ++ le 1 (b2n x.fallback + 2 * b2n ((s.headChans i.elem).any (fun n => s.lampFailed n)) +
      4 * s.get (LMP_NIGHT.H i.elem) + 8 * s.get (LMP_STBY.H i.elem) + 16 * b2n x.held.isSome)
  | 1 => be 4 (s.rd SIO_LOGIC).toNat
  | 2 => le 1 (s.get SIO_OUT.ON) ++ le 1 (s.get SIO_OUT.LOCK)
  | 3 => le 1 (b2n (s.released 0) + 2 * b2n (s.released 1) + 4 * b2n (s.get (SIO_BRK.STATE 0) = 3) +
      8 * b2n (s.get (SIO_BRK.STATE 1) = 3))
  | 4 => le 1 s.md.code ++ le 1 (b2n (s.md.mode = .safe) + 2 * b2n s.sio.deg.deadline.isSome + 4 * b2n (!s.lnk.absent) +
      8 * b2n ((List.range 64).any (fun n => s.lampFailed n)))
  | _ => peerSwap s.peerItem

/-- Bytes laid over a buffer at an offset. -/
def overlay (b : List Byte) (o : Nat) (x : List Byte) : List Byte := b.take o ++ x ++ b.drop (o + x.length)

/-- The transmit payload; bytes that no item covers are 0. -/
def State.txPayload (s : State) (c : Nat) : List Byte :=
  (s.cfg.sig.txItems c).foldl (fun b i => overlay b i.ofs (s.txBytes i)) (zeros (s.cfg.sig.ltx c))

/-! ### Frames (R339-R341) -/

/-- The frame of a kind (0 DATA, 2 REQ, 3 ACK): id, sequence, sender time, payload, CRC, tag. -/
def bornakFrame (kind id seq time : Nat) (payload : List Byte) (key : Option (List Byte)) : List Byte :=
  let head := be 8 (id % 2 ^ 62 + kind * 2 ^ 62) ++ be 4 seq ++ be 6 (time % 2 ^ 48) ++ payload
  let whole := head ++ be 4 (crc32c head)
  match key with
  | some k => whole ++ slice (Config.cmac k whole) 0 8
  | none => whole

/-- A frame of a connection sent under its next sequence number (R348). -/
def State.connSend (s : State) (c kind : Nat) (payload : List Byte) : State :=
  let p := s.cfg.sig
  let x := s.conn c
  let b := bornakFrame kind (p.connNat 2 c) x.seq s.clk.bornak payload (p.connKey c)
  (s.setConn c { x with seq := (x.seq + 1) % 2 ^ 32 }).send 2 ((p.bytes 9 0x18 0x043 [c]).getD []) (p.connNat 4 c) b

/-! ### Consumer states (R346, Table 11.12) -/

/-- BNK_STATE: a consumer goes to a state with its cause; leaving RUN puts the substitutes in force. -/
def State.bnkState (s : State) (c st cause : Nat) : State :=
  let x := s.conn c
  if x.state = st then s
  else
    let s := s.setConn c { x with state := st, data := if st = 3 then x.data else none,
                                  resyncs := if st = 1 then x.resyncs + 1 else x.resyncs }
    let s := if st = 3 then s.put BNK_EVT.RUN 1 else s
    let s := if cause = 3 then s.put BNK_EVT.EXPIRED 1 else s
    let s := s.emit (srcConn c) Code.BNK_STATE (le 1 st ++ le 1 x.state ++ le 1 cause ++ le 4 x.q)
    if x.state = 3 then
      let s := s.applyItems c none
      if s.isPeer c then s.peerState true c else s
    else s

/-- A connection leaves CLOSED (R344, R348): its sequence and its first REQ number are free values. -/
def State.connOpen (s : State) (c : Nat) : State :=
  if (s.conn c).state ≠ 0 then s
  else
    let a := s.free 32
    let s := s.drawn
    let b := s.free 32
    let s := s.drawn
    (s.setConn c { s.conn c with seq := a, reqNo := b, reqAt := none, txAt := none }).bnkState c 1 6

/-- Modes in which connections are open (Table 11.12): HOLD or later, except ANALYSIS. -/
def State.bnkLive (s : State) : Bool :=
  s.md.mode = .hold || s.md.mode = .commission || s.md.mode = .family || s.md.mode = .safe || s.md.mode = .quiesce

/-- Connections on a change of mode. -/
def State.bornakMode (s : State) : State :=
  if s.bnkLive then s.cfg.sig.connList.foldl (fun s c => s.connOpen c) s
  else s.cfg.sig.connList.foldl (fun s c => s.bnkState c 0 7) s

/-- 100 times the age of a frame with sender time offset `x` at instant `t`, ns (R345). -/
def State.age100 (s : State) (c : Nat) (x : Int) : Int := ((s.clk.bornak : Int) - (s.conn c).tq) * 104 - x * 100

/-- The offset of a sender time from the anchor's, modulo 2^48. -/
def State.senderOfs (s : State) (c time : Nat) : Nat := (time + 2 ^ 48 - (s.conn c).sa % 2 ^ 48) % 2 ^ 48

/-- Whether the data in force have reached age T_e. -/
def State.dataExpired (s : State) (c : Nat) : Bool :=
  match (s.conn c).data with
  | some (t, _) => (s.te c : Int) * 100 ≤ s.age100 c (toSigned 48 (s.senderOfs c t))
  | none => false

/-- What has fallen due on a connection's clock before a frame is judged (R346, R349): expiry in RUN, no DATA in WAIT. -/
def State.bnkDue (s : State) (c : Nat) : State :=
  let x := s.conn c
  if x.state = 3 ∧ s.dataExpired c then s.bnkState c 1 3
  else if x.state = 2 ∧ x.tq + s.te c < s.clk.bornak then s.bnkState c 1 5
  else s

/-! ### Receiving (R339, R344, R345, Table 11.11) -/

/-- Counts since the last `BNK_ERRORS`: 0 CRC, 1 stale, 2 late, 3 gaps, 4 bad length. -/
def Conn.bump (x : Conn) (i k : Nat) : Conn := { x with win := x.win.set i (x.win.getD i 0 + k) }

/-- A frame dropped as stale. -/
def State.bnkStale (s : State) (c : Nat) : State :=
  let x := s.conn c
  s.setConn c ({ x with stale := x.stale + 1 }.bump 1 1)

/-- BNK_UNKNOWN (R339, R355): at most once per second. -/
def State.bnkUnknown (s : State) (id : List Byte) : State :=
  let s : State := { s.inc NET_STAT.UNKNOWN with net := { s.net with unk := s.net.unk + 1 } }
  let quiet := match s.net.unkAt with
    | some t => decide (s.clk.up < t + 1000000000)
    | none => false
  if quiet then s
  else
    let n := s.net.unk
    let s : State := { s with net := { s.net with unk := 0, unkAt := some s.clk.up } }
    s.emit srcNet Code.BNK_UNKNOWN (le 2 (min 0xFFFF n) ++ id)

/-- BNK_AUTH (R341): a tag failure, recorded at most once per second. -/
def State.bnkAuth (s : State) (c : Nat) : State :=
  let x := s.conn c
  let x := { x with tag := x.tag + 1, auth := x.auth + 1 }
  let quiet := match x.authAt with
    | some t => decide (s.clk.up < t + 1000000000)
    | none => false
  if quiet then s.setConn c x
  else
    ((s.setConn c { x with auth := 0, authAt := some s.clk.up }).put BNK_EVT.AUTH 1).emit (srcConn c) Code.BNK_AUTH
      (le 2 (min 0xFFFF x.auth))

/-- A DATA frame that has passed size, id, length, CRC and tag (R345). -/
def State.bnkData (s : State) (c seq time : Nat) (payload : List Byte) : State :=
  let x := s.conn c
  let d := (seq + 2 ^ 32 - x.q % 2 ^ 32) % 2 ^ 32
  let w := s.cfg.sig.connNat 7 c
  let o := s.senderOfs c time
  if x.state < 2 then s.bnkStale c
  else if d = 0 ∨ 2 ^ 31 ≤ d then s.bnkStale c
  else if w < d then s.bnkState c 1 4
  else if 2 ^ 47 ≤ o ∨ (s.te c : Int) * 100 < s.age100 c o then
    s.setConn c ({ x with late := x.late + 1 }.bump 2 1)
  else
    let x := { x with q := seq, data := some (time, payload), gaps := x.gaps + (d - 1) }.bump 3 (d - 1)
    let s := (s.setConn c x).bnkState c 3 2
    let s := if s.isPeer c then s.peerState false c else s
    s.applyItems c (some payload)

/-- An ACK that has passed its checks makes an anchor (R344), or is dropped. -/
def State.bnkAck (s : State) (c seq time : Nat) (payload : List Byte) : State :=
  let x := s.conn c
  let d := (seq + 2 ^ 32 - x.q % 2 ^ 32) % 2 ^ 32
  let w := s.cfg.sig.connNat 7 c
  match x.reqAt with
  | none => s.bnkStale c
  | some t =>
    if x.state = 0 ∨ beAt payload 0 4 ≠ (x.reqNo + 2 ^ 32 - 1) % 2 ^ 32 ∨ s.te c < (s.clk.bornak - t) * 4 ∨
        (2 ≤ x.state ∧ ¬ (1 ≤ d ∧ d ≤ w)) then s.bnkStale c
    else
      let s := s.setConn c { x with tq := t, sa := time, q := seq }
      if x.state = 1 then s.bnkState c 2 1 else s

/-- A REQ that has passed CRC and tag is answered by an ACK (R348). -/
def State.bnkReq (s : State) (c : Nat) (payload : List Byte) : State :=
  if (s.conn c).state = 0 then s else s.connSend c 3 (slice payload 0 4 ++ zeros 4)

/-- A datagram on the Bornak port, checked in the order of R339. While the sensing die is absent none reaches the signal die
(R349). -/
def State.bornakRx (s : State) (k : Carrier) (b : List Byte) : State :=
  let (ok, s) := s.netRx k
  if ok = false ∨ s.lnk.absent = true then s
  else if b.length < 22 then s.bnkUnknown (zeros 8)
  else
    let id := beAt b 0 8
    let kind := id / 2 ^ 62
    let p := s.cfg.sig
    match p.connList.find? (fun c => p.connNat 1 c % 2 ^ 62 = id % 2 ^ 62) with
    | none => s.bnkUnknown (le 8 id)
    | some c =>
      let s := s.bnkDue c
      let l := if kind = 0 then p.lrx c else 8
      let key := p.connKey c
      let tagged := key.isSome
      if kind = 1 ∨ b.length ≠ 22 + l + 8 * b2n tagged then s.setConn c ((s.conn c).bump 4 1)
      else if beAt b (18 + l) 4 ≠ crc32c (b.take (18 + l)) then
        s.setConn c ({ s.conn c with crc := (s.conn c).crc + 1 }.bump 0 1)
      else if tagged ∧ b.drop (22 + l) ≠ slice (Config.cmac (key.getD []) (b.take (22 + l))) 0 8 then s.bnkAuth c
      else
        let seq := beAt b 8 4
        let time := beAt b 12 6
        let payload := slice b 18 l
        if kind = 0 then s.bnkData c seq time payload
        else if kind = 2 then s.bnkReq c payload
        else s.bnkAck c seq time payload

/-- BORNAK_DATA (R345): a datagram arrives on the Bornak port. -/
def opBornakData (k : Carrier) (b : List Byte) (s : State) : State := s.bornakRx k b

/-- BORNAK_REQ (R348). -/
def opBornakReq (k : Carrier) (b : List Byte) (s : State) : State := s.bornakRx k b

/-- BORNAK_ACK (R344). -/
def opBornakAck (k : Carrier) (b : List Byte) (s : State) : State := s.bornakRx k b

/-- Whether T_e / 2 has passed since the connection's last REQ, on the Bornak clock (R344). -/
def State.reqDue (s : State) (c : Nat) : Bool :=
  match (s.conn c).reqAt with
  | some t => t + s.te c / 2 ≤ s.clk.bornak
  | none => true

/-- BORNAK_REQ_SEND (R344): every T_e / 2 outside CLOSED. -/
def opBornakReqSend (c : Nat) (s : State) : State :=
  let x := s.conn c
  if x.state = 0 ∨ s.lnk.absent = true ∨ s.reqDue c = false then s
  else
    let s := s.setConn c { x with reqNo := (x.reqNo + 1) % 2 ^ 32, reqAt := some s.clk.bornak }
    s.connSend c 2 (be 4 x.reqNo ++ zeros 4)

/-- Whether a DATA frame is due (R348): the transmit period has passed since the last, or the payload has changed and 1 ms has passed. -/
def State.dataDue (s : State) (c : Nat) : Bool :=
  let x := s.conn c
  match x.txAt with
  | some t => t + s.cfg.sig.connNat 6 c * 1000000 ≤ s.clk.up || (decide (t + 1000000 ≤ s.clk.up) && s.txPayload c ≠ x.txLast)
  | none => true

/-- BORNAK_DATA_SEND (R348): every transmit period and at each change of the payload, at most one per 1 ms. -/
def opBornakDataSend (c : Nat) (s : State) : State :=
  let x := s.conn c
  if x.state = 0 ∨ s.lnk.absent = true ∨ s.dataDue c = false then s
  else
    (s.setConn c { x with txAt := some s.clk.up, txLast := s.txPayload c }).connSend c 0 (s.txPayload c)

/-- BORNAK_EXPIRY (R346): the data in force have reached age T_e. -/
def opBornakExpiry (c : Nat) (s : State) : State := 
  if (s.conn c).state = 3 ∧ s.dataExpired c = true then s.bnkState c 1 3 else s

/-- BORNAK_WAIT_TIMEOUT (R346): no DATA accepted within T_e of the anchor. -/
def opBornakWaitTimeout (c : Nat) (s : State) : State := 
  if (s.conn c).state = 2 ∧ (s.conn c).tq + s.te c < s.clk.bornak then s.bnkState c 1 5 else s

/-- BNK_ERRORS (R355): risen counts of a connection recorded, at most once per second. -/
def opBnkErrors (c : Nat) (s : State) : State :=
  let x := s.conn c
  if x.win.all (· = 0) ∨ x.errAt.any (fun t => decide (s.clk.up < t + 1000000000)) then s
  else
    let s := (s.setConn c { x with win := [0, 0, 0, 0, 0], errAt := some s.clk.up }).put BNK_EVT.ERRORS 1
    s.emit (srcConn c) Code.BNK_ERRORS (x.win.flatMap (fun n => le 2 (min 0xFFFF n)))

/-- BNK_CLEAR_COUNTS (R358): the counters of every connection. -/
def opBnkClearCounts (s : State) : State :=
  (List.range 64).foldl (fun s c =>
    s.setConn c { s.conn c with crc := 0, tag := 0, stale := 0, late := 0, gaps := 0, resyncs := 0 }) s

/-! ### Loading and exchange (R347) -/

/-- A connection that an exchange of planes changes (cause 6) or removes (cause 7) goes to CLOSED. Its substitutes act under the new
plane; without one its demands end. -/
def State.connGone (s : State) (c cause : Nat) : State :=
  let x := s.conn c
  let s := if x.state = 0 then s else s.emit (srcConn c) Code.BNK_STATE (le 1 0 ++ le 1 x.state ++ le 1 cause ++ le 4 x.q)
  let s := if x.state = 3 ∧ s.isPeer c then s.peerState true c else s
  let items := s.cfg.sig.rxItems c
  let s : State := { s with sio := { s.sio with
    outDemand := if items.any (fun i => i.kind = 1) then 0 else s.sio.outDemand
    brkDemand := if items.any (fun i => i.kind = 2) then 0 else s.sio.brkDemand } }
  s.setConn c .reset

/-- The connections that an exchange of planes changes or removes, under the old plane (R347). -/
def State.bornakBefore (s : State) (new : Plane) : State :=
  s.cfg.sig.connList.foldl (fun s c =>
    if new.hasRec 9 0x18 [c] = false then s.connGone c 7
    else if s.cfg.sig.connFields c ≠ new.connFields c then s.connGone c 6
    else s) s

/-- After the exchange the new and changed connections start on their substitutes, and open. -/
def State.bornakAfter (s : State) : State :=
  let fresh := s.cfg.sig.connList.filter (fun c => (s.conn c).state = 0)
  let s := fresh.foldl (fun s c => s.applyItems c none) s
  if s.bnkLive then fresh.foldl (fun s c => s.connOpen c) s else s

/-! ### Registers (Table 11.20) -/

/-- Connections up (R346). -/
def State.connsUp (s : State) : List Nat := s.cfg.sig.connList.filter (fun c => (s.conn c).state = 3)

/-- Connections configured and not up. -/
def State.connsDown (s : State) : List Nat := s.cfg.sig.connList.filter (fun c => (s.conn c).state ≠ 3)

/-- A set of connection slots as the bits of word w. -/
def connBits (w : Nat) (cs : List Nat) : Nat := ((cs.filter (fun c => c / 32 = w)).map (fun c => 2 ^ (c % 32))).sum

/-- `BNK_STAT`. -/
def State.bnkStat (s : State) : Nat :=
  s.cfg.sig.connList.length + 256 * s.connsUp.length + 65536 * s.connsDown.length

/-- `BNK_CCFG` of a connection. -/
def State.bnkCcfg (s : State) (c : Nat) : Nat :=
  let p := s.cfg.sig
  if p.hasRec 9 0x18 [c] then
    p.connNat 5 c + 2 ^ 11 * p.connNat 6 c + 2 ^ 21 * p.connNat 7 c + 2 ^ 29 * p.connNat 8 c + 2 ^ 30 * b2n (s.isPeer c)
  else 0

/-- `BNK_CSTAT` of a connection: the age of the data in force in ms, saturating. -/
def State.bnkCstat (s : State) (c : Nat) : Nat :=
  let p := s.cfg.sig
  let age := match (s.conn c).data with
    | some (t, _) => min 2047 ((s.age100 c (toSigned 48 (s.senderOfs c t))).toNat / 100000000)
    | none => 0
  (s.conn c).state + 4 * age + (if p.hasRec 9 0x18 [c] then 2 ^ 13 * p.lrx c + 2 ^ 20 * p.ltx c else 0)

/-- `BNK_CCNT0` to `BNK_CCNT2` of a connection. -/
def State.bnkCcnt (s : State) (c w : Nat) : Nat :=
  let x := s.conn c
  let (a, b) := if w = 0 then (x.crc, x.tag) else if w = 1 then (x.stale, x.late) else (x.gaps, x.resyncs)
  min 0xFFFF a + 65536 * min 0xFFFF b

end Sys2Proof.Machine
end

