-- ==== Sys2Proof/Machine/Chain.lean ====
section
/-! DEFINITION. Data streams (R336, R337), the record chains and their seals (R368-R370), and the SPI record path
(R354). -/

set_option Elab.async false

namespace Sys2Proof.Machine

/-! ### Keys by number (R359) -/

/-- The identity (0) and wrap (1) public keys. -/
def State.pubKey (s : State) (k : Nat) : List Byte := Config.publicKey k s.uid

/-- A signature r, s of the identity key over bytes (R359). -/
def State.sign (s : State) (bytes : List Byte) : List Byte :=
  slice (Config.ecdsaSign 0 s.uid (Config.sha384 bytes)) 0 96

/-! ### Destinations (R337, R356) -/

/-- Whether destination d receives product p. -/
def State.receives (s : State) (d p : Nat) : Bool :=
  s.cfg.net.hasRec 10 0x1B [d] && bitOf (s.cfg.net.nat 10 0x1B 0x083 [d]) p

/-- The products of destination d that are chained: those it receives, other than the seals themselves. -/
def State.chained (s : State) (d : Nat) : List Nat := ((List.range 8).map (· + 1)).filter (fun p => s.receives d p)

/-- The chain of a destination and product at its start (R368). -/
def State.chainStart (s : State) (d p : Nat) : Chain :=
  let c := Config.sha384 (s.uid ++ be 2 s.recs.epoch ++ le 1 d ++ le 1 p)
  ⟨c, c, 0, 0, 0⟩

def State.chain (s : State) (d p : Nat) : Chain := sparseGet .reset s.net.chains (16 * d + p)
def State.setChain (s : State) (d p : Nat) (x : Chain) : State :=
  { s with net := { s.net with chains := sparseSet .reset s.net.chains (16 * d + p) x } }

/-- The last whole second of device time whose seal for a destination has been made or given up (R369). -/
def State.sealedTo (s : State) (d : Nat) : Nat := sparseGet 0 s.net.sealAt d
def State.sealMark (s : State) (d n : Nat) : State := { s with net := { s.net with sealAt := sparseSet 0 s.net.sealAt d n } }

/-- The whole second of device time. -/
def State.second (s : State) : Nat := s.clk.dev / 1000000000

/-- The chains of a destination started (R368); its first seal is that of the next second. -/
def State.chainsStart (s : State) (d : Nat) : State :=
  ((s.chained d).foldl (fun s p => s.setChain d p (s.chainStart d p)) s).sealMark d s.second

/-- The entry of a destination in a plane. -/
def Plane.dest (p : Plane) (d : Nat) : Bool × Option (List Byte) × Nat × Nat :=
  (p.hasRec 10 0x1B [d], p.bytes 10 0x1B 0x081 [d], p.nat 10 0x1B 0x082 [d], p.nat 10 0x1B 0x083 [d])

/-- Chains after a NETWORK section has replaced `old`: those of a changed entry start again (R368). -/
def State.chainsLoad (s : State) (old : Plane) : State :=
  (List.range 4).foldl (fun s d => if s.cfg.net.dest d = old.dest d then s else s.chainsStart d) s

/-! ### Datagrams (R337, Table 11.4) -/

/-- The next sequence number of a destination and product (Table 11.4). -/
def State.streamSeq (s : State) (d p : Nat) : Nat := sparseGet 0 s.net.dseq (16 * d + p)

def State.nextStream (s : State) (d p : Nat) : State :=
  { s with net := { s.net with dseq := sparseSet 0 s.net.dseq (16 * d + p) ((s.streamSeq d p + 1) % 2 ^ 32) } }

/-- The header of a data-stream datagram beyond its product and sequence (Table 11.4). -/
structure StreamHead where
  time : Nat
  source : Nat
  part : Nat
  flags : Nat
  first : Nat
  count : Nat
  deriving DecidableEq, Repr

/-- A datagram's bytes. -/
def streamBytes (p seq : Nat) (h : StreamHead) (elems : List Byte) : List Byte :=
  be 2 0x4B44 ++ le 1 1 ++ le 1 p ++ be 4 seq ++ be 8 h.time ++ be 2 h.source ++ le 1 h.part ++ le 1 h.flags ++
  be 4 h.first ++ be 2 h.count ++ zeros 2 ++ elems

/-- The largest UDP payload to an address: the MTU less the IP and UDP headers. -/
def State.maxPayload (s : State) (addr : List Byte) : Nat :=
  s.cfg.net.nat 10 0 0x052 [] - (if addr.length = 16 then 48 else 28)

/-- Whether a frame can leave: some port that carries traffic has its link up. -/
def State.canSend (s : State) : Bool := s.trafficPorts ≠ []

/-- A chained datagram sent (R368). -/
def State.streamSend (s : State) (d p : Nat) (h : StreamHead) (elems : List Byte) : State :=
  let seq := s.streamSeq d p
  let bytes := streamBytes p seq h elems
  let c := s.chain d p
  let x : Chain := { c with c := Config.sha384 (c.c ++ bytes), first := if c.count = 0 then seq else c.first,
                            last := seq, count := c.count + 1 }
  let cls := if p = 1 then 4 else if p = 4 then 6 else 5
  ((s.setChain d p x).nextStream d p).send cls ((s.cfg.net.bytes 10 0x1B 0x081 [d]).getD []) (s.cfg.net.nat 10 0x1B 0x082 [d])
    bytes

/-- A datagram of class 5 or 6 that could not start within its wait (R336): its number is consumed; `TX_DROP` at most once
per second per product and destination. -/
def State.streamDrop (s : State) (d p : Nat) : State :=
  let k := 16 * d + p
  let n := sparseGet 0 s.net.drops k + 1
  let s := ((s.nextStream d p).inc NET_TXDROP.COUNT)
  let last := sparseGet 0 s.net.dropAt k
  if last ≠ 0 ∧ s.clk.up < last - 1 + 1000000000 then { s with net := { s.net with drops := sparseSet 0 s.net.drops k n } }
  else
    let s : State := { s with net := { s.net with drops := sparseSet 0 s.net.drops k 0,
                                                  dropAt := sparseSet 0 s.net.dropAt k (s.clk.up + 1) } }
    (s.put NET_EVT.TXDROP 1).emit srcNet Code.TX_DROP (le 1 p ++ le 1 d ++ le 4 n)

/-- A path takes the oldest records that wait for it, at most n (R44, R354): a record that every path has taken leaves the
queue. -/
def State.takeRecords (s : State) (path n : Nat) : List Record × State :=
  let qs := (s.recs.queue.filter (fun q => path ∈ q.left)).take n
  let taken : List Record := qs.map (fun q => q.r)
  let queue : List QRec := s.recs.queue.map (fun (q : QRec) => if q.r ∈ taken then { q with left := q.left.filter (· ≠ path) } else q)
  let done := (queue.filter (fun q => q.left = [])).map (·.r)
  let s : State := { s with recs := { s.recs with queue := queue.filter (fun q => q.left ≠ []) } }
  (taken, done.foldl (fun s r => s.markDelivered r) s)

/-- Records sent to a destination as one datagram of product 0x01: as many as wait, at most n and the MTU's room. -/
def State.recordsSend (s : State) (d n : Nat) : State :=
  let addr := (s.cfg.net.bytes 10 0x1B 0x081 [d]).getD []
  let room := (s.maxPayload addr - 28) / 32
  if s.receives d 1 = false ∨ s.canSend = false then s
  else
    let (rs, s) := s.takeRecords d (min n room)
    if rs = [] then s
    else s.streamSend d 1 ⟨s.clk.dev, 0, 0, 3, 0, rs.length⟩ ((rs.map Record.bytes).flatten)

/-! ### Seals (R369, R370) -/

/-- CLS_SEAL_LATE (Table 12.12): carrier 1 network, 2 SPI; the seal time missed. -/
def State.sealLate (s : State) (carrier time : Nat) : State :=
  (s.put CLS_EVT.SEALLATE 1).emit srcCloister Code.CLS_SEAL_LATE (le 1 carrier ++ le 8 time)

/-- A chain seal to a destination (R369, Table 12.8): elements, signed trailer, and the intervals start again. -/
def State.netSeal (s : State) (d : Nat) : State :=
  let ps := s.chained d
  let elem (p : Nat) : List Byte :=
    let c := s.chain d p
    le 1 p ++ zeros 3 ++ be 4 c.first ++ be 4 c.last ++ be 4 c.count ++ slice c.before 0 48 ++ slice c.c 0 48
  let n := sparseGet 0 s.net.seals d + 1
  let h : StreamHead := ⟨s.clk.dev, 0, 0, 3, 0, ps.length⟩
  let signed := streamBytes 9 (s.streamSeq d 9) h ((ps.map elem).flatten) ++ be 8 s.clk.dev ++ be 2 s.recs.epoch ++ zeros 2 ++
    be 4 n
  let bytes := signed ++ keyId (s.pubKey 0) ++ s.sign signed ++ zeros 8
  let s := ps.foldl (fun s p => s.setChain d p { s.chain d p with before := (s.chain d p).c, first := 0, last := 0, count := 0 }) s
  let s : State := { s with net := { s.net with seals := sparseSet 0 s.net.seals d n } }
  (s.nextStream d 9).send 4 ((s.cfg.net.bytes 10 0x1B 0x081 [d]).getD []) (s.cfg.net.nat 10 0x1B 0x082 [d]) bytes

/-- CHAIN_SEAL (R369): the seal of the present second of device time to destination d. It waits while an envelope is being decided
(Table 12.11); one that has not been signed within 1 s of its time is recorded as late, and its interval goes with the next (R370). With
no link up the second passes without one (log entry 134). -/
def opChainSeal (d : Nat) (s : State) : State :=
  let n := s.second
  let k := s.sealedTo d
  if s.receives d 9 = false ∨ s.cls.deciding.isSome ∨ n ≤ k then s
  else if s.canSend = false then s.sealMark d n
  else if k + 2 ≤ n then (s.sealMark d (k + 1)).sealLate 1 ((k + 1) * 1000000000)
  else (s.sealMark d n).netSeal d

/-- The SPI-path seal written to `CLS_SEAL_D` (R370, Table 12.15). -/
def State.spiSealNow (s : State) : State :=
  let x := s.spi
  let n := s.get CLS_SEAL_STAT.COUNT + 1
  let signed := be 4 x.taken ++ be 4 x.chain.count ++ slice x.chain.before 0 48 ++ slice x.chain.c 0 48 ++ be 8 s.clk.dev ++
    be 2 s.recs.epoch ++ zeros 2 ++ be 4 n
  let bytes := signed ++ keyId (s.pubKey 0) ++ s.sign signed
  let s : State := { s with spi := { x with sealNow := bytes, taken := x.taken + x.chain.count,
                                            chain := { x.chain with before := x.chain.c, first := 0, last := 0, count := 0 } } }
  s.put CLS_SEAL_STAT.COUNT n

/-- The chain of the SPI path at its start (R370). -/
def State.spiChainStart (s : State) : State :=
  let c := Config.sha384 (s.uid ++ be 2 s.recs.epoch ++ le 1 0xFF ++ le 1 1)
  { s with spi := { s.spi with chain := ⟨c, c, 0, 0, 0⟩, taken := 0, sealAt := s.clk.up } }

/-- The second of the SPI seal that is due has begun: the next one begins a second later. -/
def State.spiSecond (s : State) : State := { s with spi := { s.spi with sealAt := s.spi.sealAt + 1000000000 } }

/-- SPI_SEAL (R370): every second, from the end of BOOT on; one that has not been signed within 1 s of its time is late. -/
def opSpiSeal (s : State) : State :=
  let t := s.spi.sealAt + 1000000000
  if s.md.mode = .reset ∨ s.md.mode = .boot ∨ s.cls.deciding.isSome ∨ s.clk.up < t then s
  else if t + 1000000000 ≤ s.clk.up then s.spiSecond.sealLate 2 (s.clk.dev - (s.clk.up - t)) else s.spiSecond.spiSealNow

/-- A record taken by the SPI host (R354, R370). -/
def State.spiTake (s : State) : State :=
  match s.takeRecords 4 1 with
  | ([], s) => s
  | (r :: _, s) =>
    let c := s.spi.chain
    let x : Chain := { c with c := Config.sha384 (c.c ++ r.bytes), first := if c.count = 0 then r.seq else c.first,
                              last := r.seq, count := c.count + 1 }
    { s with spi := { s.spi with chain := x } }

/-- A read of `NET_RDATA` (R354): word w of the oldest record; the eighth read takes it. -/
def State.rdataRead (s : State) : Word × State :=
  match s.spiWaiting with
  | [] => (0, s)
  | q :: _ =>
    let w := s.recs.spiWord
    let v := BitVec.ofNat 32 (leAt q.r.bytes (4 * w) 4)
    let s : State := { s with recs := { s.recs with spiWord := (w + 1) % 8 } }
    (v, if w = 7 then s.spiTake else s)

/-- A read of word i of `CLS_SEAL_D` (R370): word 0 latches the whole seal until word 55 is read or 100 ms have passed. -/
def State.sealRead (s : State) (i : Nat) : Word × State :=
  let word (b : List Byte) : Word := BitVec.ofNat 32 (ofBe (slice b (4 * i) 4))
  if i = 0 then (word s.spi.sealNow, { s with spi := { s.spi with sealLatch := some (s.clk.up, s.spi.sealNow) } })
  else
    match s.spi.sealLatch with
    | some (t, b) =>
      if s.clk.up < t + 100000000 then
        (word b, if i = 55 then { s with spi := { s.spi with sealLatch := none } } else s)
      else (word s.spi.sealNow, { s with spi := { s.spi with sealLatch := none } })
    | none => (word s.spi.sealNow, s)

/-- Every record that waits for a network destination sent, in order (R428 step 5). -/
def State.recordsDrain : Nat → Nat → State → State
  | 0, _, s => s
  | n + 1, d, s => State.recordsDrain n d (s.recordsSend d 65535)

end Sys2Proof.Machine
end

