-- ==== Sys2Proof/Machine/SelfTest.lean ====
section
/-! DEFINITION. Self-test, repair, ageing and the Moss ledger (13_self_test_and_ageing.md): logic BIST (R385-R394), memory
test and repair (R395-R397), Lichen monitors (R398-R401), counter images and the journal (R402-R408). -/

namespace Sys2Proof.Machine

def State.setMon (s : State) (m : Nat) (x : Monitor) : State := { s with mons := sparseSet .reset s.mons m x }

/-! ### Logic BIST (R385-R393) -/

/-- Whether logic BIST runs (R388): in PROVISIONED and OWNED, from the end of BOOT except QUIESCE and ANALYSIS. -/
def State.bistOn (s : State) : Bool :=
  (s.cls.lc = 1 || s.cls.lc = 2) && !(s.md.mode = .reset || s.md.mode = .boot || s.md.mode = .quiesce || s.md.mode = .analysis)

/-- Whether an engine or channelizer is tested in short slices (R391). -/
def State.shortUnit (s : State) (u : Nat) : Bool :=
  if u < 20 then s.eng u = 1 && (List.range 20).all (fun e => s.eng e = 1 || s.eng e = 4)
  else if u < 23 then (s.get (ACQ_CHZ.STATE (u - 20)) = 1 || s.get (ACQ_CHZ.STATE (u - 20)) = 2) &&
    (List.range 3).all (fun c => s.get (ACQ_CHZ.STATE c) ≠ 0 && s.get (ACQ_CHZ.STATE c) ≠ 4)
  else false

/-- The slices of a unit's test: 16 out of service, 4,096 short ones, 64 of the housekeeper. -/
def State.sliceCount (s : State) (u : Nat) : Nat :=
  if 32 ≤ u then 32 else if u = 24 then 64 else if (s.unit u).short then 4096 else 16

/-- Whether a unit keeps live state over its slices (R387): an engine in UNDER_TEST and a spare channelizer keep none. -/
def State.keepsState (s : State) (u : Nat) : Bool := 23 ≤ u || (s.unit u).short

/-- What the end of a slice shows (R385, R387): nothing wrong, 1 a seal unlike the one that ROM holds for the region type and
slice, 2 a state that the restore left unlike the one saved. -/
def State.sliceFails (s : State) (u : Nat) (r : SliceEnd) : Option Nat :=
  let x := s.unit u
  if r.misr ≠ Config.goldenSeal (if u < 20 then 0 else if u < 23 then 20 else u) x.short x.slices then some 1
  else if s.keepsState u && decide (r.restored ≠ r.saved) then some 2
  else none

/-- Whether a slice of a unit may start: a test that a rotation step or command has begun, a unit under suspicion that is in
UNDER_TEST, short slices while every Landing holds 8 us or less, or the housekeeper; not before its wait is over. A failed unit is
never tested again (R394). -/
def State.sliceMay (s : State) (u : Nat) : Bool :=
  s.bistOn && s.get TST_STAT.UNIT = 0xFF && (s.unit u).state ≠ 2 && (s.unit u).holdTo ≤ s.clk.up &&
  (if u < 20 then (s.eng u = 0 && (s.unit u).active) || s.eng u = 3 || (s.shortUnit u && s.landMax ≤ 8)
   else if u < 23 then
     (s.get (ACQ_CHZ.STATE (u - 20)) = 0 && (s.unit u).active) || s.get (ACQ_CHZ.STATE (u - 20)) = 4 ||
       (s.shortUnit u && s.landMax ≤ 8)
   else decide (u = 24) && !s.gal.hkFailed)

/-- `TST_STAT.SHORT`: some unit is tested in short slices. -/
def State.shortSync (s : State) : State := s.putB TST_STAT.SHORT (s.bist.units.any (fun p => p.2.short))

/-- BIST_SLICE (R385-R387): a slice of a unit starts; `stop` tells of an interruption before its end count: 0 a Landing fill
of 24 us (short slices only, cause 0x03), 1 an upset in the save latches (cause 0x05). -/
def opBistSlice (u : Nat) (stop : Option (Fin 2)) (s : State) : State :=
  if s.sliceMay u = false then s
  else
    let short := s.shortUnit u
    let x := s.unit u
    let x := if x.active && x.short = short then x
      else { x with active := true, short := short, slices := 0, repeated := 0, since := s.clk.up }
    let s := (s.setUnit u { x with state := if short then 3 else x.state }).put TST_STAT.UNIT u
    let s := if short then s
      else if u < 20 then (s.put (GAL_ENG.STATE u) 3).put GAL_STAT.TESTING 1
      else if u < 23 then s.put (ACQ_CHZ.STATE (u - 20)) 4
      else s
    let s := s.shortSync
    match stop with
    | none => s
    | some 0 => if short then s.bistInterrupt 3 else s
    | some _ => s.bistInterrupt 5

/-- The rotation hands on after the reserve has passed (R389 step 2): the engine asked for by `TST_CMD.NOW`, or the next one
in cyclic order, skipping RETIRED. -/
def State.rotationHandOn (s : State) (r : Nat) : State :=
  let asked := match s.bist.want with
    | some u => if u < 20 ∧ u ≠ r ∧ s.eng u ≠ 4 then [u] else []
    | none => []
  let next := (asked ++ ((List.range 19).map (fun k => (r + 1 + k) % 20))).find? (fun e => s.eng e ≠ 4)
  let s : State := { s with bist := { s.bist with want := none } }
  match next with
  | none => s
  | some e =>
    if s.eng e = 0 then (s.setReserve e).galSync
    else if s.eng e = 1 then { s with gal := { s.gal with vacate := some e } }.rotationNext r
    else s

/-- BIST_PASS of a unit (R389-R391). -/
def State.bistPass (s : State) (u : Nat) : State :=
  let x := s.unit u
  let n := min 64 x.slices
  let how := if x.short || u = 24 then 2 else 1
  let s := s.setUnit u { x with active := false, slices := 0, repeated := 0, state := if x.short then 3 else 1,
                                lastPass := some s.clk.up, passes := x.passes + 1, must := false }
  let s := (s.untest u).galSync
  let s := (s.put TST_EVT.PASS 1).emit (srcUnit u) Code.BIST_PASS
    (le 1 u ++ le 1 n ++ le 1 (min 0xFF x.repeated) ++ le 1 how ++ le 4 ((s.clk.up - x.since) / 1000000))
  if u < 20 then
    let l := s.gal.suspects.map (fun (q : Suspect) => if q.cand = u then { q with passed := true } else q)
    let s : State := { s with gal := { s.gal with suspects := l } }
    if u = s.get GAL_STAT.RESERVE ∧ x.short = false ∧ s.gal.vacate = none ∧ s.gal.move = none then s.rotationHandOn u else s
  else if u < 23 then
    let c := u - 20
    let s := s.setChz c { s.chz c with passed := true }
    let served (f : Nat) : Bool := s.get (ACQ_STAT.CHZ f) ≠ 3
    let f := if served s.bist.turn then s.bist.turn else 1 - s.bist.turn
    if x.short ∨ served f = false then s
    else { s with gal := { s.gal with handover := some (c, f) }, bist := { s.bist with turn := 1 - f } }
  else s

/-- BIST_FAIL (R394, Table 13.2): recorded at its level, then the unit is handled. `how` 1 seal, 2 restore check. -/
def State.bistFail (s : State) (u slice addr bit how : Nat) : State :=
  let x := s.unit u
  let short := x.short
  let s := (s.setUnit u { x with active := false, short := false, must := false, state := 2, fails := x.fails + 1 }).inc TST_CNT.FAIL
  let s := (s.put TST_EVT.FAIL 1).shortSync
  let lvl := if u = 24 ∨ u = 35 ∨ u = 36 then 3 else if u = 32 then 4
    else if u = 33 ∨ u = 34 then (if s.supsLeft.filter (fun c => c ≠ u - 33) = [] then 3 else 1) else 1
  let s := s.emitAt lvl (srcUnit u) Code.BIST_FAIL
    (le 1 u ++ le 1 (slice % 256) ++ le 4 addr ++ le 1 bit ++ le 1 how)
  if u < 20 then
    if short then s.engineLost u 4 (s.firstUndone u)
    else
      let before := s.freeSpares.length
      ((s.retireEngine u 4).galSync.engineFailed u 4 0 0).spareLow before
  else if u < 23 then
    let c := u - 20
    let st := s.get (ACQ_CHZ.STATE c)
    let s := (s.put (ACQ_CHZ.STATE c) 5).repairEntry u 4 0 0
    let s := if st = 1 ∨ st = 2 then (s.endHandover (st - 1)).put (ACQ_STAT.CHZ (st - 1)) 3 else s
    s.chzShortage
  else if u = 24 then { s with gal := { s.gal with hkFailed := true } }
  else if u = 33 ∨ u = 34 then s.supFail (u - 33) 2
  else s

/-- BIST_SLICE_END (R385-R394): the slice in progress reaches its end count. -/
def opBistSliceEnd (r : SliceEnd) (s : State) : State :=
  let u := s.get TST_STAT.UNIT
  if u = 0xFF then s
  else
    let x := s.unit u
    match s.sliceFails u r with
    | none =>
      let s := ((s.untest u).put TST_STAT.UNIT 0xFF).setUnit u
        { x with slices := x.slices + 1, holdTo := s.clk.up + sliceWait u x.short false }
      if s.sliceCount u ≤ x.slices + 1 then s.bistPass u else s
    | some how => ((s.untest u).put TST_STAT.UNIT 0xFF).bistFail u x.slices r.addr r.bit how

/-- A test of a unit begins. -/
def State.testBegin (s : State) (u : Nat) : State :=
  let x := s.unit u
  if x.active || x.state = 2 then s
  else
    let s : State := if 20 ≤ u ∧ u < 23 then { s with gal := { s.gal with chzRun := sparseSet none s.gal.chzRun u none } } else s
    s.setUnit u { x with active := true, short := false, slices := 0, repeated := 0, since := s.clk.up }

/-- Whether a rotation step must wait (R389): during a move, REPLAN or a profile switch. -/
def State.rotationWaits (s : State) : Bool :=
  s.gal.move.isSome || s.gal.vacate.isSome || s.gal.restore ≠ [] || s.get CFG_STAT.SWSTATE ≠ 0

/-- The interval of an engine rotation step (R389): the rotation period shared among the engines that are not RETIRED; of a
channelizer step, a third of it (R390). -/
def State.rotationSlot (s : State) : Nat :=
  s.get TST_CTL.ROT_H * 3600000000000 / max 1 ((List.range 20).filter (fun e => s.eng e ≠ 4)).length
def State.chzSlot (s : State) : Nat := s.get TST_CTL.ROT_H * 3600000000000 / 3

/-- The start of the interval that an instant lies in, of intervals that began at `at_`: the next step keeps its own interval. -/
def slotStart (at_ slot now : Nat) : Nat := now - (now - at_) % max 1 slot

/-- ROTATION_STEP (R389): one at each interval: the reserve's test begins, or the step waits; it stops with the housekeeper (Table 13.2)
and in QUIESCE (R428). -/
def opRotationStep (s : State) : State :=
  let r := s.get GAL_STAT.RESERVE
  if s.bistOn = false ∨ s.gal.hkFailed ∨ 20 ≤ r ∨ s.clk.up < s.bist.rotAt + s.rotationSlot then s
  else if s.rotationWaits then s.put TST_STAT.WAIT 1
  else
    let s : State := { s with bist := { s.bist with rotAt := slotStart s.bist.rotAt s.rotationSlot s.clk.up } }
    if s.eng r = 0 ∨ s.eng r = 3 then (s.put TST_STAT.WAIT 0).testBegin r else s

/-- CHZ_ROTATION_STEP (R390): the spare's test begins; once it has passed, the fibre whose turn it is is handed to it and the
turn passes on. -/
def opChzRotationStep (s : State) : State :=
  if s.bistOn = false ∨ s.gal.hkFailed ∨ s.clk.up < s.bist.chzAt + s.chzSlot then s
  else
    let s : State := { s with bist := { s.bist with chzAt := slotStart s.bist.chzAt s.chzSlot s.clk.up } }
    match (List.range 3).find? (fun c => s.get (ACQ_CHZ.STATE c) = 0) with
    | none => s
    | some c => s.testBegin (20 + c)

/-- How a slice of a signal-die unit may run now (R392, R393): none, it waits; otherwise whether it is a short one. Converter
c's control region is tested in full slices while the other converter carries c's proving slots (that one is in RUN, or no
LAMP_CHANNELS section gives either any), in short ones while c carries all proving. -/
def State.signalSlice (s : State) (u : Nat) : Option Bool :=
  if u = 33 ∨ u = 34 then
    let c := u - 33
    match s.get (SUP_STAT.STATE (1 - c)) with
    | 0 | 1 => some false
    | 2 => none
    | _ => if c ∈ s.supsLeft then some true else none
  else some false

/-- SIGNAL_DIE_SLICE (R392, R393): one slice of a unit 32-36 runs, every 375 ms; the boot's complete test counts as the first pass. -/
def opSignalDieSlice (u : Nat) (r : SliceEnd) (s : State) : State :=
  if s.bistOn = false ∨ (s.unit u).state = 2 ∨ u < 32 ∨ 36 < u ∨ s.bist.sigAt.any (fun t => decide (s.clk.up < t + 375000000)) then s
  else
    match s.signalSlice u with
    | none => s
    | some short =>
      let s : State := { s with bist := { s.bist with sigAt := some s.clk.up } }
      let s := (s.setUnit u { s.unit u with short := short }).shortSync
      let x := s.unit u
      match s.sliceFails u r with
      | some how => s.bistFail u x.slices r.addr r.bit how
      | none =>
        if x.slices + 1 < s.sliceCount u then s.setUnit u { x with slices := x.slices + 1 }
        else s.setUnit u { x with slices := 0, state := if short then 3 else 1, passes := x.passes + 1,
                                  lastPass := some s.clk.up }

/-- TEST_NOW (R389): `TST_CMD.NOW` brings a unit's step forward. -/
def opTestNow (u : Nat) (s : State) : State :=
  let s := s.put TST_CMD.UNIT u
  if s.bistOn = false ∨ s.gal.hkFailed then s
  else if u < 20 then
    if u = s.get GAL_STAT.RESERVE then (if s.rotationWaits then s.put TST_STAT.WAIT 1 else s.testBegin u)
    else { s with bist := { s.bist with want := some u } }
  else if u < 23 then (if s.get (ACQ_CHZ.STATE (u - 20)) = 0 then s.testBegin u else s)
  else if u = 24 then s.testBegin u
  else s

/-- TST_CLEAR_COUNTS (R412). -/
def opTstClearCounts (s : State) : State := s.puts [(TST_CNT.FAIL, 0), (TST_CNT.INTR, 0)]

/-- `TST_UNIT` of a unit (Table 13.12). -/
def State.tstUnit (s : State) (u : Nat) : Nat :=
  let x := s.unit u
  let n := if x.short && u < 23 then x.slices / 64 else x.slices
  let age := match x.lastPass with
    | some t => (s.clk.up - t) / 60000000000
    | none => 0
  x.state + 4 * min 64 n + 65536 * min 0xFFFF age

/-- `TST_STAT.SIG_OK`: every signal-die unit has passed within the last 60 s. -/
def State.sigOk (s : State) : Bool :=
  [32, 33, 34, 35, 36].all (fun u => ((s.unit u).state = 1 || (s.unit u).state = 3) && match (s.unit u).lastPass with
    | some t => decide (s.clk.up ≤ t + 60000000000)
    | none => false)

/-! ### Memory test and repair (R395-R397) -/

/-- The arrays of Table 13.3 with their spare rows and columns; the store die's have spare pages. -/
def memArrays : List (Nat × Nat × Nat) :=
  ((List.range 20).map (fun e => (0x400 + e, 32, 8))) ++ ((List.range 8).map (fun b => (0x420 + b, 32, 8))) ++
  ((List.range 3).map (fun c => (0x430 + c, 8, 2))) ++ [(0x440, 16, 4), (0x500, 8, 2), (0x501, 8, 2), (0x502, 4, 1)]

/-- Entries of the repair map of a kind for an array. -/
def State.repairsOf (s : State) (a kind : Nat) : Nat :=
  (s.repair.filter (fun e => leAt e 0 2 = a && leAt e 2 1 = kind)).length

/-- Spares of an array left: rows (kind 1) or columns (kind 2). -/
def State.sparesLeft (s : State) (a kind : Nat) : Nat :=
  match memArrays.find? (fun m => m.1 = a) with
  | some (_, r, c) => (if kind = 1 then r else c) - s.repairsOf a kind
  | none => 0

/-- `TST_MEM` brought up to date. -/
def State.memSync (s : State) : State :=
  let low (kind : Nat) : Nat := (memArrays.map (fun m => s.sparesLeft m.1 kind)).foldl min 63
  s.puts [(TST_MEM.ENTRIES, s.repair.length), (TST_MEM.FULL, b2n (s.repair.length = 4096)), (TST_MEM.ROWS_MIN, low 1),
    (TST_MEM.COLS_MIN, low 2)]

/-- MOSS_PAGE (R402): a page that fails is retired and replaced while spare pages last. -/
def State.pageFails (s : State) (page : Nat) : State :=
  let n := s.led.spares - 1
  let s : State := { s.put MOS_EVT.PAGE 1 with led := { s.led with spares := n } }
  (s.put MOS_STAT.SPARES n).emit srcMoss Code.MOSS_PAGE (le 2 page ++ le 2 n)

/-- MEM_UNREPAIRABLE (R396): no spare is left. -/
def State.unrepairable (s : State) (a : Nat) (m : MemFault) : State :=
  let what := if a < 0x414 ∨ (0x430 ≤ a ∧ a < 0x433) then 1 else if 0x700 ≤ a then 3 else 2
  let s := (s.put TST_EVT.UNREP 1).emitAt (if what = 2 then 3 else 1) (0xC000 + a) Code.MEM_UNREPAIRABLE
    (le 2 m.row ++ le 2 m.col ++ le 1 m.bit ++ le 1 what)
  if a < 0x414 then
    let e := a - 0x400
    if s.eng e = 4 then s
    else if s.eng e = 1 ∨ s.eng e = 2 then s.engineLost e 5 (s.firstUndone e)
    else
      let before := s.freeSpares.length
      ((s.retireEngine e 5).galSync.engineFailed e 5 0 0).spareLow before
  else if 0x430 ≤ a ∧ a < 0x433 then
    let c := a - 0x430
    let st := s.get (ACQ_CHZ.STATE c)
    if st = 5 then s
    else
      let s := (s.put (ACQ_CHZ.STATE c) 5).repairEntry (20 + c) 4 0 0
      let s := if st = 1 ∨ st = 2 then (s.endHandover (st - 1)).put (ACQ_STAT.CHZ (st - 1)) 3 else s
      s.chzShortage
  else if 0x700 ≤ a then s.pageFails m.row
  else s

/-- A repair (R396, R397): spares that fail are replaced by the next; cause 1 March, 2 repeated correction. -/
def State.repairMem (s : State) (a cause : Nat) (m : MemFault) : State :=
  let kind := if m.byCol then 2 else 1
  let left := s.sparesLeft a kind
  if left ≤ m.badSpares then s.unrepairable a m
  else
    let used := s.repairsOf a kind + m.badSpares
    let loc := if m.byCol then m.col else m.row
    let full := s.repair.length = 4096
    let s := (List.range (m.badSpares + 1)).foldl (fun s k => s.repairEntry a kind loc (used - m.badSpares + k)) s
    ((s.memSync).put TST_EVT.REPAIR 1).emit (0xC000 + a) Code.MEM_REPAIR
      (le 1 kind ++ le 2 loc ++ le 2 used ++ le 2 (left - m.badSpares - 1) ++ le 1 (if full then 4 else cause))

/-- MARCH_ROW (R395): the next row of an array is tested. -/
def opMarchRow (a : Nat) (bad : Option MemFault) (s : State) : State :=
  match bad with
  | none => s
  | some m => s.repairMem a 1 m

/-- SCRUB (R395, R396): error correction passes over an array; a word corrected three times within 24 h has its row or
column repaired. -/
def opScrub (a : Nat) (fix : Option MemFault) (s : State) : State :=
  match fix with
  | none => s
  | some m =>
    let k := (a * 65536 + m.row) * 65536 + m.col
    let now := s.clk.up
    let l := now :: (sparseGet [] s.corr k).filter (fun t => now < t + 86400000000000)
    if 3 ≤ l.length then { s with corr := sparseSet [] s.corr k [] }.repairMem a 2 m
    else { s with corr := sparseSet [] s.corr k l }

/-! ### Lichen (R398-R401) -/

/-- `LCH_STAT.OK`: monitors in service. -/
def State.lichenSync (s : State) : State :=
  s.put LCH_STAT.OK (48 - (s.mons.filter (fun p => p.2.failed)).length)

/-- A junction temperature towards the day's highest one (Table 13.7 area 8). -/
def State.dayReads (s : State) (t : Int) : State :=
  { s with led := { s.led with dayTop := some (match s.led.dayTop with | some d => max d t | none => t) } }

/-- LICHEN_FAIL (R400): the monitor is never read again. -/
def State.monFails (s : State) (m cause last : Nat) : State :=
  let s := ((s.setMon m { s.mon m with failed := true }).lichenSync).put LCH_EVT.FAIL 1
  s.emit (srcLichen m) Code.LICHEN_FAIL (le 1 cause ++ le 4 last)

/-- LICHEN_READ (R398, R400): a monitor's reading, every 60 s, 0.1 ps per stage or 0.1 nA, with the junction temperature in 0.1 C; none where it
gives no period or current. -/
def opLichenRead (m : Nat) (reading : Option Nat) (tj : Int) (s : State) : State :=
  let x := s.mon m
  if x.failed ∨ x.readAt.any (fun t => decide (s.clk.up < t + 60000000000)) then s
  else
    match reading with
    | none => s.monFails m 1 x.val
    | some v => (s.setMon m { x with hour := (v, tj) :: x.hour, readAt := some s.clk.up }).dayReads tj

/-- The hour of one monitor (R398-R400): the mean of its readings with the hour's step and mean temperature, its drift, and its failure
where the normalised value lies outside 0.5 to 2.0 times the factory value. An hour without a reading keeps the last mean. -/
def State.monHour (s : State) (m : Nat) : State :=
  let x := s.mon m
  if x.failed ∨ x.hour = [] then s
  else
    let n := x.hour.length
    let mean := (2 * (x.hour.map (·.1)).sum + n) / (2 * n)
    let tj := roundHalf (((x.hour.map (·.2)).sum : Rat) / n)
    let k := s.get GAL_STAIR.SET
    let v := Config.lichenNormal m mean k tj
    let s := s.setMon m { x with val := mean, step := k, drift := v - 10000, tj := tj, hour := [] }
    if v < 5000 ∨ 20000 < v then s.monFails m 2 mean else s

/-- LICHEN_HOURLY (R398, R399): each hour. -/
def opLichenHourly (s : State) : State :=
  if s.clk.up < s.led.hourAt + 3600000000000 then s
  else (List.range 48).foldl (fun s m => s.monHour m) { s with led := { s.led with hourAt := s.clk.up } }

/-- LICHEN_DAILY (R399, Table 13.7 areas 7 and 8): each monitor's normalised value of the day is kept, with the day's highest junction
temperature and the units' highest utilisations. -/
def opLichenDaily (s : State) : State :=
  if s.clk.up < s.led.dayAt + 86400000000000 then s
  else
  let s := (List.range 48).foldl (fun s m =>
    let x := s.mon m
    if x.failed then s else s.setMon m { x with daily := ((10000 + x.drift) :: x.daily).take 400 }) s
  let s : State := { s with
    led := { s.led with dayAt := s.clk.up, days := s.led.days + 1, dayMax := (s.led.dayTop.toList ++ s.led.dayMax).take 400, dayTop := none }
    gal := { s.gal with dayPeak := [], dayPeaks := (s.gal.dayPeak :: s.gal.dayPeaks).take 30 } }
  s.putSat LCH_STAT.DAYS s.led.days

/-- The highest daily utilisation of a unit over its last 30 days (R401). -/
def State.peak30 (s : State) (u : Nat) : Rat :=
  ((s.gal.dayPeaks.map (fun d => sparseGet 0 d u)).foldl max 0 : Nat) / 1000

/-- The days from now on which a unit's slack, predicted at step 14 and T_w with the drift of the fit, first lies below the target
(R401), within 50 years. -/
def State.crossDay (s : State) (u : Nat) : Option Nat :=
  let m := s.replica u
  (List.range 18263).find? (fun d => decide
    (1 - s.peak30 u * Config.delayRatio m s.worstTj 14 (Config.driftFit (s.mon m).daily (s.led.days + d)) <
      (s.get GAL_POLICY.TARGET : Nat) / 100))

/-- LICHEN_FORECAST (R401): the forecast date in device time, the earliest crossing of a COMMITTED engine or ACTIVE channelizer or 50
years ahead; 0 until 90 daily values exist; recorded at the first one, at a move of more than 30 days and at least every 30 days. -/
def opLichenForecast (s : State) : State :=
  let day := 86400000000000
  if s.led.days < 90 ∨ s.gal.hkFailed ∨ s.led.foreAt.any (fun t => decide (s.clk.up < t + day)) then s
  else
    let s : State := { s with led := { s.led with foreAt := some s.clk.up } }
    let first := lowest (s.planUnits.filterMap (fun u => (s.crossDay u).map (fun d => (u, (d : Rat)))))
    let (worst, ahead) := match first with
      | some (u, d) => (u, d.floor.toNat)
      | none => (0xFF, 18262)
    let far := first.isNone
    let date := s.clk.dev + ahead * day
    let s := s.puts [(LCH_FCAST_LO.T, date % 2 ^ 32), (LCH_FCAST_HI.T, date / 2 ^ 32 % 2 ^ 32), (LCH_STAT.FCAST, 1),
      (LCH_STAT.FAR, b2n far)]
    let due : Bool := match s.led.fcast with
      | none => true
      | some (d, t) => decide (d + 30 * day < date ∨ date + 30 * day < d ∨ t + 30 * day ≤ s.clk.up)
    if due then
      let s : State := { s with led := { s.led with fcast := some (date, s.clk.up) } }
      (s.put LCH_EVT.FCAST 1).emit srcPlanner Code.LICHEN_FORECAST (le 8 date ++ le 1 (b2n far) ++ le 1 worst)
    else s

/-! ### The ledger (R402-R407) -/

/-- The junction temperature that area 1 counts: the highest of the dies' readings, 0.1 C; none before any is known. -/
def State.junction (s : State) : Option Int :=
  (([PWR_TEMP0.SENS, PWR_TEMP0.FE, PWR_TEMP1.SIG, PWR_TEMP1.STORE].map s.geti).filter (fun t => t ≠ -32768)).foldl
    (fun m t => some (match m with | some x => max x t | none => t)) none

/-- The bins of Table 13.7 areas 1 and 2 that a second falls into, numbered in the list of histograms after the engines' 200: junction
temperature, `VFIELD` and the Stair. -/
def State.secondBins (s : State) : List Nat :=
  (match s.junction with
    | some t => [1000 + (if t < -400 then 0 else min 34 (1 + ((t + 400) / 50).toNat))]
    | none => []) ++
  [1100 + min 16 (s.get PWR_VFIELD.NOW / 400), 1200 + s.get GAL_STAIR.SET]

/-- The second's counts (Table 13.7): each bin holds seconds, of which the ledger shows the minutes. -/
def State.countSecond (s : State) : State :=
  { s with hist := s.secondBins.foldl (fun h b => sparseSet 0 h b (sparseGet 0 h b + 1)) s.hist }

/-- Power-on seconds over life. -/
def State.poSecs (s : State) : Nat := s.led.poSecs + (s.clk.up - s.led.poSince) / 1000000000

/-- The degraded timer's remaining seconds (R318): 0xFFFF_FFFF when it is not running. -/
def State.degRemaining (s : State) : Nat :=
  match s.sio.deg.deadline with
  | some t => (t - s.clk.up + 999999999) / 1000000000
  | none => if s.sio.deg.expired then 0 else 0xFFFFFFFF

/-- The counter image (R403) is written to the next slot; `bad` a page that fails verification. -/
def State.imageWrite (s : State) (bad : Option Nat) : State :=
  let s := match bad with
    | some p => s.pageFails p
    | none => s
  let n := s.led.imageSeq + 1
  let now := s.clk.up
  let close (x : LampLife) : LampLife := match x.since with
    | some t => { x with since := none, lit := x.lit + (now - t) }
    | none => x
  { s.put MOS_WRITES.SEQ n with led := { s.led with
      imageSeq := n, imageDeg := s.degRemaining, imgPo := s.poSecs, imgFaults := s.jrn.faults, imgHist := s.hist,
      imgUnits := s.bist.units, imgAt := now, imgLamps := s.lamps.map (fun p => (p.1, close p.2)) } }

/-- COUNTER_IMAGE_WRITE (R403): every 10 min; the housekeeper writes it (Table 13.2). -/
def opCounterImageWrite (bad : Option Nat) (s : State) : State :=
  if s.gal.hkFailed ∨ s.clk.up < s.led.imgAt + 600000000000 then s else s.imageWrite bad

/-- An entry written to its ring (R404): the kept ring holds 131,072 entries, the rolling one 65,536. -/
def State.journalEntry (s : State) (kept : Bool) (r : Record) : State :=
  let j := s.jrn
  let e := (j.next, r)
  if kept then
    let full := decide (131072 ≤ j.kept.length)
    let l := (e :: j.kept).take 131072
    let s : State := { s with jrn := { j with next := j.next + 1, kept := l } }
    let s := s.put MOS_STAT.KEPT (min 0xFFFF (l.length / 2))
    if full then
      let s : State := { s.put MOS_STAT.WRAPPED 1 with led := { s.led with wrapped := true } }
      (s.put MOS_EVT.WRAP 1).emit srcMoss Code.MOSS_WRAP (le 4 ((l.getLast?.map (·.1)).getD 0))
    else s
  else { s with jrn := { j with next := j.next + 1, rolling := (e :: j.rolling).take 65536 } }

/-- JOURNAL_WRITE (R404): the oldest record that waits is written; `bad` a page that fails. -/
def opJournalWrite (bad : Option Nat) (s : State) : State :=
  match s.jrn.wait with
  | [] => s
  | (k, r) :: t =>
    if s.gal.hkFailed then s
    else
      let s := match bad with
        | some p => s.pageFails p
        | none => s
      { s with jrn := { s.jrn with wait := s.jrn.wait.drop (s.jrn.wait.length - t.length) } }.journalEntry k r

/-- Every waiting entry written, up to a count (R405). -/
def State.journalFlush : Nat → State → State
  | 0, s => s
  | n + 1, s =>
    match s.jrn.wait with
    | [] => s
    | (k, r) :: t => State.journalFlush n ({ s with jrn := { s.jrn with wait := t } }.journalEntry k r)

/-- LAMP_AGEING (R406): a month ends; the mean of the channel's passing lit samples, 0.1 mA, is kept and compared with the
reference. A month without such a sample keeps none. -/
def opLampAgeing (n : Nat) (s : State) : State :=
  let x := sparseGet .reset s.lamps n
  if x.month.2 = 0 then s
  else
    let mean := lampMean x.month
    let y := { x with means := (mean :: x.means).take 24, month := (0, 0) }
    let s : State := { s with lamps := sparseSet .reset s.lamps n y }
    match x.ref with
    | none => s
    | some r =>
      let d : Int := (mean : Int) - r
      if r ≠ 0 ∧ r ≤ 10 * d.natAbs then
        s.emit (srcLamp n) Code.LAMP_AGEING (le 2 (min 0xFFFF r) ++ le 2 (min 0xFFFF mean) ++ leI 1 (satS 8 (d * 100 / r)))
      else s

/-- The journal's entries in the order of their numbers, both rings together. -/
def State.journalAll (s : State) : List (Nat × Record) :=
  let rec merge : Nat → List (Nat × Record) → List (Nat × Record) → List (Nat × Record)
    | 0, _, _ => []
    | _, [], b => b
    | _, a, [] => a
    | n + 1, x :: a, y :: b => if x.1 < y.1 then x :: merge n a (y :: b) else y :: merge n (x :: a) b
  merge (s.jrn.kept.length + s.jrn.rolling.length + 1) s.jrn.kept.reverse s.jrn.rolling.reverse

/-- A journal entry by its number. -/
def State.journalAt (s : State) (n : Nat) : Option Record :=
  ((s.jrn.kept.find? (fun e => e.1 = n)).orElse (fun _ => s.jrn.rolling.find? (fun e => e.1 = n))).map (·.2)

/-- The first `count` journal entries whose number is at least `first` (R407). -/
def State.journalFrom (s : State) (first count : Nat) : List (Nat × Record) :=
  ((s.journalAll).filter (fun e => first ≤ e.1)).take count

/-- Free bytes: the spec gives Table 13.7 no byte layout (log entry 36). -/
def State.freeBytes : Nat → State → List Byte × State
  | 0, s => ([], s)
  | n + 1, s =>
    let b := s.free 8
    let (bs, t) := State.freeBytes n s.drawn
    (BitVec.ofNat 8 b :: bs, t)

/-- LEDGER_READ's reply data (R407). Journal entries are exact; the chunks of a counter area and their number are free. -/
def State.ledgerReply (s : State) (area count first : Nat) : List Byte × State :=
  if area = 9 then
    let es := s.journalFrom first count
    (le 1 9 ++ le 1 0 ++ be 2 es.length ++ be 4 ((es.head?.map (·.1)).getD first) ++ be 4 (s.jrn.next - 1) ++
      es.flatMap (fun e => e.2.bytes), s)
  else
    let total := s.free 32
    let s := s.drawn
    let n := min count (total - first)
    let (bs, s) := s.freeBytes (32 * n)
    (le 1 area ++ le 1 0 ++ be 2 n ++ be 4 first ++ be 4 total ++ bs, s)

end Sys2Proof.Machine
end

