-- ==== Sys2Proof/Machine/Epoch.lean ====
section
/-! DEFINITION. Boot epochs: the tail table (R49, R50), the opening of an epoch (R41, R430), its roll (R43, R135), the last
epoch (R51), and the delivery of held records and gap records (R46, R52). -/

namespace Sys2Proof.Machine

/-! ### The tail table (R49) -/

/-- The records of earlier epochs that still wait, as ranges with a cause, one per source and epoch. -/
def State.oldWaiting (s : State) (cause : Nat) : List Missing :=
  let rs := (s.recs.queue.map (fun q => q.r) ++ s.recs.hold).filter (fun r => r.epoch < s.recs.epoch)
  rs.foldl (fun ms r => addMissing ms r.source r.epoch r.seq cause) []

/-- The tail table written to the store die, with the cause that a reset gives its gap records (R49): 0x03 a warm reset, 0x06
a loss of supply. While no epoch is open the table of the last one stands. -/
def State.writeTail (s : State) (cause : Nat) : State :=
  if s.recs.epochOpen = false then s
  else
    let old := s.recs.missing.filter (fun m => m.epoch < s.recs.epoch) ++ s.oldWaiting cause
    { s with recs := { s.recs with tail := some ⟨s.recs.epoch, cause, s.recs.seqs, s.recs.delivered, old⟩ } }

/-- The ranges of one source that a tail table leaves to be reported, earlier epochs first in ascending order (R49). -/
def Tail.rangesOf (t : Tail) (src : Nat) : List Missing :=
  let old := t.ranges.filter (fun m => m.source = src)
  let old := (old.map (fun m => m.epoch)).mergeSort.eraseDups.flatMap (fun e => old.filter (fun m => m.epoch = e))
  let a := sparseGet 0 t.assigned src
  let d := sparseGet 0 t.delivered src
  old ++ (if d < a then [⟨src, t.epoch, d, a - 1, t.cause⟩] else [])

/-- The sources that a tail table names, ascending. -/
def Tail.sources (t : Tail) : List Nat :=
  ((t.assigned.map (fun p => p.1)) ++ (t.ranges.map (fun m => m.source))).mergeSort.eraseDups

/-! ### The opening of an epoch (R41, R51, R430) -/

/-- EPOCH_EXHAUSTED (R51): at the next sequence of the device source; no later record is delivered. -/
def State.exhaust (s : State) : State :=
  let s := s.emit srcDevice Code.EPOCH_EXHAUSTED []
  { s with recs := { s.recs with exhausted := true } }

/-- The gap records of one source that a tail table owes (R49). -/
def State.tailGaps (s : State) (t : Tail) (src : Nat) : State := (t.rangesOf src).foldl (fun s m => s.gapOne m) s

/-- The records of happenings in RESET and BOOT, made and numbered now with the time of the happening (R415). -/
def State.deferredNow (s : State) : State :=
  let ds := s.recs.deferred
  let s : State := { s with recs := { s.recs with deferred := [] } }
  ds.foldl (fun s d => s.record d.lvl d.source d.code d.time d.data) s

/-- An epoch opened: reason 0x01 cold reset, 0x02 warm reset, 0x03 roll; `cause` is the data of `RESET_CAUSE`. Every reset since the last
opening takes an epoch (R41). Opening records in
the order of R430; then every other source's gap records (R49). -/
def State.openEpoch (s : State) (reason : Nat) (cause : List Byte) : State :=
  if 0xFFFF ≤ s.recs.epoch then
    let was := s.recs.exhausted
    let s : State := { s with recs := { s.recs with epochOpen := true } }
    if was then s.raiseSafe Code.EPOCH_EXHAUSTED.val srcDevice else s.exhaust
  else
    let prev := s.recs.epoch
    let roll := decide (reason = 3)
    let tail := s.recs.tail
    let next := min 0xFFFF (prev + (if roll then 1 else max 1 s.recs.resets))
    let s : State := { s with recs := { s.recs with epoch := next, resets := 0, epochOpen := true, seqs := [], delivered := [],
                                                    tail := if roll then tail else none } }
    let s := s.emit srcDevice Code.EPOCH_START (le 2 prev ++ le 1 reason ++ le 1 (b2n (roll || tail.isSome)))
    let s := if roll then s else (s.put MOD_EVT.RESET 1).emit srcDevice Code.RESET_CAUSE cause
    let s := if roll || tail.isSome then s else s.emit srcDevice Code.TAIL_UNKNOWN (le 2 prev)
    let s := if 0xFF00 ≤ s.recs.epoch then s.emit srcDevice Code.EPOCH_LOW (le 2 (0xFFFF - s.recs.epoch)) else s
    match (if roll then none else tail) with
    | none => s
    | some t => (t.sources.filter (· ≠ srcDevice)).foldl (fun s src => s.tailGaps t src) (s.tailGaps t srcDevice)

/-- EPOCH_ROLL (R43): a source's sequence has reached 0xF000_0000. Open acoustic events close in the old epoch and open again
in the new one (R135); in the last epoch EPOCH_EXHAUSTED takes the roll's place (R51). -/
def opEpochRoll (s : State) : State :=
  if s.recs.epochOpen = false ∨ s.recs.exhausted ∨ s.recs.seqs.all (fun p => p.2 < 0xF0000000) then s
  else if 0xFFFF ≤ s.recs.epoch then s.exhaust
  else
    let (es, s) := s.eventsRollClose
    (s.openEpoch 3 []).eventsRollOpen es

/-! ### Held records and gap records (R46, R52) -/

/-- HOLDING_BUFFER_DRAIN (R52): with the die link up, the held records pass in order to the common queue as far as it has room. -/
def opHoldingBufferDrain (s : State) : State :=
  if s.lnk.absent then s
  else
    let n := if s.recordPaths = [] then s.recs.hold.length else min s.recs.hold.length (Config.recordQueueDepth - s.recs.queue.length)
    let rs := s.recs.hold.take n
    let s : State := { s with recs := { s.recs with hold := s.recs.hold.drop n } }
    if s.recs.exhausted then s else rs.foldl (fun s r => s.push r) s

/-- GAP_RECORD (R46): queue space has returned, and a source's missing ranges are reported. -/
def opGapRecord (src : Nat) (s : State) : State :=
  if s.recs.epochOpen ∧ s.room src ∧ s.recs.missing.any (fun m => m.source = src) then s.gapAll src else s

end Sys2Proof.Machine
end

