-- ==== Sys2Proof/Machine/Modes.lean ====
section
/-! DEFINITION. The degraded timer (R318), `SAFE_STOP_N` (R319), `SAFE_OUT` (R321), the twelve modes and their changes
(R413-R417, R426-R429), resets and `RST_N` (R418-R421), and the handling of faults (R422-R425). `State.settle` is what every
command ends with: it draws the consequences of what the command declared. -/

namespace Sys2Proof.Machine

/-! ### Degraded conditions and their timer (R318) -/

/-- The degraded conditions present, each as the code and source of its fault: every fault at level F2 while it persists. -/
def State.degConds (s : State) : List (Nat × Nat) :=
  let code (c : Code) (srcs : List Nat) : List (Nat × Nat) := srcs.map (fun x => (c.val, x))
  let testedPair (k : Nat) : Bool := (List.range 32).any (fun i => s.useOf i = 2 && s.get (SIO_ICFG.SRC i) = k + 1)
  code Code.SI_FAULT (((List.range 16).filter (fun p => s.on (SIO_PCFG.DEG p))).map (fun p =>
    srcInput (if s.faultOf (2 * p) ≠ 0 then 2 * p else 2 * p + 1))) ++
  code Code.TPO_FAIL (((List.range 4).filter (fun k => bitOf (s.get SIO_TPO.FAIL) k && testedPair k)).map (fun _ => srcSio)) ++
  code Code.SO_FAULT (((List.range 8).filter (fun o => (s.sout o).edmLost)).map srcOutput) ++
  code Code.BRK_FAULT (((List.range 2).filter (fun k =>
    let x := s.brk k
    x.swStuck ≠ 0 || x.fails ≠ 0 || x.lapsed)).map srcBrake) ++
  code Code.PEER_LOST (if s.on SIO_PEER.EN && s.sio.peerLost then [srcSio] else []) ++
  code Code.STAIR_FAULT (if s.gal.stairLow || s.gal.stairOff then [srcBlock 5] else []) ++
  code Code.TEST_OVERDUE (((List.range 64).filter (fun n => (sparseGet .reset s.prvs n).ovd ≠ [])).map srcLamp) ++
  code Code.TJ_HIGH (if s.pw.hot ≠ [] || s.pw.sensStop then [srcBlock 0xE] else [])

/-- DEGRADED_EXPIRED (R318), with the conditions present and the first. -/
def State.degExpire (s : State) : State :=
  let d := s.sio.deg
  let n := s.degConds.length
  let s : State := { s with sio := { s.sio with deg := { d with deadline := none, expired := true, kept := none,
                                                                start := s.clk.up - d.start } } }
  (s.put SIO_EVT.DEGEXP 1).emit srcSio Code.DEGRADED_EXPIRED (le 1 n ++ le 2 d.first.1)

/-- The timer reset: no condition remains. -/
def State.degEnd (s : State) (ran : Nat) : State :=
  let s : State := { s with sio := { s.sio with deg := .reset } }
  (s.clearCause 1).emit srcSio Code.DEGRADED_END (le 4 (ran / 1000000000))

/-- The seconds a start of the timer begins with: POLICY row 3, or the time kept over a reset while it counts (R318). -/
def State.degSecs (s : State) : Nat :=
  let full := s.cfg.sig.nat 11 0 0x083 [] * 60
  match s.sio.deg.kept with
  | some (k, until_) => if s.clk.up ≤ until_ then k else full
  | none => full

/-- The timer started with the first condition; no time left expires at once (R318). -/
def State.degStart (s : State) (first : Nat × Nat) : State :=
  let secs := s.degSecs
  let now := s.clk.up
  let s : State := { s with sio := { s.sio with deg := ⟨some (now + secs * 1000000000), now, first, false, none⟩ } }
  let s := (s.put SIO_EVT.DEGSTART 1).emit srcSio Code.DEGRADED_START (le 2 first.1 ++ le 2 first.2 ++ le 4 secs)
  if secs = 0 then s.degExpire else s

/-- The degraded timer brought up to date with the conditions present. -/
def State.degSync (s : State) : State :=
  if s.md.mode = .reset then s
  else
    let d := s.sio.deg
    match s.degConds, d.deadline with
    | [], some _ => s.degEnd (s.clk.up - d.start)
    | _ :: _, some _ => s
    | [], none => if d.expired then s.degEnd d.start else s
    | c :: _, none => if d.expired then s else s.degStart c

/-- DEGRADED_EXPIRED: the timer has run out. -/
def opDegradedExpired (s : State) : State :=
  match s.sio.deg.deadline with
  | some t => if t ≤ s.clk.up then s.degExpire else s
  | none => s

/-- DEGRADED_TIMER_DISCARD (R318): 60 s after a reset without a condition. -/
def opDegradedTimerDiscard (s : State) : State :=
  match s.sio.deg.kept with
  | some (_, t) => if t ≤ s.clk.up then { s with sio := { s.sio with deg := { s.sio.deg with kept := none } } } else s
  | none => s

/-! ### SAFE_STOP_N and SAFE_OUT (R319, R321) -/

/-- SAFE_STOP (R319): the pin has been low for 2 ms. -/
def opSafeStop (s : State) : State :=
  let s : State := { s with pins := { s.pins with safeStopN := false } }
  if s.on SIO_STAT.SSTOP then s
  else (s.puts [(SIO_STAT.SSTOP, 1), (SIO_EVT.SAFESTOP, 1)]).emit srcSio Code.SAFE_STOP (le 1 1)

/-- SAFE_STOP_RELEASE (R319, R423). -/
def opSafeStopRelease (s : State) : State :=
  let s : State := { s with pins := { s.pins with safeStopN := true } }
  if s.on SIO_STAT.SSTOP = false then s
  else ((s.puts [(SIO_STAT.SSTOP, 0), (SIO_EVT.SAFESTOP, 1)]).clearCause 0).emitAt 0 srcSio Code.SAFE_STOP (le 1 0)

/-- The indication N of R321: the lowest that applies, 0 none. -/
def State.indication (s : State) : Nat :=
  if s.md.mode = .reset ∨ s.md.mode = .boot then 0
  else if s.sio.deg.deadline.isSome then 1
  else if s.lnk.absent then 2
  else if s.sio.indicate then 3
  else 0

/-- SAFE_OUT_PULSE (R321): the group of N pulses that falls due every 2 s begins. -/
def opSafeOutPulse (s : State) : State :=
  if s.sio.soAt.isSome ∧ s.clk.up < s.sio.soAt.getD 0 + 2000000000 then s
  else
    let n := s.indication
    { s with sio := { s.sio with soShown := n, soGroups := if n = 0 then s.sio.soGroups else s.sio.soGroups + 1, soAt := some s.clk.up } }

/-- The level of `SAFE_OUT` (R321): its resting level, inverted for 10 ms at the start of each 100 ms of a group. -/
def State.safeOut (s : State) : Bool :=
  let pulse : Bool := match s.sio.soAt with
    | some t => decide (s.clk.up - t < 100000000 * s.sio.soShown) && decide ((s.clk.up - t) % 100000000 < 10000000)
    | none => false
  s.on SIO_STAT.SO_LEVEL ^^ pulse

/-- SIO_ACK (R321): the RST_STUCK indication ends. -/
def opSioAck (s : State) : State := ({ s with sio := { s.sio with indicate := false } }).put MOD_RESET.INDICATE 0

/-! ### Modes (R413, R414) -/

/-- The code that `MOD_STATE` shows (R414). -/
def State.modeCode (s : State) : Nat :=
  match s.md.mode with
  | .reset => 0x0
  | .boot => 0x1
  | .load => 0x2
  | .hold => 0x3
  | .commission => 0x4
  | .safe => 0x9
  | .quiesce => 0xA
  | .analysis => 0xB
  | .family =>
    if s.get CFG_STAT.SWSTATE ≠ 0 ∧ s.cfg.inFamily then 0x8
    else if s.on GAL_STAT.REPLAN then 0x7
    else if s.sio.deg.deadline.isSome then 0x6
    else 0x5

/-- `MOD_STATE` bits [7:4]. -/
def State.modeFlags (s : State) : Nat :=
  b2n s.sio.deg.deadline.isSome + 2 * b2n (s.on GAL_STAT.REPLAN) + 4 * b2n (s.get CFG_STAT.SWSTATE ≠ 0) + 8 * b2n s.md.qdone

/-- `MOD_STATE` (Table 14.10). -/
def State.modState (s : State) : Nat :=
  let profF := s.get CFG_STAT.ACTIVE = 4
  s.md.code + 16 * s.modeFlags + 256 * s.md.prev + 4096 * b2n profF + 65536 * s.recs.epoch

/-- The cause of a MODE_CHANGE that no command or fault gave: a condition of the run family begins or ends (log entry 41). -/
def State.flagCause (s : State) (old new : Nat) : Nat :=
  if new = 0x6 ∧ old = 0x5 then 3
  else if new = 0x8 then (if s.cfg.asker = 2 then 4 else 1)
  else if new = 0x7 ∧ s.gal.restore ≠ [] then 3
  else 4

/-- MODE_CHANGE where the code shown has changed. -/
def State.modeSync (s : State) : State :=
  let c := s.modeCode
  let old := s.md.code
  if c = old then s
  else
    let cause := if s.due.modeCause ≠ 0 then s.due.modeCause else s.flagCause old c
    let s : State := { s with md := { s.md with code := c, prev := old } }
    (s.put MOD_EVT.MODE 1).make 0 srcDevice Code.MODE_CHANGE.val (le 1 c ++ le 1 old ++ le 1 cause ++ le 1 s.modeFlags)

/-- What the units do at a change of mode: heads (Table 8.8), safety I/O (Table 10.1), fibres (R69), connections, transmitters. -/
def State.modeActs (s : State) : State := ((((s.headsMode).sioMode).fibresUpdate).bornakMode).txDisSync

/-- A base mode entered with a cause: 1 command, 2 release, 3 fault, 4 end of phase, 5 timeout. A commissioning session ends as
the mode is left (R417). -/
def State.enterMode (s : State) (m : Mode) (cause : Nat) : State :=
  let s := if s.md.mode = .commission then s.commissionLeft else s
  let now := s.clk.up
  let md := s.md
  let s : State := { s with md := { md with mode := m,
                                            safeSince := if m = Mode.safe then now else md.safeSince,
                                            commissionSince := if m = Mode.commission then now else md.commissionSince,
                                            quiesceSince := if m = Mode.quiesce then now else md.quiesceSince
                                            holdAt := if md.mode = Mode.boot ∨ md.mode = Mode.load then now else md.holdAt } }
  let s : State := { s with due := { s.due with modeCause := cause } }
  let s := s.modeSync
  let s : State := { s with due := { s.due with modeCause := 0 } }
  s.modeActs

/-- SAFE entered on a fault (R422, R430): SAFE_ENTER reports the entry; it adds no cause of its own. -/
def State.enterSafe (s : State) (code src : Nat) : State :=
  let left := s.md.code
  let s := (s.put MOD_EVT.SAFE 1).make 3 srcDevice Code.SAFE_ENTER.val
    (le 2 code ++ le 2 src ++ le 2 (s.rd MOD_SCAUSE).toNat ++ le 1 left)
  s.enterMode .safe 3

/-! ### Resets (R418-R421, Table 14.3) -/

/-- The registers that every reset keeps (Table 14.3, R240). -/
def keptRegs : List Nat := [ MOD_RESET, MOD_RSTCNT, CFG_CTL, CFG_ROLLBACK, CFG_LOADNO, TST_CTL]

/-- The engines and channelizers that the repair map retires (R194, R397). -/
def State.retired (s : State) (kind : Nat) : List Nat :=
  (s.repair.filter (fun e => leAt e 2 1 = kind)).map (fun e => leAt e 0 2)

/-- The registers that show what the store die keeps: slots, ledger, repair map, stored Stair step, retired units. -/
def State.showStore (s : State) : State :=
  let s := (List.range 4).foldl (fun s n =>
    let x := s.slot n
    if x = Slot.reset then s else s.setSlot n (if x.state = 1 then ⟨3, []⟩ else x)) s
  let s := (s.retired 3).foldl (fun s e => s.put (GAL_ENG.STATE e) 4) s
  let s := (s.retired 4).foldl (fun s u => s.put (ACQ_CHZ.STATE (u - 20)) 5) s
  let s := s.puts [(MOS_WRITES.SEQ, s.led.imageSeq), (MOS_STAT.SPARES, s.led.spares), (MOS_STAT.WRAPPED, b2n s.led.wrapped),
    (MOS_STAT.KEPT, min 0xFFFF (s.jrn.kept.length / 2)), (TST_MEM.ENTRIES, s.repair.length),
    (TST_MEM.FULL, b2n (s.repair.length = 4096))]
  match s.stairStored with
  | some k => s.put GAL_STAIR.STORED k
  | none => s

/-- The degraded timer over a reset (R318, Table 14.3): the remaining seconds count for 60 s. -/
def degKept (secs now : Nat) : Deg :=
  { Deg.reset with kept := if secs = 0xFFFFFFFF then none else some (secs, now + 60000000000) }

/-- The state of every unit after a reset (Table 14.3): what the store die and, at a warm reset, the counting time keep;
everything else at its reset value (R17). The supply state that `PWR_STAT` shows lasts over a warm reset. -/
def State.resetUnits (s : State) (cold : Bool) (deg : Deg) : State :=
  let z := State.reset
  let kept := keptRegs ++ (if cold then [] else [NET_TSTAT, PWR_STAT])
  let lastEpoch := decide (0xFFFF ≤ s.recs.epoch)
  let s' : State := { z with
    pending := s.pending
    regs := s.regs.filter (fun (p : Nat × Word) => decide (p.1 ∈ kept))
    freeCount := s.freeCount
    clk := { up := s.clk.up, dev := if cold then 0 else s.clk.dev, pacer := if cold then 0 else s.clk.pacer,
             bornak := if cold then 0 else s.clk.bornak }
    pins := s.pins
    recs := { z.recs with epoch := s.recs.epoch, resets := s.recs.resets + 1, exhausted := s.recs.exhausted, tail := s.recs.tail, log := s.recs.log,
                          seqs := if lastEpoch then s.recs.seqs else [],
                          deferred := if cold then [] else s.recs.deferred }
    md := { s.md with mode := Mode.reset, code := 0, prev := 0, qdone := false, latched := none, resetCold := cold, bootHold := false }
    jrn := s.jrn
    tb := if cold then z.tb else { z.tb with xoFailed := s.tb.xoFailed }
    cfg := { z.cfg with net := s.cfg.net }
    slots := s.slots
    gal := { z.gal with map := s.gal.map, moved := s.gal.moved, fabric := s.gal.fabric }
    bist := { z.bist with rotAt := s.clk.up, chzAt := s.clk.up, units := s.bist.units.map (fun (p : Nat × BistUnit) =>
      (p.1, { BistUnit.reset with state := if p.2.state = 2 then 2 else 0, passes := p.2.passes, fails := p.2.fails,
                                  intrs := p.2.intrs })) }
    stairStored := s.stairStored
    repair := s.repair
    hist := s.hist
    sio := { z.sio with deg := deg, indicate := if cold then false else s.sio.indicate }
    ts := if cold then z.ts else s.ts
    net := { z.net with sent := s.net.sent }
    cls := { s.cls with run := 0, trial := false, fw := [], fwLen := 0, rom := false, deciding := none, waits := [],
                        reply := [], data := [], result := 0, refusedAt := [] }
    lamps := s.lamps
    mons := s.mons.map (fun (p : Nat × Monitor) => (p.1, { Monitor.reset with failed := p.2.failed, daily := p.2.daily }))
    led := s.led
    pw := { s.pw with sensStop := false } }
  s'.showStore

/-- The count and kind of a reset in `MOD_RESET` and `MOD_RSTCNT` (Table 14.3). -/
def State.countReset (s : State) (cold : Bool) (cause : Nat) : State :=
  let s : State := { s with md := { s.md with resetCause := cause } }
  let s := s.puts [(MOD_RESET.CAUSE, cause), (MOD_RESET.COLD, b2n cold), (MOD_RESET.PIN, b2n s.pins.rstN)]
  if cold then
    let s : State := { s with md := { s.md with f4Times := [], f4Wait := false, stuckRec := none } }
    (s.puts [(MOD_RESET.IGNORED, 0), (MOD_RESET.INDICATE, 0), (MOD_RESET.F4HOLD, 0), (MOD_RESET.F4RST, 0),
      (MOD_RSTCNT.WARM, 0)]).inc MOD_RSTCNT.COLD
  else s.inc MOD_RSTCNT.WARM

/-- The degraded timer's remaining seconds that a reset or a seal keeps (R318). -/
def State.degLeft (s : State) : Nat :=
  match s.sio.deg.kept with
  | some (k, _) => k
  | none => s.degRemaining

/-- A warm reset (R418): gates low and outputs open; then in the old epoch MODE_CHANGE and MOSS_SEAL, the journal, the counter
image and the tail table; then RESET. -/
def State.warmReset (s : State) (cause : Nat) : State :=
  if s.md.mode = .reset then s
  else
    let s := s.bistInterrupt 4
    let s := s.enterMode .reset (if cause = 6 then 3 else 1)
    let s := (s.put MOS_EVT.SEAL 1).make 0 srcMoss Code.MOSS_SEAL.val (le 1 3 ++ le 8 s.clk.dev ++ le 1 1)
    let s := (s.journalFlush s.jrn.wait.length).imageWrite none
    let s := s.writeTail 3
    ((s.resetUnits false (degKept s.degLeft s.clk.up)).countReset false cause).put PWR_STAT.SENS_STOP 0

/-- The F4 restarts of the last 60 min (R421). -/
def State.f4Recent (s : State) : List Nat := s.md.f4Times.filter (fun t => s.clk.up < t + 3600000000000)

/-- A device stop (R421, R422): DEVICE_STOP; an F4 in BOOT keeps the part there; else a warm reset with the 10 s hold, or the
hold to the next cold reset or `RST_N` for the fourth within 60 min. -/
def State.deviceStop (s : State) (code src : Nat) : State :=
  let times := s.f4Recent ++ [s.clk.up]
  let s : State := { s with md := { s.md with f4Times := times } }
  let s := s.put MOD_RESET.F4RST (min 7 times.length)
  if s.md.mode = .reset then s
  else
    let s := s.make 4 srcDevice Code.DEVICE_STOP.val (le 2 code ++ le 2 src)
    if s.md.mode = .boot then { s with md := { s.md with bootHold := true } }
    else
      let s := s.warmReset 6
      let hold := decide (4 ≤ times.length)
      let s : State := { s with md := { s.md with f4Cause := (code, src), f4Wait := !hold, f4At := s.clk.up } }
      s.putB MOD_RESET.F4HOLD hold

/-! ### The sensing die absent (R30) -/

/-- The sensing die treated as absent (R30): every link unhealthy, a pending switch
whose planes have not been exchanged abandoned (Table 7.13). -/
def State.dieAbsent (s : State) : State :=
  let s : State := { s with lnk := { s.lnk with absent := true, beats := 0 } }
  let s := s.put LMP_STAT.PACER_CAL 0
  let s := (List.range 64).foldl (fun s l => if (s.link l).permitAt.isSome then s.permitGone l else s) s
  if s.get CFG_STAT.SWSTATE ≠ 0 ∧ s.cfg.exchanged = false then s.switchAbandon 5 else s

/-! ### What every command ends with -/

/-- Whether every fault queue is below 16 places (Table 14.6, QFULL). -/
def FaultSys.belowHalf (f : FaultSys) : Bool :=
  [f.sens1, f.sens2, f.sens3, f.sig1, f.sig2, f.sig3].all (fun h => h.queue.length < 16)

/-- The sensing die absent where the die-link unit has failed (Table 13.2). -/
def State.linkSync (s : State) : State :=
  if (s.unit 36).state = 2 ∧ s.lnk.absent = false ∧ s.md.mode ≠ .reset then s.dieAbsent else s

/-- The queue-full cause cleared once every queue is below 16 places (Table 14.6). -/
def State.queueSync (s : State) : State :=
  if s.flt.belowHalf ∧ bitOf (s.get MOD_SCAUSE.CAUSE) 7 then s.clearCause 7 else s

/-- SAFE entered where an F3 asks for it (R422). -/
def State.safeSync (s : State) : State :=
  match s.due.safe with
  | some (c, src) =>
    if s.md.mode = .hold ∨ s.md.mode = .commission ∨ s.md.mode = .family then (s.enterSafe c src).degSync else s
  | none => s

/-- The device stop that an F4 asks for (R422). -/
def State.stopSync (s : State) : State :=
  match s.due.stop with
  | some (c, src) => s.deviceStop c src
  | none => s

/-- The consequences of a command's declarations, in order; then nothing is owed. -/
def State.settle (s : State) : State :=
  { s.linkSync.degSync.queueSync.safeSync.modeSync.stopSync with due := ⟨none, none, 0⟩ }

/-! ### Mode commands (R416, R417, R427-R429) -/

/-- The first connection of the active profile that is not up. -/
def State.connDown (s : State) : Option Nat := s.cfg.sig.connList.find? (fun c => (s.conn c).state ≠ 3)

/-- MODE_CMD_REFUSED (Table 14.8). -/
def State.modeRefused (s : State) (bits cause conn : Nat) : State :=
  (s.put MOD_EVT.REFUSED 1).emit srcDevice Code.MODE_CMD_REFUSED
    (le 1 bits ++ le 1 cause ++ le 2 (s.rd MOD_SCAUSE).toNat ++ le 1 conn)

/-- Whether a switch is in COMMITTING. -/
def State.committing (s : State) : Bool := s.get CFG_STAT.SWSTATE = 3

/-- RELEASE (R416). -/
def opRelease (s : State) : State :=
  if s.md.mode ≠ .hold then s.modeRefused 1 1 0xFF
  else if s.get CFG_STAT.ACTIVE = 4 then s.modeRefused 1 4 0xFF
  else
    match s.connDown with
    | some c => s.modeRefused 1 3 c
    | none =>
      if s.pins.safeStopN = false then s.modeRefused 1 5 0xFF
      else if s.committing then s.modeRefused 1 7 0xFF
      else s.enterMode .family 2

/-- HOLD (R413): the run family to HOLD. -/
def opHold (s : State) : State := if s.md.mode = .family then s.enterMode .hold 1 else s.modeRefused 2 1 0xFF

/-- EXIT_SAFE (R427). -/
def opExitSafe (s : State) : State :=
  if s.md.mode ≠ .safe then s.modeRefused 4 1 0xFF
  else if s.rd MOD_SCAUSE ≠ 0 then s.modeRefused 4 2 0xFF
  else if s.pins.safeStopN = false then s.modeRefused 4 5 0xFF
  else if s.committing then s.modeRefused 4 7 0xFF
  else
    (s.emit srcDevice Code.SAFE_EXIT (le 2 (min 0xFFFF ((s.clk.up - s.md.safeSince) / 1000000000)))).enterMode .hold 1

/-- COMMISSION (R417). -/
def opCommission (s : State) : State := if s.md.mode = .hold then s.enterMode .commission 1 else s.modeRefused 8 1 0xFF

/-- END (R417). -/
def opEnd (s : State) : State := if s.md.mode = .commission then s.enterMode .hold 1 else s.modeRefused 0x10 1 0xFF

/-- COMMISSION_TIMEOUT (R417): 4 h without an accepted MAINTAINER envelope. -/
def opCommissionTimeout (s : State) : State :=
  if s.md.mode = .commission ∧ s.md.commissionSince + 14400000000000 ≤ s.clk.up then s.enterMode .hold 5 else s

/-- QUIESCE (R428 steps 1-4, R403). -/
def opQuiesce (s : State) : State :=
  if s.md.mode = .hold ∨ s.md.mode = .commission ∨ s.md.mode = .family ∨ s.md.mode = .safe then
    let s := s.enterMode .quiesce 1
    let s := if s.get CFG_STAT.SWSTATE = 0 then s else s.switchAbandon 6
    (s.bistInterrupt 4).imageWrite none
  else s.modeRefused 0x20 1 0xFF

/-- QUIESCE_DONE (R428 steps 5-8). -/
def opQuiesceDone (s : State) : State :=
  if s.md.mode ≠ .quiesce ∨ s.md.qdone then s
  else
    let s := (List.range 4).foldl (fun s d => State.recordsDrain s.recs.queue.length d s) s
    let s := (List.range 4).foldl (fun s d => if s.receives d 9 && s.canSend then s.netSeal d else s) s
    let s := s.spiSealNow
    let s := s.writeTail 3
    let s := (s.put MOS_EVT.SEAL 1).emit srcMoss Code.MOSS_SEAL (le 1 2 ++ le 8 s.clk.dev ++ le 1 1)
    let s := s.put MOS_STAT.SEALED 1
    let ms := (s.clk.up - s.md.quiesceSince) / 1000000
    let s : State := { s with md := { s.md with qdone := true } }
    (s.put MOD_EVT.QDONE 1).emit srcDevice Code.QUIESCE_DONE (le 4 ms ++ le 1 1)

/-- RESET (R413, R418): from every mode. -/
def opReset (s : State) : State := s.warmReset 5

/-- MOD_CLEAR_COUNTS (R432). -/
def opModClearCounts (s : State) : State := s.puts [(MOD_FCNT.F1, 0), (MOD_FCNT.F2, 0), (MOD_FCNT.F3, 0)]

/-- A write of `MOD_CMD` (R429): several bits are refused together. -/
def State.modCmd (s : State) (bits : Nat) : State :=
  match bits % 128 with
  | 0 => s
  | 1 => opRelease s
  | 2 => opHold s
  | 4 => opExitSafe s
  | 8 => opCommission s
  | 16 => opEnd s
  | 32 => opQuiesce s
  | 64 => opReset s
  | b => s.modeRefused b 6 0xFF

/-! ### RST_N and the F4 hold (R419-R421, R429) -/

/-- RST_N_ASSERT (R419): low for 10 ms. Ignored while `MOD_RESET.IGNORED`; without effect between a supply-loss indication and
the cold reset (R440); in RESET it ends the F4 hold (Table 14.7). -/
def opRstNAssert (s : State) : State :=
  let s : State := { s with pins := { s.pins with rstN := false } }
  let s := s.put MOD_RESET.PIN 0
  let s : State := { s with md := { s.md with rstLowSince := some (s.md.rstLowSince.getD (s.clk.up - 10000000)) } }
  if s.on MOD_RESET.IGNORED ∨ s.pw.lossAt.isSome then s
  else
    let s := if s.md.mode = .reset then s else s.warmReset 3
    let s : State := { s with md := { s.md with pinReset := true, f4Wait := false } }
    s.put MOD_RESET.F4HOLD 0

/-- RST_N_RELEASE (R419): high for 10 ms. -/
def opRstNRelease (s : State) : State :=
  let s : State := { s with pins := { s.pins with rstN := true } }
  let s := s.put MOD_RESET.PIN 1
  { s with md := { s.md with pinReset := false, rstLowSince := none } }

/-- RST_N_REARM (R420): high for 1 s, the pin is accepted again. -/
def opRstNRearm (s : State) : State :=
  let s : State := { s with pins := { s.pins with rstN := true } }
  let s := (s.put MOD_RESET.PIN 1).put MOD_RESET.IGNORED 0
  { s with md := { s.md with pinReset := false, rstLowSince := none } }

/-- RESET left for BOOT (R413, R200): the Stair at its stored step, 6 without one; the die link's heartbeats count from here. -/
def State.enterBoot (s : State) : State :=
  let k := s.stairStored.getD 6
  let s := s.puts [(GAL_STAT.STEP, k), (GAL_STAIR.SET, k), (GAL_STAIR.STORED, k), (GAL_STAIR.MAX, k)]
  let s : State := { s with md := { s.md with bootStart := s.clk.up }, lnk := { s.lnk with beatAt := s.clk.up } }
  s.enterMode .boot 4

/-- The supplies are valid (R443): `VFIELD` has risen, `VAUX33` is in regulation and every die reads below 125 C. -/
def State.suppliesValid (s : State) : Bool :=
  s.pw.vfield && s.pw.lossAt.isNone && s.on PWR_STAT.VAUX_OK && s.pw.reads.all (fun p => decide (p.2 < 1250))

/-! ### Handling of faults (R424, R425) -/

/-- Whether a handler has anything to do. -/
def Handler.active (h : Handler) : Bool := h.work.isSome || h.queue ≠ []

/-- A handler's next step: the fault in work is handled, the next of the queue comes into work, and kept faults take the places
that come free. -/
def Handler.advance (h : Handler) : Handler :=
  let q := h.queue.drop 1 ++ h.extra
  ⟨h.queue.head?, q.take 32, q.drop 32⟩

/-- FAULT_HANDLING (R424): the handler of a level of one die takes its next fault, unless a higher level on the same die
pre-empts it. The action of the fault itself was taken at its declaration (log entry 40). -/
def opFaultHandling (signal : Bool) (lvl : Nat) (s : State) : State :=
  let higher := (List.range 4).any (fun l => lvl < l && (s.flt.handler signal l).active)
  if higher then s
  else { s with flt := s.flt.setHandler signal lvl (s.flt.handler signal lvl).advance }

/-! ### The die link (R30, R31, R422) -/

/-- HEARTBEAT_TIMEOUT (R30): no valid heartbeat for 20 ms. -/
def opHeartbeatTimeout (s : State) : State :=
  if s.clk.up < s.lnk.beatAt + 20000000 then s
  else if s.md.mode = .reset ∨ s.lnk.absent then { s with lnk := { s.lnk with beats := 0 } } else s.dieAbsent

/-- Whether the sensing die can send heartbeats that count: it is not stopped and the link unit has not failed (Table 13.2). -/
def State.dieSpeaks (s : State) : Bool := !s.sensStopped && (s.unit 36).state ≠ 2

/-- HEARTBEAT_RECEIVED (R30): the third in a row makes the sensing die present again; F3 faults that waited reach the signal
die (R422). -/
def opHeartbeatReceived (s : State) : State :=
  if s.dieSpeaks = false then s
  else
  let s : State := { s with lnk := { s.lnk with beatAt := s.clk.up } }
  if s.lnk.absent = false then s
  else if s.lnk.beats < 2 then { s with lnk := { s.lnk with beats := s.lnk.beats + 1 } }
  else
    let s : State := { s with lnk := { s.lnk with absent := false, beats := 0 } }
    let ws := s.flt.waitLink
    let s : State := { s with flt := { s.flt with waitLink := [] } }
    match ws with
    | [] => s
    | w :: _ =>
      if s.due.safe = none ∧ (s.md.mode = .hold ∨ s.md.mode = .commission ∨ s.md.mode = .family) then
        { s with due := { s.due with safe := some (w.code, w.source) } }
      else s

/-- PACER_CALIBRATION_RETURN (R31): with the die link up and the timebase locked the Pacer calibrates, and its copy slews back. -/
def opPacerCalibrationReturn (s : State) : State :=
  if s.lnk.absent ∨ s.get PRB_STAT.TB = 0 then s
  else
    let s := s.put LMP_STAT.PACER_CAL 1
    { s with lnk := { s.lnk with slew := (s.clk.dev : Int) - s.clk.pacer } }

end Sys2Proof.Machine
end

