-- ==== Sys2Proof/Machine/Power.lean ====
section
/-! DEFINITION. Supplies and die temperatures (15_electrical_and_package.md: R434-R443) and the cold reset (R418, R440). Measured
voltages and temperatures are the commands' operands; `PWR_` fields that show a measured value show the last one given. -/

namespace Sys2Proof.Machine

def srcPwr : Nat := srcBlock 0xE

/-! ### VFIELD (R434, R435) -/

/-- VFIELD_RISE (R434): above 8.6 V, in 10 mV. The first rise is the power-on, a cold reset with cause 0x01 (R418). A
`RST_N` that is low now counts from here (R420). -/
def opVfieldRise (v : Nat) (s : State) : State :=
  if s.pw.vfield ∨ s.pw.lossAt.isSome ∨ v ≤ 860 then s
  else
    let s : State := { s with pw := { s.pw with vfield := true, holdLate := false }, led := { s.led with poSince := s.clk.up }
                              md := { s.md with rstLowSince := if s.pins.rstN then none else some s.clk.up } }
    let s : State := { s with sio := { s.sio with deg := { s.sio.deg with
      kept := s.sio.deg.kept.map (fun (k : Nat × Nat) => (k.1, s.clk.up + 60000000000)) } } }
    let s := s.puts [(PWR_STAT.VF_OK, 1), (PWR_STAT.VAUX_OK, 1), (PWR_STAT.VSO_OK, 1), (PWR_STAT.HOLD_CHG, 1), (PWR_VFIELD.NOW, v),
      (PWR_VFIELD.PEAK, max v (s.get PWR_VFIELD.PEAK))]
    if s.get MOD_RSTCNT.COLD = 0 then s.countReset true 1 else s

/-- VFIELD_HIGH (R435): above 62.0 V for 1 ms. -/
def opVfieldHigh (peak : Nat) (s : State) : State :=
  if s.on PWR_STAT.VF_HIGH ∨ peak ≤ 6200 then s
  else
    let s := s.puts [(PWR_STAT.VF_HIGH, 1), (PWR_EVT.VFHIGH, 1), (PWR_VFIELD.NOW, peak),
      (PWR_VFIELD.PEAK, max peak (s.get PWR_VFIELD.PEAK))]
    s.emit srcConverter Code.VFIELD_HIGH (le 1 1 ++ le 2 (s.get PWR_VFIELD.PEAK))

/-- VFIELD_HIGH_END (R435): below 61.0 V for 1 s. -/
def opVfieldHighEnd (v : Nat) (s : State) : State :=
  if s.on PWR_STAT.VF_HIGH = false ∨ 6100 ≤ v then s
  else
    let s := s.puts [(PWR_STAT.VF_HIGH, 0), (PWR_EVT.VFHIGH, 1), (PWR_VFIELD.NOW, v)]
    s.emit srcConverter Code.VFIELD_HIGH (le 1 0 ++ le 2 (s.get PWR_VFIELD.PEAK))

/-! ### Hold-up, VAUX33 and VSO (R437-R439) -/

/-- HOLDUP_LOW: 1 below 33 uF, 2 not charged in time. -/
def State.holdupLow (s : State) (why cap vhold : Nat) : State :=
  (s.put PWR_EVT.HOLDLOW 1).emit srcConverter Code.HOLDUP_LOW (le 1 why ++ le 1 (min 255 cap) ++ le 2 vhold)

/-- HOLDUP_CHARGED (R439): `VHOLD` (10 mV) has reached 22 V, with the capacitance estimate in uF. -/
def opHoldupCharged (cap vhold : Nat) (s : State) : State :=
  if s.on PWR_STAT.HOLD_OK ∨ vhold < 2200 then s
  else
  let s := (s.puts [(PWR_STAT.HOLD_OK, 1), (PWR_STAT.HOLD_CHG, 0), (PWR_HOLD.VHOLD, vhold)]).putSat PWR_HOLD.CAP cap
  if cap < 33 then s.holdupLow 1 cap vhold else s

/-- HOLDUP_TIMEOUT (R439): `HOLD_OK` not reached within 500 ms of the start of charging. -/
def opHoldupTimeout (cap vhold : Nat) (s : State) : State :=
  if s.on PWR_STAT.HOLD_OK ∨ s.pw.vfield = false ∨ s.pw.holdLate ∨ s.clk.up < s.led.poSince + 500000000 then s
  else ({ s.put PWR_HOLD.VHOLD vhold with pw := { s.pw with holdLate := true } } : State).holdupLow 2 cap vhold

/-- VAUX_FAULT (R437): outside 5 % for 10 ms; cause 1 out of band, 2 current limit; mV. -/
def opVauxFault (cause mv : Nat) (s : State) : State :=
  if s.on PWR_STAT.VAUX_OK = false ∨ cause = 1 ∧ 3135 ≤ mv ∧ mv ≤ 3465 then s
  else
    (s.puts [(PWR_STAT.VAUX_OK, 0), (PWR_EVT.VAUXFLT, 1), (PWR_VINT.VAUX, mv)]).emit srcConverter Code.VAUX_FAULT
      (le 1 cause ++ le 2 mv)

/-- VAUX_RESTORED (R437, R423). -/
def opVauxRestored (mv : Nat) (s : State) : State :=
  if s.on PWR_STAT.VAUX_OK ∨ s.pw.vfield = false ∨ mv < 3135 ∨ 3465 < mv then s
  else
    (s.puts [(PWR_STAT.VAUX_OK, 1), (PWR_EVT.VAUXFLT, 1), (PWR_VINT.VAUX, mv)]).emitAt 0 srcConverter Code.VAUX_FAULT
      (le 1 0 ++ le 2 mv)

/-- VSO_LOW (R438): below 18.0 V for 10 ms; 10 mV. -/
def opVsoLow (v : Nat) (s : State) : State :=
  if s.on PWR_STAT.VSO_OK = false ∨ 1800 ≤ v then s
  else
    (s.puts [(PWR_STAT.VSO_OK, 0), (PWR_EVT.VSOLOW, 1), (PWR_VSO.VSO, v)]).emit srcPwr Code.VSO_LOW (le 1 1 ++ le 2 v)

/-- VSO_RESTORED (R438, R423). -/
def opVsoRestored (v : Nat) (s : State) : State :=
  if s.on PWR_STAT.VSO_OK ∨ v < 1800 then s
  else
    (s.puts [(PWR_STAT.VSO_OK, 1), (PWR_EVT.VSOLOW, 1), (PWR_VSO.VSO, v)]).emitAt 0 srcPwr Code.VSO_LOW (le 1 0 ++ le 2 v)

/-! ### Temperature (R442) -/

/-- The register of a die's temperature: 1 sensing, 2 front-end, 3 signal, 4 store. -/
def dieTemp (die : Nat) : Fld :=
  if die = 1 then PWR_TEMP0.SENS else if die = 2 then PWR_TEMP0.FE else if die = 3 then PWR_TEMP1.SIG else PWR_TEMP1.STORE

/-- A die's reading, 0.1 C, with the highest junction temperature. -/
def State.dieReads (s : State) (die : Nat) (t : Int) : State :=
  let s : State := { s with pw := { s.pw with reads := sparseSet (-32768) s.pw.reads die t } }
  let s := (s.dayReads t).puti (dieTemp die) (satS 16 t)
  let m := s.geti PWR_TMAX.MAX
  if m = -32768 ∨ m < t then s.puti PWR_TMAX.MAX (satS 16 t) else s

/-- TJ_HIGH with byte 3: 1 above 125 C, 2 stop, 0 ended. -/
def State.tjRecord (s : State) (die : Nat) (t : Int) (what : Nat) : State :=
  (s.put PWR_EVT.TJHIGH 1).emitAt (if what = 0 then 0 else 2) srcPwr Code.TJ_HIGH (le 1 die ++ leI 2 (satS 16 t) ++ le 1 what)

/-- A die hot: `TJ_HIGH` present. -/
def State.dieHot (s : State) (die : Nat) : State :=
  let s : State := { s with pw := { s.pw with hot := if die ∈ s.pw.hot then s.pw.hot else s.pw.hot ++ [die] } }
  s.put PWR_STAT.TJ_HIGH 1

/-- TJ_HIGH (R442): a die above 125 C for 1 s. -/
def opTjHigh (die : Nat) (t : Int) (s : State) : State :=
  let s := s.dieReads die t
  if die ∈ s.pw.hot ∨ t ≤ 1250 then s else (s.dieHot die).tjRecord die t 1

/-- TJ_HIGH_END (R442): every die below 120 C for 10 s; that of a sensing die stopped by temperature persists. -/
def opTjHighEnd (die : Nat) (t : Int) (s : State) : State :=
  let s := s.dieReads die t
  if s.pw.hot = [] ∨ s.pw.reads.any (fun p => decide (1200 ≤ p.2)) then s
  else if s.pw.sensStop then { s with pw := { s.pw with hot := [1] } }
  else
    let s : State := { s with pw := { s.pw with hot := [] } }
    (s.put PWR_STAT.TJ_HIGH 0).tjRecord die t 0

/-- TEMPERATURE_STOP (R442, Table 15.3): the sensing die stops until the next reset; the synthesiser stops; or a device stop with
cause code 0x2244. The store die has no stop threshold. -/
def opTemperatureStop (die : Nat) (t : Int) (s : State) : State :=
  let s := s.dieReads die t
  if die = 4 ∨ t < (if die = 3 then 1500 else 1400) ∨ die = 1 ∧ s.pw.sensStop ∨ die = 2 ∧ s.pw.feStop then s
  else
  let s := (s.dieHot die).tjRecord die t 2
  if die = 1 then
    let s : State := { s with pw := { s.pw with sensStop := true } }
    s.put PWR_STAT.SENS_STOP 1
  else if die = 2 then
    let s : State := { s with pw := { s.pw with feStop := true } }
    let s := opTimebaseUnlock 3 (s.put PWR_STAT.FE_STOP 1)
    { s with tb := { s.tb with target := 0, targetDirect := false } }
  else s.declare 4 Code.TJ_HIGH.val srcPwr

/-- FRONT_END_TEMPERATURE_RESUME (R442): below 120 C for 10 s, the synthesiser restarts and relocks as R60 states. -/
def opFrontEndTemperatureResume (t : Int) (s : State) : State :=
  let s := s.dieReads 2 t
  if s.pw.feStop = false ∨ 1200 ≤ t then s
  else
    let s : State := { s.put PWR_STAT.FE_STOP 0 with pw := { s.pw with feStop := false } }
    { s with tb := { s.tb with target := s.nextTarget, targetDirect := s.tb.xoFailed } }

/-! ### Supply loss and the cold reset (R405, R418, R440, R441) -/

/-- The ledger sealed (R405): journal, tail table, degraded time; an unfinished seal loses the counts since the last image, the
entries not yet written and the tail table (R50, R409, R441). -/
def State.ledgerSeal (s : State) (whole : Bool) : State :=
  let left := s.degLeft
  if whole then
    let s := (State.journalFlush 256 s).writeTail 6
    { s with jrn := { s.jrn with wait := [] }, led := { s.led with sealed := some ⟨true, 1, s.clk.dev, left⟩ } }
  else
    let l := s.led
    let s : State := { s with jrn := { s.jrn with wait := [], faults := l.imgFaults }, hist := l.imgHist, lamps := l.imgLamps }
    let s : State := { s with bist := { s.bist with units := l.imgUnits } }
    let s : State := { s with recs := { s.recs with tail := if s.recs.epochOpen then none else s.recs.tail } }
    { s with led := { l with sealed := some ⟨false, 1, s.clk.dev, left⟩, poSecs := l.imgPo, poSince := s.clk.up } }

/-- SUPPLY_LOSS (R440): `VFIELD` below 8.0 V for 10 us. Gates low and outputs open as at a warm reset, the front end and the
Gallery stop, the ledger is sealed: whole with HOLD_OK, else as far as the energy allows, which `whole` tells (R441). -/
def opSupplyLoss (whole : Bool) (s : State) : State :=
  if s.pw.vfield = false then s
  else
    let s := s.bistInterrupt 4
    let s : State := { s with md := { s.md with mode := Mode.reset, code := 0, prev := s.md.code } }
    let s := s.modeActs
    let ok := s.on PWR_STAT.HOLD_OK
    let s := s.puts [(PWR_STAT.VF_OK, 0), (PWR_STAT.VAUX_OK, 0), (PWR_STAT.HOLD_OK, 0)]
    let s : State := { s with pw := { s.pw with vfield := false, lossAt := some s.clk.up } }
    s.ledgerSeal (ok || whole)

/-- COLD_RESET (R440): at the end of the seal, or 4.5 ms after the indication. The degraded timer's time comes from the seal, or
else from the latest image less 10 min (Table 14.3). -/
def opColdReset (s : State) : State :=
  if s.pw.lossAt.isNone then s
  else
    let s : State := { s with led := { s.led with poSecs := s.poSecs, poSince := s.clk.up } }
    let left : Nat := match s.led.sealed with
      | some b => if b.whole then b.deg else if s.led.imageDeg = 0xFFFFFFFF then 0xFFFFFFFF else s.led.imageDeg - 600
      | none => 0xFFFFFFFF
    let s := (s.resetUnits true (degKept left s.clk.up)).countReset true 2
    { s with pw := ⟨false, none, s.pw.hot, false, false, s.pw.reads, false⟩
             md := { s.md with f4Cause := (0, 0), pinReset := !s.pins.rstN } }

/-- PWR_CLEAR_PEAK (R461). -/
def opPwrClearPeak (s : State) : State := (s.put PWR_VFIELD.PEAK 0).put PWR_TMAX.MAX 0x8000

end Sys2Proof.Machine
end

