-- ==== Sys2Proof/Machine/CrossCheck.lean ====
section
/-! DEFINITION. Step 9 of Table 7.10: the cross-checks of the owning chapters in ascending section id (R65, R93, R122, R126,
R133, R146, R157, R163, R170, R177, R186, R202, R221, R247, R256, R277, R301, R343, Table 7.9). -/

namespace Sys2Proof.Machine

/-- A REJECT of a cross-check on a field of the dictionary. -/
def Check.xrej (c : Check) (sec kind fid : Nat) (path : List Nat) (given : Int) : Check :=
  let cls := match dictRow sec kind fid with
    | some r => r.cls
    | none => .reject
  c.crossReject sec (fieldId cls fid) path given

/-- A REJECT where a condition holds. -/
def Check.xrejIf (c : Check) (b : Bool) (sec kind fid : Nat) (path : List Nat) : Check :=
  if b then c.xrej sec kind fid path (c.plane.num sec kind fid path) else c

/-- A clamp where a condition holds. -/
def Check.crossIf (c : Check) (b : Bool) (sec kind fid : Nat) (path : List Nat) (rule : Nat) (v : Int) : Check :=
  if b then c.cross sec kind fid path rule v else c

/-- A check over a list, in order. -/
def Check.each {α : Type} (c : Check) (l : List α) (f : Check → α → Check) : Check := l.foldl f c

/-- The records of a kind that a plane holds, as paths in stored order. -/
def Plane.paths (p : Plane) (sec kind : Nat) : List (List Nat) :=
  (p.recs.filter (fun k => k.sec = sec && k.kind = kind)).map (·.path)

/-! ### FABRIC (R221) -/

def crossFabric (c : Check) : Check :=
  let p := c.plane
  let c := c.each (p.paths 1 0x0C) (fun c r =>
    let dst := p.num 1 0x0C 0x042 r
    let c := c.xrejIf (!p.hasRec 1 0x0A [p.nat 1 0x0C 0x041 r]) 1 0x0C 0x041 r
    let c := c.xrejIf (0 ≤ dst && !p.hasRec 1 0x0A [dst.toNat]) 1 0x0C 0x042 r
    c.xrejIf (!p.hasRec 1 0x0B [p.nat 1 0x0C 0x043 r]) 1 0x0C 0x043 r)
  let total := ((p.paths 1 0x0B).map (fun r => p.nat 1 0x0B 0x041 r)).sum
  let c := if 6291456 < total then c.xrej 1 0x0B 0x041 [] total else c
  match p.unplaceable with
  | some (1, _) => c
  | some (_, what) => c.xrej 1 0x0A 0x046 [] what
  | none => c

/-! ### PROBE (R65, R93) -/

/-- Whether a plane enables a fibre (R218: an absent FIBRE record leaves it disabled). -/
def Plane.fibreOn (p : Plane) (f : Nat) : Bool := p.hasRec 2 1 [f] && p.flag 2 1 0x041 [f]

/-- The tones of a fibre with A_k > 0 (R65). -/
def Plane.toneCount (p : Plane) (f : Nat) : Nat :=
  ((List.range 4).filter (fun k => p.nat 2 2 0x047 [f, k] ≠ 0)).length

/-- The smallest cycle length in 8 ns that meets the round trip and the bin-rate budget (R65). -/
def Plane.leastCycle (p : Plane) (f : Nat) : Nat :=
  let n := p.nat 2 1 0x042 [f]
  max (n + p.nat 2 1 0x044 [f] + 125) ((100 * p.toneCount f * n + 391) / 392)

/-- The largest CBIN with CBIN × 8 ns within DELAY, and within RDELAY where a Raman pulse is fired (R93). -/
def Plane.mostCbin (p : Plane) (f : Nat) : Nat :=
  let d := p.nat 2 1 0x082 [f]
  (if p.nat 2 1 0x04A [f] = 0 then d else min d (p.nat 2 1 0x084 [f])) / 64

def crossProbe (c : Check) : Check :=
  c.each (c.plane.paths 2 1) (fun c r =>
    let f := r.headD 0
    let p := c.plane
    let c := c.crossIf (p.fibreOn f && p.nat 2 1 0x043 [f] < p.leastCycle f) 2 1 0x043 [f] 1 (p.leastCycle f)
    c.crossIf (p.mostCbin f < p.nat 2 1 0x083 [f]) 2 1 0x083 [f] 2 (p.mostCbin f))

/-! ### ZONES, DETECTORS and TEMPERATURE (R122, R126, R133, R146, R157, R163, R170) -/

/-- 0.45 f_s of a fibre in mHz. -/
def Plane.bandLimit (p : Plane) (f : Nat) : Nat :=
  p.toneCount f * 125000000000 * 45 / (100 * p.nat 2 1 0x043 [f])

def crossReference (c : Check) (f : Nat) : Check :=
  let p := c.plane
  let n := p.nat 2 1 0x042 [f]
  let first := p.nat 3 1 0x043 [f]
  let len := p.nat 3 1 0x044 [f]
  let c := c.crossIf (n < first + len && len ≠ 0) 3 1 0x044 [f] 2 ((n - first : Nat) : Int)
  let len := c.plane.nat 3 1 0x044 [f]
  c.crossIf (4 ≤ len && len < 2 * p.nat 3 1 0x045 [f]) 3 1 0x045 [f] 2 ((len / 2 : Nat) : Int)

def crossZone (c : Check) (r : List Nat) : Check :=
  let p := c.plane
  let f := r.headD 0
  let n := p.nat 2 1 0x042 [f]
  let g := p.nat 3 4 0x083 r
  let c := c.crossIf (n - 1 < p.nat 3 4 0x082 r + g) 3 4 0x082 r 2 ((n - 1 - g : Nat) : Int)
  let top := p.bandLimit f
  c.each (List.range 4) (fun c j =>
    let c := c.crossIf (top < p.nat 3 5 0x085 (r ++ [j])) 3 5 0x085 (r ++ [j]) 2 top
    c.crossIf (top < p.nat 3 5 0x0A5 (r ++ [j])) 3 5 0x0A5 (r ++ [j]) 2 top)

def crossZones (c : Check) : Check :=
  let p := c.plane
  let c := c.each (p.paths 3 1) (fun c r => crossReference c (r.headD 0))
  let c := c.each (p.paths 3 4) crossZone
  c.each (p.paths 3 6) (fun c r => c.xrejIf (!p.hasRec 6 0x0F [p.nat 3 6 0x0C1 r]) 3 6 0x0C1 r)

def crossDetectors (c : Check) : Check :=
  c.each (c.plane.paths 4 7) (fun c r =>
    let on := c.plane.num 4 7 0x044 r
    c.crossIf (on < c.plane.num 4 7 0x045 r) 4 7 0x045 r 2 on)

/-- The length that coil B keeps: within the fibre, and clear of the reference section, else 0 (R157). -/
def Plane.coilB (p : Plane) (f : Nat) : Nat :=
  let first := p.nat 5 1 0x045 [f]
  let len := min (p.nat 5 1 0x065 [f]) (p.nat 2 1 0x042 [f] - first)
  let rf := p.nat 3 1 0x043 [f]
  let rl := p.nat 3 1 0x044 [f]
  let len := if 4 ≤ rl ∧ first < rf + rl ∧ rf < first + len then rf - first else len
  if len < 4 then 0 else len

/-- The `AX` pins that an auxiliary channel takes for its excitation (R170, Table 5.4): `PIN0` where it is excited, and `PIN1` for RTD3
(log entry 22). -/
def Plane.excPins (p : Plane) (c : Nat) : List Nat :=
  let ty := if p.hasRec 5 8 [c] then p.nat 5 8 0x081 [c] else 0
  (if 2 ≤ ty then [p.nat 5 8 0x087 [c]] else []) ++ (if ty = 3 then [p.nat 5 8 0x0A7 [c]] else [])

/-- The `AX` pins that an auxiliary channel not OFF measures. -/
def Plane.inPins (p : Plane) (c : Nat) : List Nat :=
  if p.hasRec 5 8 [c] ∧ p.nat 5 8 0x081 [c] ≠ 0 then [2 * c, 2 * c + 1] else []

def crossTemperature (c : Check) : Check :=
  let p := c.plane
  let c := c.crossIf (p.nat 5 0 0x041 [] < p.nat 5 0 0x042 []) 5 0 0x042 [] 2 (p.num 5 0 0x041 [])
  let c := c.each (p.paths 5 1) (fun c r =>
    let f := r.headD 0
    let c := c.crossIf (p.coilB f ≠ p.nat 5 1 0x065 [f]) 5 1 0x065 [f] 2 (p.coilB f)
    match p.bytes 5 1 0x04C [f] with
    | none => c
    | some l =>
      match l.find? (fun z => !p.hasRec 3 4 [f, z.toNat]) with
      | some z => c.reject 5 1 0x604C [f] 6 0 z.toNat
      | none =>
        let kept := p.strainFree f
        let l' := l.filter (fun z => z.toNat ∈ kept)
        if l'.length = l.length then c
        else (c.logClamp 5 2 0x604C [f] 1 l.length l'.length).setBytes 5 1 0x04C [f] l')
  c.each (p.paths 5 8) (fun c r =>
    let i := r.headD 0
    let others := (List.range 8).filter (· ≠ i)
    let ty := p.nat 5 8 0x081 r
    let clash (fid : Nat) : Bool := others.any (fun j => p.nat 5 8 fid r ∈ p.inPins j || p.nat 5 8 fid r ∈ p.excPins j)
    let c := c.crossIf (2 ≤ ty && p.nat 5 8 0x088 r ≠ 0) 5 8 0x088 r 2 0
    let c := c.xrejIf (2 ≤ ty && clash 0x087) 5 8 0x087 r
    c.xrejIf (ty = 3 && clash 0x0A7) 5 8 0x0A7 r)

/-! ### ASPECTS and LAMP_CHANNELS (R247, R256, R277) -/

/-- A lamp channel's mode under a plane: 0 OFF where it has no LAMP record (R245). -/
def Plane.lampMode (p : Plane) (n : Nat) : Nat := if p.hasRec 7 0x0E [n] then p.nat 7 0x0E 0x081 [n] else 0

/-- The code of position k in an aspect's lamp codes (R255). -/
def codeAt (codes k : Nat) : Nat := codes / 4 ^ k % 4

def crossAspect (p : Plane) (h : Nat) (c : Check) (r : List Nat) : Check :=
  let a := r.getD 1 0
  let others := (p.paths 6 0x10).filter (fun q => q.headD 0 = h && q.getD 1 0 < a)
  let c := c.xrejIf (others.any (fun q => p.nat 6 0x10 0x081 q = p.nat 6 0x10 0x081 r)) 6 0x10 0x081 r
  let c := c.xrejIf (others.any (fun q => p.nat 6 0x10 0x082 q = p.nat 6 0x10 0x082 r)) 6 0x10 0x082 r
  let codes := p.nat 6 0x10 0x083 r
  let g := p.num 6 0x10 0x084 r
  let flashing := (List.range 16).any (fun k => 2 ≤ codeAt codes k)
  let c := c.xrejIf (if g < 0 then flashing else !p.hasRec 6 0x11 [g.toNat]) 6 0x10 0x084 r
  c.xrejIf (codes / 4 ^ (p.headChans h).length ≠ 0) 6 0x10 0x083 r

/-- The positions of all heads with their channels, in ascending head and position. -/
def Plane.positions (p : Plane) : List (Nat × Nat × Nat) :=
  p.headList.flatMap (fun h => (p.headChans h).zipIdx.map (fun q => (h, q.2, q.1)))

def crossAspects (c : Check) : Check :=
  let p := c.plane
  c.each p.headList (fun c h =>
    let c := c.each ((p.headChans h).zipIdx) (fun c q =>
      let before := p.positions.takeWhile (fun x => x.1 < h || (x.1 = h && x.2.1 < q.2))
      if p.lampMode q.1 = 0 ∨ before.any (fun x => x.2.2 = q.1) then c.xrej 6 0x0F 0x041 [h] q.1 else c)
    let mine := (p.paths 6 0x10).filter (fun r => r.headD 0 = h)
    let safe := p.nat 6 0x0F 0x043 [h]
    let lowest := mine.all (fun r => p.nat 6 0x10 0x082 [h, safe] ≤ p.nat 6 0x10 0x082 r)
    let c := c.xrejIf (!p.hasAspect h safe || !lowest) 6 0x0F 0x043 [h]
    c.each mine (crossAspect p h))

/-- T_PWM of a bank in 10 ns (R246). -/
def Plane.tpwm (p : Plane) (b : Nat) : Nat := 2 ^ (p.nat 7 0x0D 0x041 [b] - 8) * p.nat 7 0x0D 0x042 [b]

/-- The channels not OFF. -/
def Plane.lampsOn (p : Plane) : List Nat := (List.range 64).filter (fun n => p.lampMode n ≠ 0)

/-- The converter that proves a bank. -/
def Plane.bankConv (p : Plane) (b : Nat) : Nat := p.nat 7 0x0D 0x0C1 [b]

/-- The slots on a converter: user slots, three per proved channel and one per bank (R277). -/
def Plane.slotsOn (p : Plane) (v : Nat) : Nat :=
  ((p.paths 7 0x13).filter (fun r => r.headD 0 / 256 = v)).length +
  3 * (p.lampsOn.filter (fun n => p.bankConv (n / 16) = v)).length +
  ((List.range 4).filter (fun b => p.bankConv b = v)).length

def crossLampChannels (c : Check) : Check :=
  let p := c.plane
  let ns := p.lampsOn
  let c := c.each (List.range 4) (fun c b =>
    c.xrejIf (ns.any (fun n => n / 16 = b) && (p.tpwm b < 10000 || 500000 < p.tpwm b)) 7 0x0D 0x042 [b])
  let lo (n : Nat) : Nat := p.nat 7 0x0E 0x101 [n]
  let hi (n : Nat) : Nat := p.nat 7 0x0E 0x102 [n]
  let c := c.each ns (fun c n =>
    let c := c.xrejIf (hi n ≤ lo n) 7 0x0E 0x101 [n]
    let c := c.xrejIf (lo n ≤ p.nat 7 0x0E 0x103 [n]) 7 0x0E 0x103 [n]
    let i := p.nat 7 0x0E 0x083 [n]
    c.xrejIf (p.lampMode n = 2 && (i < lo n || hi n < i)) 7 0x0E 0x083 [n])
  let c := c.each ns (fun c n =>
    c.crossIf (p.lampMode n = 2 && p.nat 7 0x0E 0x107 [n] < 24) 7 0x0E 0x107 [n] 5 24)
  let c := c.each ns (fun c n =>
    let t := p.tpwm (n / 16)
    let d := p.nat 7 0x0E 0x105 [n]
    if (d + 1) * t + 25000 ≤ 1000000 then c
    else if 2 * t + 25000 ≤ 1000000 then c.cross 7 0x0E 0x105 [n] 4 ((975000 / t - 1 : Nat) : Int)
    else c.xrej 7 0x0E 0x105 [n] d)
  let ratio (v : Nat) : Bool := p.nat 7 0x12 0x141 [v] = 2
  let c := c.each (List.range 4) (fun c b => c.xrejIf (ratio (p.bankConv b)) 7 0x0D 0x0C1 [b])
  let c := c.each (p.paths 7 0x13) (fun c r =>
    c.xrejIf (p.nat 7 0x13 0x181 r < 0x40 && ratio (r.headD 0 / 256)) 7 0x13 0x181 r)
  let c := c.each (p.paths 7 0x13) (fun c r => c.xrejIf (p.num 7 0x13 0x188 r < p.num 7 0x13 0x187 r) 7 0x13 0x187 r)
  c.each [0, 1] (fun c v => if 256 < p.slotsOn v then c.xrej 7 0x12 0x141 [v] (p.slotsOn v) else c)

/-! ### SAFETY_IO (R301) -/

/-- An input's use and test source under a plane: OFF where it has no SINPUT record. -/
def Plane.inUse (p : Plane) (i : Nat) : Nat := if p.hasRec 8 0x14 [i] then p.nat 8 0x14 0x081 [i] else 0
def Plane.inSrc (p : Plane) (i : Nat) : Nat := p.nat 8 0x14 0x082 [i]

/-- The permit masks of a plane: record kind, field, index, mask. -/
def Plane.permits (p : Plane) : List (Nat × Nat × Nat × Nat) :=
  (p.paths 8 0x16).map (fun r => (0x16, 0x103, r.headD 0, p.nat 8 0x16 0x103 r)) ++
  (p.paths 8 0x17).map (fun r => (0x17, 0x143, r.headD 0, p.nat 8 0x17 0x143 r))

/-- The input beside i in its pair. -/
def pairMate (i : Nat) : Nat := if i % 2 = 0 then i + 1 else i - 1

def crossInputs (c : Check) : Check :=
  let p := c.plane
  let ins := (p.paths 8 0x14).map (·.headD 0)
  let pairs := (p.paths 8 0x15).map (·.headD 0)
  let c := c.each ins (fun c i =>
    c.xrejIf (p.inUse i = 2 && (p.inUse (pairMate i) ≠ 2 || !p.hasRec 8 0x15 [i / 2])) 8 0x14 0x081 [i])
  let used := pairs.filter (fun q => p.inUse (2 * q) = 2 && p.inUse (2 * q + 1) = 2)
  let tested (q : Nat) : Bool := p.nat 8 0x15 0x0C1 [q] = 0
  let anti (q : Nat) : Bool := p.nat 8 0x15 0x0C2 [q] = 1
  let c := c.each (used.filter tested) (fun c q =>
    let c := c.xrejIf (p.inSrc (2 * q) = 0) 8 0x14 0x082 [2 * q]
    let c := c.xrejIf (p.inSrc (2 * q + 1) = 0) 8 0x14 0x082 [2 * q + 1]
    c.xrejIf (p.inSrc (2 * q) = p.inSrc (2 * q + 1)) 8 0x14 0x082 [2 * q + 1])
  let c := c.each (used.filter anti) (fun c q =>
    let c := c.xrejIf (tested q) 8 0x15 0x0C2 [q]
    c.xrejIf (p.inSrc (2 * q + 1) ≠ 0) 8 0x14 0x082 [2 * q + 1])
  let c := c.each ins (fun c i =>
    c.xrejIf (p.inUse i ≠ 0 && p.inSrc i ≠ 0 && !bitOf (p.nat 8 0 0x043 []) (p.inSrc i - 1)) 8 0x14 0x082 [i])
  c.each ins (fun c i =>
    c.xrejIf (p.inUse i = 1 && p.inSrc i = 0 && p.permits.any (fun m => bitOf m.2.2.2 i)) 8 0x14 0x082 [i])

def crossSafetyIo (c : Check) : Check :=
  let p := c.plane
  let c := c.xrejIf (250 * p.nat 8 0 0x041 [] ≤ 100 * (p.nat 8 0 0x042 [] + 1)) 8 0 0x042 []
  let c := crossInputs c
  let c := c.each p.permits (fun c m =>
    let bad := (List.range 32).any (fun i => bitOf m.2.2.2 i && (p.inUse i = 0 || (i % 2 = 1 && p.inUse i = 2)))
    c.xrejIf bad 8 m.1 m.2.1 [m.2.2.1])
  c.each ((p.paths 8 0x16).filter (fun r => p.flag 8 0x16 0x101 r)) (fun c r =>
    let i := p.num 8 0x16 0x105 r
    let bad := i < 0 || p.inUse i.toNat ≠ 1 || bitOf (p.nat 8 0x16 0x103 r) i.toNat
    c.xrejIf (p.nat 8 0x16 0x104 r = 1 && bad) 8 0x16 0x105 r)

/-! ### BORNAK (R343) -/

/-- Whether an item overlaps one before it, or ends beyond byte 63. -/
def itemClash (size : Nat → Nat) (is : List Item) (n : Nat) : Bool :=
  match is[n]? with
  | none => false
  | some x =>
    64 < x.ofs + size x.kind ||
    (is.take n).any (fun y => y.ofs < x.ofs + size x.kind && x.ofs < y.ofs + size y.kind)

/-- The records of a connection's items, ascending. -/
def Plane.itemPaths (p : Plane) (kind c : Nat) : List (List Nat) :=
  ((List.range 16).filter (fun i => p.hasRec 9 kind [c, i])).map (fun i => [c, i])

/-- The receive item records of the whole section, ascending. -/
def Plane.allRx (p : Plane) : List (List Nat) := p.connList.flatMap (fun c => p.itemPaths 0x19 c)

/-- The ids of item 1: bits [63:62] 0b00, none twice. -/
def crossConnIds (c : Check) : Check :=
  let p := c.plane
  c.each [0x041, 0x042] (fun c fid =>
    c.each p.connList (fun c n =>
      let v := p.nat 9 0x18 fid [n]
      c.xrejIf (2 ^ 62 ≤ v || p.connList.any (fun m => m < n && p.nat 9 0x18 fid [m] = v)) 9 0x18 fid [n]))

/-- Items 2 to 4 on payload items. -/
def crossItems (c : Check) : Check :=
  let p := c.plane
  let c := c.each p.connList (fun c n =>
    let c := c.each ((p.itemPaths 0x19 n).zipIdx) (fun c q =>
      c.xrejIf (itemClash rxSize (p.rxItems n) q.2) 9 0x19 0x083 q.1)
    c.each ((p.itemPaths 0x1A n).zipIdx) (fun c q =>
      c.xrejIf (itemClash txSize (p.txItems n) q.2) 9 0x1A 0x0C3 q.1))
  let all := p.allRx.zipIdx
  let kindOf (r : List Nat) : Nat := p.nat 9 0x19 0x081 r
  let earlier (k : Nat) : List (List Nat) := p.allRx.take k
  let c := c.each (all.filter (fun q => kindOf q.1 = 0)) (fun c q =>
    let h := p.nat 9 0x19 0x082 q.1
    let twice := (earlier q.2).any (fun r => kindOf r = 0 && p.nat 9 0x19 0x082 r = h)
    c.xrejIf (!p.hasRec 6 0x0F [h] || twice) 9 0x19 0x082 q.1)
  let c := c.each (all.filter (fun q => kindOf q.1 = 1 || kindOf q.1 = 2)) (fun c q =>
    c.xrejIf ((earlier q.2).any (fun r => kindOf r = kindOf q.1)) 9 0x19 0x081 q.1)
  let needs (kind use dem : Nat) : Bool := (p.paths 8 kind).any (fun r => p.flag 8 kind use r && p.nat 8 kind dem r = 1)
  let c := if needs 0x16 0x101 0x102 ∧ p.allRx.all (fun r => kindOf r ≠ 1) then c.xrej 9 0x19 0x081 [] 1 else c
  if needs 0x17 0x141 0x142 ∧ p.allRx.all (fun r => kindOf r ≠ 2) then c.xrej 9 0x19 0x081 [] 2 else c

/-- Items 5 to 7: the peer connection, authentication, and the transmit period. -/
def crossConns (c : Check) : Check :=
  let p := c.plane
  let peer := p.num 8 0 0x044 []
  let isPeer (n : Nat) : Bool := peer = (n : Int)
  let c := c.each p.connList (fun c n =>
    let c := c.each (p.itemPaths 0x19 n) (fun c r => c.xrejIf (p.nat 9 0x19 0x081 r = 3 && !isPeer n) 9 0x19 0x081 r)
    c.each (p.itemPaths 0x1A n) (fun c r => c.xrejIf (p.nat 9 0x1A 0x0C1 r = 5 && !isPeer n) 9 0x1A 0x0C1 r))
  let n := peer.toNat
  let both := (p.rxItems n).any (fun x => x.kind = 3) && (p.txItems n).any (fun x => x.kind = 5)
  let c := if 0 ≤ peer ∧ (n ∉ p.connList ∨ both = false) then c.xrej 9 0x19 0x081 [n] 3 else c
  let c := c.each p.connList (fun c n =>
    let key := (p.bytes 9 0x18 0x049 [n]).isSome
    let c := c.xrejIf (p.connNat 8 n = 1 && !key) 9 0x18 0x048 [n]
    if p.connNat 8 n = 0 ∧ key then c.xrej 9 0x18 0x049 [n] 32 else c)
  c.each p.connList (fun c n =>
    c.crossIf (p.connNat 5 n < 2 * p.connNat 6 n) 9 0x18 0x046 [n] 4 ((p.connNat 5 n / 2 : Nat) : Int))

/-! ### POLICY and PWL_TABLES (R202, Table 7.9, R177) -/

def crossPolicy (c : Check) : Check :=
  let p := c.plane
  let t := p.num 11 0 0x041 []
  let c := c.crossIf (p.num 11 0 0x042 [] < t + 5) 11 0 0x042 [] 1 (t + 5)
  c.xrejIf ((List.range 32).any (fun h => bitOf (p.nat 11 0 0x085 []) h && !p.hasRec 6 0x0F [h])) 11 0 0x085 []

/-- The breakpoints x_j of a table. -/
def Plane.breakX (p : Plane) (r : List Nat) (j : Nat) : Int := toSigned 32 (leAt ((p.bytes 12 9 0x042 r).getD []) (8 * j) 4)

def crossTables (c : Check) : Check :=
  let p := c.plane
  c.each (p.paths 12 9) (fun c r =>
    match (List.range 32).find? (fun j => p.breakX r (j + 1) ≤ p.breakX r j) with
    | some j => c.xrej 12 9 0x042 r (p.breakX r (j + 1))
    | none => c)

/-! ### All cross-checks -/

/-- The cross-checks of one section. -/
def crossSection (sec : Nat) (c : Check) : Check :=
  match sec with
  | 1 => crossFabric c
  | 2 => crossProbe c
  | 3 => crossZones c
  | 4 => crossDetectors c
  | 5 => crossTemperature c
  | 6 => crossAspects c
  | 7 => crossLampChannels c
  | 8 => crossSafetyIo c
  | 9 => crossConnIds c |> crossItems |> crossConns
  | 11 => crossPolicy c
  | 12 => crossTables c
  | _ => c

/-- Step 9: a section that is refused already, or refers to one, is not cross-checked (log entry 16). -/
def crossChecks (c : Check) : Check :=
  (List.range 13).foldl (fun c i =>
    if i ∈ c.plane.secs ∧ (refusedSecs c.plane.secs c.rejs).all (fun r => r.sec ≠ i) then crossSection i c else c) c

/-- Steps 7 to 9 over a container's plaintexts. -/
def fullCheck (ps : List (Nat × List Byte)) : Check := crossChecks (checkContainer ps)

end Sys2Proof.Machine
end

