-- ==== Sys2Proof/Machine/Profiles.lean ====
section
/-! DEFINITION. Loading a profile and switching it (07_bitstream_and_profiles.md): load attempts with their logs and records (R222,
R227-R229), selection and the end of LOAD (R232, R413), and the hitless switch from LOADING to its end (R234-R238). -/

set_option Elab.async false

namespace Sys2Proof.Machine

/-! ### A load attempt (R222, R227-R229) -/

/-- An entry of the clamp log as its 32 bytes (Table 7.11). -/
def LogEntry.bytes (e : LogEntry) (slot loadNo : Nat) : List Byte :=
  le 1 e.sec ++ le 1 e.rule ++ le 2 e.fid ++ pathBytes e.path ++ le 1 slot ++ le 1 e.flags ++ leI 8 e.given ++ leI 8 e.applied ++
  le 4 loadNo

/-- Whether an entry is a clamp applied by the checks, and no REJECT or refusal. -/
def LogEntry.isClamp (e : LogEntry) : Bool := e.rule ≠ 6 && !bitOf e.flags 2

/-- A clamp log of a load (R227). -/
def clampLog (es : List LogEntry) (slot loadNo : Nat) : CfgLog where
  entries := (es.take 1024).map (fun e => e.bytes slot loadNo)
  total := es.length
  rejects := (es.filter (fun e => e.rule = 6)).length
  safe := (es.filter (fun e => e.isClamp && (e.rule = 4 || e.rule = 5))).length

/-- CFG_CLAMP or CFG_CLAMP_SAFETY of one clamp (Table 7.14). -/
def State.clampRecord (s : State) (e : LogEntry) : State :=
  let data := le 1 e.sec ++ le 1 e.rule ++ le 2 e.fid ++ leI 4 e.given ++ leI 4 e.applied
  if safetyRelevant e.sec then (s.put CFG_EVT.SAFECLAMP 1).emit srcCfg Code.CFG_CLAMP_SAFETY data
  else (s.put CFG_EVT.CLAMP 1).emit srcCfg Code.CFG_CLAMP data

/-- Refused sections as the bits of `CFG_SECT`. -/
def refusedBits (rs : List Rej) : Nat := (rs.map (fun r => 2 ^ (r.sec - 1))).sum

/-- A role's installed key (R359). -/
def State.roleKey (s : State) (role : Nat) : Option (List Byte) := (s.cls.keys.find? (fun q => q.1 = role)).map (·.2)

/-- What a load attempt ends in: the container rejected at steps 1-6, the profile refused, or a plane. -/
inductive Loaded where
  | rejected
  | refused
  | plane (p : Plane)
  deriving DecidableEq, Repr

/-- One load of a slot: verification, checks, log, records (Table 7.10, R227-R229). The load's clamps and refused sections are left in
`shadowClamps` and `shadowRefused`. -/
def State.loadSlot (s : State) (slot : Nat) : Loaded × State :=
  let s := s.wr CFG_LOADNO (s.rd CFG_LOADNO + 1)
  let loadNo := (s.rd CFG_LOADNO).toNat
  match verifyContainer (s.verifyCtx slot (s.roleKey 1)) (s.slot slot).bytes with
  | .error r =>
    let s : State := { s with cfg := { s.cfg with logLast := .empty, shadowClamps := 0, shadowRefused := 0 } }
    (.rejected, ((s.setSlot slot { s.slot slot with state := 3 }).put CFG_SECT.LAST 0).rejectionRecord slot r)
  | .ok ps =>
    let c := fullCheck ps
    let refused := refusedSecs (ps.map (·.1)) c.rejs
    let clamps := c.log.filter (·.isClamp)
    let s : State := { s with cfg := { s.cfg with
      logLast := clampLog c.log slot loadNo, shadowClamps := clamps.length, shadowRefused := refusedBits refused } }
    let s := clamps.foldl State.clampRecord s
    let s := match (if 1 ∈ c.plane.secs then c.plane.unplaceable else none) with
      | some (reason, what) => s.unplaceable reason what
      | none => s
    let s := refused.foldl (fun s r => s.sectionRefused slot r) s
    let s := s.put CFG_SECT.LAST (refusedBits refused)
    match refused.find? (fun r => safetyRelevant r.sec) with
    | some r =>
      (.refused, (s.put CFG_EVT.PROFREF 1).emit srcCfg Code.CFG_PROFILE_REFUSED (le 1 slot ++ le 1 r.sec ++ le 4 loadNo))
    | none => (.plane (c.plane.without (refused.map (·.sec))), s)

/-- CFG_LOADED (Table 7.14): how 1 reset, 2 switch. -/
def State.loadedRecord (s : State) (slot how refused : Nat) : State :=
  s.emit srcCfg Code.CFG_LOADED
    (le 1 slot ++ le 1 how ++ le 2 (min 0xFFFF s.cfg.shadowClamps) ++ le 2 refused ++ le 4 (s.rd CFG_LOADNO).toNat)

/-- The NETWORK section of a plane in force, where it holds one; otherwise the last that loaded stays (R212). -/
def State.takeNet (s : State) (p : Plane) : State :=
  if 10 ∈ p.secs then
    let old := s.cfg.net
    (({ s with cfg := { s.cfg with net := p } } : State).loadNet).chainsLoad old
  else s.loadNet

/-! ### The end of LOAD (R232, R413) -/

/-- A plane in force from LOAD on, on both dies. A fibre whose waveform bank failed its check stays OFF (R63). -/
def State.applyPlane (s : State) (p : Plane) : State :=
  let s : State := { s with cfg := { s.cfg with sig := p, sens := p } }
  let s := (((s.takeNet p).loadDrive p).loadProving p).lampsRestart s
  let s := s.headList.foldl (fun s h => (s.loadHead h (s.cfg.sig.headItem h)).levelRecord h 3) s
  let s := (s.headSync.loadSio p).bornakAfter
  let s := (s.loadProbeTop p).loadAcqTop p
  let s := [0, 1].foldl (fun s f => if (s.fib f).badBank then s else (s.loadProbeFibre p f).loadAcqFibre p f) s
  let s := (((s.loadAcuRegs p).zonesAfter .profileF 0).zonesAfter .profileF 1).loadLinks
  let s := ((s.loadTemp .profileF p).noteLoaded p).rawLoaded.chzService
  (if 1 ∈ p.secs then s.placeFabric p else { s with gal := { s.gal with tasks := [] } }).loadPlanner p

/-- The selection of R232: `pins` is what `PROF_SEL` read, `settled` whether the readings agreed. The slot, or the cause of
CFG_FALLBACK. -/
def State.selectSlot (s : State) (pins : Nat) (settled : Bool) : Option Nat :=
  if s.on CFG_CTL.PIN_EN then (if settled then some pins else none) else some (s.get CFG_CTL.PREF)

/-- Profile F at the end of a failed selection (R232). -/
def State.fallbackF (s : State) (slot cause : Nat) : Plane × Nat × State :=
  let s := s.puts [(CFG_STAT.FALLBACK, 1), (CFG_EVT.FALLBACK, 1)]
  (.profileF, 4, s.emit srcCfg Code.CFG_FALLBACK (le 1 slot ++ le 1 cause))

/-- The profile that LOAD ends with: plane, active slot (4 profile F). In BLANK and PROVISIONED it is profile F (Table 14.1). With
the pins unsettled the record's slot is a free value. -/
def State.selectLoad (s : State) (pins : Nat) (settled : Bool) : Plane × Nat × State :=
  if s.cls.lc < 2 then (.profileF, 4, s)
  else
    match s.selectSlot pins settled with
    | none => s.drawn.fallbackF (s.free 8) 3
    | some n =>
      let s := s.putB CFG_STAT.BYPIN (s.on CFG_CTL.PIN_EN)
      if (s.slot n).state ≠ 2 then s.fallbackF n 1
      else
        match s.loadSlot n with
        | (.rejected, s) => s.fallbackF n 1
        | (.refused, s) => s.fallbackF n 2
        | (.plane p, s) => (p, n, s)

/-- LOAD_COMPLETE (R232, R413): `pins` is `PROF_SEL1`-`PROF_SEL0` as last read, `settled` whether eight readings agreed. -/
def opLoadComplete (pins : Nat) (settled : Bool) (s : State) : State :=
  if s.md.mode ≠ .load then s
  else
    let s : State := { s with pins := { s.pins with profSel := pins }, cfg := { s.cfg with shadowClamps := 0, shadowRefused := 0 } }
    let s := if s.on CFG_CTL.PIN_EN ∧ 2 ≤ s.cls.lc then s.put CFG_STAT.PINS pins else s
    let (p, slot, s) := s.selectLoad pins settled
    let refused := if slot = 4 then 0 else s.cfg.shadowRefused
    let s := s.applyPlane p
    let s := s.puts [(CFG_STAT.ACTIVE, slot), (CFG_STAT.STRICT, p.nat 11 0 0x081 []), (CFG_SECT.ACTIVE, refused)]
    let s : State := { s with cfg := { s.cfg with logActive := if slot = 4 then .empty else s.cfg.logLast } }
    let s := s.loadedRecord slot 1 refused
    match s.md.latched with
    | some (c, src) => s.enterSafe c src
    | none => s.enterMode .hold 4

/-! ### The commit condition (R235) -/

/-- An entry of a section: whether it exists, its numbers and its byte strings. -/
def Plane.entry (p : Plane) (sec kind : Nat) (path : List Nat) : Bool × List Int × List (Option (List Byte)) :=
  if p.hasRec sec kind path then
    (true, p.fields sec kind path, ((dictOf sec).filter (fun r => r.kind = kind)).map (fun r => p.bytes sec kind r.fid path))
  else (false, [], [])

/-- A head's ASPECTS entry. -/
def Plane.headEntry (p : Plane) (h : Nat) : List (Bool × List Int × List (Option (List Byte))) :=
  p.entry 6 0x0F [h] :: (List.range 16).map (fun a => p.entry 6 0x10 [h, a])

/-- Whether a head is affected: its ASPECTS entry, or the LAMP_CHANNELS entry of any of its channels, differs. -/
def headAffected (old new : Plane) (h : Nat) : Bool :=
  decide (old.headEntry h ≠ new.headEntry h) ||
  (old.headChans h ++ new.headChans h).any (fun n => decide (old.entry 7 0x0E [n] ≠ new.entry 7 0x0E [n]))

/-- The aspect of a plane's head with a meaning code. -/
def Plane.withMeaning (p : Plane) (h m : Nat) : Option Nat := (List.range 16).find? (fun a => p.hasAspect h a && p.meaning h a = m)

/-- Whether a head lets the switch commit. A head in a change shows no aspect yet; DARK keeps its meaning (log entry 42). -/
def State.headMeets (s : State) (new : Plane) (h : Nat) : Bool :=
  let old := s.cfg.sig
  let x := s.head h
  if !old.hasRec 6 0x0F [h] || !headAffected old new h then true
  else if x.change.isSome then false
  else if x.shown = 0x10 || x.shown = s.headNat 3 h then true
  else new.hasRec 6 0x0F [h] && old.hasAspect h x.shown && (new.withMeaning h (old.meaning h x.shown)).isSome

/-- The heads that do not meet the condition. -/
def State.headsWaiting (s : State) (new : Plane) : List Nat := (List.range 32).filter (fun h => !s.headMeets new h)

/-- The commit condition of R235. -/
def State.commitHolds (s : State) (new : Plane) : Bool :=
  let old := s.cfg.sig
  (s.headsWaiting new).isEmpty &&
  (List.range 8).all (fun o => decide (old.entry 8 0x16 [o] = new.entry 8 0x16 [o]) || !bitOf (s.get SIO_OUT.ON) o) &&
  (List.range 2).all (fun k => decide (old.entry 8 0x17 [k] = new.entry 8 0x17 [k]) || !s.released k)

/-- The count and first of the heads that keep the switch waiting, brought up to date. -/
def State.waitSync (s : State) : State :=
  match s.cfg.shadow with
  | some p =>
    if s.get CFG_STAT.SWSTATE = 2 then
      let hs := s.headsWaiting p
      let s : State := { s with cfg := { s.cfg with waitFirst := hs.headD 0xFF } }
      s.put CFG_SWITCH.WAIT_HEADS hs.length
    else s
  | none => s

/-! ### LOADING (R236) -/

/-- Program and state bytes of a plane's task. -/
def Plane.taskBytes (p : Plane) (t : Nat) : Nat := ((p.bytes 1 0x0A 0x043 [t]).getD []).length + p.nat 1 0x0A 0x045 [t]

/-- Whether the running and the new FABRIC sections together fit every engine's 2 MiB, with the new tasks on the engines that they will
have (R187, R236). -/
def State.fabricFits (s : State) (new : Plane) : Bool :=
  let coming := new.placedTasks ((s.engineMap new).map (fun e => e.getD 20)) (s.movedUnder new)
  (List.range 20).all (fun e =>
    let a := ((s.gal.tasks.filter (fun q => q.2.engine = e && q.2.state ≠ 3)).map (fun q => s.cfg.sens.taskBytes q.1)).sum
    let b := ((coming.filter (fun q => q.2.engine = e)).map (fun q => new.taskBytes q.1)).sum
    decide (a + b ≤ 2097152))

/-- The samples of a plane computed into the shadow banks of waveform memory (R63). -/
def State.shadowBanks (s : State) (p : Plane) : State :=
  [0, 1].foldl (fun s f => if (s.fib f).badBank then s else s.setFib f { s.fib f with shadow := p.waveBank f }) s

/-- SWITCH_LOADED (R234, R236): LOADING ends in WAITING, or the switch is abandoned. -/
def opSwitchLoaded (s : State) : State :=
  if s.get CFG_STAT.SWSTATE ≠ 1 then s
  else
    match s.loadSlot (s.get CFG_SWITCH.TARGET) with
    | (.plane p, s) =>
      if s.fabricFits p = false then s.switchAbandon 4
      else
        let s : State := { s with cfg := { s.cfg with shadow := some p, waitAt := s.clk.up } }
        ((s.shadowBanks p).put CFG_STAT.SWSTATE 2).waitSync
    | (_, s) => s.switchAbandon 3

/-! ### The signal die's exchange (R237) -/

/-- A head after the exchange of `cfg.sig`: where its aspects' indices have moved, values follow their meaning; else they go to the
safe aspect. A command ends (R257), a substitute or Bornak value stays only on an unchanged connection. -/
def State.headMoved (s : State) (old : Plane) (h : Nat) : State :=
  let new := s.cfg.sig
  let x := s.head h
  let map (a : Nat) : Nat :=
    if a = 0x10 ∨ a = 0x1F then a
    else if old.hasAspect h a then (new.withMeaning h (old.meaning h a)).getD (s.headNat 3 h) else s.headNat 3 h
  let bor := match x.bor, new.headItem h with
    | some (v, src, slot), some (v', src', slot') =>
      if slot = slot' ∧ old.connFields slot = new.connFields slot then some (map v, src, slot) else some (v', src', slot')
    | _, b => b
  s.setHead h { x with shown := map x.shown, demand := map x.demand, bor := bor, cmd := none, held := none, change := none,
                       goal := x.goal.map map, level := 10001 }

/-- The heads at the exchange: gone heads, new heads at their safe aspect, affected heads by the new sequence (R237). -/
def State.headsExchange (s : State) (old : Plane) : State :=
  let new := s.cfg.sig
  let s := (List.range 32).foldl (fun s h =>
    if old.hasRec 6 0x0F [h] && !new.hasRec 6 0x0F [h] then
      (s.setHead h .reset).puts [(LMP_FB.H h, 0), (LMP_NIGHT.H h, 0), (LMP_STBY.H h, 0)]
    else s) s
  let s := (List.range 64).foldl (fun s n =>
    if (new.placeOf n).isNone ∧ (s.chan n).code ≠ 0 ∧ (s.chan n).pattern = false then s.setCode n 0 0 else s) s
  let s := new.headList.foldl (fun s h =>
    if old.hasRec 6 0x0F [h] = false then
      let s := (s.loadHead h (new.headItem h)).levelRecord h 3
      if s.gatesLive then s.headStart h (s.headNat 3 h) 4 else s
    else if headAffected old new h then
      let s := (s.headMoved old h).applyLevel h
      if s.gatesLive then s.headStart h (s.head h).shown 4 else s
    else
      let x := s.head h
      let bor := match x.bor, new.headItem h with
        | some (v, src, slot), some (v', src', slot') =>
          if slot = slot' ∧ old.connFields slot = new.connFields slot then some (v, src, slot) else some (v', src', slot')
        | _, b => b
      s.setHead h { x with cmd := none, bor := bor }) s
  let s := new.headList.foldl (fun s h => s.headUpdate h) s
  (new.headList.filter (fun h => headAffected old new h)).foldl (fun s h => s.headAct h 4 false) s.headSync

/-- SWITCH_COMMIT (R237): the safety sequencer tests the condition and exchanges the signal die's planes in one step; it makes no
exchange where the condition does not hold. -/
def opSwitchCommit (s : State) : State :=
  match s.cfg.shadow with
  | none => s
  | some new =>
    if s.get CFG_STAT.SWSTATE ≠ 2 then s
    else if s.commitHolds new = false then s.waitSync
    else
      let old := s.cfg.sig
      let s := (s.put CFG_STAT.SWSTATE 3).put CFG_SWITCH.WAIT_HEADS 0
      let s := s.bornakBefore new
      let s : State := { s with cfg := { s.cfg with sig := new, exchanged := true, waitFirst := 0xFF,
                                                    waitAt := s.clk.up - s.cfg.waitAt } }
      let s := ((s.takeNet new).loadDrive new).loadProving new
      let s := s.loadSio new
      let s := (s.headsExchange old).bornakAfter
      s.sioEval

/-! ### The sensing die's exchange and the end (R233, R237) -/

/-- Whether a field or record of a sensing section belongs to fibre f. -/
def PKey.ofFibre (k : PKey) (f : Nat) : Bool :=
  decide (k.path.head? = some f) &&
  ((k.sec = 2 && (k.kind = 1 || k.kind = 2 || k.kind = 3)) || (k.sec = 3 && (k.kind = 1 || k.kind = 4 || k.kind = 5)) ||
   (k.sec = 4 && k.kind = 7) || (k.sec = 5 && k.kind = 1))

/-- A plane with the fields and records that meet a test taken from another. -/
def Plane.mix (old new : Plane) (take : PKey → Bool) : Plane where
  nums := old.nums.filter (fun q => !take q.1) ++ new.nums.filter (fun q => take q.1)
  byts := old.byts.filter (fun q => !take q.1) ++ new.byts.filter (fun q => take q.1)
  recs := old.recs.filter (fun q => !take q) ++ new.recs.filter take
  secs := (old.secs ++ new.secs.filter (fun i => 2 ≤ i && i ≤ 5)).eraseDups

/-- Whether the PROBE fields of fibre f differ in two planes. -/
def probeDiffers (old new : Plane) (f : Nat) : Bool :=
  decide (old.entry 2 1 [f] ≠ new.entry 2 1 [f]) || (List.range 4).any (fun k => old.fields 2 2 [f, k] ≠ new.fields 2 2 [f, k])

/-- The PROBE fields that a fibre with a bad bank keeps (R63): its own, and with both banks bad those of both fibres. -/
def State.keptProbe (s : State) (k : PKey) : Bool :=
  k.sec = 2 && (((s.fib 0).badBank && k.ofFibre 0) || ((s.fib 1).badBank && k.ofFibre 1) ||
    (k.kind = 0 && (s.fib 0).badBank && (s.fib 1).badBank))

/-- The sensing sections of fibre f exchanged at its cycle boundary (R67, R94, R131): its own fields, and with the first fibre whose bank
is good those that both share in the PROBE section (log entry 106). A fibre whose bank failed its check keeps its PROBE section (R63);
for any other the record names the first cycle under the new section. -/
def State.fibreExchange (s : State) (new : Plane) (f : Nat) : State :=
  let old := s.cfg.sens
  let bad := (s.fib f).badBank
  let top := !bad && s.cfg.probed.all (fun g => (s.fib g).badBank)
  let plane := old.mix new (fun k => (k.ofFibre f && !(bad && k.sec = 2)) || (top && k.sec = 2 && k.kind = 0))
  let s := s.zonesBefore plane f
  let c := s.cfg
  let s : State := { s with cfg := { c with sens := plane, probed := c.probed ++ [f]
                                            firstCycle := if f = 0 then (s.fib 0).started else c.firstCycle } }
  let s := if top then (s.loadProbeTop plane).loadAcqTop plane else s
  let s := if bad then s else (s.loadProbeFibre plane f).loadAcqFibre plane f
  let s := (s.loadAcuRegs plane).zonesAfter old f
  let s := if s.shows plane 5 then s.loadTmpFibre old plane f else s
  let s := if probeDiffers old plane f then s.profileClear f else s
  let s := if bad then s else s.emit (srcBlock 1) Code.PROBE_SWITCH (le 1 f ++ le 8 (s.fib f).started)
  (s.fibreUpdate f).chzService

/-- PROBE_SWITCH (R67, R237): after the signal die's exchange the new sections take effect, once, at the fibre's cycle boundary. -/
def opProbeSwitch (f : Nat) (s : State) : State :=
  match s.cfg.shadow with
  | some p =>
    if s.get CFG_STAT.SWSTATE = 3 ∧ s.cfg.exchanged ∧ s.lnk.absent = false ∧ f ∉ s.cfg.probed then s.fibreExchange p f else s
  | none => s

/-- What is left of the sensing sections exchanged when both fibres have changed: a fibre that runs no cycles, the fields of no fibre,
links, auxiliary channels, tasks (R131, R140, R146). -/
def State.sensingExchange (s : State) (new : Plane) : State :=
  let s := s.moveAbandon 2
  let s := [0, 1].foldl (fun s f => if f ∈ s.cfg.probed then s else s.fibreExchange new f) s
  let s := (s.tracksBefore new).linksBefore new
  let old := s.cfg.sens
  let plane := new.mix old s.keptProbe
  let s : State := { s with cfg := { s.cfg with sens := { plane with secs := new.secs } } }
  let s := ((s.loadAcuRegs plane).loadLinks.loadTemp old plane).noteLoaded new
  let s := if old.paths 1 0x0A = new.paths 1 0x0A ∧ (old.nums.filter (fun q => q.1.sec = 1)) = (new.nums.filter (fun q => q.1.sec = 1))
    then s
    else if 1 ∈ new.secs then s.placeFabric new else { s with gal := { s.gal with tasks := [], move := none } }
  (s.loadPlanner new).rawLoaded

/-- Whether every fibre that runs cycles has changed its sensing sections (R237). -/
def State.fibresProbed (s : State) : Bool :=
  [0, 1].all (fun f => f ∈ s.cfg.probed || (s.fib f).started = 0 || !s.on (PRB_CYC.EN f))

/-- CFG_SWITCH_DONE (R237): the signal die has acknowledged and the sensing sections have changed; the switch ends. -/
def opCfgSwitchDone (s : State) : State :=
  match s.cfg.shadow with
  | none => s
  | some new =>
    if s.get CFG_STAT.SWSTATE ≠ 3 ∨ s.cfg.exchanged = false ∨ s.lnk.absent ∨ s.fibresProbed = false then s
    else
      let slot := s.get CFG_SWITCH.TARGET
      let wasFrom := s.get CFG_STAT.ACTIVE
      let s := s.sensingExchange new
      let refused := s.cfg.shadowRefused
      let s := s.puts [(CFG_STAT.ACTIVE, slot), (CFG_STAT.BYPIN, 0), (CFG_STAT.FALLBACK, 0),
        (CFG_STAT.STRICT, new.nat 11 0 0x081 []), (CFG_SECT.ACTIVE, refused), (CFG_EVT.SWDONE, 1)]
      let s := s.fibresUpdate
      let s := if s.cfg.persist then s.puts [(CFG_CTL.PREF, slot), (CFG_CTL.PIN_EN, 0)] else s
      let wait := min 0xFFFF (s.cfg.waitAt / 100000000)
      let s : State := { s with cfg := { s.cfg with logActive := s.cfg.logLast } }
      let s := s.emit srcCfg Code.CFG_SWITCH_DONE (le 1 wasFrom ++ le 1 slot ++ le 2 wait ++ le 8 s.cfg.firstCycle)
      (s.loadedRecord slot 2 refused).switchIdle 1

/-- What every command ends with: its consequences (`settle`), and the waiting heads of a switch. -/
def State.finish (s : State) : State := s.settle.waitSync

end Sys2Proof.Machine
end

