-- ==== Sys2Proof/Machine/Ports.lean ====
section
/-! DEFINITION. The register space as a host sees it (R11-R17, R53, R54, R445): what a read of each register returns, with the
registers that show live values and selected elements; the 64-bit pairs; plain writes by access type. -/

namespace Sys2Proof.Machine

/-! ### Live fields, window by window -/

def wordOf (n : Nat) : Word := BitVec.ofNat 32 n

/-- A stored word with live fields in place. -/
def State.shown (s : State) (a : Nat) (l : List (Fld × Nat)) : Word := l.foldl (fun w p => p.1.write p.2 w) (s.rd a)

/-- Whole seconds (or another unit in ns) since an instant of run time. -/
def State.since (s : State) (t unit : Nat) : Nat := (s.clk.up - t) / unit

/-- `PRB_STAT` and `PRB_HOLDOVER`: `PPS_OUT` pulses while the conditions of R81 hold. -/
def State.viewPrb (s : State) (a : Nat) : Word :=
  if a = PRB_STAT then
    s.shown a [(PRB_STAT.PPS_OUT, b2n (s.on PRB_PPS.OUT_EN && s.on NET_TSTAT.VALID && s.md.mode ≠ .reset && s.md.mode ≠ .boot))]
  else if a = PRB_HOLDOVER then s.shown a [(PRB_HOLDOVER.SECS, min 0xFFFFFF s.holdSecs)]
  else s.rd a

/-- The configured zones of a fibre that meet a test. -/
def State.zonesWith (s : State) (f : Nat) (p : Zone → Bool) : Nat := ((s.zoneList f).filter (fun z => p (s.zone f z))).length

/-- `ACU_STAT.SENSEf` (R129). -/
def State.senseOf (s : State) (f : Nat) : Nat :=
  let v := s.zonesWith f (fun z => z.state = 3)
  if v = 0 then 0 else if v = (s.zoneList f).length then 2 else 1

/-- Whether a zone overlaps the watched stretch of a link on its fibre. -/
def State.zoneLinked (s : State) (f z : Nat) : Bool :=
  s.linkList.any (fun l => s.linkNat 2 l = f &&
    decide ((s.watched l).1 ≤ s.cfg.sens.nat 3 4 0x082 [f, z] ∧ s.cfg.sens.nat 3 4 0x081 [f, z] ≤ (s.watched l).2))

/-- `ACU_ZCFG0` of a zone. -/
def State.zcfg0 (s : State) (f z : Nat) : Nat :=
  let p := s.cfg.sens
  if p.hasRec 3 4 [f, z] then
    p.nat 3 4 0x081 [f, z] + 2 ^ 17 * p.nat 3 4 0x083 [f, z] + 2 ^ 23 * p.nat 3 4 0x084 [f, z] + 2 ^ 31 * p.nat 3 4 0x089 [f, z]
  else 0

/-- `ACU_ZCFG1` of a zone. -/
def State.zcfg1 (s : State) (f z : Nat) : Nat :=
  let p := s.cfg.sens
  if p.hasRec 3 4 [f, z] then
    p.nat 3 4 0x082 [f, z] + 2 ^ 17 * (((List.range 4).filter (fun j => p.bandOn f z j)).map (fun j => 2 ^ j)).sum
  else 0

/-- `ACU_ZSTAT` of a zone. -/
def State.zstat (s : State) (f z : Nat) : Nat :=
  let x := s.zone f z
  let n := (s.events.filter (fun e => e.fibre = f && e.zone = z)).length
  let dead := (s.zproc f z).lastSecond s.clk.up
  x.state + 4 * b2n x.degraded + 8 * b2n x.storm + 16 * b2n (x.state ≠ 0 && s.zoneLinked f z) + 32 * min 255 n +
    65536 * share dead.dead dead.all

/-- The acoustic window: summaries, the selected zone, `ACU_ZMAP` (Tables 4.9, 4.10). -/
def State.viewAcu (s : State) (a : Nat) : Word :=
  let f := s.get ACU_ZSEL.FIBRE
  let z := s.get ACU_ZSEL.ZONE
  if a = ACU_STAT then
    s.shown a ([0, 1].flatMap (fun g => [(ACU_STAT.SENSE g, s.senseOf g),
      (ACU_STAT.STORM g, b2n (s.zonesWith g (fun z => z.storm) ≠ 0)), (ACU_STAT.TRACKS g, (s.acuFib g).tracks.length)]))
  else if a = ACU_CNT 0 ∨ a = ACU_CNT 1 then
    let g := (a - ACU_CNT 0) / 4
    wordOf ((s.zoneList g).length + 2 ^ 9 * s.zonesWith g (fun z => z.state = 3) +
      2 ^ 18 * s.zonesWith g (fun z => z.degraded || z.storm))
  else if a = ACU_ZCFG0 then wordOf (s.zcfg0 f z)
  else if a = ACU_ZCFG1 then wordOf (s.zcfg1 f z)
  else if a = ACU_ZSTAT then wordOf (s.zstat f z)
  else if a = ACU_ZCNT then wordOf (min 0xFFFF (s.zone f z).opens + 65536 * min 0xFFFF (s.zone f z).suppr)
  else if ACU_ZMAP 0 ≤ a ∧ a ≤ ACU_ZMAP 31 then
    let i := 16 * ((a - ACU_ZMAP 0) / 4)
    wordOf ((List.range 16).map (fun j => (s.zone ((i + j) / 256) ((i + j) % 256)).state * 4 ^ j)).sum
  else s.rd a

/-- The temperature window: summaries, the selected cell and bin (Table 5.9). -/
def State.viewTmp (s : State) (a : Nat) : Word :=
  let f := s.get TMP_CSEL.FIBRE
  let c := s.cell f (s.get TMP_CSEL.ZONE) (s.get TMP_CSEL.CELL)
  if a = TMP_STAT then
    s.shown a ([0, 1].flatMap (fun g => [(TMP_STAT.RAMAN g, s.ramanState g),
      (TMP_STAT.FUSED g, b2n (s.cellTally g (fun c => c.state = 2) ≠ 0)),
      (TMP_STAT.SUSP g, b2n (s.cellTally g (fun c => c.suspect) ≠ 0))]))
  else if a = TMP_ANCH 0 ∨ a = TMP_ANCH 1 then
    let g := (a - TMP_ANCH 0) / 4
    match (s.tmp g).anchorAt with
    | some t => s.shown a [(TMP_ANCH.AGE g, min 0xFFFFFF (s.since t 1000000000))]
    | none => s.rd a
  else if a = TMP_CVAL then wordOf (ofSigned 32 (c.tf.getD noTemp))
  else if a = TMP_CSTAT then
    wordOf (c.state + 4 * (if s.get TMP_CSEL.CELL ∈ s.fusedCells f (s.get TMP_CSEL.ZONE) then s.cellFlags f c else 0) +
      65536 * min 0xFFFF c.sigma)
  else if a = TMP_BVAL then
    match (s.tmp (s.get TMP_BSEL.FIBRE)).profile.find? (fun p => p.1 = s.get TMP_BSEL.BIN) with
    | some p => wordOf (ofSigned 32 p.2)
    | none => wordOf 0x80000000
  else if a = TMP_CNT0 ∨ a = TMP_CNT1 then
    let g := (a - TMP_CNT0) / 4
    wordOf (s.cellTally g (fun c => c.state = 2) + 65536 * s.cellTally g (fun c => c.suspect))
  else s.rd a

/-- The Gallery window: the age of the last planner run and the selected task (Table 6.11). -/
def State.viewGal (s : State) (a : Nat) : Word :=
  if a = GAL_PLAN then
    s.shown a [(GAL_PLAN.AGE, if s.gal.planAt = 0 then 0 else min 0xFFFF (s.since s.gal.planAt 1000000000))]
  else if a = GAL_TASK then
    let t := s.task (s.get GAL_TSEL.TASK)
    wordOf (t.cls + 16 * t.fibre.getD 0 + 32 * t.engine + 2 ^ 10 * t.load + 2 ^ 20 * t.state)
  else s.rd a

/-- The configuration window: the selected log and the switch's time (Tables 7.15, 7.16). -/
def State.viewCfg (s : State) (a : Nat) : Word :=
  let log := if s.on CFG_LOG_SEL.LAST then s.cfg.logLast else s.cfg.logActive
  if a = CFG_SWITCH then
    s.shown a [(CFG_SWITCH.ELAPSED,
      if s.get CFG_SWITCH.TARGET = 7 then 0 else min 0xFFFF (s.since s.cfg.startAt 100000000))]
  else if a = CFG_CLAMPS then
    wordOf (log.entries.length + 2 ^ 11 * b2n (1024 < log.total) + 2 ^ 12 * min 0xFF log.rejects + 2 ^ 20 * min 0xFF log.safe)
  else if CFG_LOG_D 0 ≤ a ∧ a ≤ CFG_LOG_D 7 then
    wordOf (leAt (log.entries.getD (s.get CFG_LOG_SEL.INDEX) []) (a - CFG_LOG_D 0) 4)
  else s.rd a

/-- The lamp window: approach brightening, the selected head, the matrix, and the live proving fields (Tables 8.12, 9.10). -/
def State.viewLmp (s : State) (a : Nat) : Word :=
  let h := s.get LMP_HSEL.HEAD
  if a = LMP_STAT then s.shown a [(LMP_STAT.APPROACH, s.cfg.sig.nat 11 0 0x084 [])]
  else if a = LMP_HCFG then wordOf (s.hcfg h)
  else if a = LMP_HSTAT then wordOf (s.hstat h)
  else if a = LMP_HCNT then wordOf (s.hcnt h)
  else if a = LMP_MTX 0 ∨ a = LMP_MTX 1 then
    wordOf (sparseGet 0 s.matrix.coupled (s.get LMP_MTXSEL.CHAN) / 2 ^ (8 * (a - LMP_MTX 0)))
  else if LMP_PRV 0 ≤ a ∧ a ≤ LMP_PRV 63 then
    let n := (a - LMP_PRV 0) / 4
    s.shown a [(LMP_PRV.BLANK n, b2n (s.proved n && s.blanking n))]
  else if LMP_TCNT 0 ≤ a ∧ a ≤ LMP_TCNT 63 then
    let n := (a - LMP_TCNT 0) / 4
    s.shown a [(LMP_TCNT.AGE n, s.oldestTest n)]
  else if LMP_CAL 0 ≤ a ∧ a ≤ LMP_CAL 63 then
    let n := (a - LMP_CAL 0) / 4
    match (s.prv n).calLs with
    | some t => s.shown a [(LMP_CAL.AGE n, min 1023 (s.since t 60000000000))]
    | none => s.rd a
  else s.rd a

/-- The supervision converter window: the selected slot (Table 9.12). -/
def State.viewSup (s : State) (a : Nat) : Word :=
  let i := s.get SUP_SSEL.SLOT
  if a = SUP_SCFG then wordOf (s.supScfg i)
  else if a = SUP_SPER then wordOf (s.supSper i)
  else if a = SUP_SBAND then wordOf (s.supSband i)
  else if a = SUP_SVAL then wordOf (s.supSval i)
  else s.rd a

/-- The safety I/O window: summary, degraded timer, ages (Table 10.13). -/
def State.viewSio (s : State) (a : Nat) : Word :=
  if a = SIO_STAT then
    s.shown a [(SIO_STAT.DEGRADED, b2n s.sio.deg.deadline.isSome), (SIO_STAT.SSTOP_PIN, b2n s.pins.safeStopN),
      (SIO_STAT.SO_IND, s.indication), (SIO_STAT.DCOND, min 63 s.degConds.length)]
  else if a = SIO_DTIMER then
    wordOf (min 0xFFFFFF s.degRemaining)
  else if a = SIO_PEER then
    s.shown a [(SIO_PEER.AGE, if s.sio.peer.isSome then min 0xFFFF (s.since s.sio.peerAt 1000000) else 0)]
  else if a = SIO_BTST 0 ∨ a = SIO_BTST 1 then
    let k := (a - SIO_BTST 0) / 4
    match (s.brk k).passAt with
    | some t => s.shown a [(SIO_BTST.AGE k, min 0xFFFF (s.since t 60000000000))]
    | none => s.rd a
  else if SIO_IST 0 ≤ a ∧ a ≤ SIO_IST 31 then
    let i := (a - SIO_IST 0) / 4
    s.shown a [(SIO_IST.TRANS i, min 0xFF (s.recentTrans i).length)]
  else s.rd a

/-- The network and Bornak window: the record path, the time error, the selected connection (Table 11.20). -/
def State.viewNet (s : State) (a : Nat) : Word :=
  let c := s.get BNK_CSEL.CONN
  if a = NET_TSTAT then s.shown a [(NET_TSTAT.ERR, s.timeErr)]
  else if a = NET_RSTAT then wordOf (min 0xFFFF s.spiWaiting.length + 65536 * s.recs.spiWord)
  else if a = BNK_STAT then wordOf s.bnkStat
  else if a = BNK_RUN0 then wordOf (connBits 0 s.connsUp)
  else if a = BNK_RUN1 then wordOf (connBits 1 s.connsUp)
  else if a = BNK_SUB0 then wordOf (connBits 0 s.connsDown)
  else if a = BNK_SUB1 then wordOf (connBits 1 s.connsDown)
  else if a = BNK_CCFG then wordOf (s.bnkCcfg c)
  else if a = BNK_CSTAT then wordOf (s.bnkCstat c)
  else if a = BNK_CSEQ then wordOf (s.conn c).q
  else if a = BNK_CCNT0 then wordOf (s.bnkCcnt c 0)
  else if a = BNK_CCNT1 then wordOf (s.bnkCcnt c 1)
  else if a = BNK_CCNT2 then wordOf (s.bnkCcnt c 2)
  else s.rd a

/-- The key id of role r = 1-4, zeros where none is installed. -/
def State.roleId (s : State) (role : Nat) : List Byte :=
  match s.roleKey role with
  | some k => keyId k
  | none => zeros 8

/-- Word w of a byte string in a Cloister window (R384). -/
def clsWord (b : List Byte) (w : Nat) : Word := wordOf (beAt b (4 * w) 4)

/-- `CLS_STAT` (Table 12.14). -/
def State.clsStat (s : State) : Nat :=
  let c := s.cls
  c.lc + 8 * b2n c.armed + 16 * c.run + 32 * c.pref + 64 * b2n c.trial + 128 * min 3 c.trials +
    512 * (((List.range 4).filter (fun r => (s.roleKey (r + 1)).isSome)).map (fun r => 2 ^ r)).sum + 8192 * b2n c.storeOk +
    16384 * b2n c.rom

/-- The Cloister window (Tables 12.13, 12.14). -/
def State.viewCls (s : State) (a : Nat) : Word :=
  if a = CLS_STAT then wordOf s.clsStat
  else if CLS_OTP 0 ≤ a ∧ a ≤ CLS_OTP 3 then
    let n := a - CLS_OTP 0
    wordOf ((List.range 4).map (fun j => s.otpCounter (n + j) % 256 * 256 ^ j)).sum
  else if CLS_KEYID_LO 0 ≤ a ∧ a ≤ CLS_KEYID_HI 3 then
    let n := (a - CLS_KEYID_LO 0) / 4
    clsWord (s.roleId (n / 2 + 1)) (n % 2)
  else if a = CLS_CERT_LEN then wordOf (min 1024 Config.certificate.length)
  else if a = CLS_ID 0 then clsWord (keyId (s.pubKey 0)) 0
  else if a = CLS_ID 1 then clsWord (keyId (s.pubKey 2)) 0
  else if a = CLS_ID 2 then clsWord (keyId Config.vendorKey) 0
  else if CLS_WRAPPUB 0 ≤ a ∧ a ≤ CLS_WRAPPUB 24 then clsWord (slice (s.pubKey 2) 0 97) ((a - CLS_WRAPPUB 0) / 4)
  else if CLS_CERT 0 ≤ a ∧ a ≤ CLS_CERT 255 then clsWord (Config.certificate.take 1024) ((a - CLS_CERT 0) / 4)
  else if CLS_REPLY 0 ≤ a ∧ a ≤ CLS_REPLY 255 then clsWord s.cls.reply ((a - CLS_REPLY 0) / 4)
  else s.rd a

/-- The self-test, Lichen and Moss window (Table 13.12). -/
def State.viewTst (s : State) (a : Nat) : Word :=
  let m := s.mon (s.get LCH_SEL.MON)
  if a = TST_STAT then s.shown a [(TST_STAT.SIG_OK, b2n s.sigOk)]
  else if a = TST_UNIT then wordOf (s.tstUnit (s.get TST_USEL.UNIT))
  else if TST_RMAP 0 ≤ a ∧ a ≤ TST_RMAP 3 then wordOf (leAt (s.repair.getD (s.get TST_RSEL.INDEX) []) (a - TST_RMAP 0) 4)
  else if a = LCH_VAL then wordOf (min 0xFFFFFF m.val + 2 ^ 24 * m.step + 2 ^ 31 * b2n m.failed)
  else if a = LCH_DRIFT then wordOf (ofSigned 16 (satS 16 m.drift) + 65536 * ofSigned 16 (satS 16 m.tj))
  else if a = MOS_POH then wordOf (min 0xFFFFFFFF (s.poSecs / 3600))
  else s.rd a

/-- `MOD_FAULT` (Table 14.10). -/
def State.modFault (s : State) : Nat :=
  let work (g : Bool) (l : Nat) : Bool := (s.flt.handler g l).work.isSome
  let q (l : Nat) : Nat := max (s.flt.handler false l).queue.length (s.flt.handler true l).queue.length
  2 * b2n (work false 1) + 4 * b2n (work false 2) + 8 * b2n (work false 3) +
    16 * b2n (work true 1 || work true 2 || work true 3) + 2 ^ 8 * q 1 + 2 ^ 16 * q 2 + 2 ^ 24 * q 3

/-- `MOD_RELEASE` (R416). -/
def State.modRelease (s : State) : Nat :=
  let notF := s.get CFG_STAT.ACTIVE ≠ 4
  let up := s.connDown.isNone
  b2n notF + 2 * b2n up + 4 * b2n s.pins.safeStopN +
    8 * b2n (notF && up && s.pins.safeStopN && !s.committing) + 256 * min 127 s.connsDown.length

/-- The modes window (Table 14.10). -/
def State.viewMod (s : State) (a : Nat) : Word :=
  if a = MOD_STATE then wordOf s.modState
  else if a = MOD_FAULT then wordOf s.modFault
  else if a = MOD_RELEASE then wordOf s.modRelease
  else s.rd a

/-- The power window: pin levels (Table 15.18). -/
def State.viewPwr (s : State) (a : Nat) : Word :=
  if a = PWR_PINS then
    wordOf (b2n s.pins.rstN + 2 * s.pins.profSel + 8 * b2n s.pins.rmaN + 16 * b2n s.pins.safeStopN +
      32 * s.get SIO_STAT.SO_LEVEL + 64 * b2n s.pins.ppsIn)
  else s.rd a

/-! ### Reads (R11-R17) -/

/-- The register pairs of R16 by the address of the lower word, with the live value. -/
def State.live64 (s : State) (lo : Nat) : Option Nat :=
  if lo = PRB_CYCNT0_LO then some (s.cycle 0)
  else if lo = PRB_CYCNT1_LO then some (s.cycle 1)
  else if lo = NET_TIME_LO then some s.clk.dev
  else if lo = LCH_FCAST_LO then some ((s.led.fcast.map (·.1)).getD 0)
  else if lo = CLS_REPLAY_LO 0 then some (sparseGet 0 s.cls.replay 1)
  else if lo = CLS_REPLAY_LO 1 then some (sparseGet 0 s.cls.replay 2)
  else if lo = CLS_REPLAY_LO 2 then some (sparseGet 0 s.cls.replay 3)
  else if lo = CLS_REPLAY_LO 3 then some (sparseGet 0 s.cls.replay 4)
  else none

/-- The upper word of a pair: latched by the last read of the lower word, live until one since reset (R16). -/
def State.upper64 (s : State) (lo live : Nat) : Word :=
  match s.latch.find? (fun p => p.1 = lo) with
  | some p => p.2
  | none => wordOf (live / 2 ^ 32)

/-- What a register shows, in the modes in which its window is valid. -/
def State.view (s : State) (a : Nat) : Word :=
  match s.live64 a, (if 4 ≤ a then s.live64 (a - 4) else none) with
  | some v, _ => wordOf v
  | none, some v => s.upper64 (a - 4) v
  | none, none =>
    match a / 0x10000 with
    | 0x1 => s.viewPrb a
    | 0x3 => s.viewAcu a
    | 0x4 => s.viewTmp a
    | 0x5 => s.viewGal a
    | 0x6 => s.viewCfg a
    | 0x7 => s.viewLmp a
    | 0x8 => s.viewSup a
    | 0x9 => s.viewSio a
    | 0xA => s.viewNet a
    | 0xB => s.viewCls a
    | 0xC => s.viewTst a
    | 0xD => s.viewMod a
    | 0xE => s.viewPwr a
    | _ => s.rd a

/-- The registers that the ROM answers in ROM recovery (R374), and `MOD_STATE` (R431). -/
def romAnswers (a : Nat) : Bool :=
  a < 0x10000 || a = CLS_STAT || a = CLS_FW_STAT || a = CLS_FW_CTL || (CLS_FW_BUF 0 ≤ a && a ≤ CLS_FW_BUF 4095) || a = MOD_STATE

/-- Read-only registers of windows whose fields are valid only from the end of BOOT (R209, R240, R383, R411, R431); the registers
that every reset keeps, and `MOD_STATE`, show their values. -/
def State.notYet (s : State) (a : Nat) : Bool :=
  s.md.mode = .boot && (a / 0x10000 = 5 || a / 0x10000 = 6 || a / 0x10000 = 0xB || a / 0x10000 = 0xC || a / 0x10000 = 0xD) &&
  regAccess a = some .ro && a ∉ keptRegs && a ≠ MOD_STATE && !(s.cls.rom && romAnswers a)

/-- Whether an address lies in a window of the signal die (Table 1.9, R357). -/
def signalWindow (a : Nat) : Bool :=
  a / 0x10000 = 7 || a / 0x10000 = 8 || a / 0x10000 = 9 || a / 0x10000 = 0xE || (a / 0x10000 = 0xA && 0x100 ≤ a % 0x10000)

/-- Whether the die that answers an address can reply (R54): with the die link down the signal die cannot. -/
def State.reachable (s : State) (a : Nat) : Bool := !(signalWindow a && s.lnk.absent)

/-- Whether an access gets an answer other than ACCESS_ERROR (R13, R54, R374, R445). Unmapped addresses lie in no window. -/
def State.answers (s : State) (a : Nat) : Bool :=
  a % 4 = 0 && (0xF0000 ≤ a ||
    (s.reachable a && (a < 0x10000 || s.md.mode ≠ .reset) && (!s.cls.rom || romAnswers a)))

/-- A word of the selected ledger chunk or journal entry (R408): journal entries exact, the bytes of a counter area free (log
entry 36). -/
def State.mosRead (s : State) (w : Nat) : Word × State :=
  let i := s.get MOS_RSEL.INDEX
  if s.get MOS_RSEL.AREA = 9 then
    match s.journalAt i with
    | some r => (wordOf (leAt r.bytes (4 * w) 4), s)
    | none => (0, s)
  else (wordOf (s.free 32), s.drawn)

/-- A plain read of one word: what it returns, none for the access-error indication, and what it does (R16, R354, R370). -/
def State.readWord (s : State) (a : Nat) : Option Word × State :=
  if s.answers a = false then (none, s)
  else if s.notYet a then (some (regReset a), s)
  else if a = NET_RDATA then let (v, s) := s.rdataRead; (some v, s)
  else if CLS_SEAL_D 0 ≤ a ∧ a ≤ CLS_SEAL_D 55 then let (v, s) := s.sealRead ((a - CLS_SEAL_D 0) / 4); (some v, s)
  else if MOS_RD 0 ≤ a ∧ a ≤ MOS_RD 7 then let (v, s) := s.mosRead ((a - MOS_RD 0) / 4); (some v, s)
  else
    let v := s.view a
    match s.live64 a with
    | some n =>
      (some v, { s with latch := (a, wordOf (n / 2 ^ 32)) :: s.latch.filter (fun (p : Nat × Word) => p.1 ≠ a) })
    | none => (some v, s)

/-- The data ports, whose address stays fixed in an access of several words (R352). -/
def nextAddr (a : Nat) : Nat := if a = CFG_XFER_DATA ∨ a = NET_RDATA then a else (a + 4) % 2 ^ 32

/-- A read of n words, word by word; the address of the first word that meets the access-error indication, where one does
(R352). -/
def State.readWords : Nat → Nat → State → Except Nat (List Word) × State
  | 0, _, s => (.ok [], s)
  | n + 1, a, s =>
    match s.readWord a with
    | (none, s) => (.error a, s)
    | (some w, s) =>
      match State.readWords n (nextAddr a) s with
      | (.error e, s) => (.error e, s)
      | (.ok ws, s) => (.ok (w :: ws), s)

/-! ### Plain writes (R11-R16) -/

/-- A WO register's actions (Tables 2.9 to 15.18): the clear bits of each block, the snapshot, the data port and the chunk. -/
def State.writeAction (s : State) (a : Nat) (v : Word) : State :=
  let bit0 := v.toNat % 2 = 1
  if a = ACQ_CLR then
    let s := opAcqClearPeak ((ACQ_CLR.PEAK 0).read v = 1) ((ACQ_CLR.PEAK 1).read v = 1) ((ACQ_CLR.RPEAK 0).read v = 1)
      ((ACQ_CLR.RPEAK 1).read v = 1) s
    if ACQ_CLR.COUNTS.read v = 1 then opAcqClearCounts s else s
  else if a = CFG_XFER_DATA then opXferData v s
  else if a = CLS_FW_CTL then if CLS_FW_CTL.APPEND.read v = 1 then opFwAppend (CLS_FW_CTL.BYTES.read v) s else s
  else if bit0 = false then s
  else if a = ACQ_SNAP_CMD then opSnapshotArm s
  else if a = ACU_CLR then opAcuClearCounts s
  else if a = GAL_CLR then opGalClearCounts s
  else if a = LMP_CLR then opLmpClearCounts s
  else if a = LMP_PCLR then opProvingClearCounts s
  else if a = SUP_CLR then opSupClearCounts s
  else if a = SIO_CLR then opSioClearCounts s
  else if a = NET_CLR then opNetClearCounts s
  else if a = BNK_CLR then opBnkClearCounts s
  else if a = CLS_CLR then s.wr CLS_CNT 0
  else if a = TST_CLR then opTstClearCounts s
  else if a = MOD_CLR then opModClearCounts s
  else if a = PWR_CLR then opPwrClearPeak s
  else s

/-- The RW register's new value: a reserved encoding leaves its field as it was (R14). -/
def rwValue (a : Nat) (old v : Word) : Word :=
  let new := (old &&& ~~~ regMask a) ||| (v &&& regMask a)
  if a = ACQ_SNAP_CTL ∧ 100000 ≤ ACQ_SNAP_CTL.OFS.read v then ACQ_SNAP_CTL.OFS.write (ACQ_SNAP_CTL.OFS.read old) new
  else if a = MOS_RSEL ∧ 10 ≤ MOS_RSEL.AREA.read v then MOS_RSEL.AREA.write (MOS_RSEL.AREA.read old) new
  else new

/-- A plain write of one word: whether it is performed, and its effect. A write to a read-only or reserved place, and a plain
write to a SIG register, is ignored and meets the access-error indication (R12). -/
def State.writeWord (s : State) (a : Nat) (v : Word) : Bool × State :=
  if s.answers a = false then (false, s)
  else
    match regRow a with
    | none => (false, s)
    | some r =>
      match r.access with
      | .ro => (false, s)
      | .sig => (false, s)
      | .rw => (true, s.wr a (rwValue a (s.rd a) v))
      | .rw1c => (true, s.wr a (s.rd a &&& ~~~ (v &&& regMask a)))
      | .wo => (true, s.writeAction a v)

/-- A plain write of several words: the address of the first word that meets the access-error indication, where one does; what
precedes that word stays written (R352). -/
def State.writeWords : List Word → Nat → State → Option Nat × State
  | [], _, s => (none, s)
  | v :: t, a, s =>
    match s.writeWord a v with
    | (false, s) => (some a, s)
    | (true, s) => State.writeWords t (nextAddr a) s

/-- REGISTER_WRITE (R11): a plain write. -/
def opRegisterWrite (a v : Word) (s : State) : State := (s.writeWord a.toNat v).2

/-- The lower words of R16 by number: fibre 0 and 1, device time, forecast, the four replay counters. -/
def lowerWord (i : Nat) : Nat :=
  match i with
  | 0 => PRB_CYCNT0_LO
  | 1 => PRB_CYCNT1_LO
  | 2 => NET_TIME_LO
  | 3 => LCH_FCAST_LO
  | k => CLS_REPLAY_LO (k - 4)

/-- LOWER_WORD_READ (R16). -/
def opLowerWordRead (i : Nat) (s : State) : State := (s.readWord (lowerWord i)).2

/-- RECORD_DATA_READ (R354). -/
def opRecordDataRead (s : State) : State := (s.readWord NET_RDATA).2

/-- SEAL_DATA_READ (R370): word i of `CLS_SEAL_D`. -/
def opSealDataRead (i : Nat) (s : State) : State := (s.readWord (CLS_SEAL_D i)).2

end Sys2Proof.Machine
end

