-- ==== Sys2Proof/Machine/Cloister.lean ====
section
/-! DEFINITION. The Cloister (12_cloister_security.md): signed envelopes, their decision and reply (R361-R367), the operations of
Table 12.4, attestation (R371), the life-cycle (R376-R379), the key store (R360). -/

set_option Elab.async false

namespace Sys2Proof.Machine

/-! ### The SIG registers (R364 and the field tables) -/

/-- The fields of a SIG register with the roles that each accepts; a parameter field names none. -/
def sigFields (a : Nat) : List (Fld × List Nat) :=
  if a = PRB_APR_CMD then
    [(PRB_APR_CMD.FORCE 0, [2]), (PRB_APR_CMD.FORCE 1, [2]), (PRB_APR_CMD.RESTORE 0, [2]), (PRB_APR_CMD.RESTORE 1, [2])]
  else if a = GAL_CMD then [(GAL_CMD.RUN_NOW, [2, 3])]
  else if a = CFG_CTL then [(CFG_CTL.PIN_EN, [1]), (CFG_CTL.PREF, [1])]
  else if a = CFG_CMD then
    [(CFG_CMD.SLOT, []), (CFG_CMD.SWITCH, [1, 2]), (CFG_CMD.PERSIST, [1]), (CFG_CMD.CANCEL, [1, 2]), (CFG_CMD.ERASE, [1]),
     (CFG_CMD.COMMIT_RB, [1])]
  else if a = CFG_XFER_CTL then
    [(CFG_XFER_CTL.SLOT, [1]), (CFG_XFER_CTL.BEGIN, []), (CFG_XFER_CTL.COMMIT, []), (CFG_XFER_CTL.ABORT, []),
     (CFG_XFER_CTL.LENGTH, [])]
  else if a = LMP_CMD then [(LMP_CMD.HEAD, []), (LMP_CMD.ASPECT, []), (LMP_CMD.SET, [2]), (LMP_CMD.LEVEL, [2])]
  else if a = LMP_PCMD then
    [(LMP_PCMD.CHAN, []), (LMP_PCMD.LIGHT, [3]), (LMP_PCMD.DARK_ALL, [3]), (LMP_PCMD.MATRIX, [3]), (LMP_PCMD.CLEAR, [2, 3]),
     (LMP_PCMD.CLEAR_ALL, [2, 3])]
  else if a = SIO_CMD then
    [(SIO_CMD.INDEX, []), (SIO_CMD.KIND, []), (SIO_CMD.CLEAR, [2, 3]), (SIO_CMD.CLEAR_ALL, [2, 3]), (SIO_CMD.BRK_TEST, [2, 3]),
     (SIO_CMD.ACK, [2])]
  else if a = TST_CTL then [(TST_CTL.ROT_H, [1])]
  else if a = TST_CMD then [(TST_CMD.UNIT, []), (TST_CMD.NOW, [3])]
  else if a = MOD_CMD then
    [(MOD_CMD.RELEASE, [2]), (MOD_CMD.HOLD, [2]), (MOD_CMD.EXIT_SAFE, [2]), (MOD_CMD.COMMISSION, [3]), (MOD_CMD.END, [3]),
     (MOD_CMD.QUIESCE, [1, 3]), (MOD_CMD.RESET, [1])]
  else []

/-- Whether a field of a SIG register accepts a role: a parameter field every role that a field of the register names. -/
def sigAccepts (a : Nat) (f : Fld × List Nat) (role : Nat) : Bool :=
  if f.2 = [] then (sigFields a).any (fun g => role ∈ g.2) else decide (role ∈ f.2)

/-- The fields of a SIG register that a WRITE changes; all of them where the window cannot answer (R364). -/
def State.sigChanged (s : State) (a : Nat) (v : Word) : List (Fld × List Nat) :=
  if s.reachable a then (sigFields a).filter (fun f => f.1.read v ≠ s.get f.1) else sigFields a

/-- Whether a changed field accepts the role only in a mode other than the present one (R364): `SIO_CMD.BRK_TEST` takes
MAINTAINER in COMMISSION and OPERATOR in the run family. -/
def State.wrongMode (s : State) (role : Nat) (f : Fld × List Nat) : Bool :=
  f.1 = SIO_CMD.BRK_TEST && !((role = 3 && s.md.mode = .commission) || (role = 2 && s.md.mode = .family))

/-- Step 7 for a WRITE (R364, Table 12.4): 0 permitted, 6 role, 7 state or mode. The AUDITOR writes nothing (Table 12.2). -/
def State.writePermit (s : State) (role a : Nat) (v : Word) : Nat :=
  if role = 4 then 6
  else if regAccess a = some .sig then
    let fs := s.sigChanged a v
    if fs.any (fun f => !sigAccepts a f role) then 6 else if fs.any (s.wrongMode role) then 7 else 0
  else 0

/-- What a signed write of a SIG register does: its parameter fields first, then its command fields in the order of their bits
(Table 14.7 for `MOD_CMD`). A planner run takes what it measures from the operands. -/
def State.sigAction (s : State) (a : Nat) (v : Word) (o : PlanObs) : State :=
  let on (f : Fld) : Bool := f.read v = 1
  if a = PRB_APR_CMD then opAprCmd v.toNat s
  else if a = GAL_CMD then (if on GAL_CMD.RUN_NOW then opRunNow o s else s)
  else if a = CFG_CTL then opCfgCtlWrite (on CFG_CTL.PIN_EN) (CFG_CTL.PREF.read v) s
  else if a = CFG_CMD then
    let n := CFG_CMD.SLOT.read v
    let s := s.put CFG_CMD.SLOT n
    let s := if on CFG_CMD.SWITCH then opSwitch n (on CFG_CMD.PERSIST) s else s
    let s := if on CFG_CMD.CANCEL then opCancel s else s
    let s := if on CFG_CMD.ERASE then opErase n s else s
    if on CFG_CMD.COMMIT_RB then opCommitRb s else s
  else if a = CFG_XFER_CTL then
    let s := if on CFG_XFER_CTL.BEGIN then opXferBegin (CFG_XFER_CTL.SLOT.read v) (CFG_XFER_CTL.LENGTH.read v) s else s
    let s := if on CFG_XFER_CTL.COMMIT then opXferCommit s else s
    if on CFG_XFER_CTL.ABORT then opXferAbort s else s
  else if a = LMP_CMD then
    let h := LMP_CMD.HEAD.read v
    let s := (s.put LMP_CMD.HEAD h).put LMP_CMD.ASPECT (LMP_CMD.ASPECT.read v)
    let s := if on LMP_CMD.SET then opAspectCommand h (LMP_CMD.ASPECT.read v) s else s
    if LMP_CMD.LEVEL.read v = 0 then s else opLevelCommand h (LMP_CMD.LEVEL.read v) s
  else if a = LMP_PCMD then
    let n := LMP_PCMD.CHAN.read v
    let s := s.put LMP_PCMD.CHAN n
    let s := if on LMP_PCMD.LIGHT then opLight n s else s
    let s := if on LMP_PCMD.DARK_ALL then opDarkAll s else s
    let s := if on LMP_PCMD.MATRIX then opMatrix s else s
    let s := if on LMP_PCMD.CLEAR then opLampClear n s else s
    if on LMP_PCMD.CLEAR_ALL then opLampClearAll s else s
  else if a = SIO_CMD then
    let i := SIO_CMD.INDEX.read v
    let k := SIO_CMD.KIND.read v
    let s := s.put SIO_CMD.INDEX i
    let s := if k < 4 then s.put SIO_CMD.KIND k else s
    let s := if on SIO_CMD.CLEAR ∧ k < 4 then opSioClear k i s else s
    let s := if on SIO_CMD.CLEAR_ALL then opSioClearAll s else s
    let s := if on SIO_CMD.BRK_TEST ∧ i < 2 then opBrkTestRequest i s else s
    if on SIO_CMD.ACK then opSioAck s else s
  else if a = TST_CTL then
    let h := TST_CTL.ROT_H.read v
    if 1 ≤ h ∧ h ≤ 168 then s.put TST_CTL.ROT_H h else s
  else if a = TST_CMD then
    let u := TST_CMD.UNIT.read v
    let s := s.put TST_CMD.UNIT u
    if on TST_CMD.NOW then opTestNow u s else s
  else if a = MOD_CMD then s.modCmd (v.toNat % 128)
  else s

/-- A WRITE performed (R364): a SIG register takes the write, another register a plain write; false where the access meets the
access-error indication. -/
def State.signedWrite (s : State) (a : Nat) (v : Word) (o : PlanObs) : Bool × State :=
  if regAccess a = some .sig then (if s.answers a then (true, s.sigAction a v o) else (false, s))
  else s.writeWord a v

/-! ### Operations (Table 12.4) -/

/-- An operation of an envelope's body. -/
inductive EnvOp where
  | write (a v : Nat)
  | read (a n : Nat)
  | keySet (role : Nat) (key : Option (List Byte))
  | attest (nonce : List Byte)
  | ledgerRead (area count first : Nat)
  | lifecycle (target : Nat)
  | fwBegin (img len : Nat)
  | fwCommit
  | fwActivate (img : Nat)
  | fwConfirm
  | fwCommitRb
  deriving DecidableEq, Repr

/-- An operation from its code and parameters; none where the length or a range does not fit (step 1). -/
def parseOp (code : Nat) (p : List Byte) : Option EnvOp :=
  let n := p.length
  if code = 0x01 ∧ n = 8 then some (.write (beAt p 0 4) (beAt p 4 4))
  else if code = 0x02 ∧ n = 5 ∧ 1 ≤ beAt p 4 1 ∧ beAt p 4 1 ≤ 64 then some (.read (beAt p 0 4) (beAt p 4 1))
  else if code = 0x10 ∧ (n = 1 ∨ n = 98) ∧ 1 ≤ beAt p 0 1 ∧ beAt p 0 1 ≤ 4 then
    some (.keySet (beAt p 0 1) (if n = 1 then none else some (p.drop 1)))
  else if code = 0x20 ∧ n = 32 then some (.attest p)
  else if code = 0x21 ∧ n = 8 ∧ beAt p 0 1 ≤ 9 ∧ 1 ≤ beAt p 2 2 ∧ beAt p 2 2 ≤ 24 then
    some (.ledgerRead (beAt p 0 1) (beAt p 2 2) (beAt p 4 4))
  else if code = 0x30 ∧ n = 1 ∧ beAt p 0 1 ≤ 4 then some (.lifecycle (beAt p 0 1))
  else if code = 0x40 ∧ n = 5 ∧ beAt p 0 1 ≤ 1 then some (.fwBegin (beAt p 0 1) (beAt p 1 4))
  else if code = 0x41 ∧ n = 0 then some .fwCommit
  else if code = 0x42 ∧ n = 1 ∧ beAt p 0 1 ≤ 1 then some (.fwActivate (beAt p 0 1))
  else if code = 0x43 ∧ n = 0 then some .fwConfirm
  else if code = 0x44 ∧ n = 0 then some .fwCommitRb
  else none

/-- Whether an operation has reply data. -/
def EnvOp.replies : EnvOp → Bool
  | .read _ _ => true
  | .attest _ => true
  | .ledgerRead _ _ _ => true
  | _ => false

/-- The operations of a body: `k` heads of 4 bytes with their parameters, which fill it exactly (R362, step 1). -/
def parseOps : Nat → List Byte → Option (List EnvOp)
  | 0, [] => some []
  | 0, _ :: _ => none
  | k + 1, b =>
    let n := beAt b 2 2
    if b.length < 4 + n then none
    else
      match parseOp (beAt b 0 1) ((b.drop 4).take n), parseOps k (b.drop (4 + n)) with
      | some o, some os => some (o :: os)
      | _, _ => none

/-- The roles that an operation accepts (Table 12.4); OWNER holds every power of the other roles (R361). -/
def EnvOp.roles : EnvOp → List Nat
  | .write _ _ => [1, 2, 3]
  | .read _ _ => [1, 2, 3, 4]
  | .attest _ => [1, 2, 3, 4]
  | .ledgerRead _ _ _ => [1, 3, 4]
  | _ => [1]

/-- Step 7 for an operation (R361, R364, R371, R376, R428): 0 permitted, 6 role, 7 life-cycle state or mode. Life-cycle
transitions wait for `QDONE`; ANALYSIS takes SCRAPPED (R379). -/
def State.permit (s : State) (role : Nat) : EnvOp → Nat
  | .write a v => s.writePermit role a (wordOf v)
  | .attest n => if role ∉ (EnvOp.attest n).roles then 6 else if s.cls.lc = 0 ∨ s.cls.lc = 3 ∨ s.cls.lc = 4 then 7 else 0
  | .lifecycle t =>
    if role ≠ 1 then 6
    else if t = 3 then (if s.cls.lc = 2 ∧ s.md.mode = .quiesce ∧ s.md.qdone then 0 else 7)
    else if t = 4 then
      (if (s.md.mode = .quiesce ∧ s.md.qdone ∧ (s.cls.lc = 1 ∨ s.cls.lc = 2)) ∨ (s.md.mode = .analysis ∧ s.cls.lc = 3) then 0 else 7)
    else 7
  | op => if role ∈ op.roles then 0 else 6

/-! ### Keys and the life-cycle (R359, R363, R376-R379) -/

/-- CLS_LIFECYCLE (Table 12.12): 1 armed, 2 completed, 3 disarmed. -/
def State.lifecycleRecord (s : State) (old new what : Nat) : State :=
  (s.put CLS_EVT.LC 1).emit srcCloister Code.CLS_LIFECYCLE (le 1 old ++ le 1 new ++ le 1 what)

/-- A role's replay counter. -/
def State.replayOf (s : State) (role : Nat) : Nat := sparseGet 0 s.cls.replay role

def State.setReplay (s : State) (role n : Nat) : State :=
  { s with cls := { s.cls with replay := sparseSet 0 s.cls.replay role n } }

/-- A role key installed or removed, with its record. -/
def State.putKey (s : State) (role : Nat) (key : Option (List Byte)) : State :=
  let rest := s.cls.keys.filter (fun (p : Nat × List Byte) => p.1 ≠ role)
  let s : State := { s with cls := { s.cls with keys := (key.toList.map (fun k => (role, k))) ++ rest } }
  (s.put CLS_EVT.KEY 1).emit srcCloister Code.CLS_KEY_SET (le 1 role ++ ((key.map keyId).getD (zeros 8)))

/-- KEY_SET (R363, R376, R377): a claim keeps the counter that step 6 stored and leads to OWNED; a different key sets the role's
counter to 0; an empty key removes the role's key, but never the OWNER's. -/
def State.keySet (s : State) (role : Nat) (key : Option (List Byte)) : Nat × State :=
  if s.cls.lc = 1 then
    if role = 1 ∧ key.isSome then
      let s := s.putKey 1 key
      (0, ({ s with cls := { s.cls with lc := 2 } } : State).lifecycleRecord 1 2 2)
    else (8, s)
  else
    match key with
    | none => if role = 1 then (8, s) else (0, (s.setReplay role 0).putKey role none)
    | some k => (0, (if s.roleKey role = some k then s else s.setReplay role 0).putKey role key)

/-- Zeroisation (R378), in its order: role keys, replay counters, wrapped key material, slots 0-3, the image that does not run;
then the fuse that blocks seed access. -/
def State.zeroise (s : State) : State :=
  let s : State := { s with cls := { s.cls with zeroPending := true } }
  let s : State := { s with cls := { s.cls with keys := [], replay := [] } }
  let s := (List.range 4).foldl (fun s n => s.setSlot n .reset) s
  let s := s.setImage (1 - s.cls.run) []
  { s with cls := { s.cls with seedBlocked := true, zeroPending := false } }

/-- LIFECYCLE (R376): RETURNED is armed until the next reset; SCRAPPED zeroises. -/
def State.lifecycle (s : State) (target : Nat) : State :=
  if target = 3 then
    let s : State := { s with cls := { s.cls with armed := true } }
    s.lifecycleRecord s.cls.lc 3 1
  else
    let old := s.cls.lc
    let s := s.zeroise
    ({ s with cls := { s.cls with lc := 4, armed := false } } : State).lifecycleRecord old 4 2

/-! ### Attestation (R371, Table 12.7) -/

/-- The attestation report (Table 12.7), signed over its first 312 bytes. -/
def State.attestation (s : State) (nonce : List Byte) : List Byte :=
  let act := s.get CFG_STAT.ACTIVE
  let ret := s.retired 3
  let report :=
    be 2 0x4B41 ++ be 1 1 ++ be 1 s.cls.lc ++ s.uid ++ be 6 Config.factoryMac ++ zeros 2 ++ slice nonce 0 32 ++
    be 8 s.clk.dev ++ be 1 (s.get NET_TSTAT.STATE) ++ be 1 s.modState ++ be 2 s.recs.epoch ++
    wordBe (s.rd DEV_FW) ++ wordBe (s.rd DEV_REV) ++ slice (Config.sha384 (s.imageBytes s.cls.run)) 0 48 ++
    keyId Config.vendorKey ++ (if act < 4 then slice (Config.sha384 (s.slot act).bytes) 0 48 else zeros 48) ++
    be 1 act ++ be 1 (s.cfg.sig.nat 11 0 0x081 []) ++ be 2 (s.get CFG_SECT.ACTIVE) ++
    (List.range 16).flatMap (fun n => be 1 (s.otpCounter n)) ++
    [1, 2, 3, 4].flatMap (fun r => s.roleId r) ++ slice (Config.sha384 s.repair.flatten) 0 48 ++
    be 1 (s.get GAL_STAT.STEP) ++ be 1 (s.get GAL_STAIR.STORED) ++
    be 1 ((List.range 20).filter (fun e => s.eng e = 1)).length ++ be 1 s.freeSpares.length ++
    be 4 ((ret.map (fun e => 2 ^ e)).sum) ++ be 1 (((s.retired 4).map (fun u => 2 ^ (u - 20))).sum) ++ zeros 3 ++
    be 8 ((s.led.fcast.map (·.1)).getD 0) ++ keyId (s.pubKey 2)
  report ++ s.sign report

/-! ### One operation performed (step 8) -/

/-- What an operation leaves: its result (0 done, 8 failed), its reply data, whether it continues (R366). -/
structure OpEnd where
  result : Nat
  data : List Byte
  continues : Bool
  deriving DecidableEq, Repr

/-- An operation performed. -/
def State.perform (s : State) (op : EnvOp) (o : PlanObs) : OpEnd × State :=
  match op with
  | .write a v =>
    let (ok, s) := s.signedWrite a (wordOf v) o
    (⟨if ok then 0 else 8, [], false⟩, s)
  | .read a n =>
    match State.readWords n a s with
    | (.ok ws, s) => (⟨0, ws.flatMap wordBe, false⟩, s)
    | (.error _, s) => (⟨8, [], false⟩, s)
  | .keySet role key => let (r, s) := s.keySet role key; (⟨r, [], false⟩, s)
  | .attest nonce => (⟨0, s.attestation nonce, false⟩, s)
  | .ledgerRead area count first => let (d, s) := s.ledgerReply area count first; (⟨0, d, false⟩, s)
  | .lifecycle t => (⟨0, [], true⟩, s.lifecycle t)
  | .fwBegin k n => let (r, s) := s.fwBegin k n; (⟨r, [], false⟩, s)
  | .fwCommit => let (r, s) := s.fwCommit; (⟨r, [], r = 0⟩, s)
  | .fwActivate k => let (r, s) := s.fwActivate k; (⟨r, [], false⟩, s)
  | .fwConfirm => let (r, s) := s.fwConfirm; (⟨r, [], false⟩, s)
  | .fwCommitRb => let (r, s) := s.fwCommitRb; (⟨r, [], false⟩, s)

/-- The operations of a body in order: result, index of the failing one or 0xFF, reply data, continues, and how many were
performed. A reset among them ends the sequence (R418). -/
def State.performAll : List EnvOp → Nat → PlanObs → List Byte → Bool → State → (Nat × Nat × List Byte × Bool) × State
  | [], _, _, d, c, s => ((0, 0xFF, d, c), s)
  | op :: t, i, o, d, c, s =>
    let (e, s) := s.perform op o
    if s.md.mode = .reset then ((0, 0xFF, d, c), s)
    else if e.result ≠ 0 then ((e.result, i, d, c), s)
    else State.performAll t (i + 1) o (d ++ e.data) (c || e.continues) s

/-- A row of Table 12.4 on its own: steps 7 and 8 of one operation for a role whose envelope has passed step 6 (log entry 12).
The result and the reply data stay in `cls.result` and `cls.data`. -/
def State.runOp (s : State) (role : Nat) (op : EnvOp) (o : PlanObs) : State :=
  let p := s.permit role op
  if p ≠ 0 then { s with cls := { s.cls with result := p, data := [] } }
  else
    let (e, s) := s.perform op o
    { s with cls := { s.cls with result := e.result, data := e.data } }

def noPlan : PlanObs := ⟨[], [], []⟩

/-- SIGNED_WRITE (R364). -/
def opSignedWrite (role : Nat) (a v : Word) (o : PlanObs) (s : State) : State :=
  s.runOp role (.write a.toNat v.toNat) o

/-- SIGNED_READ (R363). -/
def opSignedRead (role : Nat) (a : Word) (n : Nat) (s : State) : State := s.runOp role (.read a.toNat n) noPlan

/-- KEY_SET (R363). -/
def opKeySet (as role : Nat) (key : Option (List Byte)) (s : State) : State := s.runOp as (.keySet role key) noPlan

/-- ATTEST (R371). -/
def opAttest (role : Nat) (nonce : List Byte) (s : State) : State := s.runOp role (.attest nonce) noPlan

/-- LEDGER_READ (R407). -/
def opLedgerRead (role area count first : Nat) (s : State) : State := s.runOp role (.ledgerRead area count first) noPlan

/-- LIFECYCLE (R376). -/
def opLifecycle (role target : Nat) (s : State) : State := s.runOp role (.lifecycle target) noPlan

/-- FW_BEGIN (R375). -/
def opFwBegin (role img len : Nat) (s : State) : State := s.runOp role (.fwBegin img len) noPlan

/-- FW_COMMIT (R375). -/
def opFwCommit (role : Nat) (s : State) : State := s.runOp role .fwCommit noPlan

/-- FW_ACTIVATE (R375). -/
def opFwActivate (role img : Nat) (s : State) : State := s.runOp role (.fwActivate img) noPlan

/-- FW_CONFIRM (R373). -/
def opFwConfirm (role : Nat) (s : State) : State := s.runOp role .fwConfirm noPlan

/-- FW_COMMIT_RB (R375). -/
def opFwCommitRb (role : Nat) (s : State) : State := s.runOp role .fwCommitRb noPlan

/-! ### The decision of an envelope (R362, R363, Table 12.5) -/

/-- Whether an envelope is well formed (step 1), and then its operations. -/
def envelopeOps (b : List Byte) : Option (List EnvOp) :=
  let n := beAt b 38 2
  if b.length < 136 ∨ b.length ≠ 136 + n ∨ n < 4 ∨ 888 < n ∨ beAt b 0 2 ≠ 0x4B45 ∨ beAt b 2 1 ≠ 1 ∨ beAt b 36 1 = 0 ∨ 16 < beAt b 36 1
  then none
  else
    match parseOps (beAt b 36 1) ((b.drop 40).take n) with
    | none => none
    | some os => if 1 < (os.filter (fun o => o.replies)).length then none else some os

/-- The key that an envelope must be signed with (step 3): the installed key of its role; in PROVISIONED the key that a claim
carries (R377); in RETURNED the vendor firmware key, for LIFECYCLE SCRAPPED alone (R379). -/
def State.signer (s : State) (role : Nat) (ops : List EnvOp) : Option (List Byte) :=
  match s.cls.lc, ops with
  | 1, [.keySet 1 (some k)] => if role = 1 then some k else none
  | 2, _ => if 1 ≤ role ∧ role ≤ 4 then s.roleKey role else none
  | 3, [.lifecycle 4] => if role = 1 then some Config.vendorKey else none
  | _, _ => none

/-- The first failing operation of step 7 with its result. -/
def State.permitAll (s : State) (role : Nat) : List EnvOp → Nat → Option (Nat × Nat)
  | [], _ => none
  | op :: t, i =>
    let p := s.permit role op
    if p ≠ 0 then some (p, i) else s.permitAll role t (i + 1)

/-- What a decision ends in: result, operation index, reply data, continues, operations performed. -/
structure Decision where
  result : Nat
  index : Nat
  data : List Byte
  continues : Bool
  ops : Nat
  deriving DecidableEq, Repr

/-- A decision that fails before step 8. -/
def refusal (r i : Nat) : Decision := ⟨r, i, [], false, 0⟩

/-- Steps 1-8 of an envelope. A claim over the network is refused with result 7, and leaves no counter (log entry 43). -/
def State.decideEnvelope (s : State) (e : Envelope) (o : PlanObs) : Decision × State :=
  let b := e.bytes
  let role := beAt b 3 1
  let counter := beAt b 28 8
  match envelopeOps b with
  | none => (refusal 1 0xFF, s)
  | some ops =>
    if slice b 12 16 ≠ s.uid then (refusal 2 0xFF, s)
    else
      match s.signer role ops with
      | none => (refusal 3 0xFF, s)
      | some key =>
        let n := beAt b 38 2
        if keyId key ≠ slice b 4 8 then (refusal 3 0xFF, s)
        else if Config.ecdsaVerify key (Config.sha384 (b.take (40 + n))) (slice b (40 + n) 48) (slice b (88 + n) 48) = false then
          (refusal 4 0xFF, s)
        else if counter ≤ s.replayOf role then (refusal 5 0xFF, s)
        else if s.cls.lc = 1 ∧ e.carrier = 2 then (refusal 7 0, s)
        else
          let s := s.setReplay role counter
          match s.permitAll role ops 0 with
          | some (r, i) => (refusal r i, s)
          | none =>
            let s : State := if role = 3 then { s with md := { s.md with commissionSince := s.clk.up } } else s
            let ((r, i, d, c), s) := State.performAll ops 0 o [] false s
            (⟨r, i, d, c, if r = 0 then ops.length else i⟩, s)

/-- The Cloister's reply (Table 12.6), signed by the identity key. -/
def State.replyBytes (s : State) (e : Envelope) (x : Decision) : List Byte :=
  let r := be 2 0x4B52 ++ be 1 1 ++ be 1 x.result ++ be 1 x.index ++ be 1 (b2n x.continues) ++ be 2 x.data.length ++
    slice (Config.sha384 e.bytes) 0 16 ++ slice e.bytes 32 4 ++ x.data
  r ++ s.sign r

/-- CLS_CMD_DONE, or CLS_CMD_REFUSED with its counts; refusals 1-4 are recorded once per second and carrier (R382). -/
def State.decisionRecord (s : State) (e : Envelope) (x : Decision) : State :=
  let b := e.bytes
  let counter := le 8 (beAt b 28 8)
  if x.result = 0 then s.emit srcCloister Code.CLS_CMD_DONE (slice b 3 1 ++ le 1 x.ops ++ counter ++ le 1 e.carrier)
  else
    let s := s.inc CLS_CNT.REFUSED
    let s := if 3 ≤ x.result ∧ x.result ≤ 5 then s.inc CLS_CNT.SIGFAIL else s
    let last := sparseGet 0 s.cls.refusedAt e.carrier
    if x.result ≤ 4 ∧ last ≠ 0 ∧ s.clk.up < last + 1000000000 then s
    else
      let s : State := if x.result ≤ 4 then
          { s with cls := { s.cls with refusedAt := sparseSet 0 s.cls.refusedAt e.carrier (s.clk.up + 1) } }
        else s
      (s.put CLS_EVT.REFUSED 1).emit srcCloister Code.CLS_CMD_REFUSED
        (slice b 3 1 ++ le 1 x.result ++ le 1 x.index ++ counter ++ le 1 e.carrier)

/-- An ENVELOPE_REPLY datagram (Table 11.5) to the source of the request. -/
def State.envelopeReply (s : State) (e : Envelope) (status : Nat) (body : List Byte) : State :=
  s.send 3 e.addr e.port (be 2 0x4B4D ++ be 1 1 ++ be 1 0x8B ++ be 4 e.req ++ be 1 status ++ be 1 0 ++ be 2 body.length ++ body)

/-- The reply given to its carrier (R367). -/
def State.giveReply (s : State) (e : Envelope) (r : Nat) (body : List Byte) : State :=
  if e.carrier = 1 then
    let s : State := { s with cls := { s.cls with reply := body } }
    s.puts [(CLS_RSTAT.STATE, 2), (CLS_RSTAT.RESULT, r), (CLS_RSTAT.LEN, min 2047 body.length), (CLS_EVT.REPLY, 1)]
  else s.envelopeReply e 0x80 body

/-- ENVELOPE_DECIDED (R363): the envelope before the Cloister is decided, answered and recorded, and the next one comes before
it. A warm reset among its operations leaves no reply and no record. -/
def opEnvelopeDecided (o : PlanObs) (s : State) : State :=
  match s.cls.deciding with
  | none => s
  | some e =>
    let (x, s) := s.decideEnvelope e o
    if s.md.mode = .reset then s
    else
      let s : State := { s with cls := { s.cls with deciding := s.cls.waits.head?, waits := s.cls.waits.drop 1,
                                                    result := x.result, data := x.data } }
      (s.giveReply e x.result (s.replyBytes e x)).decisionRecord e x

/-! ### Envelopes received (R350, R366) -/

/-- Whether an SPI envelope waits or is being decided. -/
def State.spiBusy (s : State) : Bool :=
  s.cls.deciding.any (fun e => e.carrier = 1) || s.cls.waits.any (fun e => e.carrier = 1)

/-- Whether the Cloister can take one more network envelope: it decides one at a time and holds one more from the network. -/
def State.netBusy (s : State) : Bool := s.cls.deciding.isSome && s.cls.waits.any (fun e => e.carrier = 2)

/-- An envelope put before the Cloister. -/
def State.takeEnvelope (s : State) (e : Envelope) : State :=
  if s.cls.deciding.isNone then { s with cls := { s.cls with deciding := some e } }
  else { s with cls := { s.cls with waits := s.cls.waits ++ [e] } }

/-! ### The key store (R360, R380) -/

/-- CLS_STORE (Table 12.12) at a level. -/
def State.storeRecord (s : State) (lvl what area : Nat) : State :=
  (s.put CLS_EVT.STORE 1).emitAt lvl srcCloister Code.CLS_STORE (le 1 what ++ le 1 area)

/-- One item of the key store found in error: corrected (F1); a role key or replay counter lost is removed (F1); helper data or
wrapped key material lost, or the Cloister's logic failed, is F4. -/
def State.storeFault (s : State) (f : StoreFault) : State :=
  if f.area = 5 then ({ s with cls := { s.cls with storeOk := false } } : State).storeRecord 4 3 5
  else if f.corrected then s.storeRecord 1 1 f.area
  else if f.area = 1 then
    ({ s with cls := { s.cls with keys := s.cls.keys.filter (fun (p : Nat × List Byte) => p.1 ≠ f.role) } } : State).storeRecord 1 2 1
  else if f.area = 2 then (s.setReplay f.role 0).storeRecord 1 2 2
  else ({ s with cls := { s.cls with storeOk := false } } : State).storeRecord 4 2 f.area

/-- KEY_STORE_CHECK (R360): every item is checked; `found` are the errors. -/
def opKeyStoreCheck (found : List StoreFault) (s : State) : State := found.foldl State.storeFault s

end Sys2Proof.Machine
end

