-- ==== Sys2Proof/Machine/Boot.lean ====
section
/-! DEFINITION. From RESET to LOAD (R413, R415): the exit from RESET with what the life-cycle does there (R376, R378), and the end of
BOOT: key store, firmware image (R372-R374), boot BIST (R394), the ledger's seal block (R405), the epoch's opening (R430). -/

namespace Sys2Proof.Machine

/-! ### The exit from RESET -/

/-- A pending zeroisation is completed before anything else runs (R378); then an armed RETURNED transition is made with `RMA_N`
low, and disarmed with it high (R376). -/
def State.lifecycleAtReset (s : State) : State :=
  let s := if s.cls.zeroPending then s.zeroise else s
  if s.cls.armed = false then s
  else if s.pins.rmaN then ({ s with cls := { s.cls with armed := false } } : State).lifecycleRecord 2 3 3
  else
    let s := s.zeroise
    ({ s with cls := { s.cls with armed := false, lc := 3 } } : State).lifecycleRecord 2 3 2

/-- Whether RESET may be left (Table 14.1): supplies valid, `RST_N` released or declared stuck, any F4 hold over. That the rails are in
regulation the command asserts. -/
def State.resetMayEnd (s : State) : Bool :=
  s.md.mode = .reset && s.suppliesValid && ((!s.md.pinReset && s.pins.rstN) || s.on MOD_RESET.IGNORED) && !s.md.f4Wait &&
  !s.on MOD_RESET.F4HOLD

/-- RESET left (R413): BOOT begins, with what the life-cycle does there. -/
def State.leaveReset (s : State) : State := s.enterBoot.lifecycleAtReset

/-- RESET_EXIT (R413): `rmaN` is the level of `RMA_N`. -/
def opResetExit (rmaN : Bool) (s : State) : State :=
  if s.resetMayEnd then
    let s : State := { s with pins := { s.pins with rmaN := rmaN } }
    s.leaveReset
  else s

/-- F4_HOLD_EXPIRY (R421): the 10 s are over; with nothing else to wait for the part boots. -/
def opF4HoldExpiry (s : State) : State :=
  if s.md.f4Wait = false ∨ s.clk.up < s.md.f4At + 10000000000 then s
  else
    let s : State := { s with md := { s.md with f4Wait := false } }
    if s.resetMayEnd then s.leaveReset else s

/-- RST_STUCK (R420): the pin has been low for 8 s. RESET is left with cause 0x04 and its kind kept, the pin is ignored, the record is
owed, the indication starts. -/
def opRstStuck (s : State) : State :=
  match s.md.rstLowSince with
  | none => s
  | some t =>
    if s.pins.rstN ∨ s.on MOD_RESET.IGNORED ∨ s.pw.lossAt.isSome ∨ s.clk.up < t + 8000000000 then s
    else
      let s := s.puts [(MOD_RESET.IGNORED, 1), (MOD_RESET.INDICATE, 1)]
      let s : State := { s with sio := { s.sio with indicate := true } }
      let s : State := { s with md := { s.md with stuckRec := some ((s.clk.up - t) / 1000000, if s.md.resetCold then 1 else 2) } }
      if s.md.mode = .reset then
        let s : State := { s with md := { s.md with resetCause := 4, f4Wait := false } }
        let s := s.put MOD_RESET.CAUSE 4
        if s.resetMayEnd then s.leaveReset else s
      else s

/-! ### The image (R372, R373) -/

/-- CLS_BOOT_FAIL (Table 12.12). -/
def State.bootFail (s : State) (k cause : Nat) : State := s.emit srcCloister Code.CLS_BOOT_FAIL (le 1 k ++ le 1 cause)

/-- Whether image k may start, with the record where it may not. -/
def State.imageTry (s : State) (k : Nat) : Bool × State :=
  if s.imageSigned k = false then (false, s.bootFail k 1)
  else if s.imageFresh k = false then (false, s.bootFail k 2)
  else (true, s)

/-- An image started: its measurement recorded, its trial counted (R373). -/
def State.imageStart (s : State) (k : Nat) : State :=
  let pref := s.cls.pref
  let trial := decide (k = pref ∧ k ∉ s.cls.confirmed)
  let c := s.cls
  let s : State := { s with cls := { c with run := k, rom := false, trial := trial,
                                            trials := if trial then c.trials + 1 else c.trials } }
  s.emit srcCloister Code.CLS_BOOT
    (le 1 k ++ le 1 (if trial then 3 else if k = pref then 1 else 2) ++ slice (Config.sha384 (s.imageBytes k)) 0 8)

/-- The choice of the image: the preferred one, unless its trial is given up after three starts; then the other; with neither,
ROM recovery, where the record's image byte is a free value (R372-R374). -/
def State.imageSelect (s : State) : Bool × State :=
  let p := s.cls.pref
  let givenUp := decide (p ∉ s.cls.confirmed ∧ 3 ≤ s.cls.trials)
  let (ok, s) : Bool × State :=
    if givenUp then (false, ({ s with cls := { s.cls with pref := 1 - p } } : State).bootFail p 3) else s.imageTry p
  if ok then (true, s.imageStart p)
  else
    let (ok, s) := s.imageTry (1 - p)
    if ok then (true, s.imageStart (1 - p))
    else (false, ({ s.drawn with cls := { s.cls with rom := true } } : State).bootFail (s.free 8) 4)

/-! ### Boot BIST (R393, R394, Table 13.1) -/

/-- BIST_PASS of a signal-die unit at boot. -/
def State.bootPass (s : State) (u : Nat) : State :=
  let x := s.unit u
  let s := s.setUnit u { x with state := 1, passes := x.passes + 1, lastPass := some s.clk.up }
  (s.put TST_EVT.PASS 1).emit (srcUnit u) Code.BIST_PASS
    (le 1 u ++ le 1 32 ++ le 1 0 ++ le 1 3 ++ le 4 ((s.clk.up - s.md.bootStart) / 1000000))

/-- The signal-die units: all pass, or one fails and the part stays in BOOT (R394, R421). -/
def State.bootBist (s : State) (bad : Option BootBist) : Bool × State :=
  match bad with
  | none => (true, [32, 33, 34, 35, 36].foldl (fun s u => s.bootPass u) s)
  | some b =>
    let s := s.bistFail (32 + b.unit.val) b.slice b.addr b.bit b.how
    (false, { s with md := { s.md with bootHold := true } })

/-! ### The end of BOOT -/

/-- The seal block merged, or discarded where its CRC fails (R405, R441). -/
def State.sealMerge (s : State) : State :=
  match s.led.sealed with
  | none => s
  | some b =>
    let l := s.led
    let s : State := { s with led := { l with sealed := none, seals := l.seals + b2n b.whole,
                                              missing := l.missing + b2n (!b.whole) } }
    let s := (s.putB MOS_STAT.SEALED b.whole).put MOS_EVT.SEAL 1
    s.emit srcMoss Code.MOSS_SEAL (le 1 b.reason ++ le 8 b.time ++ le 1 (b2n b.whole))

/-- The data of RESET_CAUSE (Table 14.8). -/
def State.resetData (s : State) : List Byte :=
  let f4 := decide (s.md.resetCause = 6)
  le 1 s.md.resetCause ++ le 1 (if s.md.resetCold then 1 else 2) ++ le 2 (if f4 then s.md.f4Cause.1 else 0) ++
    le 2 (if f4 then s.md.f4Cause.2 else 0) ++ le 1 s.f4Recent.length

/-- Engines at the end of BOOT: those of Iadon's map COMMITTED, engine 19 the reserve or, where it cannot be, the lowest spare
(R187, R188); the retired ones stay so. -/
def State.galBoot (s : State) : State :=
  let s := (List.range 20).foldl (fun s e =>
    if s.eng e = 4 then s else s.put (GAL_ENG.STATE e) (b2n (e ∈ s.gal.map))) s
  ((s.setReserve 19).fixReserve).galSync

/-- The identification registers (R20, R23). -/
def State.identify (s : State) : State :=
  let u := Config.uniqueNumber
  let s := s.wr DEV_FW (wordOf (2 ^ 31 * s.cls.run + Config.imageVersion (s.imageBytes s.cls.run) % 2 ^ 31))
  (((s.wr DEV_UID0 (wordOf u)).wr DEV_UID1 (wordOf (u / 2 ^ 32))).wr DEV_UID2 (wordOf (u / 2 ^ 64))).wr DEV_UID3 (wordOf (u / 2 ^ 96))

/-- The registers that show lasting contents from the end of BOOT. -/
def State.showLedger (s : State) : State :=
  let s := s.puts [(MOS_STAT.OK, b2n (s.led.imageSeq ≠ 0)), (LCH_STAT.FCAST, b2n s.led.fcast.isSome), (LCH_STAT.DAYS, min 0xFFFF s.led.days)]
  (s.memSync).lichenSync

/-- BOOT ends (R413, R415, R430): identity, epoch with its opening records and those that wait, RST_STUCK, the seal block, chains,
timebase, Gallery; then LOAD, or ANALYSIS in RETURNED. -/
def State.bootEnd (s : State) : State :=
  let s := (s.identify).showLedger
  let s := (s.openEpoch (if s.md.resetCold then 1 else 2) s.resetData).deferredNow
  let s : State := match s.md.stuckRec with
    | some (ms, w) =>
      let s : State := { s with md := { s.md with stuckRec := none } }
      (s.put MOD_EVT.STUCK 1).emit srcDevice Code.RST_STUCK (le 4 ms ++ le 1 w)
    | none => s
  let s := s.sealMerge
  let s := ((List.range 4).foldl (fun s d => s.chainsStart d) s).spiChainStart
  let s := (if s.pw.feStop then { s with tb := { s.tb with target := 0 } } else s.timebaseStart).galBoot
  s.enterMode (if s.cls.lc = 3 then .analysis else .load) 4

/-- BOOT_COMPLETE (R372): what the key-store check found (area 5: the Cloister's own logic, R380) and a signal-die unit whose boot
BIST failed. A fault at F4, a failed unit, no valid image, or SCRAPPED keeps the part in BOOT. -/
def opBootComplete (found : List StoreFault) (bad : Option BootBist) (s : State) : State :=
  if s.md.mode ≠ .boot ∨ s.md.bootHold ∨ s.cls.lc = 4 then s
  else
    let s := opKeyStoreCheck found s
    let (bist, s) := s.bootBist bad
    if bist = false ∨ s.due.stop.isSome then s
    else
      let (ok, s) := s.imageSelect
      if ok then s.bootEnd else s

end Sys2Proof.Machine
end

