-- ==== Sys2Proof/Machine/Products.lean ====
section
/-! DEFINITION. The products that the data streams carry (R138, R150, R179, R337, Tables 4.7, 5.6), formed from the state of the tracks,
zones, fibres, cells and channels. -/

set_option Elab.async false

namespace Sys2Proof.Machine

/-- A product ready to be cut into datagrams: what the datagram header says of it (time of the data, none: of the assembly; source;
part), the header of its own, and its elements. -/
structure Product where
  time : Option Nat
  source : Nat
  part : Nat
  head : List Byte
  elems : List (List Byte)
  deriving DecidableEq, Repr

/-- The device time of a run time in the past. -/
def State.devAt (s : State) (up : Nat) : Nat := s.clk.dev - (s.clk.up - up)

/-- A signed number in network byte order. -/
def beI (n : Nat) (z : Int) : List Byte := be n (ofSigned (8 * n) z)

/-! ### Acoustic products (Table 4.7) -/

/-- The state of a track in its element: 0 TENTATIVE, 1 CONFIRMED, 2 COASTING (log entry 108). -/
def TrackState.code : TrackState → Nat
  | .tentative => 0
  | .confirmed => 1
  | .coasting => 2

/-- The tracks of fibre f (R138). -/
def State.tracksProduct (s : State) (f : Nat) : Product :=
  let x := s.acuFib f
  ⟨none, 0, f, [], x.tracks.map (fun t =>
    be 2 t.id ++ be 1 f ++ be 1 t.state.code ++ be 8 (s.devAt x.trackedAt) ++ beI 4 t.pos ++ beI 2 (satS 16 t.speed) ++
    be 2 (min 0xFFFF (Config.trackSigma t.pos t.speed)))⟩

/-- A cell of the band-energy map: 0xFFFF dead, 0xFFFE gap. -/
def Level.mapCode (l : Level) : Nat := if l.gap then 0xFFFE else l.level.getD 0xFFFF

/-- The band-energy map of band j of a VALID zone with map export (R127). -/
def State.mapProduct (s : State) (f z j : Nat) : Product :=
  match (s.zproc f z).levels with
  | (t, ls) :: _ =>
    ⟨some (s.devAt t), srcZone f z, j, [],
      if (s.zone f z).state = 3 ∧ s.cfg.sens.flag 3 4 0x088 [f, z] ∧ s.cfg.sens.bandOn f z j then
        (ls.getD j []).map (fun l => be 2 l.mapCode) else []⟩
  | [] => ⟨none, srcZone f z, j, [], []⟩

/-- One bin of a raw window, PHASE or RATE (R151). -/
def BinProc.rawCode (x : BinProc) (rate : Bool) : List Byte :=
  if rate then be 4 (rateCode (x.last.map (·.2))) else be 2 (phaseCode (x.last.map (·.1)))

/-- Raw window j of fibre f: the latest acoustic sample of its bins (R150, R151). -/
def State.rawProduct (s : State) (f j : Nat) : Product :=
  match (s.rawKept.filter (fun w => w.fibre = f))[j]? with
  | some w =>
    let first := s.cfg.sens.nat 3 4 0x081 [f, w.zone]
    let bins := (List.range w.len).map (fun i => (s.zproc f w.zone).bins.getD (w.first + i - first) .fresh)
    let shot := (((s.zproc f w.zone).tally.getLast?).map (·.1)).getD 0
    let at' := ((s.devAt shot : Int) + s.sampleInstant f 0 w.first / 16).toNat
    ⟨some at', srcZone f w.zone, j, [], if (s.zone f w.zone).state = 3 then [be 8 at' ++ (bins.map (·.rawCode w.rate)).flatten] else []⟩
  | none => ⟨none, 0, j, [], []⟩

/-- The dead share of the last second, in 1/255, of the bins of zones between two bins of fibre f. -/
def State.deadShare (s : State) (f a e : Nat) : Nat :=
  let counts := (s.zoneList f).flatMap (fun z =>
    let first := s.cfg.sens.nat 3 4 0x081 [f, z]
    ((s.zproc f z).bins.zipIdx.filter (fun b => a ≤ first + b.2 && first + b.2 < e)).flatMap
      (fun b => (recent s.clk.up 1000000000 b.1.settled).map (·.2)))
  let all := (counts.map (·.2)).sum
  if all = 0 then 0 else 255 * (counts.map (·.1)).sum / all

/-- The health of fibre f: its state, and power and dead share of every 64-bin cell. -/
def State.healthProduct (s : State) (f : Nat) : Product :=
  let cbin := s.get (ACQ_ZERO.CBIN f)
  let cells := cellPowers (s.aco f).lastShot cbin (s.get (PRB_BINS.NBINS f))
  ⟨none, 0, f,
    be 1 f ++ be 1 (s.get (PRB_STAT.FSTATE f)) ++ zeros 2 ++ be 4 (s.rd (ACU_BRK f)).toNat ++ be 4 (s.rd (ACU_HLTH f)).toNat ++
      beI 4 (s.geti (ACU_HLTH.ALIAS_M f)),
    cells.zipIdx.map (fun c =>
      beI 2 (satS 16 (roundHalf (100 * decibels c.1))) ++ be 1 (s.deadShare f (cbin + 64 * c.2) (cbin + 64 * c.2 + 64)) ++ zeros 1)⟩

/-! ### Temperature products (Table 5.6) -/

/-- The Raman profile of fibre f: every bin, NODATA where it holds no valid temperature. -/
def State.profileProduct (s : State) (f : Nat) : Product :=
  let x := s.tmp f
  let t := s.devAt ((x.updates.getLast?).getD 0)
  let flags := b2n (x.dark || !x.have_) + 2 * b2n (s.get (TMP_STAT.ANCH f) = 3)
  ⟨some t, srcRamanLanding f, f,
    be 1 f ++ be 1 (s.get (TMP_STAT.ANCH f)) ++ be 1 flags ++ zeros 1 ++ be 8 t ++ be 4 (s.get (TMP_GAMMA.GAMMA f)) ++
      be 4 (s.get (TMP_TA.TA f)),
    if x.have_ then (List.range (s.get (PRB_BINS.NBINS f))).map (fun b =>
      beI 4 (((x.profile.find? (fun p => p.1 = b)).map (·.2)).getD noTemp)) else []⟩

/-- The fused cells of fibre f. -/
def State.cellsProduct (s : State) (f : Nat) : Product :=
  ⟨none, 0, f, [], (s.zoneList f).flatMap (fun z => (s.fusedCells f z).map (fun c =>
    let x := s.cell f z c
    let t := s.devAt (((x.hist.getLast?).map (·.1)).getD s.clk.up)
    be 1 z ++ be 1 x.state ++ be 2 c ++ be 1 (s.cellFlags f x) ++ zeros 1 ++ be 2 (min 0xFFFF x.sigma) ++ be 8 t ++ beI 4 x.value))⟩

/-- The latest value of auxiliary channel c. -/
def State.auxProduct (s : State) (c : Nat) : Product :=
  match ((s.aux c).vals.getLast?) with
  | none => ⟨none, srcAux c, 0, [], []⟩
  | some v =>
    let flags := b2n v.value.isNone + 16 * b2n (v.suspect || s.get (AUX_STAT.STATE c) = 3) + 64 * s.get (AUX_RAW.OOT c) +
      128 * s.get (AUX_RAW.OVR c)
    ⟨none, srcAux c, 0, [],
      [be 1 c ++ be 1 flags ++ be 1 (s.get (AUX_CFG.UNIT c)) ++ zeros 1 ++ be 8 (s.devAt v.at_) ++ be 4 (s.get (AUX_VAL.VAL c))]⟩

/-- The product p (2-8): of fibre f, of zone z, of band, window or channel j. -/
def State.product (s : State) (p f z j : Nat) : Product :=
  match p with
  | 2 => s.tracksProduct f
  | 3 => s.mapProduct f z j
  | 4 => s.rawProduct f j
  | 5 => s.healthProduct f
  | 6 => s.profileProduct f
  | 7 => s.cellsProduct f
  | _ => s.auxProduct j

/-! ### Sending (R336, R337) -/

/-- The datagram header of the elements from `first` on. -/
def Product.streamHead (x : Product) (now first count : Nat) : StreamHead :=
  ⟨x.time.getD now, x.source, x.part, b2n (first = 0) + 2 * b2n (decide (x.elems.length ≤ first + count)), first, count⟩

/-- DATA_STREAM_SEND (R336, R337): a datagram of product p to destination d with `count` elements from `first` on, as many as the
product has, and no more than the MTU holds. Product 0x01 takes records from the queue. `late`: it could not start within its wait. -/
def opDataStreamSend (d p f z j first count : Nat) (late : Bool) (s : State) : State :=
  if p = 0 ∨ 9 ≤ p ∨ s.receives d p = false then s
  else if p = 1 then s.recordsSend d count
  else
    let x := s.product p f z j
    let some_ := (x.elems.drop first).take count
    let body := x.head ++ some_.flatten
    if some_ = [] ∨ s.maxPayload ((s.cfg.net.bytes 10 0x1B 0x081 [d]).getD []) < 28 + body.length then s
    else if late ∨ s.canSend = false then s.streamDrop d p
    else s.streamSend d p (x.streamHead s.clk.dev first some_.length) body

end Sys2Proof.Machine
end

