-- ==== Sys2Proof/Machine/HostPort.lean ====
section
/-! DEFINITION. The SPI host port and the management service (11_network_and_bornak.md, R338, R350-R352; R54). A frame's request
arrives whole as one command; the response that the part shifts out, its CRC-8 included, is `State.spi.out`. -/

namespace Sys2Proof.Machine

/-! ### SPI frames -/

/-- Whether the port works: the supplies are there. -/
def State.spiAlive (s : State) : Bool := s.pw.vfield && s.pw.lossAt.isNone

/-- A response: status, data, CRC-8 over both (Table 11.14). -/
def spiResponse (status : Nat) (data : List Byte) : List Byte :=
  let r := BitVec.ofNat 8 status :: data
  r ++ [crc8 r]

/-- The response given to the host. -/
def State.spiAnswer (s : State) (status : Nat) (data : List Byte) : State :=
  { s with spi := { s.spi with out := spiResponse status data } }

/-- BAD_COMMAND, CRC_ERROR and BUSY with their counts (R351, `NET_SPI`). -/
def State.spiBad (s : State) : State := (s.inc NET_SPI.BADCMD).spiAnswer 0x84 []
def State.spiCrc (s : State) : State := (s.inc NET_SPI.CRC).spiAnswer 0x82 []
def State.spiBusyAnswer (s : State) : State := (s.inc NET_SPI.BUSY).spiAnswer 0x83 []

/-- Whether a word that met the access-error indication waits for an absent die, which cannot reply within 50 µs (R54). -/
def State.awaitsDie (s : State) (a : Nat) : Bool :=
  signalWindow a && s.lnk.absent && decide (a % 4 = 0) && decide (s.md.mode ≠ .reset) && !s.cls.rom

/-- The answer of an access that met the access-error indication at address a: at once, or after the 50 µs of R54. -/
def State.spiError (s : State) (a : Nat) : State :=
  if s.awaitsDie a then { s with spi := { s.spi with out := [], waiting := some (spiResponse 0x81 []) } }
  else s.spiAnswer 0x81 []

/-- The checks before an access is performed (R351): the count, the CRC, a previous access unfinished. -/
def State.spiGate (s : State) (countOk crcOk busy : Bool) (act : State → State) : State :=
  if s.spiAlive = false then { s with spi := { s.spi with out := [] } }
  else if countOk = false then s.spiBad
  else if crcOk = false then s.spiCrc
  else if s.spi.waiting.isSome || busy then s.spiBusyAnswer
  else act s

/-- SPI_READ (R350, R352). -/
def opSpiRead (a : Word) (n crc : Byte) (s : State) : State :=
  s.spiGate (1 ≤ n.toNat && n.toNat ≤ 64) (crc8 ((0x03 : Byte) :: wordBe a ++ [n]) = crc) false (fun s =>
    match State.readWords n.toNat a.toNat s with
    | (.ok ws, s) => s.spiAnswer 0x80 (ws.flatMap wordBe)
    | (.error e, s) => s.spiError e)

/-- SPI_WRITE (R350, R352): as many data words as the count says. -/
def opSpiWrite (a : Word) (data : List Word) (crc : Byte) (s : State) : State :=
  s.spiGate (1 ≤ data.length && data.length ≤ 64)
    (crc8 ((0x02 : Byte) :: wordBe a ++ [BitVec.ofNat 8 data.length] ++ data.flatMap wordBe) = crc) false (fun s =>
    match State.writeWords data a.toNat s with
    | (none, s) => s.spiAnswer 0x80 []
    | (some e, s) => s.spiError e)

/-- SPI_ENVELOPE (R350, R366, R367): the status reports receipt only. -/
def opSpiEnvelope (b : List Byte) (crc : Byte) (s : State) : State :=
  s.spiGate (1 ≤ b.length && b.length ≤ 1024) (crc8 ((0x0B : Byte) :: be 2 b.length ++ b) = crc) s.spiBusy (fun s =>
    if s.md.mode = .reset ∨ s.md.mode = .boot then s.spiAnswer 0x81 []
    else
      let s : State := { s with cls := { s.cls with reply := [] } }
      let s := s.puts [(CLS_RSTAT.STATE, 1), (CLS_RSTAT.RESULT, 0), (CLS_RSTAT.LEN, 0)]
      (s.takeEnvelope ⟨b, 1, [], 0, 0⟩).spiAnswer 0x80 [])

/-- SPI_FRAME_ABORT (R352): no effect. -/
def opSpiFrameAbort (s : State) : State := s

/-- SPI_UNKNOWN_COMMAND (R351). -/
def opSpiUnknownCommand (cmd : Byte) (s : State) : State :=
  if cmd = 0x02 ∨ cmd = 0x03 ∨ cmd = 0x0B then s
  else if s.spiAlive = false then { s with spi := { s.spi with out := [] } }
  else s.spiBad

/-- WINDOW_REPLY_TIMEOUT (R54): the access that waits for an absent die ends with the access-error indication. -/
def opWindowReplyTimeout (s : State) : State :=
  match s.spi.waiting with
  | some r => { s with spi := { s.spi with out := r, waiting := none } }
  | none => s

/-! ### Management datagrams (R338) -/

/-- MGMT_BAD: cause, and the source's address (IPv4, or the last four bytes of an IPv6 address). -/
def State.mgmtBad (s : State) (k : Carrier) (cause : Nat) : State :=
  (s.put NET_EVT.MGMTBAD 1).emit srcNet Code.MGMT_BAD (le 1 cause ++ k.addr.drop (k.addr.length - 4))

/-- READ_REPLY (Table 11.5). -/
def State.readReply (s : State) (k : Carrier) (req status : Nat) (ws : List Word) : State :=
  s.send 3 k.addr k.uport (be 2 0x4B4D ++ be 1 1 ++ be 1 0x81 ++ be 4 req ++ be 1 status ++ be 1 ws.length ++ be 2 0 ++
    ws.flatMap wordBe)

/-- A READ body: address, count, reserved. -/
def State.mgmtRead (s : State) (k : Carrier) (req : Nat) (body : List Byte) : State :=
  let n := beAt body 4 1
  if s.cfg.net.nat 10 0 0x04E [] ≠ 1 then (s.readReply k req 0x85 []).mgmtBad k 3
  else if n = 0 ∨ 64 < n then s.readReply k req 0x84 []
  else
    match State.readWords n (beAt body 0 4) s with
    | (.ok ws, s) => s.readReply k req 0x80 ws
    | (.error _, s) => s.readReply k req 0x81 []

/-- An ENVELOPE body: put before the Cloister, whose reply comes with its decision, or answered BUSY (R366). -/
def State.mgmtEnvelope (s : State) (k : Carrier) (req : Nat) (body : List Byte) : State :=
  let e : Envelope := ⟨body, 2, k.addr, k.uport, req⟩
  if s.netBusy then s.envelopeReply e 0x83 [] else s.takeEnvelope e

/-- A datagram on the management port. -/
def State.mgmtRx (s : State) (k : Carrier) (b : List Byte) : State :=
  let (ok, s) := s.netRx k
  if ok = false then s
  else
    let body := b.drop 8
    let req := beAt b 4 4
    if b.length < 8 ∨ beAt b 0 2 ≠ 0x4B4D ∨ beAt b 2 1 ≠ 1 then s.mgmtBad k 1
    else if beAt b 3 1 = 0x01 then (if body.length = 8 then s.mgmtRead k req body else s.mgmtBad k 1)
    else if beAt b 3 1 = 0x0B then (if 1 ≤ body.length ∧ body.length ≤ 1024 then s.mgmtEnvelope k req body else s.mgmtBad k 1)
    else s.mgmtBad k 2

/-- MGMT_READ (R338). -/
def opMgmtRead (k : Carrier) (b : List Byte) (s : State) : State := s.mgmtRx k b

/-- MGMT_ENVELOPE (R338). -/
def opMgmtEnvelope (k : Carrier) (b : List Byte) (s : State) : State := s.mgmtRx k b

end Sys2Proof.Machine
end

