-- ==== Sys2Proof/Machine/RunAcoustic.lean ====
section
/-! DEFINITION. The meanings of the commands of the Acoustic chapter: each performs its operation and then what every command ends with
(`finish`). -/

namespace Sys2Proof.Machine

/-- APR_CHECK (R144). -/
def execAprCheck (f : Fin 2) (s : State) : Host.Outcome State Fault Refusal := .next (State.finish (opAprCheck f.val s))

/-- TRACE_PROCESSED (R119). -/
def execTraceProcessed (f : Fin 2) (n : Nat) (v : TraceVolts) (s : State) : Host.Outcome State Fault Refusal := .next (State.finish (opTraceProcessed f.val n v s))

/-- REF_LOST (R121). -/
def execRefLost (f : Fin 2) (s : State) : Host.Outcome State Fault Refusal := .next (State.finish (opRefLost f.val s))

/-- REF_OK (R121). -/
def execRefOk (f : Fin 2) (s : State) : Host.Outcome State Fault Refusal := .next (State.finish (opRefOk f.val s))

/-- ZONE_VALID (R127). -/
def execZoneValid (f : Fin 2) (z : Fin 256) (s : State) : Host.Outcome State Fault Refusal := .next (State.finish (opZoneValid f.val z.val s))

/-- ZONE_DEGRADED (R128). -/
def execZoneDegraded (f : Fin 2) (z : Fin 256) (s : State) : Host.Outcome State Fault Refusal := .next (State.finish (opZoneDegraded f.val z.val s))

/-- MAP_INTERVAL (R132). -/
def execMapInterval (f : Fin 2) (z : Fin 256) (s : State) : Host.Outcome State Fault Refusal := .next (State.finish (opMapInterval f.val z.val s))

/-- EVENT_HEARTBEAT (R135). -/
def execEventHeartbeat (f : Fin 2) (z : Fin 256) (id : Nat) (s : State) : Host.Outcome State Fault Refusal := .next (State.finish (opEventHeartbeat f.val z.val id s))

/-- ZONE_STORM_END (R136). -/
def execZoneStormEnd (f : Fin 2) (z : Fin 256) (s : State) : Host.Outcome State Fault Refusal := .next (State.finish (opZoneStormEnd f.val z.val s))

/-- TRACK_UPDATE (R137). -/
def execTrackUpdate (f : Fin 2) (obs : List TrackObs) (cands : List TrackCand) (s : State) : Host.Outcome State Fault Refusal := .next (State.finish (opTrackUpdate f.val obs cands s))

/-- ALIAS_SET (R145). -/
def execAliasSet (f : Fin 2) (s : State) : Host.Outcome State Fault Refusal := .next (State.finish (opAliasSet f.val s))

/-- ALIAS_CLEAR (R145). -/
def execAliasClear (f : Fin 2) (s : State) : Host.Outcome State Fault Refusal := .next (State.finish (opAliasClear f.val s))

/-- DIM_PERMIT_SEND (R148). -/
def execDimPermitSend (s : State) : Host.Outcome State Fault Refusal := .next (State.finish (opDimPermitSend s))

/-- DIM_PERMIT_RECEIVED (R148). -/
def execDimPermitReceived (l : Fin 64) (s : State) : Host.Outcome State Fault Refusal := .next (State.finish (opDimPermitReceived l.val s))

/-- REVOKE_RECEIVED (R148). -/
def execRevokeReceived (l : Fin 64) (s : State) : Host.Outcome State Fault Refusal := .next (State.finish (opRevokeReceived l.val s))

/-- PERMIT_AGE_EXPIRY (R148). -/
def execPermitAgeExpiry (l : Fin 64) (s : State) : Host.Outcome State Fault Refusal := .next (State.finish (opPermitAgeExpiry l.val s))

/-- ACU_CLEAR_COUNTS (R154). -/
def execAcuClearCounts (s : State) : Host.Outcome State Fault Refusal := .next (State.finish (opAcuClearCounts s))

end Sys2Proof.Machine
end

