-- ==== Sys2Proof/Machine/RunAcquisition.lean ====
section
/-! DEFINITION. The meanings of the commands of the Acquisition chapter: each performs its operation and then what every command ends with
(`finish`). -/

namespace Sys2Proof.Machine

/-- LANDING_HIGH (R104). -/
def execLandingHigh (f : Fin 2) (raman : Bool) (fill : Nat) (s : State) : Host.Outcome State Fault Refusal := .next (State.finish (opLandingHigh f.val raman fill s))

/-- LANDING_DROP_START (R105). -/
def execLandingDropStart (f : Fin 2) (raman : Bool) (s : State) : Host.Outcome State Fault Refusal := .next (State.finish (opDropStart f.val raman s))

/-- LANDING_OVERFLOW (R105). -/
def execLandingOverflow (f : Fin 2) (raman : Bool) (s : State) : Host.Outcome State Fault Refusal := .next (State.finish (opLandingOverflow f.val raman s))

/-- CHZ_HANDOVER_START (R98). -/
def execChzHandoverStart (c : Fin 3) (f : Fin 2) (s : State) : Host.Outcome State Fault Refusal := .next (State.finish (opChzHandoverStart c.val f.val s))

/-- CHZ_HANDOVER (R98). -/
def execChzHandover (c : Fin 3) (agree : Bool) (s : State) : Host.Outcome State Fault Refusal := .next (State.finish (opChzHandover c.val agree s))

/-- CHZ_FAIL (R99). -/
def execChzFail (c : Fin 3) (stall : Bool) (s : State) : Host.Outcome State Fault Refusal := .next (State.finish (opChzFail c.val stall s))

/-- CHZ_TAKEOVER (R99). -/
def execChzTakeover (c : Fin 3) (f : Fin 2) (s : State) : Host.Outcome State Fault Refusal := .next (State.finish (opChzTakeover c.val f.val s))

/-- IQ_ESTIMATE_UPDATE (R109). -/
def execIqEstimateUpdate (f : Fin 2) (y : Bool) (o : IqObs) (s : State) : Host.Outcome State Fault Refusal := .next (State.finish (opIqEstimateUpdate f.val y o s))

/-- IQ_HOLD_EXIT (R110). -/
def execIqHoldExit (f : Fin 2) (y : Bool) (s : State) : Host.Outcome State Fault Refusal := .next (State.finish (opIqHoldExit f.val y s))

/-- IQ_RECONVERGE (R110). -/
def execIqReconverge (f : Fin 2) (y : Bool) (s : State) : Host.Outcome State Fault Refusal := .next (State.finish (opIqReconverge f.val y s))

/-- OVERRANGE (R114). -/
def execOverrange (a : Fin 12) (s : State) : Host.Outcome State Fault Refusal := .next (State.finish (opOverrange a.val s))

/-- SNAPSHOT_ARM (R118). -/
def execSnapshotArm (s : State) : Host.Outcome State Fault Refusal := .next (State.finish (opSnapshotArm s))

/-- SNAPSHOT_DONE (R118). -/
def execSnapshotDone (volts : List (List Rat)) (s : State) : Host.Outcome State Fault Refusal := .next (State.finish (opSnapshotDone volts s))

/-- ACQ_CLEAR_PEAK (R117). -/
def execAcqClearPeak (p0 : Bool) (p1 : Bool) (r0 : Bool) (r1 : Bool) (s : State) : Host.Outcome State Fault Refusal := .next (State.finish (opAcqClearPeak p0 p1 r0 r1 s))

/-- ACQ_CLEAR_COUNTS (R117). -/
def execAcqClearCounts (s : State) : Host.Outcome State Fault Refusal := .next (State.finish (opAcqClearCounts s))

end Sys2Proof.Machine
end

