-- ==== Sys2Proof/Machine/RunAspects.lean ====
section
/-! DEFINITION. The meanings of the commands of the Aspects chapter: each performs its operation and then what every command ends with
(`finish`). -/

namespace Sys2Proof.Machine

/-- ASPECT_COMMAND (R257). -/
def execAspectCommand (h : Fin 32) (v : Fin 32) (s : State) : Host.Outcome State Fault Refusal := .next (State.finish (opAspectCommand h.val v.val s))

/-- LEVEL_COMMAND (R257). -/
def execLevelCommand (h : Fin 32) (level : Fin 4) (s : State) : Host.Outcome State Fault Refusal := .next (State.finish (opLevelCommand h.val level.val s))

/-- ASPECT_CHANGE_STEP (R260). -/
def execAspectChangeStep (h : Fin 32) (s : State) : Host.Outcome State Fault Refusal := .next (State.finish (opAspectChangeStep h.val s))

/-- DWELL_EXPIRY (R259). -/
def execDwellExpiry (h : Fin 32) (s : State) : Host.Outcome State Fault Refusal := .next (State.finish (opDwellExpiry h.val s))

/-- PWM_PERIOD_START (R246). -/
def execPwmPeriodStart (n : Fin 64) (s : State) : Host.Outcome State Fault Refusal := .next (State.finish (opPwmPeriodStart n.val s))

/-- DIM_RAMP_STEP (R251). -/
def execDimRampStep (n : Fin 64) (s : State) : Host.Outcome State Fault Refusal := .next (State.finish (opDimRampStep n.val s))

/-- FLASH_ON_EDGE (R252). -/
def execFlashOnEdge (g : Fin 8) (anti : Bool) (s : State) : Host.Outcome State Fault Refusal := .next (State.finish (opFlashOnEdge g.val anti s))

/-- FLASH_OFF_EDGE (R253). -/
def execFlashOffEdge (g : Fin 8) (anti : Bool) (s : State) : Host.Outcome State Fault Refusal := .next (State.finish (opFlashOffEdge g.val anti s))

/-- LMP_CLEAR_COUNTS (R267). -/
def execLmpClearCounts (s : State) : Host.Outcome State Fault Refusal := .next (State.finish (opLmpClearCounts s))

end Sys2Proof.Machine
end

