-- ==== Sys2Proof/Machine/RunCloister.lean ====
section
/-! DEFINITION. The meanings of the commands of the Cloister chapter: each performs its operation and then what every command ends with
(`finish`). -/

namespace Sys2Proof.Machine

/-- SEAL_DATA_READ (R370). -/
def execSealDataRead (i : Fin 56) (s : State) : Host.Outcome State Fault Refusal := .next (State.finish (opSealDataRead i.val s))

/-- CHAIN_SEAL (R369). -/
def execChainSeal (d : Fin 4) (s : State) : Host.Outcome State Fault Refusal := .next (State.finish (opChainSeal d.val s))

/-- SPI_SEAL (R370). -/
def execSpiSeal (s : State) : Host.Outcome State Fault Refusal := .next (State.finish (opSpiSeal s))

/-- ENVELOPE_DECIDED (R363). -/
def execEnvelopeDecided (o : PlanObs) (s : State) : Host.Outcome State Fault Refusal := .next (State.finish (opEnvelopeDecided o s))

/-- SIGNED_WRITE (R364). -/
def execSignedWrite (role : Fin 4) (a : Word) (v : Word) (o : PlanObs) (s : State) : Host.Outcome State Fault Refusal := .next (State.finish (opSignedWrite (role.val + 1) a v o s))

/-- SIGNED_READ (R363). -/
def execSignedRead (role : Fin 4) (a : Word) (n : Fin 64) (s : State) : Host.Outcome State Fault Refusal := .next (State.finish (opSignedRead (role.val + 1) a (n.val + 1) s))

/-- KEY_SET (R363). -/
def execKeySet (signer : Fin 4) (role : Fin 4) (key : Option (List Byte)) (s : State) : Host.Outcome State Fault Refusal := .next (State.finish (opKeySet (signer.val + 1) (role.val + 1) key s))

/-- ATTEST (R371). -/
def execAttest (role : Fin 4) (nonce : List Byte) (s : State) : Host.Outcome State Fault Refusal := .next (State.finish (opAttest (role.val + 1) nonce s))

/-- LIFECYCLE (R376). -/
def execLifecycle (role : Fin 4) (target : Fin 5) (s : State) : Host.Outcome State Fault Refusal := .next (State.finish (opLifecycle (role.val + 1) target.val s))

/-- FW_BEGIN (R375). -/
def execFwBegin (role : Fin 4) (img : Fin 2) (len : Nat) (s : State) : Host.Outcome State Fault Refusal := .next (State.finish (opFwBegin (role.val + 1) img.val len s))

/-- FW_APPEND (R375). -/
def execFwAppend (n : Fin 16384) (s : State) : Host.Outcome State Fault Refusal := .next (State.finish (opFwAppend (n.val + 1) s))

/-- FW_COMMIT (R375). -/
def execFwCommit (role : Fin 4) (s : State) : Host.Outcome State Fault Refusal := .next (State.finish (opFwCommit (role.val + 1) s))

/-- CLS_FW (R375). -/
def execClsFw (s : State) : Host.Outcome State Fault Refusal := .next (State.finish (opClsFw s))

/-- FW_ACTIVATE (R375). -/
def execFwActivate (role : Fin 4) (img : Fin 2) (s : State) : Host.Outcome State Fault Refusal := .next (State.finish (opFwActivate (role.val + 1) img.val s))

/-- FW_CONFIRM (R373). -/
def execFwConfirm (role : Fin 4) (s : State) : Host.Outcome State Fault Refusal := .next (State.finish (opFwConfirm (role.val + 1) s))

/-- FW_COMMIT_RB (R375). -/
def execFwCommitRb (role : Fin 4) (s : State) : Host.Outcome State Fault Refusal := .next (State.finish (opFwCommitRb (role.val + 1) s))

/-- TRIAL_CONFIRM (R373). -/
def execTrialConfirm (s : State) : Host.Outcome State Fault Refusal := .next (State.finish (opTrialConfirm s))

/-- KEY_STORE_CHECK (R360). -/
def execKeyStoreCheck (found : List StoreFault) (s : State) : Host.Outcome State Fault Refusal := .next (State.finish (opKeyStoreCheck found s))

/-- BOOT_COMPLETE (R372). -/
def execBootComplete (found : List StoreFault) (bad : Option BootBist) (s : State) : Host.Outcome State Fault Refusal := .next (State.finish (opBootComplete found bad s))

end Sys2Proof.Machine
end

