-- ==== Sys2Proof/Machine/RunGallery.lean ====
section
/-! DEFINITION. The meanings of the commands of the Gallery chapter: each performs its operation and then what every command ends with
(`finish`). -/

namespace Sys2Proof.Machine

/-- PLANNER_RUN (R203). -/
def execPlannerRun (obs : PlanObs) (s : State) : Host.Outcome State Fault Refusal := .next (State.finish (opPlannerRun obs s))

/-- RUN_NOW (R203). -/
def execRunNow (obs : PlanObs) (s : State) : Host.Outcome State Fault Refusal := .next (State.finish (opRunNow obs s))

/-- FAST_PATH (R205). -/
def execFastPath (obs : PlanObs) (s : State) : Host.Outcome State Fault Refusal := .next (State.finish (opFastPath obs s))

/-- SLACK_WINDOW (R196). -/
def execSlackWindow (u : Fin 23) (util : Nat) (tj : Int) (s : State) : Host.Outcome State Fault Refusal := .next (State.finish (opSlackWindow u.val util tj s))

/-- TASK_MOVE_START (R189). -/
def execTaskMoveStart (s : State) : Host.Outcome State Fault Refusal := .next (State.finish (opTaskMoveStart s))

/-- TASK_MOVE (R189). -/
def execTaskMove (bad : Option Nat) (s : State) : Host.Outcome State Fault Refusal := .next (State.finish (opTaskMove bad s))

/-- MOVE_DEFERRED (R190). -/
def execMoveDeferred (s : State) : Host.Outcome State Fault Refusal := .next (State.finish (opMoveDeferred s))

/-- ENGINE_FAIL (R192). -/
def execEngineFail (e : Fin 20) (cause : Nat) (s : State) : Host.Outcome State Fault Refusal := .next (State.finish (opEngineFail e.val cause s))

/-- TASK_RESTART (R192). -/
def execTaskRestart (formed : List Nat) (s : State) : Host.Outcome State Fault Refusal := .next (State.finish (opTaskRestart formed s))

/-- STAIR_FAULT (R201). -/
def execStairFault (high : Bool) (mv : Nat) (s : State) : Host.Outcome State Fault Refusal := .next (State.finish (opStairFault high mv s))

/-- GAL_CLEAR_COUNTS (R210). -/
def execGalClearCounts (s : State) : Host.Outcome State Fault Refusal := .next (State.finish (opGalClearCounts s))

end Sys2Proof.Machine
end

