-- ==== Sys2Proof/Machine/RunModes.lean ====
section
/-! DEFINITION. The meanings of the commands of the Modes chapter: each performs its operation and then what every command ends with
(`finish`). -/

namespace Sys2Proof.Machine

/-- RELEASE (R416). -/
def execRelease (s : State) : Host.Outcome State Fault Refusal := .next (State.finish (opRelease s))

/-- HOLD (R413). -/
def execHold (s : State) : Host.Outcome State Fault Refusal := .next (State.finish (opHold s))

/-- EXIT_SAFE (R427). -/
def execExitSafe (s : State) : Host.Outcome State Fault Refusal := .next (State.finish (opExitSafe s))

/-- COMMISSION (R417). -/
def execCommission (s : State) : Host.Outcome State Fault Refusal := .next (State.finish (opCommission s))

/-- END (R417). -/
def execEnd (s : State) : Host.Outcome State Fault Refusal := .next (State.finish (opEnd s))

/-- COMMISSION_TIMEOUT (R417). -/
def execCommissionTimeout (s : State) : Host.Outcome State Fault Refusal := .next (State.finish (opCommissionTimeout s))

/-- QUIESCE (R428). -/
def execQuiesce (s : State) : Host.Outcome State Fault Refusal := .next (State.finish (opQuiesce s))

/-- QUIESCE_DONE (R428). -/
def execQuiesceDone (s : State) : Host.Outcome State Fault Refusal := .next (State.finish (opQuiesceDone s))

/-- RESET (R418). -/
def execReset (s : State) : Host.Outcome State Fault Refusal := .next (State.finish (opReset s))

/-- MOD_CLEAR_COUNTS (R432). -/
def execModClearCounts (s : State) : Host.Outcome State Fault Refusal := .next (State.finish (opModClearCounts s))

/-- VFIELD_RISE (R415). -/
def execVfieldRise (v : Nat) (s : State) : Host.Outcome State Fault Refusal := .next (State.finish (opVfieldRise v s))

/-- RESET_EXIT (R413). -/
def execResetExit (rmaN : Bool) (s : State) : Host.Outcome State Fault Refusal := .next (State.finish (opResetExit rmaN s))

/-- LOAD_COMPLETE (R413). -/
def execLoadComplete (pins : Fin 4) (settled : Bool) (s : State) : Host.Outcome State Fault Refusal := .next (State.finish (opLoadComplete pins.val settled s))

/-- RST_N_ASSERT (R419). -/
def execRstNAssert (s : State) : Host.Outcome State Fault Refusal := .next (State.finish (opRstNAssert s))

/-- RST_N_RELEASE (R419). -/
def execRstNRelease (s : State) : Host.Outcome State Fault Refusal := .next (State.finish (opRstNRelease s))

/-- RST_STUCK (R420). -/
def execRstStuck (s : State) : Host.Outcome State Fault Refusal := .next (State.finish (opRstStuck s))

/-- RST_N_REARM (R420). -/
def execRstNRearm (s : State) : Host.Outcome State Fault Refusal := .next (State.finish (opRstNRearm s))

/-- F4_HOLD_EXPIRY (R421). -/
def execF4HoldExpiry (s : State) : Host.Outcome State Fault Refusal := .next (State.finish (opF4HoldExpiry s))

/-- FAULT_HANDLING (R424). -/
def execFaultHandling (signal : Bool) (lvl : Fin 3) (s : State) : Host.Outcome State Fault Refusal := .next (State.finish (opFaultHandling signal (lvl.val + 1) s))

/-- PEER_CAUSE_CLEARED (R426). -/
def execPeerCauseCleared (s : State) : Host.Outcome State Fault Refusal := .next (State.finish (opPeerCauseCleared s))

end Sys2Proof.Machine
end

