-- ==== Sys2Proof/Machine/RunNetwork.lean ====
section
/-! DEFINITION. The meanings of the commands of the Network chapter: each performs its operation and then what every command ends with
(`finish`). -/

namespace Sys2Proof.Machine

/-- SPI_READ (R350). -/
def execSpiRead (a : Word) (n : Byte) (crc : Byte) (s : State) : Host.Outcome State Fault Refusal := .next (State.finish (opSpiRead a n crc s))

/-- SPI_WRITE (R350). -/
def execSpiWrite (a : Word) (data : List Word) (crc : Byte) (s : State) : Host.Outcome State Fault Refusal := .next (State.finish (opSpiWrite a data crc s))

/-- SPI_ENVELOPE (R350). -/
def execSpiEnvelope (b : List Byte) (crc : Byte) (s : State) : Host.Outcome State Fault Refusal := .next (State.finish (opSpiEnvelope b crc s))

/-- SPI_FRAME_ABORT (R352). -/
def execSpiFrameAbort (s : State) : Host.Outcome State Fault Refusal := .next (State.finish (opSpiFrameAbort s))

/-- RECORD_DATA_READ (R354). -/
def execRecordDataRead (s : State) : Host.Outcome State Fault Refusal := .next (State.finish (opRecordDataRead s))

/-- DATA_STREAM_SEND (R337). -/
def execDataStreamSend (d : Fin 4) (p : Fin 8) (f : Fin 2) (z : Fin 256) (j : Fin 8) (first : Nat) (count : Nat) (late : Bool) (s : State) : Host.Outcome State Fault Refusal := .next (State.finish (opDataStreamSend d.val (p.val + 1) f.val z.val j.val first count late s))

/-- LINK_DOWN (R329). -/
def execLinkDown (p : Fin 2) (cause : Fin 4) (s : State) : Host.Outcome State Fault Refusal := .next (State.finish (opLinkDown p.val (cause.val + 1) s))

/-- LINK_UP (R329). -/
def execLinkUp (p : Fin 2) (s : State) : Host.Outcome State Fault Refusal := .next (State.finish (opLinkUp p.val s))

/-- PRP_SUPERVISION (R330). -/
def execPrpSupervision (s : State) : Host.Outcome State Fault Refusal := .next (State.finish (opPrpSupervision s))

/-- PTP_SYNC (R333). -/
def execPtpSync (b : List Byte) (fu : Option (List Byte)) (s : State) : Host.Outcome State Fault Refusal := .next (State.finish (opPtpSync b fu s))

/-- ANNOUNCE (R331). -/
def execAnnounce (b : List Byte) (s : State) : Host.Outcome State Fault Refusal := .next (State.finish (opAnnounce b s))

/-- ANNOUNCE_TIMEOUT (R331). -/
def execAnnounceTimeout (ferr : Nat) (s : State) : Host.Outcome State Fault Refusal := .next (State.finish (opAnnounceTimeout ferr s))

/-- DELAY_REQ (R331). -/
def execDelayReq (s : State) : Host.Outcome State Fault Refusal := .next (State.finish (opDelayReq s))

/-- DELAY_RESP (R331). -/
def execDelayResp (b : List Byte) (s : State) : Host.Outcome State Fault Refusal := .next (State.finish (opDelayResp b s))

/-- TIME_LOCKED (R332). -/
def execTimeLocked (s : State) : Host.Outcome State Fault Refusal := .next (State.finish (opTimeLocked s))

/-- MGMT_READ (R338). -/
def execMgmtRead (k : Carrier) (b : List Byte) (s : State) : Host.Outcome State Fault Refusal := .next (State.finish (opMgmtRead k b s))

/-- MGMT_ENVELOPE (R338). -/
def execMgmtEnvelope (k : Carrier) (b : List Byte) (s : State) : Host.Outcome State Fault Refusal := .next (State.finish (opMgmtEnvelope k b s))

/-- BORNAK_DATA (R345). -/
def execBornakData (k : Carrier) (b : List Byte) (s : State) : Host.Outcome State Fault Refusal := .next (State.finish (opBornakData k b s))

/-- BORNAK_REQ (R348). -/
def execBornakReq (k : Carrier) (b : List Byte) (s : State) : Host.Outcome State Fault Refusal := .next (State.finish (opBornakReq k b s))

/-- BORNAK_ACK (R344). -/
def execBornakAck (k : Carrier) (b : List Byte) (s : State) : Host.Outcome State Fault Refusal := .next (State.finish (opBornakAck k b s))

/-- BORNAK_REQ_SEND (R344). -/
def execBornakReqSend (c : Fin 64) (s : State) : Host.Outcome State Fault Refusal := .next (State.finish (opBornakReqSend c.val s))

/-- BORNAK_DATA_SEND (R348). -/
def execBornakDataSend (c : Fin 64) (s : State) : Host.Outcome State Fault Refusal := .next (State.finish (opBornakDataSend c.val s))

/-- BORNAK_EXPIRY (R346). -/
def execBornakExpiry (c : Fin 64) (s : State) : Host.Outcome State Fault Refusal := .next (State.finish (opBornakExpiry c.val s))

/-- BORNAK_WAIT_TIMEOUT (R346). -/
def execBornakWaitTimeout (c : Fin 64) (s : State) : Host.Outcome State Fault Refusal := .next (State.finish (opBornakWaitTimeout c.val s))

/-- BNK_ERRORS (R355). -/
def execBnkErrors (c : Fin 64) (s : State) : Host.Outcome State Fault Refusal := .next (State.finish (opBnkErrors c.val s))

/-- NET_CLEAR_COUNTS (R358). -/
def execNetClearCounts (s : State) : Host.Outcome State Fault Refusal := .next (State.finish (opNetClearCounts s))

/-- BNK_CLEAR_COUNTS (R358). -/
def execBnkClearCounts (s : State) : Host.Outcome State Fault Refusal := .next (State.finish (opBnkClearCounts s))

/-- ARP_ICMP_ND_REQUEST (R335). -/
def execArpIcmpNdRequest (c : Carrier) (kind : Fin 3) (target : List Byte) (payload : List Byte) (s : State) : Host.Outcome State Fault Refusal := .next (State.finish (opArpIcmpNdRequest c kind.val target payload s))

/-- SPI_UNKNOWN_COMMAND (R351). -/
def execSpiUnknownCommand (cmd : Byte) (s : State) : Host.Outcome State Fault Refusal := .next (State.finish (opSpiUnknownCommand cmd s))

end Sys2Proof.Machine
end

