-- ==== Sys2Proof/Machine/RunPower.lean ====
section
/-! DEFINITION. The meanings of the commands of the Power chapter: each performs its operation and then what every command ends with
(`finish`). -/

namespace Sys2Proof.Machine

/-- VFIELD_HIGH (R435). -/
def execVfieldHigh (peak : Nat) (s : State) : Host.Outcome State Fault Refusal := .next (State.finish (opVfieldHigh peak s))

/-- VFIELD_HIGH_END (R435). -/
def execVfieldHighEnd (v : Nat) (s : State) : Host.Outcome State Fault Refusal := .next (State.finish (opVfieldHighEnd v s))

/-- HOLDUP_CHARGED (R439). -/
def execHoldupCharged (cap : Nat) (vhold : Nat) (s : State) : Host.Outcome State Fault Refusal := .next (State.finish (opHoldupCharged cap vhold s))

/-- HOLDUP_TIMEOUT (R439). -/
def execHoldupTimeout (cap : Nat) (vhold : Nat) (s : State) : Host.Outcome State Fault Refusal := .next (State.finish (opHoldupTimeout cap vhold s))

/-- VAUX_FAULT (R437). -/
def execVauxFault (cause : Fin 2) (mv : Nat) (s : State) : Host.Outcome State Fault Refusal := .next (State.finish (opVauxFault (cause.val + 1) mv s))

/-- VSO_LOW (R438). -/
def execVsoLow (v : Nat) (s : State) : Host.Outcome State Fault Refusal := .next (State.finish (opVsoLow v s))

/-- TJ_HIGH (R442). -/
def execTjHigh (die : Fin 4) (t : Int) (s : State) : Host.Outcome State Fault Refusal := .next (State.finish (opTjHigh (die.val + 1) t s))

/-- TJ_HIGH_END (R442). -/
def execTjHighEnd (die : Fin 4) (t : Int) (s : State) : Host.Outcome State Fault Refusal := .next (State.finish (opTjHighEnd (die.val + 1) t s))

/-- TEMPERATURE_STOP (R442). -/
def execTemperatureStop (die : Fin 4) (t : Int) (s : State) : Host.Outcome State Fault Refusal := .next (State.finish (opTemperatureStop (die.val + 1) t s))

/-- SUPPLY_LOSS (R440). -/
def execSupplyLoss (whole : Bool) (s : State) : Host.Outcome State Fault Refusal := .next (State.finish (opSupplyLoss whole s))

/-- COLD_RESET (R440). -/
def execColdReset (s : State) : Host.Outcome State Fault Refusal := .next (State.finish (opColdReset s))

/-- PWR_CLEAR_PEAK (R461). -/
def execPwrClearPeak (s : State) : Host.Outcome State Fault Refusal := .next (State.finish (opPwrClearPeak s))

/-- VSO_RESTORED (R438). -/
def execVsoRestored (v : Nat) (s : State) : Host.Outcome State Fault Refusal := .next (State.finish (opVsoRestored v s))

/-- VAUX_RESTORED (R437). -/
def execVauxRestored (mv : Nat) (s : State) : Host.Outcome State Fault Refusal := .next (State.finish (opVauxRestored mv s))

/-- FRONT_END_TEMPERATURE_RESUME (R442). -/
def execFrontEndTemperatureResume (t : Int) (s : State) : Host.Outcome State Fault Refusal := .next (State.finish (opFrontEndTemperatureResume t s))

end Sys2Proof.Machine
end

