-- ==== Sys2Proof/Machine/RunProbe.lean ====
section
/-! DEFINITION. The meanings of the commands of the Probe chapter: each performs its operation and then what every command ends with
(`finish`). -/

namespace Sys2Proof.Machine

/-- REF_IN_QUALIFIED (R55). -/
def execRefInQualified (fofs : Int) (s : State) : Host.Outcome State Fault Refusal := .next (State.finish (opRefInQualified fofs s))

/-- TIMEBASE_LOCK (R56). -/
def execTimebaseLock (s : State) : Host.Outcome State Fault Refusal := .next (State.finish (opTimebaseLock s))

/-- HOLDOVER_ENTER (R58). -/
def execHoldoverEnter (offFreq : Bool) (corr : Int) (s : State) : Host.Outcome State Fault Refusal := .next (State.finish (opHoldoverEnter offFreq corr s))

/-- HOLDOVER_EXIT (R59). -/
def execHoldoverExit (s : State) : Host.Outcome State Fault Refusal := .next (State.finish (opHoldoverExit s))

/-- XO_FAIL (R60). -/
def execXoFail (o : XoObs) (s : State) : Host.Outcome State Fault Refusal := .next (State.finish (opXoFail o s))

/-- TIMEBASE_UNLOCK (R78). -/
def execTimebaseUnlock (cause : Fin 3) (s : State) : Host.Outcome State Fault Refusal := .next (State.finish (opTimebaseUnlock (cause.val + 1) s))

/-- WFM_ERROR (R63). -/
def execWfmError (f : Fin 2) (tone : Fin 4) (load : Option BankCheck) (s : State) : Host.Outcome State Fault Refusal := .next (State.finish (opWfmError f.val tone.val load s))

/-- PROBE_CYCLE_START (R66). -/
def execProbeCycleStart (f : Fin 2) (s : State) : Host.Outcome State Fault Refusal := .next (State.finish (opProbeCycleStart f.val s))

/-- PROBE_SWITCH (R67). -/
def execProbeSwitch (f : Fin 2) (s : State) : Host.Outcome State Fault Refusal := .next (State.finish (opProbeSwitch f.val s))

/-- LASER_READY (R70). -/
def execLaserReady (f : Fin 2) (avg : Fin 4096) (s : State) : Host.Outcome State Fault Refusal := .next (State.finish (opLaserReady f.val avg.val s))

/-- LASER_NOT_READY (R71). -/
def execLaserNotReady (f : Fin 2) (avg : Fin 4096) (s : State) : Host.Outcome State Fault Refusal := .next (State.finish (opLaserNotReady f.val avg.val s))

/-- PMON_OUT (R71). -/
def execPmonOut (f : Fin 2) (avg : Fin 4096) (s : State) : Host.Outcome State Fault Refusal := .next (State.finish (opPmonOut f.val avg.val s))

/-- CHECK_BURST (R73). -/
def execCheckBurst (f : Fin 2) (s : State) : Host.Outcome State Fault Refusal := .next (State.finish (opCheckBurst f.val s))

/-- CHECK_RESULT_TIMEOUT (R72). -/
def execCheckResultTimeout (f : Fin 2) (s : State) : Host.Outcome State Fault Refusal := .next (State.finish (opCheckResultTimeout f.val s))

/-- OPEN_END_INDICATION (R74). -/
def execOpenEndIndication (f : Fin 2) (s : State) : Host.Outcome State Fault Refusal := .next (State.finish (opOpenEndIndication f.val s))

/-- CONTINUITY_CONFIRMATION (R75). -/
def execContinuityConfirmation (f : Fin 2) (s : State) : Host.Outcome State Fault Refusal := .next (State.finish (opContinuityConfirmation f.val s))

/-- CONFIRMATION_TIMEOUT (R75). -/
def execConfirmationTimeout (f : Fin 2) (s : State) : Host.Outcome State Fault Refusal := .next (State.finish (opConfirmationTimeout f.val s))

/-- FORCE (R76). -/
def execForce (f : Fin 2) (s : State) : Host.Outcome State Fault Refusal := .next (State.finish (opForce f.val s))

/-- RESTORE (R76). -/
def execRestore (f : Fin 2) (s : State) : Host.Outcome State Fault Refusal := .next (State.finish (opRestore f.val s))

/-- APR_LOCKOUT (R77). -/
def execAprLockout (f : Fin 2) (s : State) : Host.Outcome State Fault Refusal := .next (State.finish (opAprLockout f.val s))

/-- PPS_IN_EDGE (R79). -/
def execPpsInEdge (high : Nat) (s : State) : Host.Outcome State Fault Refusal := .next (State.finish (opPpsInEdge high s))

/-- PPS_LOST (R80). -/
def execPpsLost (s : State) : Host.Outcome State Fault Refusal := .next (State.finish (opPpsLost s))

/-- PPS_OUT_RISE (R81). -/
def execPpsOutRise (s : State) : Host.Outcome State Fault Refusal := .next (State.finish (opPpsOutRise s))

/-- PPS_OUT_FALL (R81). -/
def execPpsOutFall (s : State) : Host.Outcome State Fault Refusal := .next (State.finish (opPpsOutFall s))

/-- REF_IN_BAD (R55). -/
def execRefInBad (offFreq : Bool) (s : State) : Host.Outcome State Fault Refusal := .next (State.finish (opRefInBad offFreq s))

end Sys2Proof.Machine
end

