-- ==== Sys2Proof/Machine/RunProfiles.lean ====
section
/-! DEFINITION. The meanings of the commands of the Profiles chapter: each performs its operation and then what every command ends with
(`finish`). -/

namespace Sys2Proof.Machine

/-- XFER_BEGIN (R230). -/
def execXferBegin (slot : Fin 4) (len : Nat) (s : State) : Host.Outcome State Fault Refusal := .next (State.finish (opXferBegin slot.val len s))

/-- XFER_DATA (R230). -/
def execXferData (w : Word) (s : State) : Host.Outcome State Fault Refusal := .next (State.finish (opXferData w s))

/-- XFER_COMMIT (R230). -/
def execXferCommit (s : State) : Host.Outcome State Fault Refusal := .next (State.finish (opXferCommit s))

/-- XFER_ABORT (R230). -/
def execXferAbort (s : State) : Host.Outcome State Fault Refusal := .next (State.finish (opXferAbort s))

/-- CFG_XFER_DONE (R230). -/
def execCfgXferDone (s : State) : Host.Outcome State Fault Refusal := .next (State.finish (opXferDone (s.roleKey 1) s))

/-- SWITCH (R234). -/
def execSwitch (slot : Fin 4) (persist : Bool) (s : State) : Host.Outcome State Fault Refusal := .next (State.finish (opSwitch slot.val persist s))

/-- CANCEL (R234). -/
def execCancel (s : State) : Host.Outcome State Fault Refusal := .next (State.finish (opCancel s))

/-- ERASE (R230). -/
def execErase (slot : Fin 4) (s : State) : Host.Outcome State Fault Refusal := .next (State.finish (opErase slot.val s))

/-- COMMIT_RB (R231). -/
def execCommitRb (s : State) : Host.Outcome State Fault Refusal := .next (State.finish (opCommitRb s))

/-- CFG_CTL_WRITE (R233). -/
def execCfgCtlWrite (pinEn : Bool) (pref : Fin 4) (s : State) : Host.Outcome State Fault Refusal := .next (State.finish (opCfgCtlWrite pinEn pref.val s))

/-- SWITCH_LOADED (R234). -/
def execSwitchLoaded (s : State) : Host.Outcome State Fault Refusal := .next (State.finish (opSwitchLoaded s))

/-- SWITCH_COMMIT (R237). -/
def execSwitchCommit (s : State) : Host.Outcome State Fault Refusal := .next (State.finish (opSwitchCommit s))

/-- CFG_SWITCH_DONE (R237). -/
def execCfgSwitchDone (s : State) : Host.Outcome State Fault Refusal := .next (State.finish (opCfgSwitchDone s))

/-- SWITCH_TIMEOUT (R235). -/
def execSwitchTimeout (s : State) : Host.Outcome State Fault Refusal := .next (State.finish (opSwitchTimeout s))

end Sys2Proof.Machine
end

