-- ==== Sys2Proof/Machine/RunProving.lean ====
section
/-! DEFINITION. The meanings of the commands of the Proving chapter: each performs its operation and then what every command ends with
(`finish`). -/

namespace Sys2Proof.Machine

/-- LIT_SAMPLE (R279). -/
def execLitSample (n : Fin 64) (cur : Int) (drain : Int) (full : Bool) (inserted : Bool) (s : State) : Host.Outcome State Fault Refusal := .next (State.finish (opLitSample n.val cur drain full inserted s))

/-- OVERCURRENT_TRIP (R280). -/
def execOvercurrentTrip (n : Fin 64) (cur : Int) (drain : Int) (s : State) : Host.Outcome State Fault Refusal := .next (State.finish (opOvercurrentTrip n.val cur drain s))

/-- DARK_SAMPLE (R281). -/
def execDarkSample (n : Fin 64) (cur : Int) (drain : Int) (s : State) : Host.Outcome State Fault Refusal := .next (State.finish (opDarkSample n.val cur drain s))

/-- COLD_TEST (R282). -/
def execColdTest (n : Fin 64) (cur : Int) (drain : Int) (absorbed : Bool) (s : State) : Host.Outcome State Fault Refusal := .next (State.finish (opColdTest n.val cur drain absorbed s))

/-- OFF_TEST (R283). -/
def execOffTest (n : Fin 64) (cur : Int) (drain : Int) (nbrs : List NbrObs) (absorbed : Bool) (s : State) : Host.Outcome State Fault Refusal := .next (State.finish (opOffTest n.val cur drain nbrs absorbed s))

/-- TEST_OVERDUE (R286). -/
def execTestOverdue (n : Fin 64) (kind : Fin 4) (s : State) : Host.Outcome State Fault Refusal := .next (State.finish (opTestOverdue n.val (kind.val + 1) s))

/-- BANK_SUPPLY_SAMPLE (R287). -/
def execBankSupplySample (b : Fin 4) (code : Int) (s : State) : Host.Outcome State Fault Refusal := .next (State.finish (opBankSupplySample b.val code s))

/-- BANK_SUPPLY_RESTORED (R287). -/
def execBankSupplyRestored (b : Fin 4) (s : State) : Host.Outcome State Fault Refusal := .next (State.finish (opBankSupplyRestored b.val s))

/-- CALIBRATION_WINDOW (R273). -/
def execCalibrationWindow (n : Fin 64) (ld : Bool) (gain : Int) (ofs : Int) (s : State) : Host.Outcome State Fault Refusal := .next (State.finish (opCalibrationWindow n.val ld gain ofs s))

/-- CONVERTER_CHECK (R275). -/
def execConverterCheck (c : Fin 2) (err : Int) (gain : Int) (ofs : Int) (rate : Nat) (s : State) : Host.Outcome State Fault Refusal := .next (State.finish (opConverterCheck c.val err gain ofs rate s))

/-- USER_SLOT_TRIGGER (R269). -/
def execUserSlotTrigger (i : Fin 512) (code : Int) (busy : Bool) (s : State) : Host.Outcome State Fault Refusal := .next (State.finish (opUserSlotTrigger i.val code busy s))

/-- SUP_MISSED (R269). -/
def execSupMissed (c : Fin 2) (s : State) : Host.Outcome State Fault Refusal := .next (State.finish (opSupMissed c.val s))

/-- REFERENCE_SETTLED (R271). -/
def execReferenceSettled (c : Fin 2) (s : State) : Host.Outcome State Fault Refusal := .next (State.finish (opReferenceSettled c.val s))

/-- SUP_REF (R271). -/
def execSupRef (c : Fin 2) (ok : Bool) (s : State) : Host.Outcome State Fault Refusal := .next (State.finish (opSupRef c.val ok s))

/-- LIGHT (R292). -/
def execLight (n : Fin 64) (s : State) : Host.Outcome State Fault Refusal := .next (State.finish (opLight n.val s))

/-- DARK_ALL (R292). -/
def execDarkAll (s : State) : Host.Outcome State Fault Refusal := .next (State.finish (opDarkAll s))

/-- MATRIX (R293). -/
def execMatrix (s : State) : Host.Outcome State Fault Refusal := .next (State.finish (opMatrix s))

/-- MATRIX_DRIVE_STEP (R293). -/
def execMatrixDriveStep (drive : Int) (obs : List MatrixObs) (s : State) : Host.Outcome State Fault Refusal := .next (State.finish (opMatrixDriveStep drive obs s))

/-- LAMP_CLEAR (R289). -/
def execLampClear (n : Fin 64) (s : State) : Host.Outcome State Fault Refusal := .next (State.finish (opLampClear n.val s))

/-- LAMP_CLEAR_ALL (R289). -/
def execLampClearAll (s : State) : Host.Outcome State Fault Refusal := .next (State.finish (opLampClearAll s))

/-- AUTO_RECOVERY (R289). -/
def execAutoRecovery (n : Fin 64) (s : State) : Host.Outcome State Fault Refusal := .next (State.finish (opAutoRecovery n.val s))

/-- PROVING_CLEAR_COUNTS (R296). -/
def execProvingClearCounts (s : State) : Host.Outcome State Fault Refusal := .next (State.finish (opProvingClearCounts s))

/-- SUP_CLEAR_COUNTS (R298). -/
def execSupClearCounts (s : State) : Host.Outcome State Fault Refusal := .next (State.finish (opSupClearCounts s))

/-- CONVERTER_HANDSHAKE_STALL (R275). -/
def execConverterHandshakeStall (c : Fin 2) (s : State) : Host.Outcome State Fault Refusal := .next (State.finish (opConverterHandshakeStall c.val s))

end Sys2Proof.Machine
end

