-- ==== Sys2Proof/Machine/RunRegisters.lean ====
section
/-! DEFINITION. The meanings of the commands of the Registers chapter: each performs its operation and then what every command ends with
(`finish`). -/

namespace Sys2Proof.Machine

/-- REGISTER_WRITE (R11). -/
def execRegisterWrite (a : Word) (v : Word) (s : State) : Host.Outcome State Fault Refusal := .next (State.finish (opRegisterWrite a v s))

/-- LOWER_WORD_READ (R16). -/
def execLowerWordRead (i : Fin 8) (s : State) : Host.Outcome State Fault Refusal := .next (State.finish (opLowerWordRead i.val s))

/-- WINDOW_REPLY_TIMEOUT (R54). -/
def execWindowReplyTimeout (s : State) : Host.Outcome State Fault Refusal := .next (State.finish (opWindowReplyTimeout s))

/-- HEARTBEAT_TIMEOUT (R30). -/
def execHeartbeatTimeout (s : State) : Host.Outcome State Fault Refusal := .next (State.finish (opHeartbeatTimeout s))

/-- HEARTBEAT_RECEIVED (R30). -/
def execHeartbeatReceived (s : State) : Host.Outcome State Fault Refusal := .next (State.finish (opHeartbeatReceived s))

/-- HOLDING_BUFFER_DRAIN (R52). -/
def execHoldingBufferDrain (s : State) : Host.Outcome State Fault Refusal := .next (State.finish (opHoldingBufferDrain s))

/-- PACER_CALIBRATION_RETURN (R31). -/
def execPacerCalibrationReturn (s : State) : Host.Outcome State Fault Refusal := .next (State.finish (opPacerCalibrationReturn s))

/-- EPOCH_ROLL (R43). -/
def execEpochRoll (s : State) : Host.Outcome State Fault Refusal := .next (State.finish (opEpochRoll s))

/-- GAP_RECORD (R46). -/
def execGapRecord (src : Nat) (s : State) : Host.Outcome State Fault Refusal := .next (State.finish (opGapRecord src s))

end Sys2Proof.Machine
end

