-- ==== Sys2Proof/Machine/RunSafetyIo.lean ====
section
/-! DEFINITION. The meanings of the commands of the SafetyIo chapter: each performs its operation and then what every command ends with
(`finish`). -/

namespace Sys2Proof.Machine

/-- TEST_PULSE (R302). -/
def execTestPulse (k : Fin 4) (lo : Nat) (hi : Nat) (s : State) : Host.Outcome State Fault Refusal := .next (State.finish (opTestPulse k.val lo hi s))

/-- TPO_RETRY (R303). -/
def execTpoRetry (k : Fin 4) (ok : Bool) (s : State) : Host.Outcome State Fault Refusal := .next (State.finish (opTpoRetry k.val ok s))

/-- INPUT_SAMPLE (R304). -/
def execInputSample (i : Fin 32) (level : Bool) (s : State) : Host.Outcome State Fault Refusal := .next (State.finish (opInputSample i.val level s))

/-- INPUT_FILTERED (R304). -/
def execInputFiltered (i : Fin 32) (s : State) : Host.Outcome State Fault Refusal := .next (State.finish (opInputFiltered i.val s))

/-- DEBOUNCE_EXPIRY (R304). -/
def execDebounceExpiry (i : Fin 32) (s : State) : Host.Outcome State Fault Refusal := .next (State.finish (opDebounceExpiry i.val s))

/-- INPUT_CAPTURE (R305). -/
def execInputCapture (i : Fin 32) (src : Fin 4) (level : Bool) (after : Bool) (s : State) : Host.Outcome State Fault Refusal := .next (State.finish (opInputCapture i.val src.val level after s))

/-- DISCREPANCY_EXPIRY (R307). -/
def execDiscrepancyExpiry (p : Fin 16) (s : State) : Host.Outcome State Fault Refusal := .next (State.finish (opDiscrepancyExpiry p.val s))

/-- OUTPUT_OFF_TEST (R311). -/
def execOutputOffTest (o : Fin 8) (mv : Nat) (s : State) : Host.Outcome State Fault Refusal := .next (State.finish (opOutputOffTest o.val mv s))

/-- OUTPUT_READBACK_SAMPLE (R311). -/
def execOutputReadbackSample (o : Fin 8) (mv : Nat) (s : State) : Host.Outcome State Fault Refusal := .next (State.finish (opOutputReadbackSample o.val mv s))

/-- CUTOFF_TEST (R311). -/
def execCutoffTest (mv : List Nat) (s : State) : Host.Outcome State Fault Refusal := .next (State.finish (opCutoffTest mv s))

/-- OUTPUT_OVERLOAD (R312). -/
def execOutputOverload (o : Fin 8) (mv : Nat) (s : State) : Host.Outcome State Fault Refusal := .next (State.finish (opOutputOverload o.val mv s))

/-- EDM_SAMPLE (R313). -/
def execEdmSample (o : Fin 8) (level : Bool) (s : State) : Host.Outcome State Fault Refusal := .next (State.finish (opEdmSample o.val level s))

/-- BRAKE_DECAY_CHECK (R314). -/
def execBrakeDecayCheck (k : Fin 2) (cur : Nat) (s : State) : Host.Outcome State Fault Refusal := .next (State.finish (opBrakeDecayCheck k.val cur s))

/-- BRAKE_SWITCH_TEST (R315). -/
def execBrakeSwitchTest (k : Fin 2) (hi : Nat) (lo : Nat) (s : State) : Host.Outcome State Fault Refusal := .next (State.finish (opBrakeSwitchTest k.val hi lo s))

/-- BRAKE_TEST_START (R316). -/
def execBrakeTestStart (k : Fin 2) (s : State) : Host.Outcome State Fault Refusal := .next (State.finish (opBrakeTestStart k.val s))

/-- BRAKE_TEST_END (R316). -/
def execBrakeTestEnd (k : Fin 2) (s : State) : Host.Outcome State Fault Refusal := .next (State.finish (opBrakeTestEnd k.val s))

/-- BRAKE_TEST_RETRY (R317). -/
def execBrakeTestRetry (k : Fin 2) (s : State) : Host.Outcome State Fault Refusal := .next (State.finish (opBrakeTestRetry k.val s))

/-- BRAKE_TEST_LAPSED (R317). -/
def execBrakeTestLapsed (k : Fin 2) (s : State) : Host.Outcome State Fault Refusal := .next (State.finish (opBrakeTestLapsed k.val s))

/-- TORQUE_OFF_DELAY (R300). -/
def execTorqueOffDelay (k : Fin 2) (s : State) : Host.Outcome State Fault Refusal := .next (State.finish (opTorqueOffDelay k.val s))

/-- SIO_CLEAR (R308). -/
def execSioClear (kind : Fin 4) (i : Fin 32) (s : State) : Host.Outcome State Fault Refusal := .next (State.finish (opSioClear kind.val i.val s))

/-- SIO_CLEAR_ALL (R308). -/
def execSioClearAll (s : State) : Host.Outcome State Fault Refusal := .next (State.finish (opSioClearAll s))

/-- BRK_TEST_REQUEST (R316). -/
def execBrkTestRequest (k : Fin 2) (s : State) : Host.Outcome State Fault Refusal := .next (State.finish (opBrkTestRequest k.val s))

/-- SIO_ACK (R321). -/
def execSioAck (s : State) : Host.Outcome State Fault Refusal := .next (State.finish (opSioAck s))

/-- SIO_CLEAR_COUNTS (R328). -/
def execSioClearCounts (s : State) : Host.Outcome State Fault Refusal := .next (State.finish (opSioClearCounts s))

/-- DEGRADED_EXPIRED (R318). -/
def execDegradedExpired (s : State) : Host.Outcome State Fault Refusal := .next (State.finish (opDegradedExpired s))

/-- DEGRADED_TIMER_DISCARD (R318). -/
def execDegradedTimerDiscard (s : State) : Host.Outcome State Fault Refusal := .next (State.finish (opDegradedTimerDiscard s))

/-- SAFE_STOP (R319). -/
def execSafeStop (s : State) : Host.Outcome State Fault Refusal := .next (State.finish (opSafeStop s))

/-- SAFE_STOP_RELEASE (R319). -/
def execSafeStopRelease (s : State) : Host.Outcome State Fault Refusal := .next (State.finish (opSafeStopRelease s))

/-- SAFE_OUT_PULSE (R321). -/
def execSafeOutPulse (s : State) : Host.Outcome State Fault Refusal := .next (State.finish (opSafeOutPulse s))

/-- PEER_MISMATCH (R324). -/
def execPeerMismatch (s : State) : Host.Outcome State Fault Refusal := .next (State.finish (opPeerMismatch s))

/-- TEST_PULSE_SOURCE_OVERLOAD (R303). -/
def execTestPulseSourceOverload (k : Fin 4) (s : State) : Host.Outcome State Fault Refusal := .next (State.finish (opTpoOverload k.val s))

/-- ENCODER_EDGE (R316). -/
def execEncoderEdge (k : Fin 2) (dir : Fin 3) (s : State) : Host.Outcome State Fault Refusal := .next (State.finish (opEncoderEdge k.val dir.val s))

end Sys2Proof.Machine
end

