-- ==== Sys2Proof/Machine/RunSelfTest.lean ====
section
/-! DEFINITION. The meanings of the commands of the SelfTest chapter: each performs its operation and then what every command ends with
(`finish`). -/

namespace Sys2Proof.Machine

/-- LEDGER_READ (R407). -/
def execLedgerRead (role : Fin 4) (area : Fin 10) (count : Fin 24) (first : Nat) (s : State) : Host.Outcome State Fault Refusal := .next (State.finish (opLedgerRead (role.val + 1) area.val (count.val + 1) first s))

/-- ROTATION_STEP (R389). -/
def execRotationStep (s : State) : Host.Outcome State Fault Refusal := .next (State.finish (opRotationStep s))

/-- CHZ_ROTATION_STEP (R390). -/
def execChzRotationStep (s : State) : Host.Outcome State Fault Refusal := .next (State.finish (opChzRotationStep s))

/-- BIST_SLICE (R385). -/
def execBistSlice (u : Fin 37) (stop : Option (Fin 2)) (s : State) : Host.Outcome State Fault Refusal := .next (State.finish (opBistSlice u.val stop s))

/-- BIST_SLICE_END (R385). -/
def execBistSliceEnd (r : SliceEnd) (s : State) : Host.Outcome State Fault Refusal := .next (State.finish (opBistSliceEnd r s))

/-- SIGNAL_DIE_SLICE (R393). -/
def execSignalDieSlice (u : Fin 5) (r : SliceEnd) (s : State) : Host.Outcome State Fault Refusal := .next (State.finish (opSignalDieSlice (u.val + 32) r s))

/-- TEST_NOW (R389). -/
def execTestNow (u : Fin 256) (s : State) : Host.Outcome State Fault Refusal := .next (State.finish (opTestNow u.val s))

/-- TST_CLEAR_COUNTS (R412). -/
def execTstClearCounts (s : State) : Host.Outcome State Fault Refusal := .next (State.finish (opTstClearCounts s))

/-- MARCH_ROW (R395). -/
def execMarchRow (a : Nat) (bad : Option MemFault) (s : State) : Host.Outcome State Fault Refusal := .next (State.finish (opMarchRow a bad s))

/-- SCRUB (R395). -/
def execScrub (a : Nat) (fix : Option MemFault) (s : State) : Host.Outcome State Fault Refusal := .next (State.finish (opScrub a fix s))

/-- LICHEN_READ (R398). -/
def execLichenRead (m : Fin 48) (reading : Option Nat) (tj : Int) (s : State) : Host.Outcome State Fault Refusal := .next (State.finish (opLichenRead m.val reading tj s))

/-- LICHEN_HOURLY (R398). -/
def execLichenHourly (s : State) : Host.Outcome State Fault Refusal := .next (State.finish (opLichenHourly s))

/-- LICHEN_DAILY (R399). -/
def execLichenDaily (s : State) : Host.Outcome State Fault Refusal := .next (State.finish (opLichenDaily s))

/-- LICHEN_FORECAST (R401). -/
def execLichenForecast (s : State) : Host.Outcome State Fault Refusal := .next (State.finish (opLichenForecast s))

/-- COUNTER_IMAGE_WRITE (R403). -/
def execCounterImageWrite (bad : Option Nat) (s : State) : Host.Outcome State Fault Refusal := .next (State.finish (opCounterImageWrite bad s))

/-- JOURNAL_WRITE (R404). -/
def execJournalWrite (bad : Option Nat) (s : State) : Host.Outcome State Fault Refusal := .next (State.finish (opJournalWrite bad s))

/-- LAMP_AGEING (R406). -/
def execLampAgeing (n : Fin 64) (s : State) : Host.Outcome State Fault Refusal := .next (State.finish (opLampAgeing n.val s))

end Sys2Proof.Machine
end

