-- ==== Sys2Proof/Machine/RunTemperature.lean ====
section
/-! DEFINITION. The meanings of the commands of the Temperature chapter: each performs its operation and then what every command ends with
(`finish`). -/

namespace Sys2Proof.Machine

/-- RAMAN_DARK_MEASURE (R156). -/
def execRamanDarkMeasure (f : Fin 2) (as : List Rat) (st : List Rat) (s : State) : Host.Outcome State Fault Refusal := .next (State.finish (opRamanDarkMeasure f.val as st s))

/-- RAMAN_DARK (R156). -/
def execRamanDark (f : Fin 2) (s : State) : Host.Outcome State Fault Refusal := .next (State.finish (opRamanDark f.val s))

/-- RAMAN_UPDATE (R158). -/
def execRamanUpdate (f : Fin 2) (s : State) : Host.Outcome State Fault Refusal := .next (State.finish (opRamanUpdate f.val s))

/-- ANCHOR_STALE (R160). -/
def execAnchorStale (f : Fin 2) (s : State) : Host.Outcome State Fault Refusal := .next (State.finish (opAnchorStale f.val s))

/-- BETA_UPDATE (R166). -/
def execBetaUpdate (f : Fin 2) (s : State) : Host.Outcome State Fault Refusal := .next (State.finish (opBetaUpdate f.val s))

/-- FUSED_OUTPUT (R164). -/
def execFusedOutput (f : Fin 2) (s : State) : Host.Outcome State Fault Refusal := .next (State.finish (opFusedOutput f.val s))

/-- FUSED_REBASE (R168). -/
def execFusedRebase (f : Fin 2) (z : Fin 256) (c : Fin 4096) (cause : Fin 3) (s : State) : Host.Outcome State Fault Refusal := .next (State.finish (opFusedRebase f.val z.val c.val (cause.val + 1) s))

/-- AUX_OUTPUT (R172). -/
def execAuxOutput (c : Fin 8) (o : AuxSample) (s : State) : Host.Outcome State Fault Refusal := .next (State.finish (opAuxOutput c.val o s))

/-- AUX_OPEN (R176). -/
def execAuxOpen (c : Fin 8) (cause : Fin 3) (s : State) : Host.Outcome State Fault Refusal := .next (State.finish (opAuxOpen c.val (cause.val + 1) s))

/-- AUX_RESTORED (R176). -/
def execAuxRestored (c : Fin 8) (s : State) : Host.Outcome State Fault Refusal := .next (State.finish (opAuxRestored c.val s))

/-- AUX_DWELL (R174). -/
def execAuxDwell (s : State) : Host.Outcome State Fault Refusal := .next (State.finish (opAuxDwell s))

/-- AUX_OVERRANGE (R180). -/
def execAuxOverrange (c : Fin 8) (s : State) : Host.Outcome State Fault Refusal := .next (State.finish (opAuxOverrange c.val s))

end Sys2Proof.Machine
end

