-- ==== Sys2Proof/Machine/Dispatch.lean ====
section
/-! DEFINITION. The meaning of every command. -/

namespace Sys2Proof.Machine

def exec (i : Instr) (s : State) : Host.Outcome State Fault Refusal :=
  match i with
  | .registerWrite a v => Sys2Proof.Machine.execRegisterWrite a v s
  | .spiRead a n crc => Sys2Proof.Machine.execSpiRead a n crc s
  | .spiWrite a data crc => Sys2Proof.Machine.execSpiWrite a data crc s
  | .spiEnvelope b crc => Sys2Proof.Machine.execSpiEnvelope b crc s
  | .spiFrameAbort => Sys2Proof.Machine.execSpiFrameAbort s
  | .lowerWordRead ix => Sys2Proof.Machine.execLowerWordRead ix s
  | .recordDataRead => Sys2Proof.Machine.execRecordDataRead s
  | .sealDataRead ix => Sys2Proof.Machine.execSealDataRead ix s
  | .windowReplyTimeout => Sys2Proof.Machine.execWindowReplyTimeout s
  | .heartbeatTimeout => Sys2Proof.Machine.execHeartbeatTimeout s
  | .heartbeatReceived => Sys2Proof.Machine.execHeartbeatReceived s
  | .holdingBufferDrain => Sys2Proof.Machine.execHoldingBufferDrain s
  | .pacerCalibrationReturn => Sys2Proof.Machine.execPacerCalibrationReturn s
  | .epochRoll => Sys2Proof.Machine.execEpochRoll s
  | .gapRecord src => Sys2Proof.Machine.execGapRecord src s
  | .refInQualified fofs => Sys2Proof.Machine.execRefInQualified fofs s
  | .timebaseLock => Sys2Proof.Machine.execTimebaseLock s
  | .holdoverEnter offFreq corr => Sys2Proof.Machine.execHoldoverEnter offFreq corr s
  | .holdoverExit => Sys2Proof.Machine.execHoldoverExit s
  | .xoFail o => Sys2Proof.Machine.execXoFail o s
  | .timebaseUnlock cause => Sys2Proof.Machine.execTimebaseUnlock cause s
  | .wfmError f tone load => Sys2Proof.Machine.execWfmError f tone load s
  | .probeCycleStart f => Sys2Proof.Machine.execProbeCycleStart f s
  | .probeSwitch f => Sys2Proof.Machine.execProbeSwitch f s
  | .laserReady f avg => Sys2Proof.Machine.execLaserReady f avg s
  | .laserNotReady f avg => Sys2Proof.Machine.execLaserNotReady f avg s
  | .pmonOut f avg => Sys2Proof.Machine.execPmonOut f avg s
  | .checkBurst f => Sys2Proof.Machine.execCheckBurst f s
  | .aprCheck f => Sys2Proof.Machine.execAprCheck f s
  | .checkResultTimeout f => Sys2Proof.Machine.execCheckResultTimeout f s
  | .openEndIndication f => Sys2Proof.Machine.execOpenEndIndication f s
  | .continuityConfirmation f => Sys2Proof.Machine.execContinuityConfirmation f s
  | .confirmationTimeout f => Sys2Proof.Machine.execConfirmationTimeout f s
  | .force f => Sys2Proof.Machine.execForce f s
  | .restore f => Sys2Proof.Machine.execRestore f s
  | .aprLockout f => Sys2Proof.Machine.execAprLockout f s
  | .ppsInEdge high => Sys2Proof.Machine.execPpsInEdge high s
  | .ppsLost => Sys2Proof.Machine.execPpsLost s
  | .ppsOutRise => Sys2Proof.Machine.execPpsOutRise s
  | .ppsOutFall => Sys2Proof.Machine.execPpsOutFall s
  | .landingHigh f raman fill => Sys2Proof.Machine.execLandingHigh f raman fill s
  | .landingDropStart f raman => Sys2Proof.Machine.execLandingDropStart f raman s
  | .landingOverflow f raman => Sys2Proof.Machine.execLandingOverflow f raman s
  | .chzHandoverStart c f => Sys2Proof.Machine.execChzHandoverStart c f s
  | .chzHandover c agree => Sys2Proof.Machine.execChzHandover c agree s
  | .chzFail c stall => Sys2Proof.Machine.execChzFail c stall s
  | .chzTakeover c f => Sys2Proof.Machine.execChzTakeover c f s
  | .iqEstimateUpdate f y o => Sys2Proof.Machine.execIqEstimateUpdate f y o s
  | .iqHoldExit f y => Sys2Proof.Machine.execIqHoldExit f y s
  | .iqReconverge f y => Sys2Proof.Machine.execIqReconverge f y s
  | .overrange a => Sys2Proof.Machine.execOverrange a s
  | .snapshotArm => Sys2Proof.Machine.execSnapshotArm s
  | .snapshotDone volts => Sys2Proof.Machine.execSnapshotDone volts s
  | .acqClearPeak p0 p1 r0 r1 => Sys2Proof.Machine.execAcqClearPeak p0 p1 r0 r1 s
  | .acqClearCounts => Sys2Proof.Machine.execAcqClearCounts s
  | .traceProcessed f n v => Sys2Proof.Machine.execTraceProcessed f n v s
  | .refLost f => Sys2Proof.Machine.execRefLost f s
  | .refOk f => Sys2Proof.Machine.execRefOk f s
  | .zoneValid f z => Sys2Proof.Machine.execZoneValid f z s
  | .zoneDegraded f z => Sys2Proof.Machine.execZoneDegraded f z s
  | .mapInterval f z => Sys2Proof.Machine.execMapInterval f z s
  | .eventHeartbeat f z id => Sys2Proof.Machine.execEventHeartbeat f z id s
  | .zoneStormEnd f z => Sys2Proof.Machine.execZoneStormEnd f z s
  | .trackUpdate f obs cands => Sys2Proof.Machine.execTrackUpdate f obs cands s
  | .aliasSet f => Sys2Proof.Machine.execAliasSet f s
  | .aliasClear f => Sys2Proof.Machine.execAliasClear f s
  | .dimPermitSend => Sys2Proof.Machine.execDimPermitSend s
  | .dimPermitReceived l => Sys2Proof.Machine.execDimPermitReceived l s
  | .revokeReceived l => Sys2Proof.Machine.execRevokeReceived l s
  | .permitAgeExpiry l => Sys2Proof.Machine.execPermitAgeExpiry l s
  | .dataStreamSend d p f z j first count late => Sys2Proof.Machine.execDataStreamSend d p f z j first count late s
  | .acuClearCounts => Sys2Proof.Machine.execAcuClearCounts s
  | .ramanDarkMeasure f as st => Sys2Proof.Machine.execRamanDarkMeasure f as st s
  | .ramanDark f => Sys2Proof.Machine.execRamanDark f s
  | .ramanUpdate f => Sys2Proof.Machine.execRamanUpdate f s
  | .anchorStale f => Sys2Proof.Machine.execAnchorStale f s
  | .betaUpdate f => Sys2Proof.Machine.execBetaUpdate f s
  | .fusedOutput f => Sys2Proof.Machine.execFusedOutput f s
  | .fusedRebase f z c cause => Sys2Proof.Machine.execFusedRebase f z c cause s
  | .auxOutput c o => Sys2Proof.Machine.execAuxOutput c o s
  | .auxOpen c cause => Sys2Proof.Machine.execAuxOpen c cause s
  | .auxRestored c => Sys2Proof.Machine.execAuxRestored c s
  | .auxDwell => Sys2Proof.Machine.execAuxDwell s
  | .auxOverrange c => Sys2Proof.Machine.execAuxOverrange c s
  | .plannerRun obs => Sys2Proof.Machine.execPlannerRun obs s
  | .runNow obs => Sys2Proof.Machine.execRunNow obs s
  | .fastPath obs => Sys2Proof.Machine.execFastPath obs s
  | .slackWindow u util tj => Sys2Proof.Machine.execSlackWindow u util tj s
  | .taskMoveStart => Sys2Proof.Machine.execTaskMoveStart s
  | .taskMove bad => Sys2Proof.Machine.execTaskMove bad s
  | .moveDeferred => Sys2Proof.Machine.execMoveDeferred s
  | .engineFail e cause => Sys2Proof.Machine.execEngineFail e cause s
  | .taskRestart formed => Sys2Proof.Machine.execTaskRestart formed s
  | .stairFault high mv => Sys2Proof.Machine.execStairFault high mv s
  | .galClearCounts => Sys2Proof.Machine.execGalClearCounts s
  | .xferBegin slot len => Sys2Proof.Machine.execXferBegin slot len s
  | .xferData w => Sys2Proof.Machine.execXferData w s
  | .xferCommit => Sys2Proof.Machine.execXferCommit s
  | .xferAbort => Sys2Proof.Machine.execXferAbort s
  | .cfgXferDone => Sys2Proof.Machine.execCfgXferDone s
  | .switch slot persist => Sys2Proof.Machine.execSwitch slot persist s
  | .cancel => Sys2Proof.Machine.execCancel s
  | .erase slot => Sys2Proof.Machine.execErase slot s
  | .commitRb => Sys2Proof.Machine.execCommitRb s
  | .cfgCtlWrite pinEn pref => Sys2Proof.Machine.execCfgCtlWrite pinEn pref s
  | .switchLoaded => Sys2Proof.Machine.execSwitchLoaded s
  | .switchCommit => Sys2Proof.Machine.execSwitchCommit s
  | .cfgSwitchDone => Sys2Proof.Machine.execCfgSwitchDone s
  | .switchTimeout => Sys2Proof.Machine.execSwitchTimeout s
  | .aspectCommand h v => Sys2Proof.Machine.execAspectCommand h v s
  | .levelCommand h level => Sys2Proof.Machine.execLevelCommand h level s
  | .aspectChangeStep h => Sys2Proof.Machine.execAspectChangeStep h s
  | .dwellExpiry h => Sys2Proof.Machine.execDwellExpiry h s
  | .pwmPeriodStart n => Sys2Proof.Machine.execPwmPeriodStart n s
  | .dimRampStep n => Sys2Proof.Machine.execDimRampStep n s
  | .flashOnEdge g anti => Sys2Proof.Machine.execFlashOnEdge g anti s
  | .flashOffEdge g anti => Sys2Proof.Machine.execFlashOffEdge g anti s
  | .lmpClearCounts => Sys2Proof.Machine.execLmpClearCounts s
  | .litSample n cur drain full inserted => Sys2Proof.Machine.execLitSample n cur drain full inserted s
  | .overcurrentTrip n cur drain => Sys2Proof.Machine.execOvercurrentTrip n cur drain s
  | .darkSample n cur drain => Sys2Proof.Machine.execDarkSample n cur drain s
  | .coldTest n cur drain absorbed => Sys2Proof.Machine.execColdTest n cur drain absorbed s
  | .offTest n cur drain nbrs absorbed => Sys2Proof.Machine.execOffTest n cur drain nbrs absorbed s
  | .testOverdue n kind => Sys2Proof.Machine.execTestOverdue n kind s
  | .bankSupplySample b code => Sys2Proof.Machine.execBankSupplySample b code s
  | .bankSupplyRestored b => Sys2Proof.Machine.execBankSupplyRestored b s
  | .calibrationWindow n ld gain ofs => Sys2Proof.Machine.execCalibrationWindow n ld gain ofs s
  | .converterCheck c err gain ofs rate => Sys2Proof.Machine.execConverterCheck c err gain ofs rate s
  | .userSlotTrigger ix code busy => Sys2Proof.Machine.execUserSlotTrigger ix code busy s
  | .supMissed c => Sys2Proof.Machine.execSupMissed c s
  | .referenceSettled c => Sys2Proof.Machine.execReferenceSettled c s
  | .supRef c ok => Sys2Proof.Machine.execSupRef c ok s
  | .light n => Sys2Proof.Machine.execLight n s
  | .darkAll => Sys2Proof.Machine.execDarkAll s
  | .matrix => Sys2Proof.Machine.execMatrix s
  | .matrixDriveStep drive obs => Sys2Proof.Machine.execMatrixDriveStep drive obs s
  | .lampClear n => Sys2Proof.Machine.execLampClear n s
  | .lampClearAll => Sys2Proof.Machine.execLampClearAll s
  | .autoRecovery n => Sys2Proof.Machine.execAutoRecovery n s
  | .provingClearCounts => Sys2Proof.Machine.execProvingClearCounts s
  | .supClearCounts => Sys2Proof.Machine.execSupClearCounts s
  | .testPulse k lo hi => Sys2Proof.Machine.execTestPulse k lo hi s
  | .tpoRetry k ok => Sys2Proof.Machine.execTpoRetry k ok s
  | .inputSample ix level => Sys2Proof.Machine.execInputSample ix level s
  | .inputFiltered ix => Sys2Proof.Machine.execInputFiltered ix s
  | .debounceExpiry ix => Sys2Proof.Machine.execDebounceExpiry ix s
  | .inputCapture ix src level after => Sys2Proof.Machine.execInputCapture ix src level after s
  | .discrepancyExpiry p => Sys2Proof.Machine.execDiscrepancyExpiry p s
  | .outputOffTest o mv => Sys2Proof.Machine.execOutputOffTest o mv s
  | .outputReadbackSample o mv => Sys2Proof.Machine.execOutputReadbackSample o mv s
  | .cutoffTest mv => Sys2Proof.Machine.execCutoffTest mv s
  | .outputOverload o mv => Sys2Proof.Machine.execOutputOverload o mv s
  | .edmSample o level => Sys2Proof.Machine.execEdmSample o level s
  | .brakeDecayCheck k cur => Sys2Proof.Machine.execBrakeDecayCheck k cur s
  | .brakeSwitchTest k hi lo => Sys2Proof.Machine.execBrakeSwitchTest k hi lo s
  | .brakeTestStart k => Sys2Proof.Machine.execBrakeTestStart k s
  | .brakeTestEnd k => Sys2Proof.Machine.execBrakeTestEnd k s
  | .brakeTestRetry k => Sys2Proof.Machine.execBrakeTestRetry k s
  | .brakeTestLapsed k => Sys2Proof.Machine.execBrakeTestLapsed k s
  | .torqueOffDelay k => Sys2Proof.Machine.execTorqueOffDelay k s
  | .sioClear kind ix => Sys2Proof.Machine.execSioClear kind ix s
  | .sioClearAll => Sys2Proof.Machine.execSioClearAll s
  | .brkTestRequest k => Sys2Proof.Machine.execBrkTestRequest k s
  | .sioAck => Sys2Proof.Machine.execSioAck s
  | .sioClearCounts => Sys2Proof.Machine.execSioClearCounts s
  | .degradedExpired => Sys2Proof.Machine.execDegradedExpired s
  | .degradedTimerDiscard => Sys2Proof.Machine.execDegradedTimerDiscard s
  | .safeStop => Sys2Proof.Machine.execSafeStop s
  | .safeStopRelease => Sys2Proof.Machine.execSafeStopRelease s
  | .safeOutPulse => Sys2Proof.Machine.execSafeOutPulse s
  | .peerMismatch => Sys2Proof.Machine.execPeerMismatch s
  | .linkDown p cause => Sys2Proof.Machine.execLinkDown p cause s
  | .linkUp p => Sys2Proof.Machine.execLinkUp p s
  | .prpSupervision => Sys2Proof.Machine.execPrpSupervision s
  | .ptpSync b fu => Sys2Proof.Machine.execPtpSync b fu s
  | .announce b => Sys2Proof.Machine.execAnnounce b s
  | .announceTimeout ferr => Sys2Proof.Machine.execAnnounceTimeout ferr s
  | .delayReq => Sys2Proof.Machine.execDelayReq s
  | .delayResp b => Sys2Proof.Machine.execDelayResp b s
  | .timeLocked => Sys2Proof.Machine.execTimeLocked s
  | .mgmtRead k b => Sys2Proof.Machine.execMgmtRead k b s
  | .mgmtEnvelope k b => Sys2Proof.Machine.execMgmtEnvelope k b s
  | .bornakData k b => Sys2Proof.Machine.execBornakData k b s
  | .bornakReq k b => Sys2Proof.Machine.execBornakReq k b s
  | .bornakAck k b => Sys2Proof.Machine.execBornakAck k b s
  | .bornakReqSend c => Sys2Proof.Machine.execBornakReqSend c s
  | .bornakDataSend c => Sys2Proof.Machine.execBornakDataSend c s
  | .bornakExpiry c => Sys2Proof.Machine.execBornakExpiry c s
  | .bornakWaitTimeout c => Sys2Proof.Machine.execBornakWaitTimeout c s
  | .bnkErrors c => Sys2Proof.Machine.execBnkErrors c s
  | .netClearCounts => Sys2Proof.Machine.execNetClearCounts s
  | .bnkClearCounts => Sys2Proof.Machine.execBnkClearCounts s
  | .chainSeal d => Sys2Proof.Machine.execChainSeal d s
  | .spiSeal => Sys2Proof.Machine.execSpiSeal s
  | .envelopeDecided o => Sys2Proof.Machine.execEnvelopeDecided o s
  | .signedWrite role a v o => Sys2Proof.Machine.execSignedWrite role a v o s
  | .signedRead role a n => Sys2Proof.Machine.execSignedRead role a n s
  | .keySet signer role key => Sys2Proof.Machine.execKeySet signer role key s
  | .attest role nonce => Sys2Proof.Machine.execAttest role nonce s
  | .ledgerRead role area count first => Sys2Proof.Machine.execLedgerRead role area count first s
  | .lifecycle role target => Sys2Proof.Machine.execLifecycle role target s
  | .fwBegin role img len => Sys2Proof.Machine.execFwBegin role img len s
  | .fwAppend n => Sys2Proof.Machine.execFwAppend n s
  | .fwCommit role => Sys2Proof.Machine.execFwCommit role s
  | .clsFw => Sys2Proof.Machine.execClsFw s
  | .fwActivate role img => Sys2Proof.Machine.execFwActivate role img s
  | .fwConfirm role => Sys2Proof.Machine.execFwConfirm role s
  | .fwCommitRb role => Sys2Proof.Machine.execFwCommitRb role s
  | .trialConfirm => Sys2Proof.Machine.execTrialConfirm s
  | .keyStoreCheck found => Sys2Proof.Machine.execKeyStoreCheck found s
  | .rotationStep => Sys2Proof.Machine.execRotationStep s
  | .chzRotationStep => Sys2Proof.Machine.execChzRotationStep s
  | .bistSlice u stop => Sys2Proof.Machine.execBistSlice u stop s
  | .bistSliceEnd r => Sys2Proof.Machine.execBistSliceEnd r s
  | .signalDieSlice u r => Sys2Proof.Machine.execSignalDieSlice u r s
  | .testNow u => Sys2Proof.Machine.execTestNow u s
  | .tstClearCounts => Sys2Proof.Machine.execTstClearCounts s
  | .marchRow a bad => Sys2Proof.Machine.execMarchRow a bad s
  | .scrub a fix => Sys2Proof.Machine.execScrub a fix s
  | .lichenRead m reading tj => Sys2Proof.Machine.execLichenRead m reading tj s
  | .lichenHourly => Sys2Proof.Machine.execLichenHourly s
  | .lichenDaily => Sys2Proof.Machine.execLichenDaily s
  | .lichenForecast => Sys2Proof.Machine.execLichenForecast s
  | .counterImageWrite bad => Sys2Proof.Machine.execCounterImageWrite bad s
  | .journalWrite bad => Sys2Proof.Machine.execJournalWrite bad s
  | .lampAgeing n => Sys2Proof.Machine.execLampAgeing n s
  | .release => Sys2Proof.Machine.execRelease s
  | .hold => Sys2Proof.Machine.execHold s
  | .exitSafe => Sys2Proof.Machine.execExitSafe s
  | .commission => Sys2Proof.Machine.execCommission s
  | .endCommissioning => Sys2Proof.Machine.execEnd s
  | .commissionTimeout => Sys2Proof.Machine.execCommissionTimeout s
  | .quiesce => Sys2Proof.Machine.execQuiesce s
  | .quiesceDone => Sys2Proof.Machine.execQuiesceDone s
  | .reset => Sys2Proof.Machine.execReset s
  | .modClearCounts => Sys2Proof.Machine.execModClearCounts s
  | .vfieldRise v => Sys2Proof.Machine.execVfieldRise v s
  | .resetExit rmaN => Sys2Proof.Machine.execResetExit rmaN s
  | .bootComplete found bad => Sys2Proof.Machine.execBootComplete found bad s
  | .loadComplete pins settled => Sys2Proof.Machine.execLoadComplete pins settled s
  | .rstNAssert => Sys2Proof.Machine.execRstNAssert s
  | .rstNRelease => Sys2Proof.Machine.execRstNRelease s
  | .rstStuck => Sys2Proof.Machine.execRstStuck s
  | .rstNRearm => Sys2Proof.Machine.execRstNRearm s
  | .f4HoldExpiry => Sys2Proof.Machine.execF4HoldExpiry s
  | .faultHandling signal lvl => Sys2Proof.Machine.execFaultHandling signal lvl s
  | .vfieldHigh peak => Sys2Proof.Machine.execVfieldHigh peak s
  | .vfieldHighEnd v => Sys2Proof.Machine.execVfieldHighEnd v s
  | .holdupCharged cap vhold => Sys2Proof.Machine.execHoldupCharged cap vhold s
  | .holdupTimeout cap vhold => Sys2Proof.Machine.execHoldupTimeout cap vhold s
  | .vauxFault cause mv => Sys2Proof.Machine.execVauxFault cause mv s
  | .vsoLow v => Sys2Proof.Machine.execVsoLow v s
  | .tjHigh die t => Sys2Proof.Machine.execTjHigh die t s
  | .tjHighEnd die t => Sys2Proof.Machine.execTjHighEnd die t s
  | .temperatureStop die t => Sys2Proof.Machine.execTemperatureStop die t s
  | .supplyLoss whole => Sys2Proof.Machine.execSupplyLoss whole s
  | .coldReset => Sys2Proof.Machine.execColdReset s
  | .pwrClearPeak => Sys2Proof.Machine.execPwrClearPeak s
  | .converterHandshakeStall c => Sys2Proof.Machine.execConverterHandshakeStall c s
  | .testPulseSourceOverload k => Sys2Proof.Machine.execTestPulseSourceOverload k s
  | .encoderEdge k dir => Sys2Proof.Machine.execEncoderEdge k dir s
  | .peerCauseCleared => Sys2Proof.Machine.execPeerCauseCleared s
  | .vsoRestored v => Sys2Proof.Machine.execVsoRestored v s
  | .vauxRestored mv => Sys2Proof.Machine.execVauxRestored mv s
  | .frontEndTemperatureResume t => Sys2Proof.Machine.execFrontEndTemperatureResume t s
  | .refInBad offFreq => Sys2Proof.Machine.execRefInBad offFreq s
  | .arpIcmpNdRequest c kind target payload => Sys2Proof.Machine.execArpIcmpNdRequest c kind target payload s
  | .spiUnknownCommand cmd => Sys2Proof.Machine.execSpiUnknownCommand cmd s

end Sys2Proof.Machine
end

