-- ==== Sys2Proof/Machine/Tick.lean ====
section
/-! DEFINITION. What passes with no command waiting: one nanosecond (log entry 2). Every other happening, the ends of the
part's own periods and limits among them, is a command. -/

namespace Sys2Proof.Machine

/-- The part of a slew that falls on a nanosecond: one in `period` takes one nanosecond of what is left, with its sign. -/
def slewOf (left : Int) (period up : Nat) : Int :=
  if up % period ≠ 0 ∨ left = 0 then 0 else if 0 < left then 1 else -1

/-- One nanosecond: the run time and device time advance, device time slewing by at most 50 ppm (R333); the Pacer's copy follows
device time while it is calibrated, else it runs on, slewing back by at most 100 us per second (R31); the Bornak clock is the
Pacer's copy without its steps (R462). The two slews fall on different nanoseconds, so no clock runs back. -/
def State.tick (s : State) : State :=
  let c := s.clk
  let d := slewOf s.ts.slew 20000 c.up
  let l := slewOf s.lnk.slew 10000 (c.up + 5000)
  let n : Int := 1 + l + (if s.pacerFree then 0 else d)
  { s with
    clk := { up := c.up + 1
             dev := ((c.dev : Int) + 1 + d).toNat
             pacer := ((c.pacer : Int) + n).toNat
             bornak := ((c.bornak : Int) + n).toNat }
    ts := { s.ts with slew := s.ts.slew - d }
    lnk := { s.lnk with slew := s.lnk.slew - l } }

/-- What passes with no command waiting: one nanosecond, and at each full second the ledger's histograms count (Table 13.7). -/
def State.idle (s : State) : State :=
  let s := s.tick
  if s.clk.up % 1000000000 = 0 then s.countSecond else s

end Sys2Proof.Machine
end

