-- ==== Sys2Proof/Machine/Flags.lean ====
section
/-! DEFINITION. The interrupt line (R353). The event flags themselves are the `_EVT` registers, set by the operations and cleared
by a write of 1 (R11). -/

namespace Sys2Proof.Machine

/-- The event registers with their enables, block by block. -/
def eventBlocks : List (Nat × Nat) :=
  [(PRB_EVT, PRB_IRQ_EN), (ACQ_EVT, ACQ_IRQ_EN), (ACU_EVT, ACU_IRQ_EN), (TMP_EVT, TMP_IRQ_EN), (AUX_EVT, AUX_IRQ_EN),
   (GAL_EVT, GAL_IRQ_EN), (CFG_EVT, CFG_IRQ_EN), (LMP_EVT, LMP_IRQ_EN), (LMP_PEVT, LMP_PIRQ_EN), (SUP_EVT, SUP_IRQ_EN),
   (SIO_EVT, SIO_IRQ_EN), (NET_EVT, NET_IRQ_EN), (BNK_EVT, BNK_IRQ_EN), (CLS_EVT, CLS_IRQ_EN), (TST_EVT, TST_IRQ_EN),
   (LCH_EVT, LCH_IRQ_EN), (MOS_EVT, MOS_IRQ_EN), (MOD_EVT, MOD_IRQ_EN), (PWR_EVT, PWR_IRQ_EN)]

/-- Whether an enabled event flag is set. -/
def State.eventWaits (s : State) : Bool := eventBlocks.any (fun p => decide (s.rd p.1 &&& s.rd p.2 ≠ 0))

/-- Whether the SPI record path holds a record and asks for it. -/
def State.recordWaits (s : State) : Bool :=
  s.on NET_RCTL.EN && s.on NET_RCTL.IRQ && s.recs.queue.any (fun q => decide (4 ∈ q.left))

/-- `IRQ_N` pulled low. -/
def State.irq (s : State) : Bool :=
  s.md.mode ≠ .reset && s.md.mode ≠ .boot && (s.eventWaits || s.recordWaits)

end Sys2Proof.Machine
end

