-- ==== Sys2Proof/Safety.lean ====
section
/-! DEFINITION. What the statements call safe: the relations between parts of State that every step keeps, and the states
in which a command leaves no further consequence. -/

namespace Sys2Proof.Machine

/-- Between commands nothing is owed, and `MOD_STATE.CODE` as last reported is the mode that R414 gives. -/
abbrev State.modeShown (s : State) : Prop := s.due = ⟨none, none, 0⟩ ∧ s.md.code = s.modeCode

/-- The degraded timer runs, or has expired, exactly while a degraded condition is present (R318); in RESET nothing is judged. -/
abbrev State.timerBacked (s : State) : Prop :=
  s.md.mode = .reset ∨ (s.sio.deg.deadline.isSome || s.sio.deg.expired) = !s.degConds.isEmpty

/-- The consequences that follow a command find nothing to do: the die link has not failed, the degraded timer agrees with the
conditions, the queue-full cause has no end to find, nothing is owed, the mode is as reported, no switch waits for heads. -/
abbrev State.calm (s : State) : Prop :=
  ((s.unit 36).state ≠ 2 ∨ s.lnk.absent = true ∨ s.md.mode = .reset) ∧
  s.timerBacked ∧
  (s.flt.belowHalf = false ∨ bitOf (s.get MOD_SCAUSE.CAUSE) 7 = false) ∧
  s.modeShown ∧
  (s.cfg.shadow = none ∨ s.get CFG_STAT.SWSTATE ≠ 2)

end Sys2Proof.Machine
end

