-- ==== Sys2Proof/Certificates/Slice0/Obligations.lean ====
section
/-! DEFINITION. The statements about the block: what a step is and what every step keeps, then the commands family by family. -/

open Sys2Proof Sys2Proof.Machine

/-- A step takes the command at the front of the queue and runs it on the state with the queue's rest. -/
def Obligations.StepTakesFront : Prop :=
  ∀ (s : State) (c : Instr) (rest : List Instr), s.pending = c :: rest → step s = exec c { s with pending := rest }

/-- The model's own choice (log entry 2): with no command waiting one nanosecond passes; the clocks and what is left of a slew
are all that changes, and the Bornak clock gains what the Pacer's copy gains (R462). -/
def Obligations.EmptyQueueTick : Prop :=
  ∀ (s : State), s.pending = [] → ∃ t : State, step s = .next t ∧ t = { s with clk := t.clk, ts := t.ts, lnk := t.lnk, hist := t.hist } ∧
    t.clk.up = s.clk.up + 1 ∧ (t.clk.up % 1000000000 ≠ 0 → t.hist = s.hist) ∧ t.lnk.absent = s.lnk.absent ∧ t.ts = { s.ts with slew := t.ts.slew } ∧
    (s.ts.slew = 0 → t.clk.dev = s.clk.dev + 1 ∧ t.ts.slew = 0) ∧
    t.ts.slew.natAbs ≤ s.ts.slew.natAbs ∧ t.lnk.slew.natAbs ≤ s.lnk.slew.natAbs ∧
    s.clk.dev ≤ t.clk.dev ∧ t.clk.dev ≤ s.clk.dev + 2 ∧
    t.clk.bornak + s.clk.pacer = s.clk.bornak + t.clk.pacer

/-- Every step of every state answers a next state: no command, whatever its operands, stops the block. -/
def Obligations.StepNeverStops : Prop :=
  (∀ (s : State), ∃ t, step s = .next t) ∧ (∀ (c : Instr) (s : State), ∃ t, exec c s = .next (State.finish t))

/-- R413, R414: every step keeps that nothing is owed and that the mode reported is the mode R414 gives. -/
def Obligations.ModeShownKept : Prop :=
  ∀ (s t : State), s.modeShown → step s = .next t → t.modeShown

/-- R318: every step keeps that the degraded timer runs, or has expired, exactly while a degraded condition is present. -/
def Obligations.TimerBackedKept : Prop :=
  ∀ (s t : State), s.timerBacked → step s = .next t → t.timerBacked

/-- What reset leaves: every register at the reset value of its table (R17), no command waiting, RESET shown, both invariants.
The model's choices in it: log entries 13. -/
def Obligations.ResetLeaves : Prop :=
  (∀ a : Nat, State.reset.rd a = regReset a) ∧ State.reset.pending = [] ∧ State.reset.md.mode = .reset ∧
  State.reset.get MOD_SCAUSE.CAUSE = 0 ∧ State.reset.get CFG_STAT.SWSTATE = 0 ∧
  State.reset.modeShown ∧ State.reset.timerBacked ∧ State.reset.irq = false

/-- A command that leaves a calm state has no further consequence: its effect is the next state. The statements that name the
state before `State.finish` give the whole next state through this one, its frame with it. The model's choices in it: log
entries 40. -/
def Obligations.CalmFinish : Prop :=
  ∀ (s : State), s.calm → State.finish s = s

/-- R422, R413: an F3 due in HOLD, COMMISSION or the run family enters SAFE, which is then what the units act on; a device
stop leads to RESET from every other mode, and keeps a part in BOOT there. The model's choices in it: log entries 40. -/
def Obligations.FaultModes : Prop :=
  (∀ (s : State) (code src : Nat), ∃ u : State, s.enterSafe code src = u.modeActs ∧ u.md.mode = .safe ∧ u.md.code = 9) ∧
  (∀ (s : State) (code src : Nat), s.due.safe = some (code, src) →
      (s.md.mode = .hold ∨ s.md.mode = .commission ∨ s.md.mode = .family) → s.safeSync = (s.enterSafe code src).degSync) ∧
  (∀ (s : State), s.md.mode ≠ .hold → s.md.mode ≠ .commission → s.md.mode ≠ .family → s.safeSync = s) ∧
  (∀ (s : State) (code src : Nat), s.due.stop = some (code, src) → s.due.safe = none → s.timerBacked →
      ((s.unit 36).state ≠ 2 ∨ s.lnk.absent = true) → s.md.mode ≠ .boot →
      (State.finish s).md.mode = .reset ∧ (State.finish s).md.code = 0) ∧
  (∀ (s : State) (code src : Nat), s.due.stop = some (code, src) → s.timerBacked →
      ((s.unit 36).state ≠ 2 ∨ s.lnk.absent = true) → s.md.mode = .boot →
      (State.finish s).md.mode = .boot ∧ (State.finish s).md.bootHold = true)

/-- R426: an F3 adds the cause of its class; the permanent classes never clear, and every other class clears alone. -/
def Obligations.SafeCauses : Prop :=
  (∀ (s : State) (b : Nat), b ≤ 8 → bitOf ((s.setCause b).get MOD_SCAUSE.CAUSE) b = true) ∧
  (∀ (s : State) (b i : Nat), b ≤ 8 → i ≤ 8 → i ≠ b →
    bitOf ((s.setCause b).get MOD_SCAUSE.CAUSE) i = bitOf (s.get MOD_SCAUSE.CAUSE) i) ∧
  (∀ (s : State) (b : Nat), b = 4 ∨ b = 5 ∨ b = 6 → s.clearCause b = s) ∧
  (∀ (s : State) (b i : Nat), b ≤ 8 → i ≤ 8 → b ≠ 4 → b ≠ 5 → b ≠ 6 →
    bitOf ((s.clearCause b).get MOD_SCAUSE.CAUSE) i = (decide (i ≠ b) && bitOf (s.get MOD_SCAUSE.CAUSE) i)) ∧
  (∀ (s : State) (b a : Nat), a ≠ MOD_SCAUSE → (s.setCause b).rd a = s.rd a ∧ (s.clearCause b).rd a = s.rd a)

/-- R42: a record takes the next sequence number of its source in the present epoch, and every other source keeps its own. The
model's choices in it: log entries 5. -/
def Obligations.RecordNumbering : Prop :=
  (∀ (s : State) (lvl src code time : Nat) (data : List Byte), (∀ m ∈ s.recs.missing, m.source ≠ src) →
    (s.record lvl src code time data).nextSeq src = s.nextSeq src + 1 ∧
    (s.record lvl src code time data).recs.log = ⟨src, code, s.recs.epoch, s.nextSeq src, time, slice data 0 12⟩ :: s.recs.log ∧
    (∀ x, x ≠ src → (s.record lvl src code time data).nextSeq x = s.nextSeq x)) ∧
  (∀ (s : State) (lvl src code time : Nat) (data : List Byte), s.nextSeq src < (s.record lvl src code time data).nextSeq src)

/-- R353: when `IRQ_N` is pulled low. -/
def Obligations.InterruptLine : Prop :=
  (∀ (s : State), s.md.mode = .reset ∨ s.md.mode = .boot → s.irq = false) ∧
  (∀ (s : State), s.md.mode ≠ .reset → s.md.mode ≠ .boot →
    (s.irq = true ↔
      (∃ p ∈ eventBlocks, s.rd p.1 &&& s.rd p.2 ≠ 0) ∨
      (s.get NET_RCTL.EN = 1 ∧ s.get NET_RCTL.IRQ = 1 ∧ ∃ q ∈ s.recs.queue, 4 ∈ q.left)))

/-- R414: the code that `MOD_STATE` shows is the first of the order whose condition holds; its flags show their conditions in
every mode. -/
def Obligations.ModeOrder : Prop :=
  (∀ (s : State), (s.md.mode = .reset → s.modeCode = 0) ∧ (s.md.mode = .boot → s.modeCode = 1) ∧ (s.md.mode = .load → s.modeCode = 2) ∧
    (s.md.mode = .analysis → s.modeCode = 0xB) ∧ (s.md.mode = .quiesce → s.modeCode = 0xA) ∧ (s.md.mode = .safe → s.modeCode = 9) ∧
    (s.md.mode = .commission → s.modeCode = 4) ∧ (s.md.mode = .hold → s.modeCode = 3)) ∧
  (∀ (s : State), s.md.mode = .family → s.get CFG_STAT.SWSTATE ≠ 0 → s.cfg.inFamily = true → s.modeCode = 8) ∧
  (∀ (s : State), s.md.mode = .family → (s.get CFG_STAT.SWSTATE = 0 ∨ s.cfg.inFamily = false) → s.get GAL_STAT.REPLAN = 1 →
    s.modeCode = 7) ∧
  (∀ (s : State), s.md.mode = .family → (s.get CFG_STAT.SWSTATE = 0 ∨ s.cfg.inFamily = false) → s.get GAL_STAT.REPLAN ≠ 1 →
    s.modeCode = if s.sio.deg.deadline.isSome then 6 else 5) ∧
  (∀ (s : State), (bitOf s.modeFlags 0 = s.sio.deg.deadline.isSome) ∧ (bitOf s.modeFlags 1 = decide (s.get GAL_STAT.REPLAN = 1)) ∧
    (bitOf s.modeFlags 2 = decide (s.get CFG_STAT.SWSTATE ≠ 0))) ∧
  (∀ (s : State), s.md.code = s.modeCode → s.modState % 16 = s.modeCode ∧ s.modState / 16 % 16 = s.modeFlags)

/-- R462: Bornak instants are read from the Bornak clock, which counts and slews with the Pacer's copy and takes no step. The
model's choices in it: log entries 2. -/
def Obligations.BornakClock : Prop :=
  (∀ (s : State) (d : Int) (first : Bool), (s.timeStep d first).clk.bornak = s.clk.bornak) ∧
  (∀ (s : State), s.tick.clk.bornak + s.clk.pacer = s.clk.bornak + s.tick.clk.pacer) ∧
  (∀ (s : State) (d : Int) (first : Bool) (c : Nat) (x : Int), (s.timeStep d first).age100 c x = s.age100 c x) ∧
  (∀ (s : State) (c : Fin 64), (s.conn c.val).state ≠ 0 → s.lnk.absent = false →
      (∀ t, (s.conn c.val).reqAt = some t → t + s.te c.val / 2 ≤ s.clk.bornak) → ∃ t : State,
    exec (.bornakReqSend c) s = .next (State.finish t) ∧ (t.conn c.val).reqAt = some s.clk.bornak) ∧
  (∀ (s : State) (c kind : Nat) (payload : List Byte), (s.connSend c kind payload).net.sent =
    ⟨2, (s.cfg.sig.bytes 9 0x18 0x043 [c]).getD [], s.cfg.sig.connNat 4 c,
      bornakFrame kind (s.cfg.sig.connNat 2 c) (s.conn c).seq s.clk.bornak payload (s.cfg.sig.connKey c), s.trafficPorts, if s.prp then some s.net.prpSeq else none⟩ :: s.net.sent) ∧
  (∀ (kind id seq time : Nat) (payload : List Byte) (key : Option (List Byte)),
    beAt (bornakFrame kind id seq time payload key) 12 6 = time % 2 ^ 48)

/-- R11-R14: a plain write of a register that triggers no action writes that register and nothing else, keeps the bits that
the register table reserves, and is ignored whole, with the access error, by every other address. -/
def Obligations.WriteFrame : Prop :=
  (∀ (s : State) (a : Nat) (v : Word), regAccess a ≠ some .wo → ∃ t : State, (s.writeWord a v).2 = t ∧
    t = { s with regs := t.regs } ∧ (∀ b, b ≠ a → t.rd b = s.rd b) ∧
    (regAccess a = some .rw1c → t.rd a &&& ~~~ (regMask a) = s.rd a &&& ~~~ (regMask a)) ∧
    (regAccess a = some .rw → a ≠ ACQ_SNAP_CTL → a ≠ MOS_RSEL →
      t.rd a &&& ~~~ (regMask a) = s.rd a &&& ~~~ (regMask a))) ∧
  (∀ (s : State) (a : Nat) (v : Word), regAccess a ≠ some .rw → regAccess a ≠ some .rw1c → regAccess a ≠ some .wo →
    s.writeWord a v = (false, s)) ∧
  (∀ (s : State) (a : Nat) (v : Word), a % 4 ≠ 0 → s.writeWord a v = (false, s))

/-- R16, R352, R354, R370: a read of any number of words changes at most the latches of the lower words, the place in the
record path, the seal latch and the count of free values drawn: no register, no counter and no unit. -/
def Obligations.ReadFrame : Prop :=
  (∀ (s : State) (n a : Nat), ∃ t : State, (State.readWords n a s).2 = t ∧
    t = { s with latch := t.latch, freeCount := t.freeCount, recs := t.recs, spi := t.spi }) ∧
  (∀ (s : State) (n a : Nat), a % 4 ≠ 0 → State.readWords (n + 1) a s = (.error a, s)) ∧
  (∀ (s : State) (a : Nat), a ≠ NET_RDATA → ∃ t : State, (s.readWord a).2 = t ∧ t.recs = s.recs)

/-- R55, R56, R58, R59, R60, R78. The timebase: what qualifies it, holds it over and gives it back; a failed crystal and a
lost lock stop emission, are recorded, and leave the next lock to the reference or the crystal. Each clause gives, for a
command and the conditions that it names, the state that the command leaves before the consequences every command ends with
(`State.finish`, see CalmFinish). The model's choices in it: log entries 1, 3, 10, 98, 99. -/
def Obligations.TimebaseCommands : Prop :=
  (∀ (s : State) (fofs : Int), s.get PRB_REF.SRC ≠ 2 → s.get PRB_STAT.TB ≠ 2 → s.get PRB_STAT.TB ≠ 3 →
    exec (.refInQualified fofs) s = .next (State.finish
      { (s.put PRB_STAT.REF_OK 1).puti PRB_REF.FOFS (fofsCode fofs) with
        tb := { s.tb with target := 2, targetDirect := s.tb.xoFailed } })) ∧
  (∀ (s : State) (fofs : Int), s.get PRB_REF.SRC = 2 →
    exec (.refInQualified fofs) s = .next (State.finish ((s.put PRB_STAT.REF_OK 1).puti PRB_REF.FOFS (fofsCode fofs)))) ∧
  (∀ (s : State), s.tb.target ≠ 0 →
    exec .timebaseLock s = .next (State.finish
      (((({ (s.put PRB_STAT.TB s.tb.target).putB PRB_STAT.DIRECT s.tb.targetDirect with
            tb := { s.tb with target := 0, targetDirect := false, everRef := s.tb.everRef || decide (s.tb.target = 2),
                              noLock := none, lockAt := s.clk.up } } : State).emit
        (srcBlock 1) Code.TIMEBASE_LOCK (le 1 s.tb.target ++ le 1 (b2n s.tb.targetDirect))).fibresUpdate.startReady 0).startReady 1))) ∧
  (∀ (s : State) (offFreq : Bool) (corr : Int), s.get PRB_STAT.TB = 2 → s.get PRB_REF.SRC ≠ 2 → s.on PRB_STAT.DIRECT = false →
    exec (.holdoverEnter offFreq corr) s = .next (State.finish
      (({ (((s.refFlag offFreq).put PRB_STAT.TB 3).put PRB_HOLDOVER.SECS 0).inc PRB_HOLDOVER.COUNT with
          tb := { s.tb with frozen := corr, holdSince := s.clk.up } } : State).emit
        (srcBlock 1) Code.HOLDOVER_ENTER (le 1 (if offFreq then 2 else 1) ++ leI 2 (satS 16 corr))))) ∧
  (∀ (s : State), s.get PRB_STAT.TB = 3 → s.get PRB_REF.SRC ≠ 2 →
    exec .holdoverExit s = .next (State.finish
      ((((s.putSat PRB_HOLDOVER.SECS ((s.clk.up - s.tb.holdSince) / 1000000000)).put PRB_STAT.TB 2).put PRB_STAT.REF_OK 1).emit
        (srcBlock 1) Code.HOLDOVER_EXIT (le 4 ((s.clk.up - s.tb.holdSince) / 1000000000))))) ∧
  (∀ (s : State) (offFreq : Bool), s.get PRB_STAT.TB ≠ 2 → s.tb.target ≠ 2 →
    exec (.refInBad offFreq) s = .next (State.finish
      ((s.put PRB_STAT.REF_OK 0).put (if offFreq then PRB_EVT.REF_BAD else PRB_EVT.REF_LOST) 1))) ∧
  (∀ (s : State) (cause : Fin 3), s.get (PRB_STAT.FSTATE 0) ≤ 1 → s.get (PRB_STAT.FSTATE 1) ≤ 1 →
    ∃ u : State, u = ({ s.puts [(PRB_STAT.TB, 0), (PRB_STAT.DIRECT, 0)] with
        tb := { s.tb with noLock := some (s.tb.noLock.getD s.clk.up) } } : State).puts [(LMP_STAT.PACER_CAL, 0), (PRB_EVT.UNLOCK, 1)] ∧
      ∃ v : State, v = u.emit (srcBlock 1) Code.TIMEBASE_UNLOCK (le 1 (cause.val + 1)) ∧
        exec (.timebaseUnlock cause) s = .next (State.finish
          { v with tb := { v.tb with target := v.nextTarget, targetDirect := v.tb.xoFailed } })) ∧
  (∀ (s : State) (o : XoObs), s.tb.xoFailed = false → o.amplitude = true ∨ xoOffFreq o (s.witness o) = true →
    ∃ u : State, u = (({ s with tb := { s.tb with xoFailed := true } } : State).puts [(PRB_STAT.XO_OK, 0), (PRB_EVT.XO_FAIL, 1)]).emit
        (srcBlock 1) Code.XO_FAIL
        (le 1 (if o.amplitude then 1 else 2) ++ le 1 (s.witness o) ++ leI 4 (if s.witness o = 0 then 0 else o.ofs)) ∧
      (xoRefGood o (s.witness o) = true → exec (.xoFail o) s = .next (State.finish
        { (u.put PRB_STAT.REF_OK 1).unlock with
            tb := { (u.put PRB_STAT.REF_OK 1).unlock.tb with target := 2, targetDirect := true } })) ∧
      (xoRefGood o (s.witness o) = false → exec (.xoFail o) s = .next (State.finish (opTimebaseUnlock 2 (u.put PRB_STAT.REF_OK 0))))) ∧
  (∀ (s : State) (o : XoObs), s.tb.xoFailed = false → o.amplitude = false → xoOffFreq o (s.witness o) = false → o.ref.natAbs ≤ 100000 →
    exec (.xoFail o) s = .next (State.finish s))

/-- R66, R67, R70, R71, R73, R63. Cycles, section exchange, laser monitor and waveform banks. Each clause gives, for a command
and the conditions that it names, the state that the command leaves before the consequences every command ends with
(`State.finish`, see CalmFinish). The model's choices in it: log entries 1, 3, 23, 97. -/
def Obligations.ProbeCycleCommands : Prop :=
  (∀ (s : State) (f : Fin 2), (s.fib f.val).toFull = 0 →
    ∃ t : State, t = s.setFib f.val { s.fib f.val with started := (s.fib f.val).started + 1, startedAt := s.clk.up, startDev := s.clk.dev } ∧
      exec (.probeCycleStart f) s = .next (State.finish ((((t.snapCycle f.val).iqCycle f.val).cycleEmits f.val).fireTrace f.val))) ∧
  (∀ (s : State) (f : Fin 2), s.get PRB_STAT.TB ≠ 0 → s.get (PRB_STAT.FSTATE f.val) = 3 → s.get (PRB_GATE.RMN_W f.val) = 0 →
    s.cycleEmits f.val = s.setFib f.val { s.fib f.val with
      shots := shotTones (s.fullShots f.val), plan := s.fullShots f.val, raman := false, burst := (s.fib f.val).burst - 1, spoilt := 0,
      pins := (s.fullShots f.val).flatMap (fun q => s.shotPins f.val q) }) ∧
  (∀ (s : State) (f : Fin 2), s.get PRB_STAT.TB ≠ 0 → s.get (PRB_STAT.FSTATE f.val) ≠ 3 → 0 < (s.fib f.val).burst →
    s.cycleEmits f.val = s.setFib f.val { s.fib f.val with
      shots := shotTones (s.checkShots f.val), plan := s.checkShots f.val, raman := false, burst := (s.fib f.val).burst - 1, spoilt := 0,
      pins := (s.checkShots f.val).flatMap (fun q => s.shotPins f.val q) }) ∧
  (∀ (s : State) (f : Fin 2), s.get PRB_STAT.TB = 0 →
    s.cycleEmits f.val = s.setFib f.val { s.fib f.val with
      shots := 0, plan := [], raman := false, burst := (s.fib f.val).burst - 1, spoilt := 0, pins := [] }) ∧
  (∀ (s : State) (f : Fin 2) (p : Plane), s.cfg.shadow = some p → s.get CFG_STAT.SWSTATE = 3 → s.cfg.exchanged = true →
      s.lnk.absent = false → f.val ∉ s.cfg.probed →
    exec (.probeSwitch f) s = .next (State.finish (s.fibreExchange p f.val))) ∧
  (∀ (s : State) (f : Fin 2) (avg : Fin 4096), (s.pmon f.val avg.val).get (PRB_PMON.WIN f.val) = 1 →
      (s.pmon f.val avg.val).on (PRB_STAT.LSR f.val) = true →
    ∃ u : State, u = ((s.pmon f.val avg.val).setFib f.val { (s.pmon f.val avg.val).fib f.val with ready := true }).startReady f.val ∧
      exec (.laserReady f avg) s = .next (State.finish (if (u.fib f.val).want then u.burstStart f.val else u))) ∧
  (∀ (s : State) (f : Fin 2), s.get (PRB_STAT.FSTATE f.val) = 1 → (s.fib f.val).ready = true → s.get PRB_STAT.TB ≠ 0 →
    s.startReady f.val = (s.setFstate f.val 2).emit (srcBlock 1) Code.LASER_READY (le 1 f.val)) ∧
  (∀ (s : State) (f : Fin 2) (avg : Fin 4096), (s.pmon f.val avg.val).get (PRB_STAT.FSTATE f.val) = 1 →
    exec (.laserNotReady f avg) s = .next (State.finish
      ((((s.pmon f.val avg.val).setFib f.val { (s.pmon f.val avg.val).fib f.val with ready := false }).put (PRB_EVT.NOTREADY f.val) 1).emit
        (srcBlock 1) Code.LASER_NOT_READY (le 1 f.val ++ le 2 avg.val)))) ∧
  (∀ (s m : State) (f : Fin 2) (avg : Fin 4096), m = s.pmon f.val avg.val → m.get (PRB_PMON.WIN f.val) = 3 →
      m.get (PRB_STAT.FSTATE f.val) ≠ 0 → m.get (PRB_STAT.FSTATE f.val) ≠ 6 →
    exec (.pmonOut f avg) s = .next (State.finish
      ((((m.setFib f.val { m.fib f.val with ready := false }).put (PRB_EVT.PMON f.val) 1).emit (srcBlock 1) Code.PMON_OUT
        (le 1 f.val ++ le 1 2 ++ le 2 avg.val)).enterLockout f.val 2))) ∧
  (∀ (s m : State) (f : Fin 2) (avg : Fin 4096), m = s.pmon f.val avg.val → m.get (PRB_PMON.WIN f.val) = 2 →
      m.get (PRB_STAT.FSTATE f.val) = 3 →
    exec (.pmonOut f avg) s = .next (State.finish
      ((((m.setFib f.val { m.fib f.val with ready := false }).put (PRB_EVT.PMON f.val) 1).emit (srcBlock 1) Code.PMON_OUT
        (le 1 f.val ++ le 1 1 ++ le 2 avg.val)).setFstate f.val 1))) ∧
  (∀ (s : State) (f : Fin 2) (tone : Fin 4) (c : BankCheck),
    ∃ u : State, u = (s.put (PRB_EVT.WFM f.val) 1).emit (srcBlock 1) Code.WFM_ERROR
        (le 1 f.val ++ le 1 tone.val ++ le 1 2 ++ le 4 (s.cycle f.val)) ∧
      (bankFails c = true → exec (.wfmError f tone (some c)) s = .next (State.finish
        (u.setFib f.val { u.fib f.val with badBank := true, shadow := [] }))) ∧
      (bankFails c = false → exec (.wfmError f tone (some c)) s = .next (State.finish s))) ∧
  (∀ (s : State) (f : Fin 2) (tone : Fin 4),
    ∃ u : State, u = (s.put (PRB_EVT.WFM f.val) 1).emit (srcBlock 1) Code.WFM_ERROR
        (le 1 f.val ++ le 1 tone.val ++ le 1 1 ++ le 4 (s.cycle f.val)) ∧
      (((u.setFib f.val ((u.fib f.val).cut tone.val)).loseCycle f.val (s.cycle f.val)).1 = [] →
        exec (.wfmError f tone none) s = .next (State.finish
          ((u.setFib f.val ((u.fib f.val).cut tone.val)).loseCycle f.val (s.cycle f.val)).2)))

/-- R72-R77. Automatic power reduction: every command's path, with its record where it has one. Each clause gives, for a
command and the conditions that it names, the state that the command leaves before the consequences every command ends with
(`State.finish`, see CalmFinish). The model's choices in it: log entries 1, 3, 4, 58, 120. -/
def Obligations.PowerReductionCommands : Prop :=
  (∀ (s : State) (f : Fin 2), s.get (PRB_STAT.FSTATE f.val) = 2 ∨ s.get (PRB_STAT.FSTATE f.val) = 4 ∨ s.get (PRB_STAT.FSTATE f.val) = 5 →
      s.get PRB_STAT.TB ≠ 0 →
    (s.on (PRB_STAT.LSR f.val) = true → (s.fib f.val).ready = true →
      exec (.checkBurst f) s = .next (State.finish
        ((s.setFib f.val { s.fib f.val with check := true, burst := 16, want := false }).setAco f.val
          { s.aco f.val with burst := (0, [], 0) }))) ∧
    ((s.fib f.val).ready = false →
      exec (.checkBurst f) s = .next (State.finish
        ((s.setFib f.val { s.fib f.val with want := true }).put (PRB_STAT.LSR f.val) 1)))) ∧
  (∀ (s : State) (f : Fin 2), s.get PRB_STAT.TB = 0 → exec (.checkBurst f) s = .next (State.finish s)) ∧
  (∀ (s : State) (f : Fin 2), 16 ≤ (s.aco f.val).burst.1 →
    ∃ v : Bool × Nat, v = checkVerdict (s.aco f.val).burst (s.acuFib f.val).profile (s.aco f.val).prof (s.get (ACU_BRK.DROP f.val))
        (s.get PRB_APR.ATTEN) (s.get (ACQ_ZERO.CBIN f.val)) (s.get (PRB_BINS.NBINS f.val)) ∧
      exec (.aprCheck f) s = .next (State.finish
        ((s.setAco f.val { s.aco f.val with burst := (0, [], 0) }).checkResult f.val v.1 v.2 v.2))) ∧
  (∀ (s : State) (f : Fin 2) (last bin : Nat), (s.fib f.val).check = true → s.get (PRB_STAT.FSTATE f.val) = 2 →
    s.checkResult f.val false last bin =
      ((((s.setFib f.val { s.fib f.val with check := false, passes := 0 }).put (ACU_BRK.CHECK f.val) 0).emit (srcBlock 1) Code.APR_CHECK
        (le 1 f.val ++ le 1 0 ++ le 1 0 ++ le 4 last)).enterApr f.val 4 bin)) ∧
  (∀ (s : State) (f : Fin 2), (s.fib f.val).check = true → (s.fib f.val).burst = 0 →
      (s.fib f.val).burstEnd + 100000000 ≤ s.clk.up →
    exec (.checkResultTimeout f) s = .next (State.finish (s.drawn.checkResult f.val false (s.free 32) 0xFFFFFFFF))) ∧
  (∀ (s : State) (f : Fin 2) (bin : Nat), (s.acuFib f.val).openSent = some bin → s.get (PRB_STAT.FSTATE f.val) = 3 →
    exec (.openEndIndication f) s = .next (State.finish
      (((s.setAcuFib f.val { s.acuFib f.val with openSent := none }).setFstate f.val 4).emit (srcBlock 1) Code.APR_ENTER
        (le 1 f.val ++ le 1 1 ++ le 4 bin)))) ∧
  (∀ (s : State) (f : Fin 2), (s.acuFib f.val).confirm = true →
    exec (.continuityConfirmation f) s = .next (State.finish
      ((s.setAcuFib f.val { s.acuFib f.val with confirm := false }).setFib f.val { s.fib f.val with confirmed := s.clk.up }))) ∧
  (∀ (s : State) (f : Fin 2), s.get (PRB_STAT.FSTATE f.val) = 3 →
      (s.fib f.val).confirmed + 1000000 * s.get PRB_APR.CONFIRM ≤ s.clk.up →
    exec (.confirmationTimeout f) s = .next (State.finish
      ((s.setFstate f.val 4).emit (srcBlock 1) Code.APR_ENTER (le 1 f.val ++ le 1 2 ++ le 4 0xFFFFFFFF)))) ∧
  (∀ (s : State) (f : Fin 2), s.get (PRB_STAT.FSTATE f.val) = 2 ∨ s.get (PRB_STAT.FSTATE f.val) = 3 ∨ s.get (PRB_STAT.FSTATE f.val) = 4 →
    exec (.force f) s = .next (State.finish
      (((s.setFstate f.val 4).emit (srcBlock 1) Code.APR_ENTER
        (le 1 f.val ++ le 1 3 ++ le 4 0xFFFFFFFF)).put (PRB_STAT.FORCED f.val) 1))) ∧
  (∀ (s : State) (f : Fin 2), s.get (PRB_STAT.FSTATE f.val) = 5 →
    exec (.restore f) s = .next (State.finish (s.setFib f.val { s.fib f.val with toFull := 3 }))) ∧
  (∀ (s : State) (f : Fin 2), s.get (PRB_STAT.FSTATE f.val) = 6 →
    exec (.restore f) s = .next (State.finish ((s.setFstate f.val 1).fibreUpdate f.val))) ∧
  (∀ (s : State) (f : Fin 2), s.get (PRB_STAT.FSTATE f.val) ≠ 5 → s.get (PRB_STAT.FSTATE f.val) ≠ 6 →
    exec (.restore f) s = .next (State.finish
      (s.emit (srcBlock 1) Code.RESTORE_REFUSED (le 1 f.val ++ le 1 (s.get (PRB_STAT.FSTATE f.val)))))) ∧
  (∀ (s : State) (f : Fin 2), s.emissionMode = true →
    exec (.aprLockout f) s = .next (State.finish
      (((s.setFstate f.val 6).put (PRB_EVT.LOCKOUT f.val) 1).emit (srcBlock 1) Code.APR_LOCKOUT (le 1 f.val ++ le 1 1))))

/-- R79-R82. `PPS_IN` edges and their loss, `PPS_OUT`. Each clause gives, for a command and the conditions that it names, the
state that the command leaves before the consequences every command ends with (`State.finish`, see CalmFinish). The model's
choices in it: log entries 1, 3, 56, 65, 119. -/
def Obligations.PpsCommands : Prop :=
  (∀ (s : State) (high : Nat), 100 ≤ high → s.get PRB_STAT.PPS_IN = 3 →
    exec (.ppsInEdge high) s = .next (State.finish
      { s.put PRB_STAT.PPS_IN 1 with pps := { s.pps with lastEdge := some s.clk.up, count := 0, lastOk := none } })) ∧
  (∀ (s : State) (high : Nat), high < 100 → exec (.ppsInEdge high) s = .next (State.finish s)) ∧
  (∀ (s : State), s.get PRB_STAT.PPS_IN = 2 → s.get NET_TSTAT.STATE ≠ 3 →
    exec .ppsLost s = .next (State.finish
      (({ (s.put PRB_STAT.PPS_IN 3).put PRB_EVT.PPS_LOST 1 with pps := { s.pps with count := 0, lastOk := none } } : State).emit
        (srcBlock 1) Code.PPS_LOST []))) ∧
  (∀ (s : State), s.on PRB_PPS.OUT_EN = true → s.on NET_TSTAT.VALID = true → s.md.mode ≠ .reset → s.md.mode ≠ .boot →
      (∀ t, s.pps.lastRise = some t → t + 500000000 ≤ s.clk.up) → (ppsOffset s.clk.dev).natAbs ≤ 10 →
    exec .ppsOutRise s = .next (State.finish { s with pps := { s.pps with outPin := true, lastRise := some s.clk.up } })) ∧
  (∀ (s : State) (t : Nat), s.pps.lastRise = some t → t + s.get PRB_PPS.OUT_W * 1000 ≤ s.clk.up →
    exec .ppsOutFall s = .next (State.finish { s with pps := { s.pps with outPin := false } }))

/-- R104, R105, R107, R114: Landings, lost traces and overrange. Each clause gives, for a command and the conditions that it
names, the state that the command leaves before the consequences every command ends with (`State.finish`, see CalmFinish). The
model's choices in it: log entries 1, 3, 7, 44. -/
def Obligations.LandingCommands : Prop :=
  (∀ (s : State) (f : Fin 2) (raman : Bool) (fill : Nat),
    (s.get (landFill raman f.val) < s.get ACQ_CFG.HIGH → s.get ACQ_CFG.HIGH ≤ fill →
      exec (.landingHigh f raman fill) s = .next (State.finish
        (((s.landed raman f.val fill).put (ACQ_EVT.HIGH f.val) 1).emit (srcLand raman f.val) Code.LANDING_HIGH
          (le 2 fill ++ le 8 (s.cycle f.val))))) ∧
    (s.get ACQ_CFG.HIGH ≤ s.get (landFill raman f.val) ∨ fill < s.get ACQ_CFG.HIGH →
      exec (.landingHigh f raman fill) s = .next (State.finish (s.landed raman f.val fill)))) ∧
  (∀ (s : State) (f : Fin 2), (s.acq f.val).rdrop = none → s.gal.move = none →
    exec (.landingDropStart f true) s = .next (State.finish
      ((((s.landed true f.val 64).inc (ACQ_RLAND.DROPS f.val)).setAcq f.val
        { s.acq f.val with rdrop := some s.clk.up }).put (ACQ_STAT.RDROP f.val) 1))) ∧
  (∀ (s u : State) (f : Fin 2) (a k : Nat) (rs : List TraceRec), (s.acq f.val).rdrop = some a → s.dropLost f.val true a = (rs, k, u) →
    ∃ q : Nat × Nat, q = firstLost rs (u.cycle f.val + k) s.clk.up ∧
      exec (.landingOverflow f true) s = .next (State.finish
        (((((u.landed true f.val 16).setAcq f.val { u.acq f.val with rdrop := none, rdropEnd := s.clk.up }).puts
            [(ACQ_STAT.RDROP f.val, 0), (ACQ_EVT.ROVF f.val, 1)]).emit (srcRamanLanding f.val) Code.LANDING_OVERFLOW
            (le 8 q.1 ++ le 2 (min 0xFFFF (rs.length + k)) ++ le 2 (min 0xFFFF ((s.clk.up - a) / 1000)))).lossToRaman f.val
          (rs.length + k) q.1 q.2 0x01))) ∧
  (∀ (s u : State) (f : Fin 2) (a k : Nat) (rs : List TraceRec), (s.acq f.val).drop = some a → s.dropLost f.val false a = (rs, k, u) →
    ∃ q : Nat × Nat, q = firstLost rs (u.cycle f.val + k) s.clk.up ∧
      exec (.landingOverflow f false) s = .next (State.finish
        (((((u.landed false f.val 16).setAcq f.val { u.acq f.val with drop := none, dropEnd := s.clk.up }).puts
            [(ACQ_STAT.DROP f.val, 0), (ACQ_EVT.OVF f.val, 1)]).emit (srcLanding f.val) Code.LANDING_OVERFLOW
            (le 8 q.1 ++ le 2 (min 0xFFFF (rs.length + k)) ++ le 2 (min 0xFFFF ((s.clk.up - a) / 1000)))).lossToZones f.val
          (rs.length + k) q.1 q.2 0x01))) ∧
  (∀ (s : State) (f : Fin 2) (n first start cause : Nat), n ≠ 0 →
    s.lossToRaman f.val n first start cause = (s.inc (ACQ_RLOST.COUNT f.val) n).gapData (srcRamanLanding f.val)
      (n * s.cycleNs f.val / 1000) (first % 2 ^ 32) cause start) ∧
  (∀ (s : State) (a : Fin 12) (x : Ovr), x = sparseGet .reset s.ovrs a.val → x.traces ≠ 0 →
      (∀ t, x.recAt = some t → t + 1000000000 ≤ s.clk.up) →
    exec (.overrange a) s = .next (State.finish
      (({ s.put (ACQ_EVT.OVR (if a.val < 8 then a.val / 4 else (a.val - 8) / 2)) 1 with
          ovrs := sparseSet .reset s.ovrs a.val ⟨0, 0, 0, some s.clk.up⟩ } : State).emit (srcBlock 2)
        Code.OVERRANGE (le 1 a.val ++ le 4 (x.first % 2 ^ 32) ++ le 2 (min 0xFFFF x.traces) ++ le 2 (min 0xFFFF x.run)))))

/-- R97-R100, R107: a spare channelizer runs beside the incumbent, takes over where the two agree, and replaces one that
fails. Each clause gives, for a command and the conditions that it names, the state that the command leaves before the
consequences every command ends with (`State.finish`, see CalmFinish). The model's choices in it: log entries 1, 3, 44, 121.
-/
def Obligations.ChannelizerCommands : Prop :=
  (∀ (s : State) (c : Fin 3) (f : Fin 2), s.get (ACQ_CHZ.STATE c.val) = 0 → s.get (ACQ_STAT.CHZ f.val) ≠ 3 → s.get (ACQ_STAT.DROP f.val) = 0 →
      (8 * s.acqEnd f.val false : Int) ≤ (traceWindow (s.d0 f.val) (s.fib f.val).startedAt 0 0 1 0).1 + 1008 →
    exec (.chzHandoverStart c f) s = .next (State.finish
      ((({ s with gal := { s.gal with handover := none } } : State).put (ACQ_CHZ.STATE c.val) 3).setChz c.val
        { s.chz c.val with fibre := f.val, incumbent := s.get (ACQ_STAT.CHZ f.val), trace := s.cycle f.val }))) ∧
  (∀ (s : State) (c : Fin 3), s.get (ACQ_CHZ.STATE c.val) = 3 →
    exec (.chzHandover c true) s = .next (State.finish
      ((((s.put (ACQ_CHZ.STATE (s.chz c.val).incumbent) 0).chzServe c.val (s.chz c.val).fibre).setChz c.val .reset).emit (srcChz c.val)
        Code.CHZ_HANDOVER (le 1 (s.chz c.val).incumbent ++ le 1 (s.chz c.val).fibre ++ le 8 ((s.chz c.val).trace + 1))))) ∧
  (∀ (s : State) (c : Fin 3), s.get (ACQ_CHZ.STATE c.val) = 3 → (s.chz c.val).suspect = none →
    exec (.chzHandover c false) s = .next (State.finish
      (((((s.put ACQ_EVT.CHZMIS 1).put (ACQ_CHZ.STATE c.val) 4).mustTest (20 + c.val)).setChz c.val
          { s.chz c.val with suspect := some ((s.chz c.val).incumbent, (s.chz c.val).trace), passed := false }).emit (srcChz c.val)
        Code.CHZ_MISMATCH (le 1 (s.chz c.val).incumbent ++ le 1 (s.chz c.val).fibre ++ le 8 (s.chz c.val).trace)))) ∧
  (∀ (s u : State) (c : Fin 3) (stall : Bool) (rs : List TraceRec), s.get (ACQ_CHZ.STATE c.val) = 1 →
      s.takeLost 0 false (fun w => 8 * s.clk.up < w.2) = (rs, u) →
    ∃ (q : Nat × Nat) (n : Nat) (v : State), q = firstLost rs (u.cycle 0 + 1) s.clk.up ∧ n = rs.length + s.beforeTakeover 0 ∧
      v = (u.endHandover 0).puts [(ACQ_CHZ.STATE c.val, 5), (ACQ_STAT.CHZ 0, 3), (ACQ_EVT.CHZFAIL c.val, 1)] ∧
      exec (.chzFail c stall) s = .next (State.finish
        (((((v.setAcq 0 { v.acq 0 with failAt := some s.clk.up }).emit (srcChz c.val) Code.CHZ_FAIL
          (le 1 0 ++ le 8 q.1 ++ le 1 (min 255 n) ++ le 1 (if stall then 2 else 1))).repairEntry (20 + c.val) 4 0 0).lossToZones 0 n
            q.1 q.2 0x05).chzShortage))) ∧
  (∀ (s : State) (c : Fin 3) (f : Fin 2), s.get (ACQ_STAT.CHZ f.val) = 3 → s.get (ACQ_CHZ.STATE c.val) = 0 →
      s.on (PRB_CYC.EN f.val) = true → (s.acq f.val).unserved = false → (∀ t, (s.acq f.val).failAt = some t → t + 100000 ≤ s.clk.up) →
    ∃ u : State, u = (s.chzServe c.val f.val).setChz c.val .reset ∧
      exec (.chzTakeover c f) s = .next (State.finish ((u.setAcq f.val { u.acq f.val with failAt := none }).zonesStart f.val)))

/-- R108-R111, R114, R117, R118: the I/Q estimators, the snapshot, and what `ACQ_CLR` clears. Each clause gives, for a command
and the conditions that it names, the state that the command leaves before the consequences every command ends with
(`State.finish`, see CalmFinish). The model's choices in it: log entries 1, 3, 44, 96. -/
def Obligations.AcquisitionCommands : Prop :=
  (∀ (s : State) (f : Fin 2) (y : Bool) (o : IqObs), s.iqLive f.val = false ∨ o.ovr = true ∨ o.power ≤ -40 →
    exec (.iqEstimateUpdate f y o) s = .next (State.finish s)) ∧
  (∀ (s u : State) (f : Fin 2) (y : Bool) (o : IqObs), s.iqLive f.val = true → o.ovr = false → ¬ o.power ≤ -40 →
      u = s.put (ACQ_IQSD.IMG (iqIdx f.val y)) (min 99 o.img) → u.get (iqFld f.val y) = 2 → iqOut o.est ≠ 0 →
    exec (.iqEstimateUpdate f y o) s = .next (State.finish
      ((((u.setIq f.val y { u.iq f.val y with next := none, okSince := none, lowSince := none, last := s.clk.up }).put
        (iqFld f.val y) 3).put (ACQ_EVT.IQR f.val) 1).emit (srcBlock 2)
        Code.IQ_RANGE (le 1 f.val ++ le 1 (b2n y) ++ le 1 (iqOut o.est))))) ∧
  (∀ (s u : State) (f : Fin 2) (y : Bool) (o : IqObs), s.iqLive f.val = true → o.ovr = false → ¬ o.power ≤ -40 →
      u = s.put (ACQ_IQSD.IMG (iqIdx f.val y)) (min 99 o.img) → u.get (iqFld f.val y) = 2 → iqOut o.est = 0 → 50 ≤ o.img →
    exec (.iqEstimateUpdate f y o) s = .next (State.finish
      (u.setIq f.val y { u.iq f.val y with
        next := some (((u.iq f.val y).next.getD (u.iq f.val y).cur).towards o.est
          (Config.firstOrder ((s.clk.up - (u.iq f.val y).last : Nat) : Rat) (u.iqTau (u.iq f.val y))))
        last := s.clk.up, lowSince := none }))) ∧
  (∀ (s : State) (f : Fin 2) (y : Bool), s.iqLive f.val = true → s.get (iqFld f.val y) = 3 →
    exec (.iqHoldExit f y) s = .next (State.finish
      ((s.put (iqFld f.val y) 1).setIq f.val y { s.iq f.val y with start := s.clk.up, okSince := none }))) ∧
  (∀ (s : State) (f : Fin 2) (y : Bool), s.iqLive f.val = true → s.get (iqFld f.val y) = 2 →
    exec (.iqReconverge f y) s = .next (State.finish ((s.put (iqFld f.val y) 1).setIq f.val y { s.iq f.val y with lowSince := none }))) ∧
  (∀ (s : State), exec .snapshotArm s = .next (State.finish
    { s.puts [(ACQ_SNAP_STAT.DONE, 0), (ACQ_SNAP_STAT.LOST, 0), (ACQ_SNAP_STAT.ARMED, 1)] with
      snap := ⟨s.get ACQ_SNAP_CTL.FIBRE, s.on ACQ_SNAP_CTL.RAMAN, s.get ACQ_SNAP_CTL.OFS, none⟩ })) ∧
  (∀ (s : State) (n a : Nat) (volts : List (List Rat)), s.snap.capture = some (n, a) →
    ∃ t : State, exec (.snapshotDone volts) s = .next (State.finish t) ∧ t.get ACQ_SNAP_STAT.DONE = 1 ∧
      t.get ACQ_SNAP_STAT.LOST = b2n (s.snapLost a (a + 2048 * (if s.snap.raman then 8 else 2))) ∧ t.get ACQ_EVT.SNAP = 1 ∧
      t.snap.capture = none ∧ t.recs = s.recs) ∧
  (∀ (s : State) (p0 p1 r0 r1 : Bool),
    ∃ t : State, exec (.acqClearPeak p0 p1 r0 r1) s = .next (State.finish t) ∧
      t.get (ACQ_LAND.PEAK 0) = (if p0 then 0 else s.get (ACQ_LAND.PEAK 0)) ∧ t.get (ACQ_LAND.PEAK 1) = (if p1 then 0 else s.get (ACQ_LAND.PEAK 1)) ∧
      t.get (ACQ_RLAND.PEAK 0) = (if r0 then 0 else s.get (ACQ_RLAND.PEAK 0)) ∧
      t.get (ACQ_RLAND.PEAK 1) = (if r1 then 0 else s.get (ACQ_RLAND.PEAK 1)) ∧ t.recs = s.recs) ∧
  (∀ (s : State), ∃ t : State, exec .acqClearCounts s = .next (State.finish t) ∧
    (∀ f : Fin 2, t.get (ACQ_LAND.DROPS f.val) = 0 ∧ t.get (ACQ_RLAND.DROPS f.val) = 0 ∧ t.get (ACQ_LOST.COUNT f.val) = 0 ∧
      t.get (ACQ_RLOST.COUNT f.val) = 0 ∧ t.get (ACQ_LAND.PEAK f.val) = s.get (ACQ_LAND.PEAK f.val)) ∧
    (∀ a : Fin 12, t.get (ACQ_OVR.COUNT a.val) = 0))

/-- R121, R141, R143-R145: traces, the reference, aliasing, breaks and continuity. Each clause gives, for a command and the
conditions that it names, the state that the command leaves before the consequences every command ends with (`State.finish`,
see CalmFinish). The model's choices in it: log entries 1, 3, 44, 96, 103, 122. -/
def Obligations.AcousticHealthCommands : Prop :=
  (∀ (s : State) (f : Fin 2) (n : Nat) (v : TraceVolts), (s.fib f.val).traces.find? (fun r => r.cycle = n) = none →
    exec (.traceProcessed f n v) s = .next (State.finish s)) ∧
  (∀ (s u : State) (f : Fin 2) (n : Nat) (v : TraceVolts) (r : TraceRec) (w : Int × Int),
      (s.fib f.val).traces.find? (fun q => q.cycle = n) = some r → r.win = some w → r.rwin = none → w.2 ≤ 8 * (s.clk.up : Int) →
      s.gal.tooFew = false → s.gal.tasks = [] →
      u = (s.setFib f.val { s.fib f.val with traces := (s.fib f.val).traces.filter (fun q => q.cycle ≠ n) }).traceOvr f.val n v false →
    (r.kind = .full → exec (.traceProcessed f n v) s = .next (State.finish (u.fullTrace f.val r v))) ∧
    (r.kind = .check → exec (.traceProcessed f n v) s = .next (State.finish (u.checkTrace f.val r v))) ∧
    (r.kind = .none → exec (.traceProcessed f n v) s = .next (State.finish u))) ∧
  (∀ (s : State) (f : Fin 2) (bin drop cycle : Nat), drop ≤ 0xFFFF →
    s.openEnd f.val bin drop cycle =
      (((((((s.put (ACU_BRK.BIN f.val) bin).put (ACU_BRK.OPEN f.val) 1).putSat (ACU_BRK.MEAS f.val) (drop / 10)).put (ACU_STAT.OPEN f.val) 1).put
        (ACU_EVT.BRK f.val) 1).setAcuFib f.val { s.acuFib f.val with openSent := some bin }).emit (srcBlock 3) Code.FIBRE_BREAK
        (le 1 f.val ++ le 4 bin ++ le 2 drop ++ le 4 cycle)).linksEvaluate) ∧
  (∀ (s : State) (f : Fin 2) (how cycle : Nat), s.on (ACU_BRK.OPEN f.val) = true →
    s.continuous f.val how cycle = (((s.puts [(ACU_BRK.OPEN f.val, 0), (ACU_STAT.OPEN f.val, 0), (ACU_EVT.CONT f.val, 1)]).emit (srcBlock 3)
      Code.FIBRE_CONTINUOUS (le 1 f.val ++ le 1 how ++ le 4 cycle)).linksEvaluate)) ∧
  (∀ (s u : State) (f : Fin 2) (n m o : Nat), s.norefShots f.val = (n, m, o) → u = s.put (ACU_HLTH.NOREF f.val) (share m n) →
      u.get (ACU_REF.STATE f.val) = 1 → n < 2 * m →
    exec (.refLost f) s = .next (State.finish
      ((((u.puts [(ACU_REF.STATE f.val, 2), (ACU_STAT.NOREF f.val, 1), (ACU_EVT.REF f.val, 1)]).setAco f.val
        { s.aco f.val with refLost := some s.clk.up }).emit
        (srcBlock 3) Code.REF_LOST (le 1 f.val ++ le 1 (if m < 2 * o then 2 else 1))).linksEvaluate))) ∧
  (∀ (s u : State) (f : Fin 2) (n m o : Nat), s.norefShots f.val = (n, m, o) → u = s.put (ACU_HLTH.NOREF f.val) (share m n) →
      u.get (ACU_REF.STATE f.val) = 2 → n ≠ 0 → 10 * m ≤ n →
    exec (.refOk f) s = .next (State.finish
      ((((u.puts [(ACU_REF.STATE f.val, 1), (ACU_STAT.NOREF f.val, 0)]).setAco f.val { s.aco f.val with refLost := none }).emit
        (srcBlock 3) Code.REF_OK (le 1 f.val)).linksEvaluate))) ∧
  (∀ (s u : State) (f : Fin 2) (m : Int), s.aliasTenths f.val = some m → u = s.puti (ACU_HLTH.ALIAS_M f.val) (satS 12 m) →
      u.on (ACU_STAT.ALIAS f.val) = false →
    exec (.aliasSet f) s = .next (State.finish
      (if m ≤ 100 then
        ((u.put (ACU_STAT.ALIAS f.val) 1).put (ACU_EVT.ALIAS f.val) 1).emit (srcBlock 3) Code.ALIAS_SET (le 1 f.val ++ leI 2 (satS 16 m))
      else u))) ∧
  (∀ (s u : State) (f : Fin 2) (m : Int) (t : Nat), s.aliasTenths f.val = some m → (s.aco f.val).aliasOk = some t →
      t + 10000000000 ≤ s.clk.up → u = s.puti (ACU_HLTH.ALIAS_M f.val) (satS 12 m) → u.on (ACU_STAT.ALIAS f.val) = true →
    exec (.aliasClear f) s = .next (State.finish
      ((u.put (ACU_STAT.ALIAS f.val) 0).emit (srcBlock 3) Code.ALIAS_CLEAR (le 1 f.val ++ leI 2 (satS 16 m)))))

/-- R127, R128, R132, R134-R140, R154: zones, events, storms and tracks. Each clause gives, for a command and the conditions
that it names, the state that the command leaves before the consequences every command ends with (`State.finish`, see
CalmFinish). The model's choices in it: log entries 1, 3, 44, 96, 102, 122, 123. -/
def Obligations.ZoneCommands : Prop :=
  (∀ (s : State) (f : Fin 2) (z : Fin 256), (s.zone f.val z.val).state = 2 → 500000000 ≤ (s.zproc f.val z.val).seen →
      s.fibreServed f.val = true → s.iqReady f.val = true →
    exec (.zoneValid f z) s = .next (State.finish
      ((((s.setZone f.val z.val { s.zone f.val z.val with state := 3 }).emit (srcZone f.val z.val) Code.ZONE_VALID (le 1 2)).cellsWait
        f.val z.val).linksEvaluate))) ∧
  (∀ (s : State) (f : Fin 2) (z : Fin 256) (t : Tally), t = (s.zproc f.val z.val).lastSecond s.clk.up →
      (s.zone f.val z.val).state = 3 → (s.zone f.val z.val).degraded = false →
      s.iqHeld f.val = true ∨ s.cfg.sens.nat 3 4 0x08C [f.val, z.val] * t.all < 100 * t.bad →
    exec (.zoneDegraded f z) s = .next (State.finish
      ((((s.setZone f.val z.val { s.zone f.val z.val with degraded := true }).put (ACU_EVT.DEG f.val) 1).emit
        (srcZone f.val z.val) Code.ZONE_DEGRADED (le 1 1 ++ le 2 (share t.dead t.all) ++ le 2 (share t.noref t.all))).linksEvaluate))) ∧
  (∀ (s : State) (f : Fin 2) (z : Fin 256) (t : Tally), t = (s.zproc f.val z.val).lastSecond s.clk.up →
      (s.zone f.val z.val).state = 3 → (s.zone f.val z.val).degraded = true →
      s.iqHeld f.val = false → 100 * t.bad ≤ s.cfg.sens.nat 3 4 0x08C [f.val, z.val] * t.all →
    exec (.zoneDegraded f z) s = .next (State.finish
      (((s.setZone f.val z.val { s.zone f.val z.val with degraded := false }).emit
        (srcZone f.val z.val) Code.ZONE_DEGRADED (le 1 0 ++ le 2 (share t.dead t.all) ++ le 2 (share t.noref t.all))).linksEvaluate))) ∧
  (∀ (s : State) (f : Fin 2) (z : Fin 256) (x : ZoneProc), (s.zone f.val z.val).state = 3 → s.events = [] →
      s.cfg.sens.zoneDets f.val z.val = [] →
      x = { s.zproc f.val z.val with
        levels := (s.clk.up, (s.zproc f.val z.val).formLevels (s.zonePar f.val z.val) (s.cfg.sens.cellCount f.val z.val) s.clk.up) ::
          recent s.clk.up 600000000000 (s.zproc f.val z.val).levels
        dets := [] } →
    exec (.mapInterval f z) s = .next (State.finish (((s.setZproc f.val z.val x).setZproc f.val z.val x).linksEvaluate))) ∧
  (∀ (s u : State) (f : Fin 2) (z : Fin 256) (d j : Nat) (c : ClusterRun),
      u = s.setZone f.val z.val { s.zone f.val z.val with
        openTimes := ((s.zone f.val z.val).openTimes.filter (fun t => s.clk.up < t + 6000000000)) ++ [s.clk.up] } →
      (recentOpens s.clk.up (u.zone f.val z.val)).length ≤ s.cfg.sens.nat 3 4 0x08B [f.val, z.val] →
      ((u.zoneList f.val).map (fun z => (recentOpens s.clk.up (u.zone f.val z)).length)).sum < s.cfg.sens.nat 3 1 0x048 [f.val] →
      (s.events.filter (fun e => e.fibre = f.val)).length < 256 → (u.zone f.val z.val).storm = false → j = s.cfg.sens.nat 4 7 0x042 [f.val, d] →
    ∃ (cell : Nat) (level : Nat), (u.zproc f.val z.val).peak j c.first c.last = (cell, level) ∧
      s.wouldOpen f.val z.val d c = (u.setZone f.val z.val { u.zone f.val z.val with opens := min 0xFFFF ((u.zone f.val z.val).opens + 1) }).openEvent
        ⟨f.val, z.val, d, j, 0, s.clk.dev - (s.clk.up - c.since), s.clk.up, (u.zonePar f.val z.val).first + cell * (u.zonePar f.val z.val).cell,
          (u.zonePar f.val z.val).extent c.first c.last, level, level, c.first, c.last, s.clk.up⟩ false) ∧
  (∀ (s : State) (f : Fin 2) (z : Fin 256) (id : Nat) (e : AcuEvent),
      s.events.find? (fun e => e.fibre = f.val && e.zone = z.val && e.id = id) = some e →
    exec (.eventHeartbeat f z id) s = .next (State.finish
      (({ s with events := s.events.map (fun x => if x = e then { x with level := 0 } else x) } : State).emit (srcZone f.val z.val)
        Code.EVENT_HEARTBEAT (le 4 e.id ++ le 4 e.bin ++ le 2 e.extent ++ le 2 e.level)))) ∧
  (∀ (s : State) (f : Fin 2) (z : Fin 256), (s.zone f.val z.val).storm = true → (s.zone f.val z.val).stormSince + 5000000000 ≤ s.clk.up →
      (if (s.zone f.val z.val).stormWhy = 2 then s.stormQuiet f.val (s.zoneList f.val) (s.cfg.sens.nat 3 1 0x048 [f.val])
        else s.stormQuiet f.val [z.val] (s.cfg.sens.nat 3 4 0x08B [f.val, z.val])) = true →
    exec (.zoneStormEnd f z) s = .next (State.finish
      (((s.setZone f.val z.val { s.zone f.val z.val with storm := false, stormSuppr := 0, stormWhy := 0 }).emit (srcZone f.val z.val)
        Code.ZONE_STORM_END
        (le 4 (s.zone f.val z.val).stormSuppr ++ le 4 ((s.clk.up - (s.zone f.val z.val).stormSince) / 1000000))).linksEvaluate))) ∧
  (∀ (s : State) (f : Fin 2) (obs : List TrackObs) (cands : List TrackCand), s.fibreServed f.val = false →
    exec (.trackUpdate f obs cands) s = .next (State.finish s.linksEvaluate)) ∧
  (∀ (s u : State) (f : Fin 2) (cands : List TrackCand), s.fibreServed f.val = true → (s.acuFib f.val).tracks = [] →
      u = (s.mergeTracks f.val).setAcuFib f.val { (s.mergeTracks f.val).acuFib f.val with trackedAt := (s.mergeTracks f.val).clk.up } →
    exec (.trackUpdate f [] cands) s = .next (State.finish
      (((cands.foldl (fun s c => s.candidate f.val c) u).trackRecords f.val).linksEvaluate))) ∧
  (∀ (s : State) (f : Fin 2) (c : TrackCand) (z : Nat), s.trackZone f.val 256 c.pos = some z → (s.zone f.val z).state = 3 →
      s.inGate c.speed = true → (s.acuFib f.val).tracks.length < 64 →
    s.candidate f.val c = s.startTrack f.val z c) ∧
  (∀ (s : State), ∃ t : State, exec .acuClearCounts s = .next (State.finish t) ∧ t.regs = s.regs ∧ t.recs = s.recs ∧
    ∀ p ∈ t.zones, p.2.opens = 0 ∧ p.2.suppr = 0)

/-- R148: a permit sent, received, revoked and out of age; the head of its link then takes the level that R250 gives. Each
clause gives, for a command and the conditions that it names, the state that the command leaves before the consequences every
command ends with (`State.finish`, see CalmFinish). The model's choices in it: log entries 1, 3, 59, 86, 105. -/
def Obligations.PermitCommands : Prop :=
  (∀ (s : State), exec .dimPermitSend s = .next (State.finish (s.linkList.foldl (fun s l => s.permitSend l) s))) ∧
  (∀ (s : State) (l : Nat), s.linkQualifies l = true → s.on (linkFld l) = false →
    s.permitSend l = ((s.setLink l { s.link l with permitOut := true }).put (linkFld l) 1).emit (srcBlock 3) Code.LINK_DIM
      (le 1 l ++ le 1 (s.linkNat 1 l))) ∧
  (∀ (s : State) (l : Fin 64), (s.link l.val).permitOut = true → s.lnk.absent = false →
    exec (.dimPermitReceived l) s = .next (State.finish
      ((s.setLink l.val { s.link l.val with permitOut := false, permitAt := some s.clk.up }).applyLevel (s.cfg.sig.nat 3 6 0x0C1 [l.val])))) ∧
  (∀ (s u : State) (l : Fin 64), (s.link l.val).revokeOut = true → s.lnk.absent = false →
      u = s.setLink l.val { s.link l.val with revokeOut := false, permitOut := false } →
    exec (.revokeReceived l) s = .next (State.finish
      ((u.setLink l.val { u.link l.val with permitAt := none }).applyLevel (u.cfg.sig.nat 3 6 0x0C1 [l.val])))) ∧
  (∀ (s : State) (l : Fin 64), s.permitFresh l.val = false → exec (.permitAgeExpiry l) s = .next (State.finish
    ((s.setLink l.val { s.link l.val with permitAt := none }).applyLevel (s.cfg.sig.nat 3 6 0x0C1 [l.val])))) ∧
  (∀ (s : State) (l : Fin 64), s.permitFresh l.val = true → exec (.permitAgeExpiry l) s = .next (State.finish s)) ∧
  (∀ (s : State) (h : Nat), s.dimPermitted h = true → ∀ l ∈ s.headLinks h, s.permitFresh l = true)

/-- R156, R158-R161, R164-R169: the Raman dark level, the anchor, beta_T and the fused cells. Each clause gives, for a command
and the conditions that it names, the state that the command leaves before the consequences every command ends with
(`State.finish`, see CalmFinish). The model's choices in it: log entries 1, 3, 44, 96, 104, 124. -/
def Obligations.TemperatureCommands : Prop :=
  (∀ (s : State) (f : Fin 2) (as st : List Rat), s.darkUsable f.val = true → exec (.ramanDarkMeasure f as st) s = .next (State.finish
    (s.setTmp f.val { s.tmp f.val with
      darkAs := meanOf ((ramanTrain (as.take 125)).map (fun x => (x.code : Rat)))
      darkSt := meanOf ((ramanTrain (st.take 125)).map (fun x => (x.code : Rat)))
      darkAt := s.clk.up, dark := false }))) ∧
  (∀ (s : State) (f : Fin 2), (s.tmp f.val).dark = false → exec (.ramanDark f) s = .next (State.finish
    (((s.setTmp f.val { s.tmp f.val with dark := true, profile := [] }).put (TMP_EVT.DARK f.val) 1).emit (srcRamanLanding f.val)
      Code.RAMAN_DARK (le 1 (min 255 (max 60 ((s.clk.up - (s.tmp f.val).darkAt) / 1000000000))))))) ∧
  (∀ (s : State) (f : Fin 2) (t : Rat), s.anchorT f.val = .ok t → s.gammaT f.val t = none →
      (∀ z ∈ s.zoneList f.val, s.fusedCells f.val z = []) →
    let k := s.gamma f.val / t + s.lnCoil f.val (s.coilA f.val) + s.dalphaN f.val * s.zCoilA f.val
    let ta := satS 32 (roundHalf ((t - 27315 / 100) * 1000))
    let a := (((s.setTmp f.val { s.tmp f.val with anchorAt := some s.clk.up, const := k }).setAnchor f.val 1).puti (TMP_TA.TA f.val)
      ta).emit (srcBlock 4) Code.RAMAN_ANCHOR
        (le 1 f.val ++ leI 4 ta ++ le 4 (s.get (TMP_GAMMA.GAMMA f.val)) ++ le 1 (s.get (TMP_GAMMA.SRC f.val)))
    exec (.ramanUpdate f) s = .next (State.finish (a.setTmp f.val { a.tmp f.val with
      profile := a.ramanBins f.val, have_ := true
      updates := (a.tmp f.val).updates.filter (fun t => a.clk.up < t + 86400000000000) ++ [a.clk.up] }))) ∧
  (∀ (s : State) (f : Fin 2) (why : Nat), s.anchorT f.val = .error why → s.get (TMP_STAT.ANCH f.val) = 1 →
    s.anchor f.val = (((s.setAnchor f.val 2).put (TMP_EVT.HOLD f.val) 1).setTmp f.val { s.tmp f.val with holdSince := s.clk.up }).emit
      (srcBlock 4) Code.ANCHOR_HOLD (le 1 f.val ++ le 1 why)) ∧
  (∀ (s : State) (f : Fin 2) (z c : Nat) (r : Rat), s.cellRaman f.val z c = some r → (s.cell f.val z c).state = 1 →
      s.get (TMP_STAT.ANCH f.val) = 1 →
    let coil := s.coilNow f.val
    let o := r - s.cellMeanDrift f.val (s.cell f.val z c) coil
    let t := satS 32 (roundHalf (((s.cell f.val z c).raw / s.beta f.val + o) * 1000))
    ∃ x : Cell, x.state = 2 ∧ x.offset = o ∧ x.coil0 = coil ∧ x.tf = some t ∧
      s.cellUpdate f.val z c = (s.setCell f.val z c x).emit (srcZone f.val z) Code.FUSED_LOCK (le 2 c ++ leI 4 t)) ∧
  (∀ (s : State) (f : Fin 2), s.get (TMP_STAT.ANCH f.val) = 2 → exec (.anchorStale f) s = .next (State.finish
    (((s.setAnchor f.val 3).put (TMP_EVT.STALE f.val) 1).emit (srcBlock 4) Code.ANCHOR_STALE
      (le 1 f.val ++ le 2 (min 0xFFFF (max (s.cfg.sens.nat 5 0 0x04D []) ((s.clk.up - (s.tmp f.val).holdSince) / 3600000000000))))))) ∧
  (∀ (s : State) (f : Fin 2), s.cfg.sens.flag 5 0 0x04B [] = true → 10 ≤ (s.fitCells f.val).length →
    let e := Config.betaFit (s.fitCells f.val)
    let conf : Rat := s.cfg.sens.nat 5 1 0x04A [f.val]
    exec (.betaUpdate f) s = .next (State.finish
      (if |e - conf| * 5 ≤ conf then
        (((s.setBeta f.val (roundHalf e).toNat).put (TMP_BETA.SRC f.val) 1).emit (srcBlock 4) Code.BETA_UPDATE
          (le 1 f.val ++ le 2 (s.get (TMP_BETA.BETA f.val)) ++ le 2 (roundHalf e).toNat))
      else
        (s.put (TMP_EVT.EST f.val) 1).emit (srcBlock 4) Code.TEMP_ESTIMATE_RANGE
          (le 1 f.val ++ le 1 2 ++ leI 4 (satS 32 (roundHalf e)))))) ∧
  (∀ (s : State) (f : Fin 2) (z c : Nat), s.zoneList f.val = [z] → s.fusedCells f.val z = [c] →
      (s.cell f.val z c).acc ≠ [] → (s.cell f.val z c).state = 2 →
    let x := s.cell f.val z c
    let ts := x.acc.map (fun a => s.cellDrift f.val x a.1 a.2 + x.offset)
    exec (.fusedOutput f) s = .next (State.finish
      (s.setCell f.val z c { x with
        acc := []
        hist := recent s.clk.up 600000000000 x.hist ++ [(s.clk.up, (meanOf (x.acc.map (·.1)), meanOf (x.acc.map (·.2))))]
        tf := some (satS 32 (roundHalf (meanOf ts * 1000)))
        sigma := min 0xFFFF (meanSigma ts)
        gap := (s.zproc f.val z).gaps.any (fun t => decide (s.clk.up < t + 1000000000)) }))) ∧
  (∀ (s : State) (f : Fin 2) (z : Fin 256) (c : Fin 4096) (cause : Fin 3), (s.cell f.val z.val c.val).state = 2 →
      (cause = 0 → (s.zone f.val z.val).state = 2) →
      (cause = 1 → s.get (ACU_REF.STATE f.val) = 2 ∧ ∃ t, (s.aco f.val).refLost = some t ∧ t + 60000000000 ≤ s.clk.up) →
      (cause = 2 → s.cellDead f.val z.val c.val = true) →
    exec (.fusedRebase f z c cause) s = .next (State.finish
      (((s.setCell f.val z.val c.val { s.cell f.val z.val c.val with state := 3, lostAt := s.clk.up, acc := [], hist := [], fits := [] }).put
        (TMP_EVT.REBASE f.val) 1).emit (srcZone f.val z.val) Code.FUSED_REBASE (le 2 c.val ++ le 1 (cause.val + 1)))))

/-- R170-R177, R180: outputs of an auxiliary channel, its open and restored inputs, the dwell of SHARED mode and overrange.
Each clause gives, for a command and the conditions that it names, the state that the command leaves before the consequences
every command ends with (`State.finish`, see CalmFinish). The model's choices in it: log entries 1, 3, 44, 124. -/
def Obligations.AuxiliaryCommands : Prop :=
  (∀ (s : State) (c : Fin 8) (a b : AuxConv), s.get (AUX_STAT.STATE c.val) ≠ 0 → 0 < (s.aux c.val).discard →
    exec (.auxOutput c (.value a b)) s = .next (State.finish
      ((s.setAux c.val { s.aux c.val with lastOut := some s.clk.up, discard := (s.aux c.val).discard - 1 }).inc (AUX_RAW.DISC c.val)))) ∧
  (∀ (s : State) (c : Fin 8) (a b : AuxConv), s.get (AUX_STAT.STATE c.val) = 2 → (s.aux c.val).discard = 0 →
    let code := (s.auxCombine c.val a b).1
    let ovr := (s.auxCombine c.val a b).2 || s.auxCompl c.val
    let seen := recent s.clk.up 1000000000 (s.aux c.val).ovrs
    exec (.auxOutput c (.value a b)) s = .next (State.finish
      ((s.setAux c.val { s.aux c.val with
        lastOut := some s.clk.up, ovrs := if ovr then seen ++ [(s.clk.up, decide (code < 0))] else seen }).auxDeliver c.val code ovr))) ∧
  (∀ (s : State) (c : Fin 8) (code : Int), s.get (AUX_STAT.STATE c.val) = 2 → s.get (AUX_CFG.TABLE c.val) = 0 →
    s.auxDeliver c.val code false =
      ((((s.puti (AUX_RAW.CODE c.val) code).putB (AUX_RAW.OVR c.val) false).put (AUX_RAW.OOT c.val) 0).puti (AUX_VAL.VAL c.val) code).setAux
        c.val { s.aux c.val with
          vals := (s.aux c.val).vals.filter (fun e => s.clk.up < e.at_ + 600000000000) ++ [⟨s.clk.up, some code, false⟩] }) ∧
  (∀ (s : State) (c : Fin 8) (code : Int), s.get (AUX_STAT.STATE c.val) = 2 →
    s.auxDeliver c.val code true =
      ((((s.puti (AUX_RAW.CODE c.val) code).putB (AUX_RAW.OVR c.val) true).put (AUX_RAW.OOT c.val) 0).puti (AUX_VAL.VAL c.val)
        (-0x80000000)).setAux c.val { s.aux c.val with
          vals := (s.aux c.val).vals.filter (fun e => s.clk.up < e.at_ + 600000000000) ++ [⟨s.clk.up, none, false⟩] }) ∧
  (∀ (s : State) (c : Fin 8) (us : Nat), s.get (AUX_STAT.STATE c.val) ≠ 0 →
    exec (.auxOutput c (.lost us)) s = .next (State.finish
      (s.gapData (srcAux c.val) us 0xFFFFFFFF 0x01 (s.clk.up - us * 1000)))) ∧
  (∀ (s : State) (c : Fin 8) (cause : Fin 3), cause ≠ 0 → 2 ≤ s.get (AUX_CFG.TYPE c.val) → s.get (AUX_STAT.STATE c.val) ≠ 0 →
      s.get (AUX_STAT.STATE c.val) ≠ 3 →
    let first := s.auxFirst c.val (s.clk.up - 4000000 * s.get (AUX_CFG.LB c.val))
    exec (.auxOpen c cause) s = .next (State.finish
      (((s.puts [(AUX_STAT.STATE c.val, 3), (AUX_EVT.OPEN c.val, 1), (AUX_EXC.COMPL c.val, 1)]).setAux c.val
        { s.aux c.val with lost := 0, compl := some (s.clk.up, none)
                           vals := (s.aux c.val).vals.map (fun v => if first ≤ v.at_ then { v with suspect := true } else v) }).emit
        (srcAux c.val) Code.AUX_OPEN (le 1 (cause.val + 1) ++ le 8 ((s.clk.dev : Int) + first - s.clk.up).toNat)))) ∧
  (∀ (s : State) (c : Fin 8), s.get (AUX_CFG.TYPE c.val) = 1 → s.get (AUX_CFG.BO c.val) ≠ 0 → s.get (AUX_STAT.STATE c.val) ≠ 0 →
      s.get (AUX_STAT.STATE c.val) ≠ 3 →
    let first := s.auxFirst c.val (s.clk.up - 4000000 * s.get (AUX_CFG.LB c.val))
    exec (.auxOpen c 0) s = .next (State.finish
      (((s.puts [(AUX_STAT.STATE c.val, 3), (AUX_EVT.OPEN c.val, 1), (AUX_EXC.COMPL c.val, 0)]).setAux c.val
        { s.aux c.val with lost := 0
                           vals := (s.aux c.val).vals.map (fun v => if first ≤ v.at_ then { v with suspect := true } else v) }).emit
        (srcAux c.val) Code.AUX_OPEN (le 1 1 ++ le 8 ((s.clk.dev : Int) + first - s.clk.up).toNat)))) ∧
  (∀ (s : State) (c : Fin 8), s.get (AUX_STAT.STATE c.val) = 3 → exec (.auxRestored c) s = .next (State.finish
    (((s.puts [(AUX_STAT.STATE c.val, 1), (AUX_EXC.COMPL c.val, 0)]).setAux c.val
      { s.aux c.val with compl := (s.aux c.val).compl.map (fun q => (q.1, some s.clk.up)), discard := 3 }).emit (srcAux c.val)
      Code.AUX_RESTORED (le 4 (s.aux c.val).lost)))) ∧
  (∀ (s : State) (c : Nat) (t : List Nat), s.get AUX_STAT.MODE ≠ 0 → s.excited = c :: t → s.dwell = none →
    exec .auxDwell s = .next (State.finish (({ s with dwell := some c } : State).auxSettle c))) ∧
  (∀ (s : State) (c : Fin 8) (o : Nat × Bool) (rest : List (Nat × Bool)), s.get (AUX_STAT.STATE c.val) ≠ 3 →
      (∀ t, (s.aux c.val).ovrAt = some t → t + 1000000000 ≤ s.clk.up) →
      (recent s.clk.up 1000000000 (s.aux c.val).ovrs).reverse = o :: rest →
    exec (.auxOverrange c) s = .next (State.finish
      (((s.setAux c.val { s.aux c.val with ovrAt := some s.clk.up }).put (AUX_EVT.OVR c.val) 1).emit (srcAux c.val) Code.AUX_OVERRANGE
        (le 1 (if o.2 then 2 else 1) ++ le 2 (min 0xFFFF (rest.length + 1))))))

/-- R11, R12, R14, R16: a plain write of one word, by the access type of the register it meets; a read of a lower word returns
it and latches the upper word, which the next read of the upper word returns. Each clause gives, for a command and the
conditions that it names, the state that the command leaves before the consequences every command ends with (`State.finish`,
see CalmFinish). The model's choices in it: log entries 1, 3, 67, 87, 115, 116. -/
def Obligations.PlainWriteCommands : Prop :=
  (∀ (s : State) (a v : Word) (r : RegRow), s.answers a.toNat = true → regRow a.toNat = some r → r.access = .rw →
      a.toNat ≠ ACQ_SNAP_CTL → a.toNat ≠ MOS_RSEL →
    exec (.registerWrite a v) s = .next (State.finish
      (s.wr a.toNat ((s.rd a.toNat &&& ~~~ regMask a.toNat) ||| (v &&& regMask a.toNat))))) ∧
  (∀ (s : State) (a v : Word) (r : RegRow), s.answers a.toNat = true → regRow a.toNat = some r → r.access = .rw1c →
    exec (.registerWrite a v) s = .next (State.finish (s.wr a.toNat (s.rd a.toNat &&& ~~~ (v &&& regMask a.toNat))))) ∧
  (∀ (s : State) (a v : Word) (r : RegRow), s.answers a.toNat = true → regRow a.toNat = some r → r.access = .wo →
    exec (.registerWrite a v) s = .next (State.finish (s.writeAction a.toNat v))) ∧
  (∀ (s : State) (a v : Word) (r : RegRow), regRow a.toNat = some r → (r.access = .ro ∨ r.access = .sig) →
    exec (.registerWrite a v) s = .next (State.finish s)) ∧
  (∀ (s : State) (a v : Word), regRow a.toNat = none → exec (.registerWrite a v) s = .next (State.finish s)) ∧
  (∀ (s : State) (i : Fin 8) (n : Nat), s.answers (lowerWord i.val) = true → s.notYet (lowerWord i.val) = false →
      s.live64 (lowerWord i.val) = some n →
    exec (.lowerWordRead i) s = .next (State.finish
      { s with latch := (lowerWord i.val, wordOf (n / 2 ^ 32)) :: s.latch.filter (fun p => p.1 ≠ lowerWord i.val) })) ∧
  (∀ (s : State) (i : Fin 8) (n : Nat), s.answers (lowerWord i.val) = true → s.notYet (lowerWord i.val) = false →
      s.live64 (lowerWord i.val) = some n → ∃ t : State, s.readWord (lowerWord i.val) = (some (wordOf n), t) ∧
        t.view (lowerWord i.val + 4) = wordOf (n / 2 ^ 32) ∧ t.regs = s.regs ∧ t.recs = s.recs) ∧
  (∀ i : Fin 8, ∀ s : State, ∃ n, s.live64 (lowerWord i.val) = some n)

/-- R30, R31, R54, R422: the die link's loss and return, the Pacer's calibration, the answer of an absent die. Each clause
gives, for a command and the conditions that it names, the state that the command leaves before the consequences every command
ends with (`State.finish`, see CalmFinish). The model's choices in it: log entries 1, 3, 39, 125, 134. -/
def Obligations.DieLinkCommands : Prop :=
  (∀ (s : State), s.md.mode ≠ .reset → s.lnk.absent = false → s.lnk.beatAt + 20000000 ≤ s.clk.up → (∀ l < 64, (s.link l).permitAt = none) → s.get CFG_STAT.SWSTATE = 0 →
    exec .heartbeatTimeout s = .next (State.finish
      (({ s with lnk := { s.lnk with absent := true, beats := 0 } } : State).put LMP_STAT.PACER_CAL 0))) ∧
  (∀ (s : State), s.lnk.absent = true → s.dieSpeaks = true → s.lnk.beats < 2 →
    exec .heartbeatReceived s = .next (State.finish { s with lnk := { s.lnk with beats := s.lnk.beats + 1, beatAt := s.clk.up } })) ∧
  (∀ (s : State), s.lnk.absent = true → s.dieSpeaks = true → 2 ≤ s.lnk.beats → s.flt.waitLink = [] →
    exec .heartbeatReceived s = .next (State.finish
      { s with lnk := { s.lnk with absent := false, beats := 0, beatAt := s.clk.up }, flt := { s.flt with waitLink := [] } })) ∧
  (∀ (s : State) (w : FaultRec) (ws : List FaultRec), s.lnk.absent = true → s.dieSpeaks = true → 2 ≤ s.lnk.beats → s.flt.waitLink = w :: ws →
      s.due.safe = none → s.md.mode = .family →
    exec .heartbeatReceived s = .next (State.finish
      { s with lnk := { s.lnk with absent := false, beats := 0, beatAt := s.clk.up }, flt := { s.flt with waitLink := [] },
               due := { s.due with safe := some (w.code, w.source) } })) ∧
  (∀ (s : State), s.lnk.absent = false → s.dieSpeaks = true →
    exec .heartbeatReceived s = .next (State.finish { s with lnk := { s.lnk with beatAt := s.clk.up } })) ∧
  (∀ (s : State), s.clk.up < s.lnk.beatAt + 20000000 → exec .heartbeatTimeout s = .next (State.finish s)) ∧
  (∀ (s : State), s.lnk.absent = false → s.get PRB_STAT.TB ≠ 0 →
    exec .pacerCalibrationReturn s = .next (State.finish
      { s.put LMP_STAT.PACER_CAL 1 with lnk := { s.lnk with slew := (s.clk.dev : Int) - s.clk.pacer } })) ∧
  (∀ (s : State) (r : List Byte), s.spi.waiting = some r →
    exec .windowReplyTimeout s = .next (State.finish { s with spi := { s.spi with out := r, waiting := none } }))

/-- R43, R46, R52: held records delivered, gap records made, the roll of an epoch. Each clause gives, for a command and the
conditions that it names, the state that the command leaves before the consequences every command ends with (`State.finish`,
see CalmFinish). The model's choices in it: log entries 1, 3, 6, 7, 46, 110, 117, 118. -/
def Obligations.RecordPathCommands : Prop :=
  (∀ (s : State) (r : Record), s.lnk.absent = false → s.recs.hold = [r] → s.recs.exhausted = false →
    exec .holdingBufferDrain s = .next (State.finish
      (if s.recordPaths = [] ∨ s.queueSpace = true then ({ s with recs := { s.recs with hold := [] } } : State).push r else s))) ∧
  (∀ (s : State) (src : Nat) (m : Missing), s.recs.epochOpen = true → s.room src = true → s.recs.missing = [m] → m.source = src →
    exec (.gapRecord src) s = .next (State.finish (({ s with recs := { s.recs with missing := [] } } : State).gapOne m))) ∧
  (∀ (s : State) (src n : Nat), s.recs.epochOpen = true → s.recs.exhausted = false → (src, n) ∈ s.recs.seqs → 0xF0000000 ≤ n →
      s.recs.epoch < 0xFFFF →
    exec .epochRoll s = .next (State.finish ((s.eventsRollClose.2.openEpoch 3 []).eventsRollOpen s.eventsRollClose.1))) ∧
  (∀ (s : State), s.events = [] → s.eventsRollClose = ([], s)) ∧ (∀ (s : State), s.eventsRollOpen [] = s) ∧
  (∀ (s : State) (cause : List Byte), s.recs.epoch < 0xFEFF →
    s.openEpoch 3 cause = ({ s with recs := { s.recs with
        epoch := s.recs.epoch + 1, resets := 0, epochOpen := true, seqs := [], delivered := [] } } : State).emit
      srcDevice Code.EPOCH_START (le 2 s.recs.epoch ++ le 1 3 ++ le 1 1))

/-- R189-R193: a move of a task and what ends it; the loss of an engine; the restart of its tasks. Each clause gives, for a
command and the conditions that it names, the state that the command leaves before the consequences every command ends with
(`State.finish`, see CalmFinish). The model's choices in it: log entries 1, 3, 107, 123, 129. -/
def Obligations.TaskMoveCommands : Prop :=
  (∀ (s : State) (m : Move) (u : State), s.gal.move = some m → m.begun = none → s.moveMay m = true → s.eng m.dst = 0 →
      u = ({ s with gal := { s.gal with move := some { m with begun := some (match (s.task m.task).fibre with
              | some f => s.cycle f
              | none => s.clk.up / 1000000) } } } : State).setTask m.task { s.task m.task with state := 2 } →
    exec .taskMoveStart s = .next (State.finish (u.put (GAL_ENG.STATE m.dst) 2).galSync)) ∧
  (∀ (s : State) (m : Move) (n : Nat), s.gal.move = some m → m.begun = some n → m.reason = 1 →
    ∃ u : State, u = ((s.moveTake m).inc GAL_CNT.MOVES).put GAL_EVT.MOVED 1 ∧
      exec (.taskMove none) s = .next (State.finish
        (({ u with gal := { u.gal with suspects := u.gal.suspects.filter (fun q => q.cand ≠ m.dst) } } : State).emit srcPlanner Code.TASK_MOVE
          (le 1 m.task ++ le 1 m.src ++ le 1 m.dst ++ le 1 1 ++ le 8 (n + 5))))) ∧
  (∀ (s : State) (m : Move) (n c : Nat), s.gal.move = some m → m.begun = some n → s.gal.suspects = [] → s.eng m.dst = 2 →
    exec (.taskMove (some c)) s = .next (State.finish
      (((((((({ s with gal := { s.gal with move := none, suspects := [⟨m.dst, m.src, c, false⟩] } } : State).setTask m.task
        { s.task m.task with state := 1 }).put (GAL_ENG.STATE m.dst) 3).put GAL_STAT.TESTING 1).mustTest m.dst).put GAL_EVT.MISMATCH 1).galSync).emit
          (srcEngine m.dst) Code.MOVE_MISMATCH (le 1 m.task ++ le 1 m.src ++ le 8 c)))) ∧
  (∀ (s : State) (m : Move), s.gal.move = some m → m.begun = none → m.deferred = false → s.moveMay m = false →
    exec .moveDeferred s = .next (State.finish
      ((({ s with gal := { s.gal with move := some { m with deferred := true } } } : State).put GAL_EVT.DEFER 1).emit srcPlanner
        Code.MOVE_DEFERRED (le 1 m.task ++ le 2 (s.feedFill m.task))))) ∧
  (∀ (s : State) (e : Fin 20) (cause : Nat), s.eng e.val = 1 ∨ s.eng e.val = 2 →
    let u := s.engineLost e.val cause (s.firstUndone e.val)
    exec (.engineFail e cause) s = .next (State.finish
      (if u.gal.restore ≠ [] ∧ u.freeSpares = [] ∧ u.get TST_STAT.UNIT = u.get GAL_STAT.RESERVE then u.bistInterrupt 2 else u))) ∧
  (∀ (s : State) (t e : Nat) (formed : List Nat) (u : State), s.stranded = [t] → s.restartOn = some e →
      u = ((s.put (GAL_ENG.STATE e) 1).setTask t { s.task t with engine := e, state := 1 }) →
      ∀ v : State, v = ((({ u with gal := { u.gal with restore := [] } } : State).fixReserve).galSync).spareLow s.freeSpares.length →
      ∀ w : State, w = v.taskCleared (v.task t) → (w.task t).cls ≠ 9 →
    exec (.taskRestart formed) s = .next (State.finish ((w.zonesStart 0).zonesStart 1))) ∧
  (∀ (s : State) (t f : Nat) (formed : List Nat) (u : State), s.stranded = [t] → s.restartOn = none → (s.task t).fibre = some f →
      u = s.zonesInvalid f 0x02 (s.get (PRB_STAT.FSTATE f)) →
    exec (.taskRestart formed) s = .next (State.finish ({ u with gal := { u.gal with restore := [] } } : State).galSync))

/-- R196, R201, R203, R205, R210: slack, the Stair's faults, the planner's runs and the clearing of its counts. Each clause
gives, for a command and the conditions that it names, the state that the command leaves before the consequences every command
ends with (`State.finish`, see CalmFinish). The model's choices in it: log entries 1, 3, 27, 84, 107, 129. -/
def Obligations.PlannerCommands : Prop :=
  (∀ (s : State) (u : Fin 23) (util : Nat) (tj : Int), 10 * s.get GAL_POLICY.ALARM + util ≤ 1000 →
    ∃ t : State, exec (.slackWindow u util tj) s = .next (State.finish t) ∧ t.recs = s.recs ∧
      t.geti (slackFld u.val) = satS 11 (1000 - (((util :: sparseGet [] s.gal.wins u.val).take 10).foldl max 0 : Nat)) ∧
      sparseGet [] t.gal.wins u.val = (util :: sparseGet [] s.gal.wins u.val).take 10) ∧
  (∀ (s : State) (mv : Nat), s.gal.stairOff = false → 900 < mv → exec (.stairFault true mv) s = .next (State.finish
    (((({ s with gal := { s.gal with stairOff := true } } : State).putSat GAL_STAIR.VCORE mv).put GAL_EVT.STAIRFLT 1).emit (srcBlock 5)
      Code.STAIR_FAULT (le 1 2 ++ le 2 (min 0xFFFF mv))))) ∧
  (∀ (s : State) (mv : Nat), s.gal.stairOff = false → mv + 30 < 720 + 10 * s.get GAL_STAIR.SET → exec (.stairFault false mv) s = .next (State.finish
    (((({ s with gal := { s.gal with stairLow := true } } : State).putSat GAL_STAIR.VCORE mv).put GAL_EVT.STAIRFLT 1).emit (srcBlock 5)
      Code.STAIR_FAULT (le 1 1 ++ le 2 (min 0xFFFF mv))))) ∧
  (∀ (s : State) (o : PlanObs), s.plannerRuns = true → s.gal.move = none → s.get CFG_STAT.SWSTATE = 0 → s.planUnits = [] →
    exec (.plannerRun o) s = .next (State.finish { s with gal := { s.gal with planAt := s.clk.up, peaks := [] } })) ∧
  (∀ (s : State) (o : PlanObs), s.plannerRuns = true → s.gal.move = none → s.get CFG_STAT.SWSTATE = 0 → s.planUnits = [] →
    exec (.runNow o) s = .next (State.finish { s with gal := { s.gal with planAt := s.clk.up, peaks := [] } })) ∧
  (∀ (s : State) (o : PlanObs) (worst : Nat) (smin : Rat), s.plannerRuns = true → s.gal.move = none → s.get CFG_STAT.SWSTATE = 0 →
      lowest (s.planUnits.map (fun u => (u, s.predicted o u))) = some (worst, smin) →
      smin < (s.get GAL_POLICY.TARGET : Nat) / 100 → s.get GAL_STAT.STEP < 14 → s.gal.stairLow = false → s.stairMay = true →
    ∃ t : State, exec (.plannerRun o) s = .next (State.finish t) ∧ exec (.runNow o) s = .next (State.finish t) ∧
      t.get GAL_STAT.STEP = s.get GAL_STAT.STEP + 1 ∧ t.stairStored = some (s.get GAL_STAT.STEP + 1)) ∧
  (∀ (s : State) (o : PlanObs) (u : Nat) (slack : Rat), s.plannerRuns = true → s.slackNow = some (u, slack) →
      slack < 10 * s.get GAL_POLICY.ALARM → slack < 100 → s.get GAL_STAT.STEP < 14 → s.gal.stairLow = false → s.stairMay = true →
    exec (.fastPath o) s = .next (State.finish
      ((s.put GAL_STAT.FAST 1).stairStep (s.get GAL_STAT.STEP + 1) 2 (roundHalf slack) u))) ∧
  (∀ (s : State), exec .galClearCounts s = .next (State.finish
    (s.puts [(GAL_CNT.MOVES, 0), (GAL_CNT.FAILS, 0), (GAL_CNT.ABANDONED, 0), (GAL_STAIR.MAX, 0)])))

/-- R230, R231, R233: transfers into a slot, erasure, the rollback counter, the power-up selection. Each clause gives, for a
command and the conditions that it names, the state that the command leaves before the consequences every command ends with
(`State.finish`, see CalmFinish). The model's choices in it: log entries 1, 3, 17, 87, 128. -/
def Obligations.ProfileStoreCommands : Prop :=
  (∀ (s : State) (slot : Fin 4) (len : Nat), 1 ≤ len → len ≤ 4194304 → s.slotBusy slot.val = false →
      s.get CFG_XFER_STAT.STATE ≠ 1 → s.get CFG_XFER_STAT.STATE ≠ 2 →
    exec (.xferBegin slot len) s = .next (State.finish
      (({ s.setSlot slot.val ⟨1, []⟩ with cfg := { s.cfg with xfer := [] } } : State).puts
        [(CFG_XFER_CTL.SLOT, slot.val), (CFG_XFER_CTL.LENGTH, len), (CFG_XFER_STAT.STATE, 1), (CFG_XFER_STAT.CAUSE, 0),
         (CFG_XFER_STAT.RECEIVED, 0)]))) ∧
  (∀ (s : State) (w : Word), s.get CFG_XFER_STAT.STATE = 1 → exec (.xferData w) s = .next (State.finish
    (({ s with cfg := { s.cfg with xfer := s.cfg.xfer ++ le 4 w.toNat } } : State).inc CFG_XFER_STAT.RECEIVED))) ∧
  (∀ (s : State) (w : Word), s.get CFG_XFER_STAT.STATE ≠ 1 → exec (.xferData w) s = .next (State.finish s)) ∧
  (∀ (s : State), s.get CFG_XFER_STAT.STATE = 1 → exec .xferCommit s = .next (State.finish (s.put CFG_XFER_STAT.STATE 2))) ∧
  (∀ (s : State), s.get CFG_XFER_STAT.STATE = 1 ∨ s.get CFG_XFER_STAT.STATE = 2 → exec .xferAbort s = .next (State.finish
    { (s.setSlot (s.get CFG_XFER_CTL.SLOT) ⟨3, []⟩).put CFG_XFER_STAT.STATE 0 with cfg := { s.cfg with xfer := [] } })) ∧
  (∀ (s : State), s.get CFG_XFER_STAT.STATE = 2 → s.cfg.xfer.length ≠ s.get CFG_XFER_CTL.LENGTH →
    exec .cfgXferDone s = .next (State.finish
      ((((({ s.put CFG_EVT.XFER 1 with cfg := { s.cfg with xfer := [] } } : State).setSlot (s.get CFG_XFER_CTL.SLOT) ⟨3, s.cfg.xfer⟩).puts
        [(CFG_XFER_STAT.STATE, 4), (CFG_XFER_STAT.CAUSE, 8)]).put CFG_EVT.BADCONT 1).emit srcCfg Code.CFG_BAD_CONTAINER
          (le 1 (s.get CFG_XFER_CTL.SLOT) ++ le 1 8 ++ le 4 0)))) ∧
  (∀ (s : State), s.get CFG_XFER_STAT.STATE = 2 → s.cfg.xfer.length = s.get CFG_XFER_CTL.LENGTH →
    ∃ u : State, u = ({ s.put CFG_EVT.XFER 1 with cfg := { s.cfg with xfer := [] } } : State) ∧
      exec .cfgXferDone s = .next (State.finish
        (match verifyContainer (s.verifyCtx (s.get CFG_XFER_CTL.SLOT) (s.roleKey 1)) s.cfg.xfer with
        | .error r => ((u.setSlot (s.get CFG_XFER_CTL.SLOT) ⟨3, s.cfg.xfer⟩).puts
            [(CFG_XFER_STAT.STATE, 4), (CFG_XFER_STAT.CAUSE, r.cause)]).rejectionRecord (s.get CFG_XFER_CTL.SLOT) r
        | .ok ps =>
          (ps.foldl (fun x p => if (tlvWalk (p.2.length + 1) [] p.2).isNone then
              x.sectionRefused (s.get CFG_XFER_CTL.SLOT) ⟨p.1, 5, 0, []⟩ else x)
            ((u.setSlot (s.get CFG_XFER_CTL.SLOT) ⟨2, s.cfg.xfer⟩).put CFG_XFER_STAT.STATE 3)).emit srcCfg Code.CFG_XFER_DONE
              (le 1 (s.get CFG_XFER_CTL.SLOT) ++ le 4 (s.get CFG_XFER_CTL.LENGTH) ++ slice s.cfg.xfer 20 4)))) ∧
  (∀ (s : State) (slot : Fin 4), s.slotBusy slot.val = false →
    exec (.erase slot) s = .next (State.finish (s.setSlot slot.val .reset))) ∧
  (∀ (s : State), s.get CFG_STAT.ACTIVE < 4 → s.get CFG_ROLLBACK.VALUE < leAt (s.slot (s.get CFG_STAT.ACTIVE)).bytes 16 4 →
    exec .commitRb s = .next (State.finish
      ((s.put CFG_ROLLBACK.VALUE (leAt (s.slot (s.get CFG_STAT.ACTIVE)).bytes 16 4)).rollbackSlots.emit srcCfg Code.CFG_ROLLBACK
        (le 1 (s.get CFG_ROLLBACK.VALUE) ++ le 1 (leAt (s.slot (s.get CFG_STAT.ACTIVE)).bytes 16 4))))) ∧
  (∀ (s : State) (pinEn : Bool) (pref : Fin 4), exec (.cfgCtlWrite pinEn pref) s = .next (State.finish
    ((s.putB CFG_CTL.PIN_EN pinEn).put CFG_CTL.PREF pref.val)))

/-- R234-R237: a hitless switch from its start to its end, and the ways it is refused or abandoned. Each clause gives, for a
command and the conditions that it names, the state that the command leaves before the consequences every command ends with
(`State.finish`, see CalmFinish). The model's choices in it: log entries 1, 3, 23, 24, 42, 106. -/
def Obligations.SwitchCommands : Prop :=
  (∀ (s : State) (slot : Fin 4) (persist : Bool), s.get CFG_STAT.SWSTATE = 0 → s.switchMode = true → (s.slot slot.val).state = 2 →
    exec (.switch slot persist) s = .next (State.finish (s.switchStart slot.val 1 persist))) ∧
  (∀ (s : State) (slot : Fin 4) (persist : Bool) (c : Nat),
      c = (if s.get CFG_STAT.SWSTATE ≠ 0 then 1 else if s.switchMode = false then 2 else 3) →
      (s.get CFG_STAT.SWSTATE ≠ 0 ∨ s.switchMode = false ∨ (s.slot slot.val).state ≠ 2) →
    exec (.switch slot persist) s = .next (State.finish
      (s.emit srcCfg Code.CFG_CMD_REFUSED (le 1 (slot.val + 4 + 8 * b2n persist) ++ le 1 c)))) ∧
  (∀ (s : State), s.get CFG_STAT.SWSTATE = 1 ∨ s.get CFG_STAT.SWSTATE = 2 →
    exec .cancel s = .next (State.finish (s.switchAbandon 2))) ∧
  (∀ (s : State), s.get CFG_STAT.SWSTATE = 2 → s.cfg.waitAt + s.cfg.sig.nat 11 0 0x082 [] * 1000000000 ≤ s.clk.up →
    exec .switchTimeout s = .next (State.finish (s.switchAbandon 1))) ∧
  (∀ (s : State), s.get CFG_STAT.SWSTATE = 1 →
    exec .switchLoaded s = .next (State.finish
      (match s.loadSlot (s.get CFG_SWITCH.TARGET) with
      | (.plane p, u) => if u.fabricFits p = false then u.switchAbandon 4 else
          (({ u with cfg := { u.cfg with shadow := some p, waitAt := u.clk.up } } : State).put CFG_STAT.SWSTATE 2).waitSync
      | (.refused, u) => u.switchAbandon 3
      | (.rejected, u) => u.switchAbandon 3))) ∧
  (∀ (s u v : State) (p : Plane), s.cfg.shadow = some p → s.get CFG_STAT.SWSTATE = 2 → s.commitHolds p = true →
      u = ((s.put CFG_STAT.SWSTATE 3).put CFG_SWITCH.WAIT_HEADS 0).bornakBefore p →
      v = ({ u with cfg := { u.cfg with sig := p, exchanged := true, waitFirst := 0xFF, waitAt := u.clk.up - u.cfg.waitAt } } : State) →
    exec .switchCommit s = .next (State.finish
      ((((((v.takeNet p).loadDrive p).loadProving p).loadSio p).headsExchange s.cfg.sig).bornakAfter).sioEval)) ∧
  (∀ (s : State) (p : Plane), s.cfg.shadow = some p → s.get CFG_STAT.SWSTATE = 2 → s.commitHolds p = false →
    exec .switchCommit s = .next (State.finish s.waitSync)) ∧
  (∀ (s : State) (p : Plane) (f : Fin 2), s.cfg.shadow = some p → s.get CFG_STAT.SWSTATE = 3 → s.cfg.exchanged = true →
      s.lnk.absent = false → f.val ∉ s.cfg.probed →
    exec (.probeSwitch f) s = .next (State.finish (s.fibreExchange p f.val))) ∧
  (∀ (s u v : State) (p : Plane), s.cfg.shadow = some p → s.get CFG_STAT.SWSTATE = 3 → s.cfg.exchanged = true → s.lnk.absent = false →
      s.fibresProbed = true →
      u = ((s.sensingExchange p).puts [(CFG_STAT.ACTIVE, s.get CFG_SWITCH.TARGET), (CFG_STAT.BYPIN, 0), (CFG_STAT.FALLBACK, 0),
        (CFG_STAT.STRICT, p.nat 11 0 0x081 []), (CFG_SECT.ACTIVE, (s.sensingExchange p).cfg.shadowRefused), (CFG_EVT.SWDONE, 1)]).fibresUpdate →
      u.cfg.persist = false →
      v = ({ u with cfg := { u.cfg with logActive := u.cfg.logLast } } : State).emit srcCfg Code.CFG_SWITCH_DONE
        (le 1 (s.get CFG_STAT.ACTIVE) ++ le 1 (s.get CFG_SWITCH.TARGET) ++ le 2 (min 0xFFFF (u.cfg.waitAt / 100000000)) ++
          le 8 u.cfg.firstCycle) →
    exec .cfgSwitchDone s = .next (State.finish
      ((v.loadedRecord (s.get CFG_SWITCH.TARGET) 2 (s.sensingExchange p).cfg.shadowRefused).switchIdle 1))) ∧
  (∀ (s : State) (r : Nat), ∃ t : State, s.switchAbandon r = t ∧ t.cfg.shadow = none ∧ t.get CFG_STAT.SWSTATE = 0 ∧
    t.get CFG_STAT.PENDING = 7 ∧ t.cfg.sig = s.cfg.sig ∧ t.cfg.sens = s.cfg.sens ∧ t.get CFG_STAT.ACTIVE = s.get CFG_STAT.ACTIVE)

/-- R257, R259, R260, R267: commands on heads, the steps of a change, the dwell, the counts. Each clause gives, for a command
and the conditions that it names, the state that the command leaves before the consequences every command ends with
(`State.finish`, see CalmFinish). The model's choices in it: log entries 1, 3, 75, 80. -/
def Obligations.HeadCommands : Prop :=
  (∀ (s u : State) (h v : Fin 32), u = (s.put LMP_CMD.HEAD h.val).put LMP_CMD.ASPECT v.val → s.cfg.sig.hasRec 6 0x0F [h.val] = true →
      bitOf (s.cfg.sig.nat 11 0 0x085 []) h.val = true → s.cfg.sig.hasAspect h.val v.val = true →
    exec (.aspectCommand h v) s = .next (State.finish
      ((u.setHead h.val { u.head h.val with cmd := some v.val }).headUpdate h.val))) ∧
  (∀ (s : State) (h v : Fin 32), s.cfg.sig.hasRec 6 0x0F [h.val] = true → bitOf (s.cfg.sig.nat 11 0 0x085 []) h.val = false →
    exec (.aspectCommand h v) s = .next (State.finish
      ((((s.put LMP_CMD.HEAD h.val).put LMP_CMD.ASPECT v.val).put LMP_EVT.DEMAND 1).emit (srcHead h.val) Code.ASPECT_DEMAND
        (le 1 v.val ++ le 1 2 ++ le 2 (s.cfg.sig.meaning h.val v.val) ++ le 1 4 ++ le 1 0xFF ++ le 1 0xFF)))) ∧
  (∀ (s : State) (h : Fin 32), s.cfg.sig.hasRec 6 0x0F [h.val] = true → s.on (LMP_NIGHT.H h.val) = false →
    exec (.levelCommand h 2) s = .next (State.finish
      ((((s.put LMP_CMD.HEAD h.val).putB (LMP_NIGHT.H h.val) true).applyLevel h.val).levelRecord h.val 2))) ∧
  (∀ (s : State) (h : Fin 32), s.cfg.sig.hasRec 6 0x0F [h.val] = true → s.on (LMP_NIGHT.H h.val) = true →
    exec (.levelCommand h 1) s = .next (State.finish
      ((((s.put LMP_CMD.HEAD h.val).putB (LMP_NIGHT.H h.val) false).applyLevel h.val).levelRecord h.val 2))) ∧
  (∀ (s u : State) (h : Fin 32) (c : HChange) (st st' : List (Nat × Nat)) (rest : List (List (Nat × Nat))),
      (s.head h.val).change = some c → c.rest = st :: st' :: rest → s.stepDue h.val c = true →
      u = st.foldl (fun s q => s.setCode ((s.headChans h.val).getD q.1 64) q.2 (s.aspGroup h.val c.target)) s →
    exec (.aspectChangeStep h) s = .next (State.finish
      ((u.setHead h.val { u.head h.val with change := some { c with rest := st' :: rest } }).tryHeld h.val))) ∧
  (∀ (s : State) (h : Fin 32) (a : Nat), (s.head h.val).held = some a → (s.head h.val).change = none → s.dwellOver h.val = true →
    exec (.dwellExpiry h) s = .next (State.finish (s.headStart h.val a (s.head h.val).heldCause))) ∧
  (∀ (s : State), ∃ t : State, exec .lmpClearCounts s = .next (State.finish t) ∧ t.regs = s.regs ∧ t.recs = s.recs ∧
    ∀ h : Fin 32, (t.head h.val).changes = 0 ∧ (t.head h.val).coalesced = 0 ∧ (t.head h.val).shown = (s.head h.val).shown ∧
      (t.head h.val).demand = (s.head h.val).demand)

/-- R246, R251-R253: PWM periods, falls of level, flash edges. Each clause gives, for a command and the conditions that it
names, the state that the command leaves before the consequences every command ends with (`State.finish`, see CalmFinish). The
model's choices in it: log entries 1, 3, 79, 130. -/
def Obligations.DriveCommands : Prop :=
  (∀ (s : State) (n : Fin 64), s.get (LMP_CH.MODE n.val) ≠ 0 → s.gatesLive = true → s.periodDue n.val = true →
      (s.chan n.val).pend = none → (s.chan n.val).code = 1 → (s.chan n.val).applied = 1 → s.litNow n.val = true →
    exec (.pwmPeriodStart n) s = .next (State.finish
      ((s.setBank (n.val / 16) ({ s.bank (n.val / 16) with start := some ((s.clk.up : Int) - (s.stagger n.val : Int)) } : LampBank)).onPhase n.val))) ∧
  (∀ (s : State) (n : Fin 64), s.get (LMP_CH.MODE n.val) ≠ 0 → s.gatesLive = true → s.periodDue n.val = true →
      (s.chan n.val).pend = none → (s.chan n.val).code = 0 → (s.chan n.val).applied = 0 →
    ∃ t : State, exec (.pwmPeriodStart n) s = .next (State.finish t) ∧ (t.chan n.val).gateUntil = s.clk.up ∧ (t.chan n.val).applied = 0 ∧
      t.regs = s.regs) ∧
  (∀ (s : State) (n : Fin 64) (r : Ramp), (s.chan n.val).ramp = some r → r.due s.clk.up = true →
    exec (.dimRampStep n) s = .next (State.finish
      ((s.setChan n.val { s.chan n.val with
          ramp := if 16 ≤ r.k + 1 then none else some { r with k := r.k + 1, first := some (r.first.getD s.clk.up) } }).put (LMP_DUTY.DUTY n.val)
        (r.old - roundDiv ((r.old - r.new) * (r.k + 1)) 16)))) ∧
  (∀ (s : State) (g : Fin 8) (anti : Bool), s.on (LMP_FLASH.EN g.val) = true → s.gatesLive = true →
      s.flashDue g.val anti 0 = true → (s.flash (2 * g.val + b2n anti)).rephase = false →
      (∀ n < 64, (s.chan n).code ≠ 2 + b2n anti) →
    exec (.flashOnEdge g anti) s = .next (State.finish
      (s.setFlash (2 * g.val + b2n anti) { s.flash (2 * g.val + b2n anti) with on := true, rephase := false }))) ∧
  (∀ (s u : State) (g : Fin 8) (anti : Bool) (n : Nat), s.on (LMP_FLASH.EN g.val) = true → s.gatesLive = true →
      s.flashDue g.val anti 0 = true → (s.flash (2 * g.val + b2n anti)).rephase = false →
      u = s.setFlash (2 * g.val + b2n anti) { s.flash (2 * g.val + b2n anti) with on := true, rephase := false } →
      (List.range 64).filter (fun n => (u.chan n).code = 2 + b2n anti && (u.chan n).group = g.val && u.get (LMP_CH.MODE n) ≠ 0 &&
        (u.chan n).applied ≠ 1) = [n] → (u.chan n).pend = none →
    exec (.flashOnEdge g anti) s = .next (State.finish
      (((u.setChan n { u.chan n with applied := 2 + b2n anti, flashOn := true, edge := some u.clk.up }).chanEnter n true (decide ((u.chan n).applied ≠ 0))).onPhase
        n))) ∧
  (∀ (s u : State) (g : Fin 8) (anti : Bool) (n : Nat), (s.flash (2 * g.val + b2n anti)).on = true →
      (s.flash (2 * g.val + b2n anti)).rephase = false → s.flashDue g.val anti (s.flashOnLen g.val) = true →
      u = s.setFlash (2 * g.val + b2n anti) { s.flash (2 * g.val + b2n anti) with on := false, endedAt := s.clk.up } →
      (List.range 64).filter (fun n => (u.chan n).applied = 2 + b2n anti && (u.chan n).group = g.val) = [n] →
    exec (.flashOffEdge g anti) s = .next (State.finish
      ((u.setChan n { u.chan n with flashOn := false, gateUntil := u.clk.up }).chanEnter n false true))) ∧
  (∀ (s : State) (g : Fin 8) (anti : Bool), (s.flash (2 * g.val + b2n anti)).on = true →
      (s.flash (2 * g.val + b2n anti)).rephase = false → s.flashDue g.val anti (s.flashOnLen g.val) = true → (∀ n < 64, (s.chan n).applied ≠ 2 + b2n anti) →
    exec (.flashOffEdge g anti) s = .next (State.finish
      (s.setFlash (2 * g.val + b2n anti) { s.flash (2 * g.val + b2n anti) with on := false, endedAt := s.clk.up }))) ∧
  (∀ (s : State) (n : Nat), s.on (LMP_CH.HELDOFF n) = true → s.onPhase n = s.setChan n { s.chan n with gateUntil := s.clk.up })

/-- R279-R283, R285, R286: samples, trips and tests of a channel. Each clause gives, for a command and the conditions that it
names, the state that the command leaves before the consequences every command ends with (`State.finish`, see CalmFinish). The
model's choices in it: log entries 1, 3, 76, 77, 131. -/
def Obligations.LampTestCommands : Prop :=
  (∀ (s : State) (n : Fin 64) (cur drain : Int), s.proved n.val = true → s.litNow n.val = true → s.litDue n.val = true → s.get (LMP_CH.MODE n.val) ≠ 2 →
      s.blanking n.val = false → s.supplyLost n.val = true →
    exec (.litSample n cur drain false false) s = .next (State.finish
      ((s.put (LMP_PRV.LAST n.val) (codeMa (s.calLs n.val cur)).toNat).setPrv n.val { s.prv n.val with lastLit := some (s.calLs n.val cur), litAt := some (s.chan n.val).onAt }))) ∧
  (∀ (s : State) (n : Fin 64) (cur drain : Int) (full : Bool), s.proved n.val = true → s.litNow n.val = true → s.litDue n.val = true →
    let c := s.calLs n.val cur
    let r := (s.regulate n.val full (codeMa c)).put (LMP_PRV.LAST n.val) (codeMa c).toNat
    let u := r.setPrv n.val { r.prv n.val with lastLit := some c, litAt := some (r.chan n.val).onAt }
    let v := u.setPrv n.val { u.prv n.val with run := 0 }
    u.blanking n.val = false → u.supplyLost n.val = false → u.litCause n.val c (s.calLd n.val drain) = 0 →
    exec (.litSample n cur drain full false) s = .next (State.finish
      ((((v.finding n.val 1 false).finding n.val 2 false).finding n.val 4 false).lampPasses n.val c))) ∧
  (∀ (s : State) (n : Fin 64) (cur drain : Int) (full : Bool), s.proved n.val = true → s.litNow n.val = true → s.litDue n.val = true →
    let c := s.calLs n.val cur
    let d := s.calLd n.val drain
    let r := (s.regulate n.val full (codeMa c)).put (LMP_PRV.LAST n.val) (codeMa c).toNat
    let u := r.setPrv n.val { r.prv n.val with lastLit := some c, litAt := some (r.chan n.val).onAt }
    let why := u.litCause n.val c d
    let run := (u.prv n.val).run + 1
    let v := u.setPrv n.val { u.prv n.val with run := run }
    let w := ((v.finding n.val 1 (why = 1)).finding n.val 2 (why = 2)).finding n.val 4 (why = 4)
    u.blanking n.val = false → u.supplyLost n.val = false → why ≠ 0 →
    exec (.litSample n cur drain full false) s = .next (State.finish
      (if w.nDark n.val ≤ run then w.lampFail n.val why c d 0xFF else w))) ∧
  (∀ (s : State) (n : Fin 64) (cur drain : Int), s.litCause n.val cur drain =
      if cur < 20 * (s.get (LMP_BAND.LO n.val) : Int) then 1 else if 20 * (s.get (LMP_BAND.HI n.val) : Int) < cur then 2
      else if s.get (LMP_CH.MODE n.val) = 2 ∧ 4 * s.lvCode n.val < 5 * drain then 4 else 0) ∧
  (∀ (s u v : State) (n : Fin 64) (cur drain : Int), s.proved n.val = true → s.on (LMP_CH.HELDOFF n.val) = false →
      s.litNow n.val = true ∨ s.get (LMP_PCFG.COLD n.val) = 2 → (s.tripCode n.val : Int) < satS 16 cur →
      u = s.setChan n.val { s.chan n.val with gateUntil := s.clk.up } →
      v = (if s.litNow n.val = true then u.setPrv n.val { u.prv n.val with bad := [] } else u) →
    exec (.overcurrentTrip n cur drain) s = .next (State.finish
      ((v.lampFail n.val 3 (satS 16 cur) (satS 16 drain) 0xFF).put (LMP_CH.HELDOFF n.val) 1))) ∧
  (∀ (s u : State) (n : Fin 64) (cur drain : Int), s.proved n.val = true → s.litNow n.val = false → s.darkDue n.val = true → s.supplyLost n.val = false →
      u = s.put (LMP_PRV.LAST n.val) (codeMa (s.calLs n.val cur)).toNat →
    exec (.darkSample n cur drain) s = .next (State.finish
      ((u.setPrv n.val { s.prv n.val with
          darkAt := u.darkGrid n.val
          stuck := if 20 * (u.get (LMP_BAND.DARK n.val) : Int) < s.calLs n.val cur then (s.prv n.val).stuck + 1 else 0
          dopen := if u.drainLow n.val (s.calLd n.val drain) then (s.prv n.val).dopen + 1 else 0 }).darkJudge n.val
        (s.calLs n.val cur) (s.calLd n.val drain)))) ∧
  (∀ (s : State) (n : Fin 64) (cur drain : Int), s.proved n.val = true → s.get (LMP_PCFG.COLD n.val) ≠ 0 → (s.chan n.val).code = 0 →
      (s.chan n.val).applied = 0 → s.on (LMP_CH.HELDOFF n.val) = false → s.testPending n.val (s.get (LMP_PCFG.COLD n.val) + 1) = true →
      (s.get (LMP_PCFG.COLD n.val) = 1 → s.darkDue n.val = true) →
    exec (.coldTest n cur drain true) s = .next (State.finish
      ((s.setPrv n.val { s.prv n.val with absSince := (s.prv n.val).absSince + 1 }).inc (LMP_TCNT.ABS n.val)))) ∧
  (∀ (s : State) (n : Fin 64) (cur drain : Int), s.proved n.val = true → s.get (LMP_PCFG.COLD n.val) ≠ 0 → (s.chan n.val).code = 0 →
      (s.chan n.val).applied = 0 → s.on (LMP_CH.HELDOFF n.val) = false → s.testPending n.val (s.get (LMP_PCFG.COLD n.val) + 1) = true →
      (s.get (LMP_PCFG.COLD n.val) = 1 → s.darkDue n.val = true) → s.supplyLost n.val = true →
    exec (.coldTest n cur drain false) s = .next (State.finish (s.testDone n.val (s.get (LMP_PCFG.COLD n.val) + 1)))) ∧
  (∀ (s : State) (n : Fin 64) (cur drain : Int), s.proved n.val = true → s.get (LMP_PCFG.COLD n.val) = 1 → (s.chan n.val).code = 0 →
      (s.chan n.val).applied = 0 → s.on (LMP_CH.HELDOFF n.val) = false → s.testPending n.val 2 = true → s.darkDue n.val = true → s.supplyLost n.val = false →
    let c := s.calLs n.val cur
    let d := s.calLd n.val drain
    let icold : Int := 20 * s.get (LMP_PCFG.ICOLD n.val)
    let weak := decide (2 * c < icold)
    let x := s.prv n.val
    let cold := if weak then x.cold + 1 else 0
    let v := ((s.put (LMP_PRV.LAST n.val) (codeMa c).toNat).setPrv n.val
      { x with stuck := if 3 * icold < 2 * c then x.stuck + 1 else 0, cold := cold, darkAt := (s.put (LMP_PRV.LAST n.val) (codeMa c).toNat).darkGrid n.val }).testDone n.val 2
    let w := (v.finding n.val 7 weak).darkJudge n.val c d
    exec (.coldTest n cur drain false) s = .next (State.finish
      (if weak = true ∧ w.nDark n.val ≤ cold then w.lampFail n.val 7 c d 0xFF else w))) ∧
  (∀ (s : State) (n : Fin 64) (cur drain : Int), s.proved n.val = true → 2 ≤ s.get (LMP_PCFG.COLD n.val) → (s.chan n.val).code = 0 →
      (s.chan n.val).applied = 0 → s.on (LMP_CH.HELDOFF n.val) = false → s.testPending n.val (s.get (LMP_PCFG.COLD n.val) + 1) = true → s.supplyLost n.val = false →
    let c := s.calLs n.val cur
    let weak := decide (c < 20 * (s.get (LMP_BAND.LO n.val) : Int) ∨ 20 * (s.get (LMP_BAND.HI n.val) : Int) < c)
    let x := s.prv n.val
    let cold := if weak then x.cold + 1 else 0
    let v := ((s.put (LMP_PRV.LAST n.val) (codeMa c).toNat).setPrv n.val { x with cold := cold }).testDone n.val
      (s.get (LMP_PCFG.COLD n.val) + 1)
    let w := v.finding n.val 7 weak
    exec (.coldTest n cur drain false) s = .next (State.finish
      (if weak = true ∧ w.nDark n.val ≤ cold then w.lampFail n.val 7 c (s.calLd n.val drain) 0xFF else w))) ∧
  (∀ (s : State) (n : Fin 64) (cur drain : Int), s.proved n.val = true → (s.chan n.val).applied ≠ 0 → s.on (LMP_CH.HELDOFF n.val) = false → s.testPending n.val 1 = true →
      s.on (LMP_PCFG.NBR n.val) = false → s.supplyLost n.val = true →
    exec (.offTest n cur drain [] false) s = .next (State.finish (s.testDone n.val 1))) ∧
  (∀ (s : State) (n : Fin 64) (cur drain : Int) (nbrs : List NbrObs), s.proved n.val = true → (s.chan n.val).applied ≠ 0 →
      s.on (LMP_CH.HELDOFF n.val) = false → s.testPending n.val 1 = true → s.on (LMP_PCFG.NBR n.val) = false →
    let c := s.calLs n.val cur
    let d := s.calLd n.val drain
    let u := s.testDone n.val 1
    let stuck := decide (20 * (u.get (LMP_BAND.DARK n.val) : Int) < c) && u.drainLow n.val d
    u.supplyLost n.val = false → (u.prv n.val).lastLit = none →
    exec (.offTest n cur drain nbrs false) s = .next (State.finish
      (if stuck = true then ((u.finding n.val 6 true).finding n.val 8 false).lampFail n.val 6 c d 0xFF
       else (u.finding n.val 6 false).finding n.val 8 false))) ∧
  (∀ (s : State) (n : Fin 64) (cur drain lit : Int) (nbrs : List NbrObs), s.proved n.val = true → (s.chan n.val).applied ≠ 0 →
      s.on (LMP_CH.HELDOFF n.val) = false → s.testPending n.val 1 = true → s.on (LMP_PCFG.NBR n.val) = false →
    let c := s.calLs n.val cur
    let d := s.calLd n.val drain
    let u := s.testDone n.val 1
    let stuck := decide (20 * (u.get (LMP_BAND.DARK n.val) : Int) < c) && u.drainLow n.val d
    let frozen := decide ((c - lit).natAbs < 2) && decide ((u.get (LMP_PCFG.DRAIN n.val) : Int) * u.lvCode n.val < 100 * d)
    u.supplyLost n.val = false → (u.prv n.val).lastLit = some lit → stuck = false →
    exec (.offTest n cur drain nbrs false) s = .next (State.finish
      (if frozen = true then ((u.finding n.val 6 false).finding n.val 8 true).lampFail n.val 8 c d 0xFF
       else (u.finding n.val 6 false).finding n.val 8 false))) ∧
  (∀ (s : State) (n : Fin 64) (cur drain : Int) (nbrs : List NbrObs), s.proved n.val = true → (s.chan n.val).applied ≠ 0 →
      s.on (LMP_CH.HELDOFF n.val) = false → s.testPending n.val 1 = true →
    exec (.offTest n cur drain nbrs true) s = .next (State.finish (s.testAbsorbed n.val))) ∧
  (∀ (s u : State) (n : Fin 64) (k : Fin 4), s.proved n.val = true → s.testServes n.val (k.val + 1) = true → k.val + 1 ∉ (s.prv n.val).ovd →
      s.testLate n.val (k.val + 1) = true →
      u = (s.setPrv n.val { s.prv n.val with ovd := (s.prv n.val).ovd ++ [k.val + 1] }).ovdSync n.val →
    exec (.testOverdue n k) s = .next (State.finish
      ((u.put LMP_PEVT.OVERDUE 1).emit (srcLamp n.val) Code.TEST_OVERDUE
        (le 1 (k.val + 1) ++ le 2 (min 0xFFFF ((u.put LMP_PEVT.OVERDUE 1).testAge n.val (k.val + 1))) ++ le 2 (min 0xFFFF (s.prv n.val).absSince)))))

/-- R287, R289, R292, R293, R296, R298: bank supplies, the end of failures, test patterns, the matrix test, counts. Each
clause gives, for a command and the conditions that it names, the state that the command leaves before the consequences every
command ends with (`State.finish`, see CalmFinish). The model's choices in it: log entries 1, 3, 78, 80, 131. -/
def Obligations.LampServiceCommands : Prop :=
  (∀ (s : State) (b : Fin 4) (code : Int), 7 ∈ s.cfg.sig.secs → s.md.mode = .hold → s.on (LMP_LV.LOST b.val) = false →
      ¬ (s.calLv b.val code < 400 * (s.get (LMP_LV.THR b.val) : Int)) →
    exec (.bankSupplySample b code) s = .next (State.finish
      ((s.putSat (LMP_LV.VOLT b.val) (codeCv (s.calLv b.val code)).toNat).setBank b.val { s.bank b.val with volt := s.calLv b.val code, below := 0 }))) ∧
  (∀ (s : State) (b : Fin 4), s.on (LMP_LV.LOST b.val) = true → s.supplyBack b.val = true → (∀ n < 64, s.proved n = false) →
    exec (.bankSupplyRestored b) s = .next (State.finish
      (((((s.put (LMP_LV.LOST b.val) 0).put LMP_PSTAT.LOST (setBitOf ((s.put (LMP_LV.LOST b.val) 0).get LMP_PSTAT.LOST) b.val false)).setBank b.val
        { s.bank b.val with okSince := none }).bankRecord b.val false)))) ∧
  (∀ (s : State) (b : Fin 4), s.on (LMP_LV.LOST b.val) = true → s.supplyBack b.val = true →
    let x := s.bank b.val
    let p := s.put (LMP_LV.LOST b.val) 0
    let u := ((p.put LMP_PSTAT.LOST (setBitOf (s.get LMP_PSTAT.LOST) b.val false)).setBank b.val { x with okSince := none }).bankRecord
      b.val false
    let v := (u.bankChans b.val).foldl (fun s n => s.finding n 0x0A false) u
    exec (.bankSupplyRestored b) s = .next (State.finish
      (v.lampsRestore ((v.bankChans b.val).filter (fun n => v.lampFailed n && (v.get (LMP_PRV.CAUSE n) = 0x0A ||
        (x.lostAt ≤ (v.prv n).failAt + 20000000 && (v.prv n).failAt ≤ x.lostAt)))) 3))) ∧
  (∀ (s : State) (n : Fin 64), (s.put LMP_PCMD.CHAN n.val).clearable n.val = true →
    exec (.lampClear n) s = .next (State.finish ((s.put LMP_PCMD.CHAN n.val).lampsRestore [n.val] 2))) ∧
  (∀ (s : State), exec .lampClearAll s = .next (State.finish (s.lampsRestore ((List.range 64).filter (fun n => s.clearable n)) 2))) ∧
  (∀ (s : State) (n : Fin 64), s.lampFailed n.val = true → s.on (LMP_PCFG.AUTO n.val) = true → s.get (LMP_PRV.CAUSE n.val) ≠ 3 →
      s.get (LMP_PRV.CAUSE n.val) ≠ 6 → s.get (LMP_PRV.CAUSE n.val) ≠ 9 → (s.prv n.val).bad = [] → s.recovered n.val = true →
    exec (.autoRecovery n) s = .next (State.finish (s.lampsRestore [n.val] 1))) ∧
  (∀ (s u : State) (n : Fin 64) (h k : Nat), u = s.put LMP_PCMD.CHAN n.val → s.md.mode = .commission → s.get (LMP_CH.MODE n.val) ≠ 0 →
      s.cfg.sig.placeOf n.val = some (h, k) → (s.head h).consent = true → (∃ m ∈ s.headChans h, (s.chan m).pattern = true) →
    ∃ v : State, v = u.setDuty n.val (u.dutyAt n.val (u.headNat 8 h)) 0 ∧
      exec (.light n) s = .next (State.finish
        ((((v.setChan n.val { v.chan n.val with pattern := true }).setCode n.val 1 0).patternSync)))) ∧
  (∀ (s : State), exec .darkAll s = .next (State.finish (s.patternsEnd (List.range 64) 1))) ∧
  (∀ (s : State), s.md.mode = .commission → s.consented s.headList = true → s.matrix.left = [] →
    exec .matrix s = .next (State.finish
      (({ s with matrix := ⟨(List.range 64).filter (fun n => s.proved n), [], s.clk.up⟩ } : State).putB LMP_PSTAT.MATRIX
        ((List.range 64).filter (fun n => s.proved n) ≠ [])))) ∧
  (∀ (s : State) (n : Nat) (rest : List Nat) (drive : Int), s.matrix.left = n :: rest → s.matrix.since + 2000000 ≤ s.clk.up →
    exec (.matrixDriveStep drive []) s = .next (State.finish
      ((({ s with matrix := ⟨rest, sparseSet 0 s.matrix.coupled n 0, s.clk.up⟩ } : State).putB LMP_PSTAT.MATRIX (rest ≠ [])).matrixRecord n 0 true))) ∧
  (∀ (s : State), ∃ t : State, exec .provingClearCounts s = .next (State.finish t) ∧ t.recs = s.recs ∧
    ∀ n : Fin 64, t.get (LMP_TCNT.ABS n.val) = 0 ∧ t.get (LMP_PRV.STATE n.val) = s.get (LMP_PRV.STATE n.val)) ∧
  (∀ (s : State), exec .supClearCounts s = .next (State.finish ((s.put (SUP_LOAD.MISSED 0) 0).put (SUP_LOAD.MISSED 1) 0)))

/-- R268-R275: calibration, the converters' checks, references and user slots. Each clause gives, for a command and the
conditions that it names, the state that the command leaves before the consequences every command ends with (`State.finish`,
see CalmFinish). The model's choices in it: log entries 1, 3, 81, 131. -/
def Obligations.ConverterCommands : Prop :=
  (∀ (s u : State) (n : Fin 64) (gain ofs : Int), s.proved n.val = true → s.calWindow n.val = true → gain.natAbs ≤ 200 → ofs.natAbs ≤ 50 →
      u = s.setSup (s.proverOf (n.val / 16)) { s.sup (s.proverOf (n.val / 16)) with calAt := some s.clk.up } →
    exec (.calibrationWindow n true gain ofs) s = .next (State.finish
      ((u.setPrv n.val { s.prv n.val with calLd := some s.clk.up, badLd := false, gainLd := gain, ofsLd := ofs }).finding n.val 0x0B
        (s.prv n.val).badLs))) ∧
  (∀ (s u : State) (n : Fin 64) (gain ofs : Int), s.proved n.val = true → s.calWindow n.val = true → gain.natAbs ≤ 200 → ofs.natAbs ≤ 50 →
      u = s.setSup (s.proverOf (n.val / 16)) { s.sup (s.proverOf (n.val / 16)) with calAt := some s.clk.up } →
    exec (.calibrationWindow n false gain ofs) s = .next (State.finish
      ((((u.puti (LMP_CAL.GAIN n.val) (satS 12 gain)).puti (LMP_CAL.OFS n.val) (satS 10 ofs)).setPrv n.val
        { s.prv n.val with calLs := some s.clk.up, badLs := false }).finding n.val 0x0B (s.prv n.val).badLd))) ∧
  (∀ (s u : State) (n : Fin 64) (gain ofs : Int), s.proved n.val = true → s.calWindow n.val = true → 200 < gain.natAbs →
      (s.prv n.val).badLd = false →
      u = s.setSup (s.proverOf (n.val / 16)) { s.sup (s.proverOf (n.val / 16)) with calAt := some s.clk.up } →
    exec (.calibrationWindow n true gain ofs) s = .next (State.finish (u.setPrv n.val { s.prv n.val with badLd := true }))) ∧
  (∀ (s u : State) (c : Fin 2) (err gain ofs : Int) (rate : Nat), c.val ∈ s.supsLeft → err.natAbs ≤ 50 →
      u = ((s.puti (SUP_CAL.GAIN c.val) (satS 16 gain)).puti (SUP_CAL.OFS c.val) (satS 16 ofs)).putSat (SUP_LOAD.RATE c.val) rate →
    exec (.converterCheck c err gain ofs rate) s = .next (State.finish (u.setSup c.val { u.sup c.val with badCheck := 0 }))) ∧
  (∀ (s u : State) (c : Fin 2) (err gain ofs : Int) (rate : Nat), c.val ∈ s.supsLeft → 50 < err.natAbs → (s.sup c.val).badCheck = 1 →
      u = ((s.puti (SUP_CAL.GAIN c.val) (satS 16 gain)).puti (SUP_CAL.OFS c.val) (satS 16 ofs)).putSat (SUP_LOAD.RATE c.val) rate →
    exec (.converterCheck c err gain ofs rate) s = .next (State.finish ((u.setSup c.val { u.sup c.val with badCheck := 2 }).supFail c.val 1))) ∧
  (∀ (s : State) (c : Fin 2), exec (.converterHandshakeStall c) s = .next (State.finish (s.supFail c.val 2))) ∧
  (∀ (s : State) (c : Fin 2) (cause : Nat), s.supsLeft = [0, 1] → ∃ t : State, s.supFail c.val cause = t ∧
    t.get (SUP_STAT.STATE c.val) = 3 ∧ t.get (SUP_EVT.FAIL c.val) = 1) ∧
  (∀ (s : State) (i : Fin 512) (code : Int), (s.uslot i.val).active = true → (s.slotTrigger i.val).isSome = true →
      (s.uslot i.val).last ≠ s.slotTrigger i.val →
    exec (.userSlotTrigger i code true) s = .next (State.finish
      (((s.setUslot i.val { s.uslot i.val with last := s.slotTrigger i.val }).setSup (i.val / 256) { s.sup (i.val / 256) with skipped := (s.sup (i.val / 256)).skipped + 1 }).inc (SUP_LOAD.MISSED (i.val / 256))))) ∧
  (∀ (s : State) (i : Fin 512) (code : Int), (s.uslot i.val).active = true → (s.slotTrigger i.val).isSome = true →
      (s.uslot i.val).last ≠ s.slotTrigger i.val → s.get (SUP_STAT.STATE (i.val / 256)) = 2 → -32768 ≤ code →
      code ≤ 32767 →
    exec (.userSlotTrigger i code false) s = .next (State.finish
      (s.setUslot i.val { s.uslot i.val with
        code := s.slotCode (i.val / 256) (s.cfg.sig.nat 7 0x13 0x181 [i.val]) code, ovr := false, settling := true, last := s.slotTrigger i.val }))) ∧
  (∀ (s : State) (c : Fin 2), (s.sup c.val).skipped ≠ 0 →
      ((s.sup c.val).missAt.isSome = true → (s.sup c.val).missAt.getD 0 + 1000000000 ≤ s.clk.up) →
    exec (.supMissed c) s = .next (State.finish
      (((s.setSup c.val { s.sup c.val with skipped := 0, missAt := some s.clk.up }).put (SUP_EVT.MISS c.val) 1).emit (srcBlock 8) Code.SUP_MISSED
        (le 1 c.val ++ le 2 (min 0xFFFF (s.sup c.val).skipped))))) ∧
  (∀ (s : State) (c : Fin 2), s.get (SUP_STAT.STATE c.val) = 2 → (s.sup c.val).refAt + 2000000 ≤ s.clk.up →
    exec (.referenceSettled c) s = .next (State.finish ((s.put (SUP_STAT.STATE c.val) 1).supSync))) ∧
  (∀ (s : State) (c : Fin 2), (s.sup c.val).ref = 1 → c.val ∈ (s.putB SUP_STAT.XREF_OK false).supsLeft →
      (s.putB SUP_STAT.XREF_OK false).get (SUP_STAT.REF c.val) = 1 →
    exec (.supRef c false) s = .next (State.finish ((s.putB SUP_STAT.XREF_OK false).refChange c.val 0 2))) ∧
  (∀ (s : State) (c : Fin 2), (s.sup c.val).ref = 1 → c.val ∈ (s.putB SUP_STAT.XREF_OK true).supsLeft →
      (s.putB SUP_STAT.XREF_OK true).get (SUP_STAT.REF c.val) = 0 →
    exec (.supRef c true) s = .next (State.finish ((s.putB SUP_STAT.XREF_OK true).refChange c.val 1 3)))

/-- R302-R308, R328: test-pulse sources, inputs and pairs. Each clause gives, for a command and the conditions that it names,
the state that the command leaves before the consequences every command ends with (`State.finish`, see CalmFinish). The
model's choices in it: log entries 1, 3, 83, 132. -/
def Obligations.SafetyInputCommands : Prop :=
  (∀ (s : State) (k : Fin 4) (lo hi : Nat), s.sioLive = true → bitOf s.tpoEn k.val = true → (s.midPulse k.val).isSome = true →
      (s.tpo k.val).seen ≠ s.midPulse k.val → lo < 2000 → 15000 < hi →
    exec (.testPulse k lo hi) s = .next (State.finish
      ((s.put SIO_TPO.LEVEL (setBitOf (s.get SIO_TPO.LEVEL) k.val true)).setTpo k.val
        { s.tpo k.val with seen := s.midPulse k.val, bad := 0, good := (s.tpo k.val).good + 1 }))) ∧
  (∀ (s : State) (k : Fin 4) (lo hi : Nat), s.sioLive = true → bitOf s.tpoEn k.val = true → (s.midPulse k.val).isSome = true →
      (s.tpo k.val).seen ≠ s.midPulse k.val → 2000 ≤ lo ∨ hi ≤ 15000 → 1 ≤ (s.tpo k.val).bad →
    exec (.testPulse k lo hi) s = .next (State.finish
      (((s.put SIO_TPO.LEVEL (setBitOf (s.get SIO_TPO.LEVEL) k.val (15000 < hi))).setTpo k.val
        { s.tpo k.val with seen := s.midPulse k.val, bad := (s.tpo k.val).bad + 1, good := 0 }).tpoFail k.val
          (if 15000 < hi then 1 else 2)))) ∧
  (∀ (s : State) (k : Fin 4) (t : Nat), (s.tpo k.val).overload = some t → t + 1000000000 ≤ s.clk.up →
    exec (.tpoRetry k true) s = .next (State.finish (s.setTpo k.val { s.tpo k.val with overload := none }))) ∧
  (∀ (s : State) (k : Fin 4) (t : Nat), (s.tpo k.val).overload = some t → t + 1000000000 ≤ s.clk.up →
    exec (.tpoRetry k false) s = .next (State.finish
      ((s.setTpo k.val { s.tpo k.val with overload := some s.clk.up }).tpoFail k.val 2))) ∧
  (∀ (s u : State) (k : Fin 4), s.sioLive = true → bitOf s.tpoEn k.val = true →
      (∀ i < 32, s.get (SIO_ICFG.SRC i) ≠ k.val + 1) →
      u = s.setTpo k.val { s.tpo k.val with overload := some s.clk.up, good := 0 } →
    exec (.testPulseSourceOverload k) s = .next (State.finish
      ((u.put SIO_TPO.LEVEL (setBitOf (u.get SIO_TPO.LEVEL) k.val false)).tpoFail k.val 2))) ∧
  (∀ (s : State) (i : Fin 32) (level : Bool), s.sioLive = true → s.useOf i.val ≠ 0 → s.masked = false →
      s.on (SIO_IST.RAW i.val) ≠ level →
    exec (.inputSample i level) s = .next (State.finish
      (((s.putB (SIO_IST.RAW i.val) level).putB (SIO_IN.I i.val) level).setSin i.val
        { s.sin i.val with caps := [], rawAt := s.clk.up }))) ∧
  (∀ (s : State) (i : Fin 32) (level : Bool), s.masked = true → exec (.inputSample i level) s = .next (State.finish s)) ∧
  (∀ (s u v : State) (i : Fin 32), s.sioLive = true → s.useOf i.val ≠ 0 → s.on (SIO_IST.FILT i.val) ≠ s.on (SIO_IST.RAW i.val) →
      (s.sin i.val).rawAt + 100000 * s.get (SIO_ICFG.FILTER i.val) ≤ s.clk.up →
      u = s.putB (SIO_IST.FILT i.val) (s.on (SIO_IST.RAW i.val)) →
      v = u.setSin i.val { u.sin i.val with
        trans := u.recentTrans i.val ++ [s.clk.up]
        on := s.on (SIO_IST.RAW i.val) && ((u.sin i.val).on || u.get (SIO_ICFG.DEBOUNCE i.val) = 0)
        filtAt := s.clk.up } →
      (u.recentTrans i.val).length + 1 ≤ (v.putSat (SIO_IST.TRANS i.val) ((u.recentTrans i.val).length + 1)).get (SIO_ICFG.CHATCNT i.val) →
    exec (.inputFiltered i) s = .next (State.finish (v.putSat (SIO_IST.TRANS i.val) ((u.recentTrans i.val).length + 1)).sioEval)) ∧
  (∀ (s : State) (i : Fin 32), s.sioLive = true → s.useOf i.val ≠ 0 → s.on (SIO_IST.FILT i.val) = true → (s.sin i.val).on = false →
      (s.sin i.val).filtAt + 1000000 * s.get (SIO_ICFG.DEBOUNCE i.val) ≤ s.clk.up →
    exec (.debounceExpiry i) s = .next (State.finish (s.setSin i.val { s.sin i.val with on := true }).sioEval)) ∧
  (∀ (s u v : State) (i : Fin 32) (src : Fin 4) (level after : Bool), s.sioLive = true → s.testedIn i.val = true → bitOf s.tpoEn src.val = true →
      s.captureDue i.val src.val = true →
      u = s.setSin i.val { s.sin i.val with judged := sparseSet 0 (s.sin i.val).judged src.val ((s.maskEnd src.val).getD 0 + 1) } →
      v = u.put (SIO_IST.PATTERN i.val) (setBitOf (u.get (SIO_IST.PATTERN i.val)) src.val level) → v.on (SIO_IST.RAW i.val) ≠ after →
    exec (.inputCapture i src level after) s = .next (State.finish (v.newSample i.val after))) ∧
  (∀ (s u : State) (p : Fin 16), s.sioLive = true → s.pairUsed p.val = true → s.disagreed p.val = true →
      u = (s.put (SIO_PCFG.DISCFAULT p.val) 1).put SIO_EVT.INFAULT 1 →
    exec (.discrepancyExpiry p) s = .next (State.finish
      (u.emitAt 1 (srcInput (2 * p.val)) Code.SI_FAULT
        (le 1 4 ++ le 1 (u.get (SIO_IST.PATTERN (2 * p.val))) ++ le 1 p.val ++ le 1 0)).sioEval)) ∧
  (∀ (s : State), ∃ t : State, exec .sioClearCounts s = .next (State.finish t) ∧ t.recs = s.recs ∧ t.sio = s.sio ∧
    ∀ i : Fin 32, t.get (SIO_IST.FAULTS i.val) = 0 ∧ t.get (SIO_IST.FAULT i.val) = s.get (SIO_IST.FAULT i.val))

/-- R309-R313: outputs, their tests and their supervision. Each clause gives, for a command and the conditions that it names,
the state that the command leaves before the consequences every command ends with (`State.finish`, see CalmFinish). The
model's choices in it: log entries 1, 3, 83, 91, 94, 132. -/
def Obligations.SafetyOutputCommands : Prop :=
  (∀ (s : State) (o : Fin 8) (mv : Nat), (s.sout o.val).stage = true →
      max (s.sout o.val).switchedAt (s.sout o.val).testAt + 1000000000 * s.get (SIO_OTIM.OTINT o.val) ≤ s.clk.up → 20 ≤ mv →
    exec (.outputOffTest o mv) s = .next (State.finish
      ((s.setSout o.val { s.sout o.val with testAt := s.clk.up }).outStuck o.val mv))) ∧
  (∀ (s : State) (o : Nat) (mv : Nat), (s.sout o).stuck = false → s.outStuck o mv =
      ((s.setSout o { s.sout o with stuck := true }).put SIO_STAT.CUTOFF 0).outFault o 1 3 mv) ∧
  (∀ (s : State) (o : Fin 8) (mv : Nat), (s.sout o.val).stage = true →
      max (s.sout o.val).switchedAt (s.sout o.val).testAt + 1000000000 * s.get (SIO_OTIM.OTINT o.val) ≤ s.clk.up → mv < 20 →
    exec (.outputOffTest o mv) s = .next (State.finish (s.setSout o.val { s.sout o.val with testAt := s.clk.up }))) ∧
  (∀ (s : State) (o : Fin 8) (mv : Nat), (s.sout o.val).stage = true →
    exec (.outputReadbackSample o mv) s = .next (State.finish
      (((s.put SIO_OUT.ON (setBitOf (s.get SIO_OUT.ON) o.val (20 < mv))).putB (SIO_OCFG.ON o.val) (20 < mv)).setSout o.val
        { s.sout o.val with mv := mv }))) ∧
  (∀ (s u v : State) (o : Fin 8) (mv : Nat), (s.sout o.val).stage = false → mv < 20 →
      u = (s.put SIO_OUT.ON (setBitOf (s.get SIO_OUT.ON) o.val false)).putB (SIO_OCFG.ON o.val) false →
      v = u.setSout o.val { s.sout o.val with
            mv := mv, stuckN := 0, seen := if u.on SIO_STAT.CUTOFF then min 2 ((s.sout o.val).seen + 1) else (s.sout o.val).seen } →
    exec (.outputReadbackSample o mv) s = .next (State.finish (if v.outsChecked = true ∧ u.outsChecked = false then v.sioEval else v))) ∧
  (∀ (s u : State) (mv : List Nat) (o : Nat), s.cutDue = true → s.sio.cutFault = false →
      (List.range 8).find? (fun o => (s.sout o).stage && decide (20 ≤ mv.getD o 0)) = some o →
      u = { s with sio := { s.sio with cutAt := some s.clk.up, cutFault := true } } →
    exec (.cutoffTest mv) s = .next (State.finish
      ((u.put SIO_EVT.OUTFAULT 1).emitAt 3 srcSio Code.SO_FAULT
        (le 1 5 ++ le 2 (mv.getD o 0) ++ le 2 (min 0xFFFF (((u.put SIO_EVT.OUTFAULT 1).clk.up -
          ((u.put SIO_EVT.OUTFAULT 1).sout o).switchedAt) / 1000000)))))) ∧
  (∀ (s : State) (o : Fin 8) (mv : Nat), (s.sout o.val).stage = true → (s.sout o.val).overload = false →
    exec (.outputOverload o mv) s = .next (State.finish
      ((s.setSout o.val { s.sout o.val with overload := true }).outFault o.val 2 1 mv).sioEval)) ∧
  (∀ (s : State) (o : Fin 8) (level : Bool), s.on (SIO_OCFG.EDM o.val) = false →
    exec (.edmSample o level) s = .next (State.finish
      ((s.put SIO_EDM.LEVEL (setBitOf (s.get SIO_EDM.LEVEL) o.val level)).setSout o.val
        { s.sout o.val with edm := (level :: (s.sout o.val).edm).take 2 }))) ∧
  (∀ (s u : State) (o : Fin 8), s.on (SIO_OCFG.USE o.val) = true → s.on (SIO_OCFG.EDM o.val) = true →
      (s.sout o.val).edm.head? = some false → (s.sout o.val).stage = false → (s.sout o.val).welded = false → (s.sout o.val).edmLost = false →
      (s.sout o.val).switchedAt ≠ 0 →
      u = (s.put SIO_EDM.LEVEL (setBitOf (s.get SIO_EDM.LEVEL) o.val false)).setSout o.val
        { s.sout o.val with edm := (false :: (s.sout o.val).edm).take 2 } →
      (s.sout o.val).switchedAt + u.get (SIO_OTIM.EDMT o.val) * 1000000 ≤ s.clk.up →
    exec (.edmSample o false) s = .next (State.finish
      (((u.setSout o.val { u.sout o.val with welded := true }).outFault o.val 3 1 (s.sout o.val).mv).sioEval))) ∧
  (∀ (s u : State) (o : Fin 8), s.on (SIO_OCFG.USE o.val) = true → s.on (SIO_OCFG.EDM o.val) = true →
      (s.sout o.val).edm.head? = some true → (s.sout o.val).stage = true → (s.sout o.val).edmLost = false →
      u = (s.put SIO_EDM.LEVEL (setBitOf (s.get SIO_EDM.LEVEL) o.val true)).setSout o.val
        { s.sout o.val with edm := (true :: (s.sout o.val).edm).take 2 } →
      (s.sout o.val).switchedAt + u.get (SIO_OTIM.EDMT o.val) * 1000000 ≤ s.clk.up →
    exec (.edmSample o true) s = .next (State.finish
      ((u.setSout o.val { u.sout o.val with edmLost := true }).outFault o.val 4 2 (s.sout o.val).mv))) ∧
  (∀ (s : State) (mv : List Nat), s.cutDue = true → (∀ o < 8, (s.sout o).stage = true → mv.getD o 0 < 20) →
    exec (.cutoffTest mv) s = .next (State.finish { s with sio := { s.sio with cutAt := some s.clk.up } })) ∧
  (∀ (s : State) (kind : Fin 4) (i : Fin 32) (u : State), kind.val = 1 → i.val < 8 →
      u = (s.put SIO_CMD.KIND 1).put SIO_CMD.INDEX i.val →
    exec (.sioClear kind i) s = .next (State.finish ((u.clearOutput i.val).sioEval).sioCause)) ∧
  (∀ (s u : State),
      u = (((List.range 8).foldl (fun s o => s.clearOutput o) ((List.range 32).foldl (fun s i => s.clearInput i)
        ((List.range 4).foldl (fun s k => s.clearSource k) s))).clearBrake 0).clearBrake 1 →
    exec .sioClearAll s = .next (State.finish (({ u with sio := { u.sio with cutFault := false } } : State).sioEval).sioCause)) ∧
  (∀ (s : State) (o : Fin 8), s.md.mode ≠ .family → ((s.outEval o.val).sout o.val).stage = false) ∧
  (∀ (s : State) (o : Fin 8), s.on (SIO_OCFG.USE o.val) = true → s.md.mode = .family →
      (s.permitOff (s.get (SIO_OPERM.MASK o.val))).isSome = true → ((s.outEval o.val).sout o.val).stage = false) ∧
  (∀ (s : State) (o : Fin 8), s.outsChecked = false → (s.sout o.val).stage = false → ((s.outEval o.val).sout o.val).stage = false) ∧
  (∀ (s u v : State) (o : Fin 8) (mv : Nat), (s.sout o.val).stage = false → (s.sout o.val).stuck = false → 20 ≤ mv →
      1 ≤ (s.sout o.val).stuckN → (s.sout o.val).switchedAt + 500000 ≤ s.clk.up →
      u = (s.put SIO_OUT.ON (setBitOf (s.get SIO_OUT.ON) o.val (20 < mv))).putB (SIO_OCFG.ON o.val) (20 < mv) →
      u.on SIO_STAT.CUTOFF = true →
      v = u.setSout o.val { s.sout o.val with
            mv := mv, stuckN := (s.sout o.val).stuckN + 1, seen := min 2 ((s.sout o.val).seen + 1) } →
    exec (.outputReadbackSample o mv) s = .next (State.finish
      (((v.setSout o.val { v.sout o.val with stuck := true }).put SIO_STAT.CUTOFF 0).outFault o.val 1 3 mv)))

/-- R314-R317: brake channels, their checks and tests. Each clause gives, for a command and the conditions that it names, the
state that the command leaves before the consequences every command ends with (`State.finish`, see CalmFinish). The model's
choices in it: log entries 1, 3, 82, 83, 132. -/
def Obligations.BrakeCommands : Prop :=
  (∀ (s u : State) (k : Fin 2) (cur : Nat), s.on (SIO_BCFG.USE k.val) = true → (s.brk k.val).decay = true → s.decayed k.val = true →
      u = (s.putSat (SIO_BRK.CURRENT k.val) cur).setBrk k.val { s.brk k.val with decay := false } →
      u.released k.val = false → (s.brk k.val).notApplied = false → u.get (SIO_BCFG.APPTHR k.val) ≤ cur → (s.brk k.val).test = none →
    exec (.brakeDecayCheck k cur) s = .next (State.finish
      (((u.setBrk k.val { u.brk k.val with notApplied := true }).brkSync k.val).brkFault k.val 2 3 0xFF cur 0))) ∧
  (∀ (s u : State) (k : Fin 2) (cur : Nat), s.on (SIO_BCFG.USE k.val) = true → (s.brk k.val).decay = true → s.decayed k.val = true →
      u = (s.putSat (SIO_BRK.CURRENT k.val) cur).setBrk k.val { s.brk k.val with decay := false } →
      u.released k.val = false → cur < u.get (SIO_BCFG.APPTHR k.val) →
    exec (.brakeDecayCheck k cur) s = .next (State.finish u)) ∧
  (∀ (s u : State) (k : Fin 2) (cur : Nat), s.on (SIO_BCFG.USE k.val) = true → (s.brk k.val).decay = true → s.decayed k.val = true →
      u = (s.putSat (SIO_BRK.CURRENT k.val) cur).setBrk k.val { s.brk k.val with decay := false } →
      u.released k.val = true → 10 * u.get (SIO_BCFG.RELLO k.val) ≤ cur →
    exec (.brakeDecayCheck k cur) s = .next (State.finish u)) ∧
  (∀ (s u : State) (k : Fin 2) (hi lo : Nat), s.on (SIO_BCFG.USE k.val) = true → s.released k.val = false → (s.brk k.val).test = none →
      s.decayed k.val = true → s.sioLive = true → (s.brk k.val).swAt + 1000000000 * s.get (SIO_BCFG.SWINT k.val) ≤ s.clk.up →
      u = s.setBrk k.val { s.brk k.val with swAt := s.clk.up } → s.get (SIO_BCFG.APPTHR k.val) ≤ hi → (s.brk k.val).swStuck = 0 →
    exec (.brakeSwitchTest k hi lo) s = .next (State.finish
      (((u.setBrk k.val { u.brk k.val with swStuck := 2 }).brkFault k.val 3 2 2 (max hi lo) 0).brkSync k.val))) ∧
  (∀ (s : State) (k : Fin 2), s.brkTestMay k.val = true →
    exec (.brakeTestStart k) s = .next (State.finish
      ((s.setBrk k.val { s.brk k.val with want := false, test := some (s.clk.up, s.geti (SIO_BPOS.POS k.val), 0) }).brkSync k.val))) ∧
  (∀ (s : State) (k : Fin 2) (t0 : Nat) (p0 move : Int), (s.brk k.val).test = some (t0, p0, move) →
      t0 + 10000000 * s.get (SIO_BTIM.TESTDUR k.val) ≤ s.clk.up →
    exec (.brakeTestEnd k) s = .next (State.finish (s.brkResult k.val (move.natAbs ≤ s.get (SIO_BTIM.WINDOW k.val)) move))) ∧
  (∀ (s : State) (k : Fin 2), (s.brk k.val).fails ≠ 0 → (s.brk k.val).doneAt + 60000000000 ≤ s.clk.up → (s.setBrk k.val { s.brk k.val with want := true }).brkTestMay k.val = true →
    exec (.brakeTestRetry k) s = .next (State.finish
      ((s.setBrk k.val { s.brk k.val with want := true }).setBrk k.val
        { s.brk k.val with want := false, test := some (s.clk.up, s.geti (SIO_BPOS.POS k.val), 0) } |>.brkSync k.val))) ∧
  (∀ (s u : State) (k : Fin 2), s.on (SIO_BCFG.USE k.val) = true → (s.brk k.val).lapsed = false →
      (s.brk k.val).doneAt + 7200000000000 * s.get (SIO_BTIM.TESTINT k.val) ≤ s.clk.up →
      u = s.setBrk k.val { s.brk k.val with lapsed := true } →
    exec (.brakeTestLapsed k) s = .next (State.finish ((u.brkFault k.val 5 2 0xFF (u.get (SIO_BRK.CURRENT k.val)) 0).brkSync k.val))) ∧
  (∀ (s : State) (k : Fin 2), s.torqueOff k.val = true → s.brkCond k.val = true →
    exec (.torqueOffDelay k) s = .next (State.finish
      (((s.setBrk k.val { s.brk k.val with pend := none }).brkGates k.val true 1).brkSync k.val))) ∧
  (∀ (s u : State) (k : Fin 2), s.md.mode = .family → u = (s.put SIO_CMD.INDEX k.val).setBrk k.val { s.brk k.val with want := true } →
      u.brkTestMay k.val = false →
    exec (.brkTestRequest k) s = .next (State.finish u)) ∧
  (∀ (s u : State) (k : Fin 2), s.md.mode = .commission ∨ s.md.mode = .family →
      u = (s.put SIO_CMD.INDEX k.val).setBrk k.val { s.brk k.val with want := true } → u.brkTestMay k.val = true →
    exec (.brkTestRequest k) s = .next (State.finish
      ((u.setBrk k.val { u.brk k.val with want := false, test := some (u.clk.up, u.geti (SIO_BPOS.POS k.val), 0) }).brkSync k.val))) ∧
  (∀ (s : State) (k : Fin 2) (hi lo : Nat), s.on (SIO_BCFG.USE k.val) = true → s.released k.val = false → (s.brk k.val).test = none →
      s.decayed k.val = true → s.sioLive = true → (s.brk k.val).swAt + 1000000000 * s.get (SIO_BCFG.SWINT k.val) ≤ s.clk.up →
      hi < s.get (SIO_BCFG.APPTHR k.val) → lo < s.get (SIO_BCFG.APPTHR k.val) →
    exec (.brakeSwitchTest k hi lo) s = .next (State.finish (s.setBrk k.val { s.brk k.val with swAt := s.clk.up }))) ∧
  (∀ (s u : State) (k : Fin 2), (s.brk k.val).test = none → u = s.puti (SIO_BPOS.POS k.val) (s.geti (SIO_BPOS.POS k.val) + 1) →
    exec (.encoderEdge k 0) s = .next (State.finish
      (u.setBrk k.val { s.brk k.val with
        moves := ((s.brk k.val).moves.filter (fun q => s.clk.up ≤ q.1 + 100000000) ++
          [(s.clk.up, u.geti (SIO_BPOS.POS k.val) - 1), (s.clk.up, u.geti (SIO_BPOS.POS k.val))]) }))) ∧
  (∀ (s : State) (k : Fin 2), s.md.mode ≠ .family → s.brkCond k.val = false)

/-- R318-R324: the degraded timer, `SAFE_STOP_N`, `SAFE_OUT`, pairing. Each clause gives, for a command and the conditions
that it names, the state that the command leaves before the consequences every command ends with (`State.finish`, see
CalmFinish). The model's choices in it: log entries 1, 3, 57, 132. -/
def Obligations.SafetySequencerCommands : Prop :=
  (∀ (s : State) (t : Nat), s.sio.deg.deadline = some t → t ≤ s.clk.up → exec .degradedExpired s = .next (State.finish s.degExpire)) ∧
  (∀ (s : State) (secs t : Nat), s.sio.deg.kept = some (secs, t) → t ≤ s.clk.up → exec .degradedTimerDiscard s = .next (State.finish { s with sio := { s.sio with deg := { s.sio.deg with kept := none } } })) ∧
  (∀ (s : State), s.on SIO_STAT.SSTOP = false → exec .safeStop s = .next (State.finish
    ((({ s with pins := { s.pins with safeStopN := false } } : State).puts [(SIO_STAT.SSTOP, 1), (SIO_EVT.SAFESTOP, 1)]).emit srcSio
      Code.SAFE_STOP (le 1 1)))) ∧
  (∀ (s : State), s.on SIO_STAT.SSTOP = true → exec .safeStopRelease s = .next (State.finish
    (((({ s with pins := { s.pins with safeStopN := true } } : State).puts [(SIO_STAT.SSTOP, 0), (SIO_EVT.SAFESTOP, 1)]).clearCause 0).emitAt 0
      srcSio Code.SAFE_STOP (le 1 0)))) ∧
  (∀ (s : State), s.indication ≠ 0 → (s.sio.soAt.isSome = true → s.sio.soAt.getD 0 + 2000000000 ≤ s.clk.up) → exec .safeOutPulse s = .next (State.finish
    { s with sio := { s.sio with soShown := s.indication, soGroups := s.sio.soGroups + 1, soAt := some s.clk.up } })) ∧
  (∀ (s : State), exec .sioAck s = .next (State.finish (({ s with sio := { s.sio with indicate := false } } : State).put MOD_RESET.INDICATE 0))) ∧
  (∀ (s : State) (c i : Nat) (own peer : Bool), s.on SIO_PEER.MISMATCH = false → s.peerLate = some (c, i, own, peer) →
    exec .peerMismatch s = .next (State.finish
      (((s.put SIO_PEER.MISMATCH 1).put SIO_EVT.PEER 1).emit srcSio Code.PEER_MISMATCH (le 1 c ++ le 1 i ++ le 1 (b2n own) ++ le 1 (b2n peer)))))

/-- R350-R352: SPI frames: what is performed and answered, and what a bad frame meets. Each clause gives, for a command and
the conditions that it names, the state that the command leaves before the consequences every command ends with
(`State.finish`, see CalmFinish). The model's choices in it: log entries 1, 3, 39. -/
def Obligations.SpiCommands : Prop :=
  (∀ (s t : State) (a : Word) (n crc : Byte) (ws : List Word), s.spiAlive = true → 1 ≤ n.toNat → n.toNat ≤ 64 →
      crc8 ((0x03 : Byte) :: wordBe a ++ [n]) = crc → s.spi.waiting = none → State.readWords n.toNat a.toNat s = (.ok ws, t) →
    exec (.spiRead a n crc) s = .next (State.finish (t.spiAnswer 0x80 (ws.flatMap wordBe)))) ∧
  (∀ (s : State) (a : Word) (n crc : Byte), s.spiAlive = true → 1 ≤ n.toNat → n.toNat ≤ 64 →
      crc8 ((0x03 : Byte) :: wordBe a ++ [n]) ≠ crc →
    exec (.spiRead a n crc) s = .next (State.finish ((s.inc NET_SPI.CRC).spiAnswer 0x82 []))) ∧
  (∀ (s t : State) (a : Word) (c : Byte) (data : List Word), s.spiAlive = true → 1 ≤ data.length → data.length ≤ 64 →
      crc8 ((0x02 : Byte) :: wordBe a ++ [BitVec.ofNat 8 data.length] ++ data.flatMap wordBe) = c → s.spi.waiting = none →
      s.spiBusy = false → State.writeWords data a.toNat s = (none, t) →
    exec (.spiWrite a data c) s = .next (State.finish (t.spiAnswer 0x80 []))) ∧
  (∀ (s : State) (a : Word) (c : Byte) (data : List Word), s.spiAlive = true → 1 ≤ data.length → data.length ≤ 64 →
      crc8 ((0x02 : Byte) :: wordBe a ++ [BitVec.ofNat 8 data.length] ++ data.flatMap wordBe) ≠ c →
    exec (.spiWrite a data c) s = .next (State.finish ((s.inc NET_SPI.CRC).spiAnswer 0x82 []))) ∧
  (∀ (s : State) (a : Word) (c : Byte) (data : List Word), s.spiAlive = true → (data = [] ∨ 64 < data.length) →
    exec (.spiWrite a data c) s = .next (State.finish ((s.inc NET_SPI.BADCMD).spiAnswer 0x84 []))) ∧
  (∀ (s u : State) (b : List Byte) (c : Byte), s.spiAlive = true → 1 ≤ b.length → b.length ≤ 1024 →
      crc8 ((0x0B : Byte) :: be 2 b.length ++ b) = c → s.spi.waiting = none → s.spiBusy = false → s.md.mode ≠ .reset → s.md.mode ≠ .boot →
      u = ({ s with cls := { s.cls with reply := [] } } : State).puts [(CLS_RSTAT.STATE, 1), (CLS_RSTAT.RESULT, 0), (CLS_RSTAT.LEN, 0)] →
    exec (.spiEnvelope b c) s = .next (State.finish ((u.takeEnvelope ⟨b, 1, [], 0, 0⟩).spiAnswer 0x80 []))) ∧
  (∀ (s : State) (b : List Byte) (c : Byte), s.spiAlive = true → 1 ≤ b.length → b.length ≤ 1024 →
      crc8 ((0x0B : Byte) :: be 2 b.length ++ b) ≠ c →
    exec (.spiEnvelope b c) s = .next (State.finish ((s.inc NET_SPI.CRC).spiAnswer 0x82 []))) ∧
  (∀ (s : State), exec .spiFrameAbort s = .next (State.finish s)) ∧
  (∀ (s : State) (cmd : Byte), s.spiAlive = true → cmd ≠ 0x02 → cmd ≠ 0x03 → cmd ≠ 0x0B →
    exec (.spiUnknownCommand cmd) s = .next (State.finish ((s.inc NET_SPI.BADCMD).spiAnswer 0x84 [])))

/-- R329, R330, R335, R336, R358: ports, redundancy, address services, counts. Each clause gives, for a command and the
conditions that it names, the state that the command leaves before the consequences every command ends with (`State.finish`,
see CalmFinish). The model's choices in it: log entries 1, 3, 33, 61, 126, 133. -/
def Obligations.PortCommands : Prop :=
  (∀ (s u : State) (p : Fin 2) (cause : Fin 4), s.linkUp p.val = true →
      (cause = 3 → s.cfg.net.nat 10 0 (0x041 + p.val) [] = 2) →
      u = s.puts [(NET_STAT.LINK p.val, 0), (NET_LINK.UP p.val, 0), (NET_LINK.CAUSE p.val, cause.val + 1),
        (NET_LINK.LOS p.val, b2n (cause.val + 1 = 1)), (NET_LINK.MOD_ABS p.val, b2n (cause.val + 1 = 2)), (NET_EVT.LINKDN, 1)] →
    exec (.linkDown p cause) s = .next (State.finish
      (u.emit (srcPort p.val) Code.LINK_DOWN (le 1 (cause.val + 1) ++ le 1 (b2n (u.linkUp (1 - p.val))))))) ∧
  (∀ (s : State) (p : Fin 2), s.linkUp p.val = false → s.on (NET_LINK.TX_DIS p.val) = false →
    exec (.linkUp p) s = .next (State.finish
      ((s.puts [(NET_STAT.LINK p.val, 1), (NET_LINK.UP p.val, 1), (NET_LINK.LOS p.val, 0), (NET_LINK.MOD_ABS p.val, 0), (NET_EVT.LINKUP, 1)]).emit
        (srcPort p.val) Code.LINK_UP (le 1 (s.cfg.net.nat 10 0 (0x041 + p.val) [] + 1))))) ∧
  (∀ (s : State), s.prp = true → s.linkUp 0 = true ∨ s.linkUp 1 = true →
      (∀ t, s.net.supAt = some t → t + 2000000000 ≤ s.clk.up) →
    exec .prpSupervision s = .next (State.finish (({ s with net := { s.net with supAt := some s.clk.up } } : State).send 0 [] 0 []))) ∧
  (∀ (s : State) (cls port : Nat) (addr body : List Byte), cls ≠ 1 → s.prp = true →
    (s.send cls addr port body).net.sent = ⟨cls, addr, port, body, [0, 1].filter (fun p => s.linkUp p), some s.net.prpSeq⟩ :: s.net.sent ∧
    (s.send cls addr port body).net.prpSeq = (s.net.prpSeq + 1) % 65536) ∧
  (∀ (s : State) (cls port : Nat) (addr body : List Byte), cls ≠ 1 → s.prp = false →
    (s.send cls addr port body).net.sent = ⟨cls, addr, port, body, [0].filter (fun p => s.linkUp p), none⟩ :: s.net.sent) ∧
  (∀ (s : State) (c : Carrier) (payload target : List Byte), c.port = 0 → c.full = false → s.linkUp 0 = true → s.prp = false → target ∈ s.ownAddrs →
    exec (.arpIcmpNdRequest c 1 target payload) s = .next (State.finish ((s.inc (NET_RX.COUNT 0)).send 3 c.addr 0 payload))) ∧
  (∀ (s : State) (c : Carrier) (payload target : List Byte), c.port = 0 → c.full = false → s.linkUp 0 = true → s.prp = false → target ∈ s.ownAddrs →
      target.length = 4 →
    exec (.arpIcmpNdRequest c 0 target payload) s = .next (State.finish ((s.inc (NET_RX.COUNT 0)).send 3 c.addr 0 s.macAddr))) ∧
  (∀ (s : State), exec .netClearCounts s = .next (State.finish
    (s.puts [(NET_STAT.UNKNOWN, 0), (NET_RX.COUNT 0, 0), (NET_RX.COUNT 1, 0), (NET_DROP.COUNT 0, 0), (NET_DROP.COUNT 1, 0),
      (NET_DUP.COUNT, 0), (NET_TXDROP.COUNT, 0), (NET_SPI.CRC, 0), (NET_SPI.BUSY, 0), (NET_SPI.BADCMD, 0)]))) ∧
  (∀ (s : State) (c : Carrier), s.linkUp c.port.val = true → c.full = true →
    s.netRx c = (false, (s.inc (NET_RX.COUNT c.port.val)).inc (NET_DROP.COUNT c.port.val))) ∧
  (∀ (s : State) (c : Carrier) (q : Nat), s.linkUp c.port.val = true → s.prp = true → c.trailer = some q →
      (∃ e ∈ s.net.seen, e.1 = c.mac ∧ e.2.1 = q ∧ s.clk.up < e.2.2 + 400000000) → (s.netRx c).1 = false)

/-- R331-R334: device time. Each clause gives, for a command and the conditions that it names, the state that the command
leaves before the consequences every command ends with (`State.finish`, see CalmFinish). The model's choices in it: log
entries 1, 2, 3, 34, 109, 133. -/
def Obligations.DeviceTimeCommands : Prop :=
  (∀ (s : State) (b : List Byte) (fu : Option (List Byte)) (t1 : Int), s.ptpPort = some 0 → syncOrigin b fu = some t1 → s.ofMaster b = true →
    exec (.ptpSync b fu) s = .next (State.finish ((s.inc (NET_RX.COUNT 0)).servo t1))) ∧
  (∀ (s u : State) (t1 θ : Int), s.get NET_TSTAT.STATE = 0 → θ = (s.clk.dev : Int) - t1 - s.ts.delay →
      u = ({ s.puti NET_OFS.OFS (satS 32 θ) with
        ts := { s.ts with ofs := θ, sync := some (t1, s.clk.dev),
                          inSince := if θ.natAbs ≤ 1000 then s.ts.inSince.or (some s.clk.up) else none } } : State) →
    s.servo t1 = ((u.timeStep (-θ) true).put NET_TSTAT.VALID 1).timeState 1) ∧
  (∀ (s u : State) (t1 θ : Int), s.get NET_TSTAT.STATE = 1 → θ = (s.clk.dev : Int) - t1 - s.ts.delay → θ.natAbs ≤ s.stepThreshold →
      u = ({ s.puti NET_OFS.OFS (satS 32 θ) with
        ts := { s.ts with ofs := θ, sync := some (t1, s.clk.dev),
                          inSince := if θ.natAbs ≤ 1000 then s.ts.inSince.or (some s.clk.up) else none } } : State) →
    s.servo t1 = { u with ts := { u.ts with slew := -θ, out := 0 } }) ∧
  (∀ (b : List Byte) (fu : Option (List Byte)), ofBe (slice b 6 1) / 2 % 2 = 0 →
    syncOrigin b fu = some (ptpTime (slice b 34 10) + ptpCorr b)) ∧
  (∀ (b u : List Byte), ofBe (slice b 6 1) / 2 % 2 = 1 → ptpSender u = ptpSender b → ptpSeqNo u = ptpSeqNo b →
    syncOrigin b (some u) = some (ptpTime (slice u 34 10) + ptpCorr b + ptpCorr u)) ∧
  (∀ (s : State) (b : List Byte), s.ptpPort = some 0 → b.length = 64 → ofBe (slice b 4 1) = s.cfg.net.nat 10 0 0x050 [] →
    exec (.announce b) s = .next (State.finish
      (({ s.inc (NET_RX.COUNT 0) with ts := { s.ts with
          masters := announced s.clk.up b ::
            s.ts.masters.filter (fun m => m.ident ≠ (announced s.clk.up b).ident) } } : State).choose))) ∧
  (∀ (s u : State) (m : Master) (ferr : Nat), s.ts.chosen = some m → m.heard + 3 * ptpInterval m.every ≤ s.clk.up →
      (∀ x ∈ s.ts.masters, x.heard + 3 * ptpInterval x.every ≤ s.clk.up) → s.get NET_TSTAT.STATE = 2 →
      u = ({ s.put NET_TSTAT.TAI 0 with
        ts := { s.ts with masters := [], chosen := none, lostAt := s.clk.up, ferr := ferr, out := 0,
                          reqEvery := none, inSince := none } } : State) →
    exec (.announceTimeout ferr) s = .next (State.finish
      (u.timeState (if s.get PRB_STAT.PPS_IN = 2 ∧ s.get PRB_PPS.MODE = 2 then 3 else 4)))) ∧
  (∀ (s u : State), s.ptpPort.isSome = true → s.ts.chosen.isSome = true →
      (∀ t k, s.ts.reqUp = some t → s.ts.reqEvery = some k → t + ptpInterval k ≤ s.clk.up) →
      u = s.send 1 (if s.get NET_CFG.PTPUDP = 1 then [224, 0, 1, 129] else []) (if s.get NET_CFG.PTPUDP = 1 then 319 else 0) s.delayReqBytes →
    exec .delayReq s = .next (State.finish
      { u with ts := { u.ts with reqAt := some s.clk.dev, reqSeq := (s.ts.reqSeq + 1) % 65536, reqUp := some s.clk.up } })) ∧
  (∀ (s : State) (b : List Byte) (t1 t2 t3 d : Int), s.ptpPort = some 0 → s.ofMaster b = true → slice b 44 10 = s.ptpIdent →
      (ptpSeqNo b + 1) % 65536 = s.ts.reqSeq → s.ts.sync = some (t1, t2) → s.ts.reqAt = some t3 →
      d = ((t2 - t1) + (ptpTime (slice b 34 10) - ptpCorr b - t3)) / 2 →
    exec (.delayResp b) s = .next (State.finish
      { (s.inc (NET_RX.COUNT 0)).putSat NET_PDELAY.DELAY d.toNat with
        ts := { s.ts with delay := d, reqAt := none, reqEvery := some (ofBe (slice b 33 1)) } })) ∧
  (∀ (ns : Nat), ns < 2 ^ 48 * 1000000000 → ptpTime (ptpStamp ns) = ns) ∧
  (∀ (s : State), s.get NET_TSTAT.STATE = 1 → s.ts.chosen.isSome = true →
      (∃ t, s.ts.inSince = some t ∧ t + 10000000000 ≤ s.clk.up) →
    exec .timeLocked s = .next (State.finish (({ s with ts := { s.ts with out := 0 } } : State).timeState 2))) ∧
  (∀ (s : State) (d : Int) (first : Bool), (s.timeStep d first).clk.dev = ((s.clk.dev : Int) + d).toNat ∧
    (s.timeStep d first).clk.bornak = s.clk.bornak)

/-- R339-R348, R355: the safe transport; a DATA frame that is dropped because its consumer is not synchronised or its sequence
is old, one whose gap resynchronises, and one that is accepted. Each clause gives, for a command and the conditions that it
names, the state that the command leaves before the consequences every command ends with (`State.finish`, see CalmFinish). The
model's choices in it: log entries 1, 3, 4, 60, 62, 74, 133. -/
def Obligations.BornakCommands : Prop :=
  (∀ (s : State) (k : Carrier) (b : List Byte), k.port = 0 → k.full = false → s.linkUp 0 = true → s.prp = false → s.lnk.absent = false → b.length < 22 →
    exec (.bornakData k b) s = .next (State.finish ((s.inc (NET_RX.COUNT 0)).bnkUnknown (zeros 8))) ∧
    exec (.bornakReq k b) s = .next (State.finish ((s.inc (NET_RX.COUNT 0)).bnkUnknown (zeros 8))) ∧
    exec (.bornakAck k b) s = .next (State.finish ((s.inc (NET_RX.COUNT 0)).bnkUnknown (zeros 8)))) ∧
  (∀ (s u : State) (k : Carrier) (b : List Byte) (c : Nat), k.port = 0 → k.full = false → s.linkUp 0 = true → s.prp = false → s.lnk.absent = false →
      s.cfg.sig.connList.find? (fun c => s.cfg.sig.connNat 1 c % 2 ^ 62 = beAt b 0 8 % 2 ^ 62) = some c → beAt b 0 8 / 2 ^ 62 = 0 →
      s.cfg.sig.connKey c = none → b.length = 22 + s.cfg.sig.lrx c → beAt b (18 + s.cfg.sig.lrx c) 4 = crc32c (b.take (18 + s.cfg.sig.lrx c)) →
      u = (s.inc (NET_RX.COUNT 0)).bnkDue c →
    exec (.bornakData k b) s = .next (State.finish (u.bnkData c (beAt b 8 4) (beAt b 12 6) (slice b 18 (s.cfg.sig.lrx c))))) ∧
  (∀ (s u : State) (k : Carrier) (b : List Byte) (c : Nat), k.port = 0 → k.full = false → s.linkUp 0 = true → s.prp = false → s.lnk.absent = false →
      s.cfg.sig.connList.find? (fun c => s.cfg.sig.connNat 1 c % 2 ^ 62 = beAt b 0 8 % 2 ^ 62) = some c → beAt b 0 8 / 2 ^ 62 = 2 →
      s.cfg.sig.connKey c = none → b.length = 30 → beAt b 26 4 = crc32c (b.take 26) → u = (s.inc (NET_RX.COUNT 0)).bnkDue c →
    exec (.bornakReq k b) s = .next (State.finish (u.bnkReq c (slice b 18 8)))) ∧
  (∀ (s u : State) (k : Carrier) (b : List Byte) (c : Nat), k.port = 0 → k.full = false → s.linkUp 0 = true → s.prp = false → s.lnk.absent = false →
      s.cfg.sig.connList.find? (fun c => s.cfg.sig.connNat 1 c % 2 ^ 62 = beAt b 0 8 % 2 ^ 62) = some c → beAt b 0 8 / 2 ^ 62 = 3 →
      s.cfg.sig.connKey c = none → b.length = 30 → beAt b 26 4 = crc32c (b.take 26) → u = (s.inc (NET_RX.COUNT 0)).bnkDue c →
    exec (.bornakAck k b) s = .next (State.finish (u.bnkAck c (beAt b 8 4) (beAt b 12 6) (slice b 18 8)))) ∧
  (∀ (s : State) (c : Fin 64), (s.conn c.val).state ≠ 0 → s.lnk.absent = false →
      (∀ t, (s.conn c.val).reqAt = some t → t + s.te c.val / 2 ≤ s.clk.bornak) →
    exec (.bornakReqSend c) s = .next (State.finish
      ((s.setConn c.val { s.conn c.val with reqNo := ((s.conn c.val).reqNo + 1) % 2 ^ 32, reqAt := some s.clk.bornak }).connSend c.val 2
        (be 4 (s.conn c.val).reqNo ++ zeros 4)))) ∧
  (∀ (s : State) (c : Fin 64), (s.conn c.val).state ≠ 0 → s.lnk.absent = false →
      (∀ t, (s.conn c.val).txAt = some t → t + s.cfg.sig.connNat 6 c.val * 1000000 ≤ s.clk.up ∨
        t + 1000000 ≤ s.clk.up ∧ s.txPayload c.val ≠ (s.conn c.val).txLast) →
    exec (.bornakDataSend c) s = .next (State.finish
      ((s.setConn c.val { s.conn c.val with txAt := some s.clk.up, txLast := s.txPayload c.val }).connSend c.val 0 (s.txPayload c.val)))) ∧
  (∀ (s : State) (c : Fin 64), (s.conn c.val).state = 3 → s.dataExpired c.val = true →
    exec (.bornakExpiry c) s = .next (State.finish (s.bnkState c.val 1 3))) ∧
  (∀ (s : State) (c : Fin 64), (s.conn c.val).state = 2 → (s.conn c.val).tq + s.te c.val < s.clk.bornak →
    exec (.bornakWaitTimeout c) s = .next (State.finish (s.bnkState c.val 1 5))) ∧
  (∀ (s : State) (c : Fin 64), (∃ n ∈ (s.conn c.val).win, n ≠ 0) →
      (∀ t, (s.conn c.val).errAt = some t → t + 1000000000 ≤ s.clk.up) →
    exec (.bnkErrors c) s = .next (State.finish
      (((s.setConn c.val { s.conn c.val with win := [0, 0, 0, 0, 0], errAt := some s.clk.up }).put BNK_EVT.ERRORS 1).emit (srcConn c.val) Code.BNK_ERRORS
        ((s.conn c.val).win.flatMap (fun n => le 2 (min 0xFFFF n)))))) ∧
  (∀ (s : State), ∃ t : State, exec .bnkClearCounts s = .next (State.finish t) ∧ t.regs = s.regs ∧ t.recs = s.recs ∧
    ∀ c : Fin 64, (t.conn c.val).crc = 0 ∧ (t.conn c.val).tag = 0 ∧ (t.conn c.val).stale = 0 ∧ (t.conn c.val).late = 0 ∧
      (t.conn c.val).gaps = 0 ∧ (t.conn c.val).resyncs = 0 ∧ (t.conn c.val).state = (s.conn c.val).state ∧
      (t.conn c.val).seq = (s.conn c.val).seq) ∧
  (∀ (s : State) (c seq time : Nat) (payload : List Byte), (s.conn c).state < 2 → s.bnkData c seq time payload = s.bnkStale c) ∧
  (∀ (s : State) (c seq time d : Nat) (payload : List Byte), d = (seq + 2 ^ 32 - (s.conn c).q % 2 ^ 32) % 2 ^ 32 → 2 ≤ (s.conn c).state →
      (d = 0 ∨ 2 ^ 31 ≤ d) → s.bnkData c seq time payload = s.bnkStale c) ∧
  (∀ (s : State) (c seq time d : Nat) (payload : List Byte), d = (seq + 2 ^ 32 - (s.conn c).q % 2 ^ 32) % 2 ^ 32 → 2 ≤ (s.conn c).state →
      0 < d → d < 2 ^ 31 → s.cfg.sig.connNat 7 c < d → s.bnkData c seq time payload = s.bnkState c 1 4) ∧
  (∀ (s u : State) (c seq time d : Nat) (payload : List Byte) (x : Conn), d = (seq + 2 ^ 32 - (s.conn c).q % 2 ^ 32) % 2 ^ 32 →
      2 ≤ (s.conn c).state → 0 < d → d < 2 ^ 31 → d ≤ s.cfg.sig.connNat 7 c → s.senderOfs c time < 2 ^ 47 →
      s.age100 c (s.senderOfs c time) ≤ (s.te c : Int) * 100 →
      x = { s.conn c with q := seq, data := some (time, payload), gaps := (s.conn c).gaps + (d - 1) }.bump 3 (d - 1) →
      u = (s.setConn c x).bnkState c 3 2 → u.isPeer c = false →
    s.bnkData c seq time payload = u.applyItems c (some payload))

/-- R337, R338, R354: records read over SPI, data streams, management datagrams. Each clause gives, for a command and the
conditions that it names, the state that the command leaves before the consequences every command ends with (`State.finish`,
see CalmFinish). The model's choices in it: log entries 1, 3, 39, 54, 55, 108. -/
def Obligations.StreamCommands : Prop :=
  (∀ (s : State) (q : QRec) (qs : List QRec), s.md.mode ≠ .reset → s.cls.rom = false → s.spiWaiting = q :: qs → s.recs.spiWord < 7 →
    exec .recordDataRead s = .next (State.finish { s with recs := { s.recs with spiWord := (s.recs.spiWord + 1) % 8 } })) ∧
  (∀ (s : State) (q : QRec) (qs : List QRec), s.md.mode ≠ .reset → s.cls.rom = false → s.spiWaiting = q :: qs → s.recs.spiWord = 7 →
    exec .recordDataRead s = .next (State.finish ({ s with recs := { s.recs with spiWord := 0 } } : State).spiTake)) ∧
  (∀ (s : State) (d : Fin 4) (p : Fin 8) (f : Fin 2) (z : Fin 256) (j : Fin 8) (first count : Nat) (late : Bool), p.val ≠ 0 →
      s.receives d.val (p.val + 1) = true → ((s.product (p.val + 1) f.val z.val j.val).elems.drop first).take count ≠ [] →
      28 + ((s.product (p.val + 1) f.val z.val j.val).head ++
        (((s.product (p.val + 1) f.val z.val j.val).elems.drop first).take count).flatten).length ≤
          s.maxPayload ((s.cfg.net.bytes 10 0x1B 0x081 [d.val]).getD []) →
    let x := s.product (p.val + 1) f.val z.val j.val
    let es := (x.elems.drop first).take count
    exec (.dataStreamSend d p f z j first count late) s = .next (State.finish
      (if late = true ∨ s.canSend = false then s.streamDrop d.val (p.val + 1)
       else s.streamSend d.val (p.val + 1) (x.streamHead s.clk.dev first es.length) (x.head ++ es.flatten)))) ∧
  (∀ (s : State) (d : Fin 4) (f : Fin 2) (z : Fin 256) (j : Fin 8) (first count : Nat) (late : Bool), s.receives d.val 1 = true →
    exec (.dataStreamSend d 0 f z j first count late) s = .next (State.finish (s.recordsSend d.val count))) ∧
  (∀ (s t : State) (k : Carrier) (b : List Byte) (ws : List Word), k.port = 0 → k.full = false → s.linkUp 0 = true → s.prp = false → b.length = 16 →
      beAt b 0 2 = 0x4B4D → beAt b 2 1 = 1 → beAt b 3 1 = 1 → s.cfg.net.nat 10 0 0x04E [] = 1 → 1 ≤ beAt (b.drop 8) 4 1 →
      beAt (b.drop 8) 4 1 ≤ 64 → State.readWords (beAt (b.drop 8) 4 1) (beAt (b.drop 8) 0 4) (s.inc (NET_RX.COUNT 0)) = (.ok ws, t) →
    exec (.mgmtRead k b) s = .next (State.finish (t.readReply k (beAt b 4 4) 0x80 ws))) ∧
  (∀ (s u : State) (k : Carrier) (b : List Byte), k.port = 0 → k.full = false → s.linkUp 0 = true → s.prp = false → 9 ≤ b.length → b.length ≤ 1032 →
      beAt b 0 2 = 0x4B4D → beAt b 2 1 = 1 → beAt b 3 1 = 0x0B → u = s.inc (NET_RX.COUNT 0) → u.netBusy = false →
    exec (.mgmtEnvelope k b) s = .next (State.finish (u.takeEnvelope ⟨b.drop 8, 2, k.addr, k.uport, beAt b 4 4⟩))) ∧
  (∀ (s : State) (k : Carrier) (b : List Byte), k.port = 0 → k.full = false → s.linkUp 0 = true → s.prp = false → b.length < 8 →
    exec (.mgmtEnvelope k b) s = .next (State.finish ((s.inc (NET_RX.COUNT 0)).mgmtBad k 1)) ∧
    exec (.mgmtRead k b) s = .next (State.finish ((s.inc (NET_RX.COUNT 0)).mgmtBad k 1)))

/-- R368-R370: seals of the network chains and of the SPI path, and their reading. Each clause gives, for a command and the
conditions that it names, the state that the command leaves before the consequences every command ends with (`State.finish`,
see CalmFinish). The model's choices in it: log entries 1, 3, 14, 54, 134. -/
def Obligations.SealCommands : Prop :=
  (∀ (s : State), s.md.mode ≠ .reset → s.cls.rom = false → ¬ (s.md.mode = .boot) →
    exec (.sealDataRead 0) s = .next (State.finish
      { s with spi := { s.spi with sealLatch := some (s.clk.up, s.spi.sealNow) } })) ∧
  (∀ (s : State) (t : Nat) (b : List Byte), s.md.mode ≠ .reset → s.cls.rom = false → ¬ (s.md.mode = .boot) → s.spi.sealLatch = some (t, b) →
      s.clk.up < t + 100000000 →
    exec (.sealDataRead 55) s = .next (State.finish { s with spi := { s.spi with sealLatch := none } })) ∧
  (∀ (s : State) (i : Fin 56) (t : Nat) (b : List Byte), i ≠ 0 → i ≠ 55 → s.md.mode ≠ .reset → s.cls.rom = false → ¬ (s.md.mode = .boot) →
      s.spi.sealLatch = some (t, b) → s.clk.up < t + 100000000 →
    exec (.sealDataRead i) s = .next (State.finish s) ∧
    (s.readWord (CLS_SEAL_D i.val)).1 = some (BitVec.ofNat 32 (ofBe (slice b (4 * i.val) 4)))) ∧
  (∀ (s : State) (d : Fin 4), s.receives d.val 9 = true → s.canSend = true → s.cls.deciding = none → s.second = s.sealedTo d.val + 1 →
    exec (.chainSeal d) s = .next (State.finish ((s.sealMark d.val s.second).netSeal d.val))) ∧
  (∀ (s : State) (d : Fin 4), s.receives d.val 9 = true → s.canSend = true → s.cls.deciding = none → s.sealedTo d.val + 2 ≤ s.second →
    exec (.chainSeal d) s = .next (State.finish
      ((((s.sealMark d.val (s.sealedTo d.val + 1)).put CLS_EVT.SEALLATE 1).emit srcCloister Code.CLS_SEAL_LATE
        (le 1 1 ++ le 8 ((s.sealedTo d.val + 1) * 1000000000)))))) ∧
  (∀ (s : State) (d : Fin 4), s.receives d.val 9 = true → s.canSend = false → s.cls.deciding = none → s.sealedTo d.val < s.second →
    exec (.chainSeal d) s = .next (State.finish (s.sealMark d.val s.second))) ∧
  (∀ (s : State) (d : Fin 4), (s.cls.deciding.isSome ∨ s.second ≤ s.sealedTo d.val) →
    exec (.chainSeal d) s = .next (State.finish s)) ∧
  (∀ (s : State), s.md.mode = .hold → s.cls.deciding = none → s.spi.sealAt + 1000000000 ≤ s.clk.up → s.clk.up < s.spi.sealAt + 2000000000 →
    exec .spiSeal s = .next (State.finish
      ({ s with spi := { s.spi with sealAt := s.spi.sealAt + 1000000000 } } : State).spiSealNow)) ∧
  (∀ (s : State), s.md.mode = .hold → s.cls.deciding = none → s.spi.sealAt + 2000000000 ≤ s.clk.up →
    exec .spiSeal s = .next (State.finish
      ((({ s with spi := { s.spi with sealAt := s.spi.sealAt + 1000000000 } } : State).put CLS_EVT.SEALLATE 1).emit srcCloister
        Code.CLS_SEAL_LATE (le 1 2 ++ le 8 (s.clk.dev - (s.clk.up - (s.spi.sealAt + 1000000000))))))) ∧
  (∀ (s : State), (s.cls.deciding.isSome ∨ s.clk.up < s.spi.sealAt + 1000000000) → exec .spiSeal s = .next (State.finish s)) ∧
  (∀ (s : State), s.spiSealNow.spi.chain.count = 0 ∧ s.spiSealNow.spi.chain.before = s.spi.chain.c ∧
    s.spiSealNow.spi.taken = s.spi.taken + s.spi.chain.count)

/-- R362-R367: the decision of the envelope before the Cloister; a refusal performs none of its operations. Each clause gives,
for a command and the conditions that it names, the state that the command leaves before the consequences every command ends
with (`State.finish`, see CalmFinish). The model's choices in it: log entries 1, 3, 14, 43. -/
def Obligations.EnvelopeCommands : Prop :=
  (∀ (s t : State) (e : Envelope) (x : Decision) (o : PlanObs), s.cls.deciding = some e →
      s.decideEnvelope e o = (x, t) → t.md.mode ≠ .reset →
    exec (.envelopeDecided o) s = .next (State.finish
      (((({ t with cls := { t.cls with deciding := t.cls.waits.head?, waits := t.cls.waits.drop 1, result := x.result, data := x.data } } :
          State).giveReply e x.result
            (({ t with cls := { t.cls with deciding := t.cls.waits.head?, waits := t.cls.waits.drop 1, result := x.result, data := x.data } } :
              State).replyBytes e x)).decisionRecord e x)))) ∧
  (∀ (s : State) (e : Envelope) (o : PlanObs), envelopeOps e.bytes = none →
    s.decideEnvelope e o = (⟨1, 0xFF, [], false, 0⟩, s)) ∧
  (∀ (s : State) (e : Envelope) (o : PlanObs) (ops : List EnvOp), envelopeOps e.bytes = some ops →
      slice e.bytes 12 16 ≠ s.uid → s.decideEnvelope e o = (⟨2, 0xFF, [], false, 0⟩, s)) ∧
  (∀ (s : State) (e : Envelope) (o : PlanObs) (ops : List EnvOp), envelopeOps e.bytes = some ops →
      slice e.bytes 12 16 = s.uid → s.signer (beAt e.bytes 3 1) ops = none →
    s.decideEnvelope e o = (⟨3, 0xFF, [], false, 0⟩, s)) ∧
  (∀ (s : State) (e : Envelope) (o : PlanObs) (ops : List EnvOp) (key : List Byte) (n : Nat),
      envelopeOps e.bytes = some ops → slice e.bytes 12 16 = s.uid → s.signer (beAt e.bytes 3 1) ops = some key →
      n = beAt e.bytes 38 2 → beAt e.bytes 28 8 ≤ s.replayOf (beAt e.bytes 3 1) →
    s.decideEnvelope e o =
      (if keyId key ≠ slice e.bytes 4 8 then (⟨3, 0xFF, [], false, 0⟩, s)
       else if Config.ecdsaVerify key (Config.sha384 (e.bytes.take (40 + n))) (slice e.bytes (40 + n) 48) (slice e.bytes (88 + n) 48) = false
         then (⟨4, 0xFF, [], false, 0⟩, s)
       else (⟨5, 0xFF, [], false, 0⟩, s)))

/-- R359-R361, R363, R364, R371, R376: the operations of an envelope for a role that step 6 has passed. Each clause gives, for
a command and the conditions that it names, the state that the command leaves before the consequences every command ends with
(`State.finish`, see CalmFinish). The model's choices in it: log entries 1, 3, 12, 68, 69, 70. -/
def Obligations.OperationCommands : Prop :=
  (∀ (s t : State) (a v : Word) (o : PlanObs), regAccess a.toNat ≠ some .sig → s.writeWord a.toNat v = (true, t) →
    exec (.signedWrite 0 a v o) s = .next (State.finish { t with cls := { t.cls with result := 0, data := [] } })) ∧
  (∀ (s : State) (a v : Word) (o : PlanObs),
    exec (.signedWrite 3 a v o) s = .next (State.finish { s with cls := { s.cls with result := 6, data := [] } })) ∧
  (∀ (s t : State) (role : Fin 4) (a : Word) (n : Fin 64) (ws : List Word), State.readWords (n.val + 1) a.toNat s = (.ok ws, t) →
    exec (.signedRead role a n) s = .next (State.finish { t with cls := { t.cls with result := 0, data := ws.flatMap wordBe } })) ∧
  (∀ (s t : State) (role : Fin 4) (k : List Byte), s.cls.lc = 2 → s.roleKey (role.val + 1) ≠ some k →
      t = (s.setReplay (role.val + 1) 0).putKey (role.val + 1) (some k) →
    exec (.keySet 0 role (some k)) s = .next (State.finish { t with cls := { t.cls with result := 0, data := [] } })) ∧
  (∀ (s t : State) (role : Fin 4), s.cls.lc = 2 → role ≠ 0 → t = (s.setReplay (role.val + 1) 0).putKey (role.val + 1) none →
    exec (.keySet 0 role none) s = .next (State.finish { t with cls := { t.cls with result := 0, data := [] } })) ∧
  (∀ (s t : State) (k : List Byte), s.cls.lc = 1 →
      t = (({ s.putKey 1 (some k) with cls := { (s.putKey 1 (some k)).cls with lc := 2 } } : State).lifecycleRecord 1 2 2) →
    exec (.keySet 0 0 (some k)) s = .next (State.finish { t with cls := { t.cls with result := 0, data := [] } })) ∧
  (∀ (s : State) (signer role : Fin 4) (key : Option (List Byte)), signer ≠ 0 →
    exec (.keySet signer role key) s = .next (State.finish { s with cls := { s.cls with result := 6, data := [] } })) ∧
  (∀ (s : State) (role : Fin 4) (nonce : List Byte), s.cls.lc = 2 →
    exec (.attest role nonce) s = .next (State.finish { s with cls := { s.cls with result := 0, data := s.attestation nonce } })) ∧
  (∀ (s t : State), s.cls.lc = 2 → s.md.mode = .quiesce → s.md.qdone = true →
      t = (({ s with cls := { s.cls with armed := true } } : State).lifecycleRecord 2 3 1) →
    exec (.lifecycle 0 3) s = .next (State.finish { t with cls := { t.cls with result := 0, data := [] } })) ∧
  (∀ (s t : State), s.md.mode = .quiesce → s.md.qdone = true → s.cls.lc = 2 →
      t = (({ s.zeroise with cls := { s.zeroise.cls with lc := 4, armed := false } } : State).lifecycleRecord 2 4 2) →
    exec (.lifecycle 0 4) s = .next (State.finish { t with cls := { t.cls with result := 0, data := [] } })) ∧
  (∀ (s : State), s.zeroise.cls.keys = [] ∧ s.zeroise.cls.replay = [] ∧ s.zeroise.cls.seedBlocked = true ∧ s.zeroise.cls.zeroPending = false ∧
    ∀ n : Fin 4, s.zeroise.slot n.val = .reset)

/-- R372-R375: firmware transfer, verification, activation, trial and the rollback counter. Each clause gives, for a command
and the conditions that it names, the state that the command leaves before the consequences every command ends with
(`State.finish`, see CalmFinish). The model's choices in it: log entries 1, 3, 31, 32, 134. -/
def Obligations.FirmwareCommands : Prop :=
  (∀ (s t : State) (img : Fin 2) (len : Nat), img.val ≠ s.cls.run →
      t = (({ s.setImage img.val [] with cls := { (s.setImage img.val []).cls with fw := [], fwLen := len } } : State).puts
        [(CLS_FW_STAT.STATE, 1), (CLS_FW_STAT.IMG, img.val), (CLS_FW_STAT.RECEIVED, 0)]) →
    exec (.fwBegin 0 img len) s = .next (State.finish { t with cls := { t.cls with result := 0, data := [] } })) ∧
  (∀ (s : State) (role : Fin 4) (img : Fin 2) (len : Nat), role ≠ 0 →
    exec (.fwBegin role img len) s = .next (State.finish { s with cls := { s.cls with result := 6, data := [] } })) ∧
  (∀ (s : State) (n : Fin 16384), s.get CLS_FW_STAT.STATE = 1 →
    exec (.fwAppend n) s = .next (State.finish
      (({ s with cls := { s.cls with fw := s.cls.fw ++ s.fwChunk (n.val + 1) } } : State).putSat CLS_FW_STAT.RECEIVED
        (s.cls.fw ++ s.fwChunk (n.val + 1)).length))) ∧
  (∀ (s : State), s.get CLS_FW_STAT.STATE = 1 →
    exec (.fwCommit 0) s = .next (State.finish
      { s.put CLS_FW_STAT.STATE 2 with cls := { s.cls with result := 0, data := [] } })) ∧
  (∀ (s : State), s.get CLS_FW_STAT.STATE = 2 → s.cls.rom = false → s.cls.fw ≠ [] → s.cls.fw.length = s.cls.fwLen →
    exec .clsFw s = .next (State.finish
      (if Config.imageSigned s.cls.fw = true ∧ s.otpCounter 0 ≤ Config.imageRollback s.cls.fw then
        ((s.setImage (s.get CLS_FW_STAT.IMG) s.cls.fw).put CLS_FW_STAT.STATE 3).fwRecord (s.get CLS_FW_STAT.IMG) 1
       else (s.put CLS_FW_STAT.STATE 4).fwRecord (s.get CLS_FW_STAT.IMG) 2))) ∧
  (∀ (s : State), s.get CLS_FW_STAT.STATE = 2 → s.cls.rom = false →
      (s.cls.fw = [] ∨ s.cls.fw.length ≠ s.cls.fwLen) →
    exec .clsFw s = .next (State.finish ((s.put CLS_FW_STAT.STATE 4).fwRecord (s.get CLS_FW_STAT.IMG) 2))) ∧
  (∀ (s t : State) (img : Fin 2), t = (({ s with cls := { s.cls with pref := img.val, trials := 0 } } : State).fwRecord img.val 3) →
    exec (.fwActivate 0 img) s = .next (State.finish { t with cls := { t.cls with result := 0, data := [] } })) ∧
  (∀ (s t : State), s.cls.trial = true → t = s.fwConfirmed →
    exec (.fwConfirm 0) s = .next (State.finish { t with cls := { t.cls with result := 0, data := [] } })) ∧
  (∀ (s t : State), s.cls.run ∈ s.cls.confirmed →
      t = (({ s with cls := { s.cls with
        otp := (sparseSet 0 s.cls.otp 0 (min 255 (max (s.otpCounter 0) (Config.imageRollback (s.imageBytes s.cls.run))))) } } : State).fwRecord
          s.cls.run 5) →
    exec (.fwCommitRb 0) s = .next (State.finish { t with cls := { t.cls with result := 0, data := [] } })) ∧
  (∀ (s : State), s.cls.trial = true → s.md.mode = .hold → s.md.holdAt + 600000000000 ≤ s.clk.up →
      (∀ t, s.flt.f3At = some t → t + 600000000000 ≤ s.clk.up) →
    exec .trialConfirm s = .next (State.finish s.fwConfirmed)) ∧
  (∀ (s : State), s.clk.up < s.md.holdAt + 600000000000 → exec .trialConfirm s = .next (State.finish s)) ∧
  (∀ (s : State), s.fwConfirmed.cls.trial = false ∧ s.cls.run ∈ s.fwConfirmed.cls.confirmed)

/-- R360, R372-R374, R380, R394, R413: the key-store check and the end of BOOT. Each clause gives, for a command and the
conditions that it names, the state that the command leaves before the consequences every command ends with (`State.finish`,
see CalmFinish). The model's choices in it: log entries 1, 3, 4, 31, 46. -/
def Obligations.BootCommands : Prop :=
  (∀ (s : State), exec (.keyStoreCheck []) s = .next (State.finish s)) ∧
  (∀ (s : State) (f : StoreFault), f.area = 1 → f.corrected = false →
    exec (.keyStoreCheck [f]) s = .next (State.finish
      (({ s with cls := { s.cls with keys := s.cls.keys.filter (fun p => p.1 ≠ f.role) } } : State).storeRecord 1 2 1))) ∧
  (∀ (s : State) (f : StoreFault), f.area = 5 →
    exec (.keyStoreCheck [f]) s = .next (State.finish (({ s with cls := { s.cls with storeOk := false } } : State).storeRecord 4 3 5))) ∧
  (∀ (s u v : State), s.md.mode = .boot → s.md.bootHold = false → s.cls.lc ≠ 4 → s.due.stop = none →
      u = [32, 33, 34, 35, 36].foldl (fun s k => s.bootPass k) s → u.due.stop = none → v = u.imageSelect.2 →
    exec (.bootComplete [] none) s = .next (State.finish (if u.imageSelect.1 = true then v.bootEnd else v))) ∧
  (∀ (s u : State) (b : BootBist), s.md.mode = .boot → s.md.bootHold = false → s.cls.lc ≠ 4 →
      u = s.bistFail (32 + b.unit.val) b.slice b.addr b.bit b.how →
    exec (.bootComplete [] (some b)) s = .next (State.finish { u with md := { u.md with bootHold := true } })) ∧
  (∀ (s : State), s.cls.pref ∈ s.cls.confirmed → s.imageSigned s.cls.pref = true → s.imageFresh s.cls.pref = true →
    s.imageSelect = (true, s.imageStart s.cls.pref)) ∧
  (∀ (s : State), s.cls.pref ∉ s.cls.confirmed → s.cls.trials < 3 → s.imageSigned s.cls.pref = true → s.imageFresh s.cls.pref = true →
    s.imageSelect = (true, s.imageStart s.cls.pref) ∧ (s.imageStart s.cls.pref).cls.trials = s.cls.trials + 1 ∧
      (s.imageStart s.cls.pref).cls.trial = true)

/-- R385-R394, R412: rotation, slices and results of logic BIST. Each clause gives, for a command and the conditions that it
names, the state that the command leaves before the consequences every command ends with (`State.finish`, see CalmFinish). The
model's choices in it: log entries 1, 3, 63, 88, 96, 111, 112, 134. -/
def Obligations.BistCommands : Prop :=
  (∀ (s : State), s.bistOn = true → s.gal.hkFailed = false → s.get GAL_STAT.RESERVE < 20 →
      s.bist.rotAt + s.rotationSlot ≤ s.clk.up → s.rotationWaits = true →
    exec .rotationStep s = .next (State.finish (s.put TST_STAT.WAIT 1))) ∧
  (∀ (s : State) (r : Nat), s.bistOn = true → s.gal.hkFailed = false → s.get GAL_STAT.RESERVE = r → r < 20 → s.rotationWaits = false →
      s.eng r = 0 → s.bist.rotAt + s.rotationSlot ≤ s.clk.up →
    exec .rotationStep s = .next (State.finish
      ((({ s with bist := { s.bist with rotAt := slotStart s.bist.rotAt s.rotationSlot s.clk.up } } : State).put TST_STAT.WAIT 0).testBegin r))) ∧
  (∀ (s : State), s.clk.up < s.bist.rotAt + s.rotationSlot → exec .rotationStep s = .next (State.finish s)) ∧
  (∀ (s : State), (∀ e < 20, s.eng e ≠ 4) →
      s.rotationSlot = s.get TST_CTL.ROT_H * 3600000000000 / 20 ∧ s.chzSlot = s.get TST_CTL.ROT_H * 3600000000000 / 3) ∧
  (∀ (s : State) (c : Nat), s.bistOn = true → s.gal.hkFailed = false →
      (List.range 3).find? (fun c => s.get (ACQ_CHZ.STATE c) = 0) = some c →
      s.bist.chzAt + s.chzSlot ≤ s.clk.up →
    exec .chzRotationStep s = .next (State.finish
      (({ s with bist := { s.bist with chzAt := slotStart s.bist.chzAt s.chzSlot s.clk.up } } : State).testBegin (20 + c)))) ∧
  (∀ (s : State) (u : Fin 37), s.sliceMay u.val = true → s.shortUnit u.val = false → u.val < 20 → (s.unit u.val).active = true →
      (s.unit u.val).short = false →
    exec (.bistSlice u none) s = .next (State.finish
      (((((s.setUnit u.val (s.unit u.val)).put TST_STAT.UNIT u.val).put (GAL_ENG.STATE u.val) 3).put GAL_STAT.TESTING 1).shortSync))) ∧
  (∀ (s : State) (u : Nat) (r : SliceEnd), s.get TST_STAT.UNIT = u → u ≠ 0xFF → s.sliceFails u r = none →
    let v := ((s.untest u).put TST_STAT.UNIT 0xFF).setUnit u { s.unit u with
      slices := (s.unit u).slices + 1, holdTo := s.clk.up + sliceWait u (s.unit u).short false }
    exec (.bistSliceEnd r) s = .next (State.finish
      (if v.sliceCount u ≤ (s.unit u).slices + 1 then v.bistPass u else v))) ∧
  (∀ (s : State) (u how : Nat) (r : SliceEnd), s.get TST_STAT.UNIT = u → u ≠ 0xFF → s.sliceFails u r = some how →
    exec (.bistSliceEnd r) s = .next (State.finish
      (((s.untest u).put TST_STAT.UNIT 0xFF).bistFail u (s.unit u).slices r.addr r.bit how))) ∧
  (∀ (s : State) (u : Nat) (r : SliceEnd), u < 20 → r.misr = Config.goldenSeal 0 (s.unit u).short (s.unit u).slices →
      ((s.unit u).short = true → r.restored = r.saved) → s.sliceFails u r = none) ∧
  (∀ (s : State) (u : Nat) (r : SliceEnd), 23 ≤ u → r.misr = Config.goldenSeal u (s.unit u).short (s.unit u).slices →
      r.restored ≠ r.saved → s.sliceFails u r = some 2) ∧
  (∀ (s : State) (u : Fin 5) (r : SliceEnd) (short : Bool), s.bistOn = true → (s.unit (u.val + 32)).state ≠ 2 →
      s.signalSlice (u.val + 32) = some short → (∀ t, s.bist.sigAt = some t → t + 375000000 ≤ s.clk.up) →
    let w : State := { s with bist := { s.bist with sigAt := some s.clk.up } }
    let v := (w.setUnit (u.val + 32) { s.unit (u.val + 32) with short := short }).shortSync
    let x := v.unit (u.val + 32)
    v.sliceFails (u.val + 32) r = none →
    exec (.signalDieSlice u r) s = .next (State.finish
      (if x.slices + 1 < 32 then v.setUnit (u.val + 32) { x with slices := x.slices + 1 }
       else v.setUnit (u.val + 32) { x with
         slices := 0, state := if short then 3 else 1, passes := x.passes + 1, lastPass := some v.clk.up }))) ∧
  (∀ (s : State) (u : Fin 5) (r : SliceEnd) (short : Bool) (how : Nat), s.bistOn = true → (s.unit (u.val + 32)).state ≠ 2 →
      s.signalSlice (u.val + 32) = some short → (∀ t, s.bist.sigAt = some t → t + 375000000 ≤ s.clk.up) →
    let w : State := { s with bist := { s.bist with sigAt := some s.clk.up } }
    let v := (w.setUnit (u.val + 32) { s.unit (u.val + 32) with short := short }).shortSync
    v.sliceFails (u.val + 32) r = some how →
    exec (.signalDieSlice u r) s = .next (State.finish
      (v.bistFail (u.val + 32) (v.unit (u.val + 32)).slices r.addr r.bit how))) ∧
  (∀ (s : State) (c : Fin 2), 3 ≤ s.get (SUP_STAT.STATE (1 - c.val)) → c.val ∈ s.supsLeft → s.signalSlice (33 + c.val) = some true) ∧
  (∀ (s : State) (c : Fin 2), s.get (SUP_STAT.STATE (1 - c.val)) = 1 → s.signalSlice (33 + c.val) = some false) ∧
  (∀ (s v : State) (u : Fin 256), v = s.put TST_CMD.UNIT u.val → v.bistOn = true → s.gal.hkFailed = false → u.val = 24 →
    exec (.testNow u) s = .next (State.finish (v.testBegin 24))) ∧
  (∀ (s v : State) (u : Fin 256), v = s.put TST_CMD.UNIT u.val → v.bistOn = true → s.gal.hkFailed = false → u.val < 20 →
      u.val ≠ v.get GAL_STAT.RESERVE →
    exec (.testNow u) s = .next (State.finish { v with bist := { v.bist with want := some u.val } })) ∧
  (∀ (s : State), exec .tstClearCounts s = .next (State.finish (s.puts [(TST_CNT.FAIL, 0), (TST_CNT.INTR, 0)]))) ∧
  (∀ (s : State), s.get TST_STAT.UNIT = 0xFF → ∀ c : Nat, s.bistInterrupt c = s)

/-- R395-R401: memory test and repair, scrubbing, the Lichen monitors. Each clause gives, for a command and the conditions
that it names, the state that the command leaves before the consequences every command ends with (`State.finish`, see
CalmFinish). The model's choices in it: log entries 1, 3, 96, 114, 134. -/
def Obligations.AgeingCommands : Prop :=
  (∀ (s : State) (a : Nat), exec (.marchRow a none) s = .next (State.finish s)) ∧
  (∀ (s : State) (a : Nat) (m : MemFault), exec (.marchRow a (some m)) s = .next (State.finish (s.repairMem a 1 m))) ∧
  (∀ (s v : State) (a : Nat) (m : MemFault), m.byCol = false → m.badSpares = 0 → 0 < s.sparesLeft a 1 → s.repair.length < 4096 →
      v = ((s.repairEntry a 1 m.row (s.repairsOf a 1)).memSync).put TST_EVT.REPAIR 1 →
    s.repairMem a 1 m = v.emit (0xC000 + a) Code.MEM_REPAIR
      (le 1 1 ++ le 2 m.row ++ le 2 (s.repairsOf a 1) ++ le 2 (s.sparesLeft a 1 - 1) ++ le 1 1)) ∧
  (∀ (s : State) (a k : Nat) (m : MemFault), k = (a * 65536 + m.row) * 65536 + m.col → sparseGet [] s.corr k = [] →
    exec (.scrub a (some m)) s = .next (State.finish { s with corr := sparseSet [] s.corr k [s.clk.up] })) ∧
  (∀ (s : State) (m : Fin 48) (tj : Int), (s.mon m.val).failed = false → (∀ t, (s.mon m.val).readAt = some t → t + 60000000000 ≤ s.clk.up) →
    exec (.lichenRead m none tj) s = .next (State.finish
      ((((s.setMon m.val { s.mon m.val with failed := true }).lichenSync).put LCH_EVT.FAIL 1).emit (srcLichen m.val) Code.LICHEN_FAIL
        (le 1 1 ++ le 4 (s.mon m.val).val)))) ∧
  (∀ (s : State) (m : Fin 48) (v : Nat) (tj : Int), (s.mon m.val).failed = false →
      (∀ t, (s.mon m.val).readAt = some t → t + 60000000000 ≤ s.clk.up) →
    exec (.lichenRead m (some v) tj) s = .next (State.finish
      ((s.setMon m.val { s.mon m.val with hour := (v, tj) :: (s.mon m.val).hour, readAt := some s.clk.up }).dayReads tj))) ∧
  (∀ (s : State), s.led.hourAt + 3600000000000 ≤ s.clk.up →
    exec .lichenHourly s = .next (State.finish
      ((List.range 48).foldl (fun s m => s.monHour m) { s with led := { s.led with hourAt := s.clk.up } }))) ∧
  (∀ (s : State) (m n mean : Nat) (tj v : Int), (s.mon m).failed = false → (s.mon m).hour ≠ [] → n = (s.mon m).hour.length →
      mean = (2 * ((s.mon m).hour.map (·.1)).sum + n) / (2 * n) → tj = roundHalf ((((s.mon m).hour.map (·.2)).sum : Rat) / n) →
      v = Config.lichenNormal m mean (s.get GAL_STAIR.SET) tj →
    let t := s.setMon m { s.mon m with val := mean, step := s.get GAL_STAIR.SET, drift := v - 10000, tj := tj, hour := [] }
    s.monHour m = if v < 5000 ∨ 20000 < v then t.monFails m 2 mean else t) ∧
  (∀ (s : State), s.led.dayAt + 86400000000000 ≤ s.clk.up → ∃ t : State, exec .lichenDaily s = .next (State.finish t) ∧ t.led.days = s.led.days + 1 ∧
    t.led.dayMax = (s.led.dayTop.toList ++ s.led.dayMax).take 400 ∧ t.led.dayTop = none ∧ t.led.dayAt = s.clk.up ∧
    t.gal.dayPeaks = (s.gal.dayPeak :: s.gal.dayPeaks).take 30 ∧ t.gal.dayPeak = [] ∧ t.recs = s.recs) ∧
  (∀ (s : State) (date worst : Nat) (far : Bool) (first : Option (Nat × Rat)), 90 ≤ s.led.days → s.gal.hkFailed = false →
      s.led.fcast = none → (∀ t, s.led.foreAt = some t → t + 86400000000000 ≤ s.clk.up) →
      first = lowest (s.planUnits.filterMap (fun u => (s.crossDay u).map (fun d => (u, (d : Rat))))) → far = first.isNone →
      worst = (match first with | some p => p.1 | none => 0xFF) →
      date = s.clk.dev + (match first with | some p => p.2.floor.toNat | none => 18262) * 86400000000000 →
    let v := s.puts [(LCH_FCAST_LO.T, date % 2 ^ 32), (LCH_FCAST_HI.T, date / 2 ^ 32 % 2 ^ 32), (LCH_STAT.FCAST, 1),
      (LCH_STAT.FAR, b2n far)]
    exec .lichenForecast s = .next (State.finish
      ((({ v with led := { v.led with foreAt := some v.clk.up, fcast := some (date, v.clk.up) } } : State).put LCH_EVT.FCAST 1).emit srcPlanner Code.LICHEN_FORECAST
        (le 8 date ++ le 1 (b2n far) ++ le 1 worst))))

/-- R402-R407: the counter image, the journal, the lamps' ageing, the ledger's reading. Each clause gives, for a command and
the conditions that it names, the state that the command leaves before the consequences every command ends with
(`State.finish`, see CalmFinish). The model's choices in it: log entries 1, 3, 35, 36, 38, 134. -/
def Obligations.LedgerCommands : Prop :=
  (∀ (s : State), s.gal.hkFailed = false → s.led.imgAt + 600000000000 ≤ s.clk.up → ∃ t : State, exec (.counterImageWrite none) s = .next (State.finish t) ∧
    t.led.imageSeq = s.led.imageSeq + 1 ∧ t.led.imgPo = s.poSecs ∧ t.led.imgFaults = s.jrn.faults ∧ t.led.imgHist = s.hist ∧
    t.jrn = s.jrn ∧ t.recs = s.recs) ∧
  (∀ (s : State) (r : Record) (rest : List (Bool × Record)), s.jrn.wait = (false, r) :: rest → s.gal.hkFailed = false →
    exec (.journalWrite none) s = .next (State.finish
      { s with jrn := { s.jrn with wait := rest, next := s.jrn.next + 1, rolling := ((s.jrn.next, r) :: s.jrn.rolling).take 65536 } })) ∧
  (∀ (s : State) (r : Record) (rest : List (Bool × Record)), s.jrn.wait = (true, r) :: rest → s.gal.hkFailed = false →
      s.jrn.kept.length < 131072 →
    ∃ t : State, exec (.journalWrite none) s = .next (State.finish t) ∧ t.jrn.kept = (s.jrn.next, r) :: s.jrn.kept ∧ t.jrn.wait = rest ∧
      t.jrn.next = s.jrn.next + 1 ∧ t.recs = s.recs) ∧
  (∀ (s : State) (n : Fin 64) (x : LampLife), x = sparseGet LampLife.reset s.lamps n.val → x.month.2 ≠ 0 → x.ref = none →
    exec (.lampAgeing n) s = .next (State.finish
      { s with lamps := sparseSet .reset s.lamps n.val { x with
          means := (lampMean x.month :: x.means).take 24, month := (0, 0) } })) ∧
  (∀ (s v : State) (n : Fin 64) (x : LampLife) (mean r : Nat), x = sparseGet LampLife.reset s.lamps n.val → x.month.2 ≠ 0 →
      mean = lampMean x.month → x.ref = some r → r ≠ 0 → r ≤ 10 * ((mean : Int) - r).natAbs →
      v = ({ s with lamps := sparseSet .reset s.lamps n.val { x with means := (mean :: x.means).take 24, month := (0, 0) } } : State) →
    exec (.lampAgeing n) s = .next (State.finish
      (v.emit (srcLamp n.val) Code.LAMP_AGEING
        (le 2 (min 0xFFFF r) ++ le 2 (min 0xFFFF mean) ++ leI 1 (satS 8 (((mean : Int) - r) * 100 / r)))))) ∧
  (∀ (s : State) (role : Fin 4) (count : Fin 24) (first : Nat), role ≠ 1 →
    exec (.ledgerRead role 9 count first) s = .next (State.finish
      { s with cls := { s.cls with result := 0, data := (s.ledgerReply 9 (count.val + 1) first).1 } })) ∧
  (∀ (s : State) (area : Fin 10) (count : Fin 24) (first : Nat),
    exec (.ledgerRead 1 area count first) s = .next (State.finish { s with cls := { s.cls with result := 6, data := [] } }))

/-- R413, R416, R417, R427: the mode commands that are accepted. Each clause gives, for a command and the conditions that it
names, the state that the command leaves before the consequences every command ends with (`State.finish`, see CalmFinish). The
model's choices in it: log entries 1, 3, 41, 53. -/
def Obligations.ModeCommands : Prop :=
  (∀ (s : State), s.md.mode = .hold → s.get CFG_STAT.ACTIVE ≠ 4 → s.connDown = none → s.pins.safeStopN = true → s.get CFG_STAT.SWSTATE ≠ 3 →
    exec .release s = .next (State.finish (s.enterMode .family 2))) ∧
  (∀ (s : State), s.md.mode = .family → exec .hold s = .next (State.finish (s.enterMode .hold 1))) ∧
  (∀ (s : State), s.md.mode = .safe → s.rd MOD_SCAUSE = 0 → s.pins.safeStopN = true → s.get CFG_STAT.SWSTATE ≠ 3 →
    exec .exitSafe s = .next (State.finish
      ((s.emit srcDevice Code.SAFE_EXIT (le 2 (min 0xFFFF ((s.clk.up - s.md.safeSince) / 1000000000)))).enterMode .hold 1))) ∧
  (∀ (s : State), s.md.mode = .hold → exec .commission s = .next (State.finish (s.enterMode .commission 1))) ∧
  (∀ (s : State), s.md.mode = .commission → exec .endCommissioning s = .next (State.finish (s.enterMode .hold 1))) ∧
  (∀ (s : State), s.md.mode = .commission → s.md.commissionSince + 14400000000000 ≤ s.clk.up →
    exec .commissionTimeout s = .next (State.finish (s.enterMode .hold 5))) ∧
  (∀ (s : State), s.clk.up < s.md.commissionSince + 14400000000000 → exec .commissionTimeout s = .next (State.finish s)) ∧
  (∀ (s u : State), s.md.mode = .family → u = s.enterMode .quiesce 1 → u.get CFG_STAT.SWSTATE = 0 →
    exec .quiesce s = .next (State.finish ((u.bistInterrupt 4).imageWrite none))) ∧
  (∀ (s : State), s.md.mode = .quiesce → s.md.qdone = false → s.recs.queue = [] → (∀ d < 4, s.receives d 9 = false) →
    ∃ v : State, v = (((s.spiSealNow.writeTail 3).put MOS_EVT.SEAL 1).emit srcMoss Code.MOSS_SEAL (le 1 2 ++ le 8 s.clk.dev ++ le 1 1)).put
        MOS_STAT.SEALED 1 ∧
      exec .quiesceDone s = .next (State.finish
        ((({ v with md := { v.md with qdone := true } } : State).put MOD_EVT.QDONE 1).emit srcDevice Code.QUIESCE_DONE
          (le 4 ((s.clk.up - s.md.quiesceSince) / 1000000) ++ le 1 1)))) ∧
  (∀ (s : State), exec .modClearCounts s = .next (State.finish (s.puts [(MOD_FCNT.F1, 0), (MOD_FCNT.F2, 0), (MOD_FCNT.F3, 0)])))

/-- R416, R417, R427-R429: a mode command in the wrong mode, or whose condition fails, is refused with its cause and changes
nothing else; a write of `MOD_CMD` with more than one bit performs none of its commands, with one bit it is that command. Each
clause gives, for a command and the conditions that it names, the state that the command leaves before the consequences every
command ends with (`State.finish`, see CalmFinish). The model's choices in it: log entries 1, 3. -/
def Obligations.ModeRefusals : Prop :=
  (∀ (s : State), s.md.mode ≠ .hold → exec .release s = .next (State.finish (s.modeRefused 1 1 0xFF))) ∧
  (∀ (s : State), s.md.mode = .hold → s.get CFG_STAT.ACTIVE = 4 → exec .release s = .next (State.finish (s.modeRefused 1 4 0xFF))) ∧
  (∀ (s : State) (c : Nat), s.md.mode = .hold → s.get CFG_STAT.ACTIVE ≠ 4 → s.connDown = some c →
    exec .release s = .next (State.finish (s.modeRefused 1 3 c))) ∧
  (∀ (s : State), s.md.mode ≠ .safe → exec .exitSafe s = .next (State.finish (s.modeRefused 4 1 0xFF))) ∧
  (∀ (s : State), s.md.mode = .safe → s.rd MOD_SCAUSE ≠ 0 → exec .exitSafe s = .next (State.finish (s.modeRefused 4 2 0xFF))) ∧
  (∀ (s : State), s.md.mode ≠ .family → exec .hold s = .next (State.finish (s.modeRefused 2 1 0xFF))) ∧
  (∀ (s : State), s.md.mode ≠ .hold → exec .commission s = .next (State.finish (s.modeRefused 8 1 0xFF))) ∧
  (∀ (s : State), s.md.mode ≠ .commission → exec .endCommissioning s = .next (State.finish (s.modeRefused 0x10 1 0xFF))) ∧
  (∀ (s : State), s.md.mode = .analysis → exec .quiesce s = .next (State.finish (s.modeRefused 0x20 1 0xFF))) ∧
  (∀ (s : State) (bits cause conn : Nat), (s.modeRefused bits cause conn).md.mode = s.md.mode ∧
    (s.modeRefused bits cause conn).sio = s.sio ∧ (s.modeRefused bits cause conn).cfg = s.cfg) ∧
  (∀ (s : State) (b : Nat), b < 128 → 1 < ((List.range 7).filter (fun i => bitOf b i)).length → s.modCmd b = s.modeRefused b 6 0xFF) ∧
  (∀ (s : State), s.modCmd 1 = opRelease s ∧ s.modCmd 2 = opHold s ∧ s.modCmd 4 = opExitSafe s ∧ s.modCmd 8 = opCommission s ∧
    s.modCmd 16 = opEnd s ∧ s.modCmd 32 = opQuiesce s ∧ s.modCmd 64 = opReset s)

/-- R413, R418-R421, R424, R426, R434: resets, `RST_N`, the way to HOLD, the handling of faults. Each clause gives, for a
command and the conditions that it names, the state that the command leaves before the consequences every command ends with
(`State.finish`, see CalmFinish). The model's choices in it: log entries 1, 3, 31, 40, 50, 52, 134. -/
def Obligations.ResetCommands : Prop :=
  (∀ (s : State), s.md.mode ≠ .reset → ∃ t : State, exec .reset s = .next (State.finish t) ∧ t.md.mode = .reset ∧ t.md.code = 0 ∧
    t.get MOD_RESET.CAUSE = 5 ∧ t.zones = [] ∧ t.conns = [] ∧ t.events = []) ∧
  (∀ (s u v w : State), s.md.mode ≠ .reset → u = (s.bistInterrupt 4).enterMode .reset 1 →
      v = (u.put MOS_EVT.SEAL 1).make 0 srcMoss Code.MOSS_SEAL.val (le 1 3 ++ le 8 u.clk.dev ++ le 1 1) →
      w = ((v.journalFlush v.jrn.wait.length).imageWrite none).writeTail 3 →
    exec .reset s = .next (State.finish
      (((w.resetUnits false (degKept w.degLeft w.clk.up)).countReset false 5).put PWR_STAT.SENS_STOP 0))) ∧
  (∀ (s : State), s.on MOD_RESET.IGNORED = true → ∃ t : State, exec .rstNAssert s = .next (State.finish t) ∧ t.md.mode = s.md.mode ∧
    t.pins.rstN = false) ∧
  (∀ (s : State), s.on MOD_RESET.IGNORED = false → s.pw.lossAt = none → s.md.mode ≠ .reset →
    ∃ t : State, exec .rstNAssert s = .next (State.finish t) ∧ t.md.mode = .reset ∧ t.md.pinReset = true) ∧
  (∀ (s u v : State),
      u = ({ ({ s with pins := { s.pins with rstN := false } } : State).put MOD_RESET.PIN 0 with
        md := { s.md with rstLowSince := some (s.md.rstLowSince.getD (s.clk.up - 10000000)) } } : State) →
      u.on MOD_RESET.IGNORED = false → s.pw.lossAt = none → s.md.mode ≠ .reset → v = u.warmReset 3 →
    exec .rstNAssert s = .next (State.finish
      (({ v with md := { v.md with pinReset := true, f4Wait := false } } : State).put MOD_RESET.F4HOLD 0))) ∧
  (∀ (s : State), exec .rstNRelease s = .next (State.finish
    { ({ s with pins := { s.pins with rstN := true } } : State).put MOD_RESET.PIN 1 with
        md := { s.md with pinReset := false, rstLowSince := none } })) ∧
  (∀ (s : State), exec .rstNRearm s = .next (State.finish
    { (({ s with pins := { s.pins with rstN := true } } : State).put MOD_RESET.PIN 1).put MOD_RESET.IGNORED 0 with
        md := { s.md with pinReset := false, rstLowSince := none } })) ∧
  (∀ (s : State) (t : Nat), s.md.rstLowSince = some t → t + 8000000000 ≤ s.clk.up → s.pins.rstN = false →
      s.on MOD_RESET.IGNORED = false → s.pw.lossAt = none → s.md.mode ≠ .reset →
    exec .rstStuck s = .next (State.finish
      { s.puts [(MOD_RESET.IGNORED, 1), (MOD_RESET.INDICATE, 1)] with
          sio := { s.sio with indicate := true }
          md := { s.md with stuckRec := some ((s.clk.up - t) / 1000000, if s.md.resetCold then 1 else 2) } })) ∧
  (∀ (s : State), s.md.f4Wait = true → s.md.f4At + 10000000000 ≤ s.clk.up → s.md.mode = .reset → s.pins.rstN = false →
      s.on MOD_RESET.IGNORED = false →
    exec .f4HoldExpiry s = .next (State.finish { s with md := { s.md with f4Wait := false } })) ∧
  (∀ (s u : State), s.md.f4Wait = true → s.md.f4At + 10000000000 ≤ s.clk.up → s.md.mode = .reset → s.pins.rstN = true →
      s.md.pinReset = false → s.on MOD_RESET.F4HOLD = false →
      u = ({ s with md := { s.md with f4Wait := false } } : State) → u.suppliesValid = true →
    exec .f4HoldExpiry s = .next (State.finish u.leaveReset)) ∧
  (∀ (s : State), s.clk.up < s.md.f4At + 10000000000 → exec .f4HoldExpiry s = .next (State.finish s)) ∧
  (∀ (s u : State) (t : Nat), s.md.rstLowSince = some t → t + 8000000000 ≤ s.clk.up → s.pins.rstN = false →
      s.on MOD_RESET.IGNORED = false → s.pw.lossAt = none → s.md.mode = .reset →
      u = ({ s.puts [(MOD_RESET.IGNORED, 1), (MOD_RESET.INDICATE, 1)] with
          sio := { s.sio with indicate := true }
          md := { s.md with stuckRec := some ((s.clk.up - t) / 1000000, if s.md.resetCold then 1 else 2), resetCause := 4, f4Wait := false } } : State).put
            MOD_RESET.CAUSE 4 → u.suppliesValid = true → u.on MOD_RESET.F4HOLD = false →
    exec .rstStuck s = .next (State.finish u.leaveReset)) ∧
  (∀ (s : State), s.resetMayEnd = true → s.cls.zeroPending = false → s.cls.armed = false → ∀ rmaN : Bool,
    exec (.resetExit rmaN) s = .next (State.finish (({ s with pins := { s.pins with rmaN := rmaN } } : State).enterBoot.lifecycleAtReset))) ∧
  (∀ (s u w : State) (pins : Fin 4) (settled : Bool), s.md.mode = .load → s.cls.lc < 2 →
      u = ({ s with pins := { s.pins with profSel := pins.val }, cfg := { s.cfg with shadowClamps := 0, shadowRefused := 0 } } :
        State).applyPlane .profileF →
      w = (({ u.puts [(CFG_STAT.ACTIVE, 4), (CFG_STAT.STRICT, Plane.profileF.nat 11 0 0x081 []), (CFG_SECT.ACTIVE, 0)] with
        cfg := { u.cfg with logActive := .empty } } : State).loadedRecord 4 1 0) →
    exec (.loadComplete pins settled) s = .next (State.finish (match w.md.latched with
      | some (code, src) => w.enterSafe code src
      | none => w.enterMode .hold 4))) ∧
  (∀ (s r t u w : State) (pins : Fin 4) (settled : Bool) (p : Plane) (slot n : Nat), s.md.mode = .load → 2 ≤ s.cls.lc →
      s.on CFG_CTL.PIN_EN = true →
      r = ({ s with pins := { s.pins with profSel := pins.val }, cfg := { s.cfg with shadowClamps := 0, shadowRefused := 0 } } :
        State).put CFG_STAT.PINS pins.val →
      r.selectLoad pins.val settled = (p, slot, t) → n = (if slot = 4 then 0 else t.cfg.shadowRefused) →
      u = (t.applyPlane p).puts [(CFG_STAT.ACTIVE, slot), (CFG_STAT.STRICT, p.nat 11 0 0x081 []), (CFG_SECT.ACTIVE, n)] →
      w = ({ u with cfg := { u.cfg with logActive := if slot = 4 then .empty else u.cfg.logLast } } : State).loadedRecord slot 1 n →
    exec (.loadComplete pins settled) s = .next (State.finish (match w.md.latched with
      | some (code, src) => w.enterSafe code src
      | none => w.enterMode .hold 4))) ∧
  (∀ (s : State) (signal : Bool) (lvl : Fin 3), (∀ l < 4, lvl.val + 1 < l → (s.flt.handler signal l).active = false) →
    exec (.faultHandling signal lvl) s = .next (State.finish
      { s with flt := s.flt.setHandler signal (lvl.val + 1) (s.flt.handler signal (lvl.val + 1)).advance })) ∧
  (∀ (s : State), s.peerCompares = true → s.peerMatched = true →
    exec .peerCauseCleared s = .next (State.finish ((s.put SIO_PEER.MISMATCH 0).clearCause 3)))

/-- R405, R418, R434-R443: supplies and temperatures. Each clause gives, for a command and the conditions that it names, the
state that the command leaves before the consequences every command ends with (`State.finish`, see CalmFinish). The model's
choices in it: log entries 1, 3, 37, 49, 134. -/
def Obligations.PowerCommands : Prop :=
  (∀ (s u : State) (v : Nat), s.pw.vfield = false → s.pw.lossAt = none → 860 < v → 0 < s.get MOD_RSTCNT.COLD →
      u = ({ s with pw := { s.pw with vfield := true, holdLate := false }, md := { s.md with rstLowSince := if s.pins.rstN then none else some s.clk.up },
                    led := { s.led with poSince := s.clk.up },
                    sio := { s.sio with deg := { s.sio.deg with kept := s.sio.deg.kept.map (fun k => (k.1, s.clk.up + 60000000000)) } } } : State) →
    exec (.vfieldRise v) s = .next (State.finish
      (u.puts [(PWR_STAT.VF_OK, 1), (PWR_STAT.VAUX_OK, 1), (PWR_STAT.VSO_OK, 1), (PWR_STAT.HOLD_CHG, 1), (PWR_VFIELD.NOW, v),
        (PWR_VFIELD.PEAK, max v (u.get PWR_VFIELD.PEAK))]))) ∧
  (∀ (s u : State) (peak : Nat), s.on PWR_STAT.VF_HIGH = false → 6200 < peak →
      u = s.puts [(PWR_STAT.VF_HIGH, 1), (PWR_EVT.VFHIGH, 1), (PWR_VFIELD.NOW, peak), (PWR_VFIELD.PEAK, max peak (s.get PWR_VFIELD.PEAK))] →
    exec (.vfieldHigh peak) s = .next (State.finish
      (u.emit srcConverter Code.VFIELD_HIGH (le 1 1 ++ le 2 (u.get PWR_VFIELD.PEAK))))) ∧
  (∀ (s u : State) (v : Nat), s.on PWR_STAT.VF_HIGH = true → v < 6100 → u = s.puts [(PWR_STAT.VF_HIGH, 0), (PWR_EVT.VFHIGH, 1), (PWR_VFIELD.NOW, v)] →
    exec (.vfieldHighEnd v) s = .next (State.finish
      (u.emit srcConverter Code.VFIELD_HIGH (le 1 0 ++ le 2 (u.get PWR_VFIELD.PEAK))))) ∧
  (∀ (s : State) (cap vhold : Nat), 33 ≤ cap → s.on PWR_STAT.HOLD_OK = false → 2200 ≤ vhold →
    exec (.holdupCharged cap vhold) s = .next (State.finish
      ((s.puts [(PWR_STAT.HOLD_OK, 1), (PWR_STAT.HOLD_CHG, 0), (PWR_HOLD.VHOLD, vhold)]).putSat PWR_HOLD.CAP cap))) ∧
  (∀ (s : State) (cap vhold : Nat), s.on PWR_STAT.HOLD_OK = false → s.pw.vfield = true → s.pw.holdLate = false → s.led.poSince + 500000000 ≤ s.clk.up →
    exec (.holdupTimeout cap vhold) s = .next (State.finish
      ((({ s.put PWR_HOLD.VHOLD vhold with pw := { s.pw with holdLate := true } } : State).put PWR_EVT.HOLDLOW 1).emit srcConverter Code.HOLDUP_LOW (le 1 2 ++ le 1 (min 255 cap) ++ le 2 vhold)))) ∧
  (∀ (s : State) (cause : Fin 2) (mv : Nat), s.on PWR_STAT.VAUX_OK = true → (cause.val = 0 → mv < 3135 ∨ 3465 < mv) →
    exec (.vauxFault cause mv) s = .next (State.finish
      ((s.puts [(PWR_STAT.VAUX_OK, 0), (PWR_EVT.VAUXFLT, 1), (PWR_VINT.VAUX, mv)]).emit srcConverter Code.VAUX_FAULT
        (le 1 (cause.val + 1) ++ le 2 mv)))) ∧
  (∀ (s : State) (mv : Nat), s.on PWR_STAT.VAUX_OK = false → s.pw.vfield = true → 3135 ≤ mv → mv ≤ 3465 →
    exec (.vauxRestored mv) s = .next (State.finish
      ((s.puts [(PWR_STAT.VAUX_OK, 1), (PWR_EVT.VAUXFLT, 1), (PWR_VINT.VAUX, mv)]).emitAt 0 srcConverter Code.VAUX_FAULT
        (le 1 0 ++ le 2 mv)))) ∧
  (∀ (s : State) (v : Nat), s.on PWR_STAT.VSO_OK = true → v < 1800 →
    exec (.vsoLow v) s = .next (State.finish
      ((s.puts [(PWR_STAT.VSO_OK, 0), (PWR_EVT.VSOLOW, 1), (PWR_VSO.VSO, v)]).emit srcPwr Code.VSO_LOW (le 1 1 ++ le 2 v)))) ∧
  (∀ (s : State) (v : Nat), s.on PWR_STAT.VSO_OK = false → 1800 ≤ v →
    exec (.vsoRestored v) s = .next (State.finish
      ((s.puts [(PWR_STAT.VSO_OK, 1), (PWR_EVT.VSOLOW, 1), (PWR_VSO.VSO, v)]).emitAt 0 srcPwr Code.VSO_LOW (le 1 0 ++ le 2 v)))) ∧
  (∀ (s u : State) (die : Fin 4) (t : Int), u = s.dieReads (die.val + 1) t → die.val + 1 ∉ s.pw.hot → 1250 < t →
    exec (.tjHigh die t) s = .next (State.finish ((u.dieHot (die.val + 1)).tjRecord (die.val + 1) t 1))) ∧
  (∀ (s u : State) (die : Fin 4) (t : Int), u = s.dieReads (die.val + 1) t → s.pw.hot ≠ [] → s.pw.sensStop = false →
      (∀ p ∈ u.pw.reads, p.2 < 1200) →
    exec (.tjHighEnd die t) s = .next (State.finish
      ((({ u with pw := { u.pw with hot := [] } } : State).put PWR_STAT.TJ_HIGH 0).tjRecord (die.val + 1) t 0))) ∧
  (∀ (s u : State) (t : Int), 1400 ≤ t → s.pw.sensStop = false → u = ((s.dieReads 1 t).dieHot 1).tjRecord 1 t 2 →
    exec (.temperatureStop 0 t) s = .next (State.finish (({ u with pw := { u.pw with sensStop := true } } : State).put PWR_STAT.SENS_STOP 1))) ∧
  (∀ (s : State) (t : Int), exec (.temperatureStop 3 t) s = .next (State.finish (s.dieReads 4 t))) ∧
  (∀ (s u : State) (t : Int), 1500 ≤ t → u = ((s.dieReads 3 t).dieHot 3).tjRecord 3 t 2 → s.due.stop = none →
    exec (.temperatureStop 2 t) s = .next (State.finish { u with due := { u.due with stop := some (0x2244, srcPwr) } })) ∧
  (∀ (s u : State) (t : Int), s.pw.feStop = true → t < 1200 →
      u = ({ (s.dieReads 2 t).put PWR_STAT.FE_STOP 0 with pw := { s.pw with feStop := false } } : State) →
    exec (.frontEndTemperatureResume t) s = .next (State.finish
      { u with tb := { u.tb with target := u.nextTarget, targetDirect := u.tb.xoFailed } })) ∧
  (∀ (s : State) (whole : Bool), s.pw.vfield = true → ∃ t : State, exec (.supplyLoss whole) s = .next (State.finish t) ∧
    t.pw.vfield = false ∧ t.pw.lossAt.isSome = true ∧ t.led.sealed.isSome = true) ∧
  (∀ (s u v w : State) (whole : Bool), s.pw.vfield = true → u = s.bistInterrupt 4 →
      v = ({ u with md := { u.md with mode := .reset, code := 0, prev := u.md.code } } : State).modeActs →
      w = v.puts [(PWR_STAT.VF_OK, 0), (PWR_STAT.VAUX_OK, 0), (PWR_STAT.HOLD_OK, 0)] →
    exec (.supplyLoss whole) s = .next (State.finish
      (({ w with pw := { w.pw with vfield := false, lossAt := some w.clk.up } } : State).ledgerSeal (v.on PWR_STAT.HOLD_OK || whole)))) ∧
  (∀ (s u v : State) (left : Nat), s.pw.lossAt.isSome = true →
      u = ({ s with led := { s.led with poSecs := s.poSecs, poSince := s.clk.up } } : State) →
      left = (match u.led.sealed with
        | some b => if b.whole then b.deg else if u.led.imageDeg = 0xFFFFFFFF then 0xFFFFFFFF else u.led.imageDeg - 600
        | none => 0xFFFFFFFF) →
      v = (u.resetUnits true (degKept left u.clk.up)).countReset true 2 →
    exec .coldReset s = .next (State.finish
      { v with pw := ⟨false, none, v.pw.hot, false, false, v.pw.reads, false⟩, md := { v.md with f4Cause := (0, 0), pinReset := !v.pins.rstN } })) ∧
  (∀ (s u v : State) (t : Int), 1400 ≤ t → s.pw.feStop = false → u = ((s.dieReads 2 t).dieHot 2).tjRecord 2 t 2 →
      v = opTimebaseUnlock 3 (({ u with pw := { u.pw with feStop := true } } : State).put PWR_STAT.FE_STOP 1) →
    exec (.temperatureStop 1 t) s = .next (State.finish { v with tb := { v.tb with target := 0, targetDirect := false } })) ∧
  (∀ (s : State), s.pw.lossAt.isSome = true → ∃ t : State, exec .coldReset s = .next (State.finish t) ∧ t.md.mode = .reset ∧
    t.clk.dev = 0 ∧ t.get MOD_RESET.COLD = 1 ∧ t.get MOD_RESET.CAUSE = 2 ∧ t.pw.lossAt = none) ∧
  (∀ (s : State), exec .pwrClearPeak s = .next (State.finish ((s.put PWR_VFIELD.PEAK 0).put PWR_TMAX.MAX 0x8000)))
end

