-- ==== Sys2Proof/Laws/Fields.lean ====
section
/-! SUPPORT. The algebra of register fields and of the register file: what a read gives after a write. -/

set_option Elab.async false

namespace Sys2Proof.Machine

/-! ### Fields of a word -/

theorem Fld.read_testBit (f : Fld) (w : Word) (i : Nat) :
    (f.read w).testBit i = (decide (i < f.width) && w.toNat.testBit (f.lo + i)) := by
  simp [Fld.read, Nat.testBit_mod_two_pow, Nat.testBit_div_two_pow, Nat.add_comm]

theorem Fld.mask_testBit (f : Fld) (j : Nat) :
    f.mask.toNat.testBit j = (decide (j < 32) && decide (f.lo ≤ j) && decide (j - f.lo < f.width)) := by
  unfold Fld.mask
  rw [BitVec.toNat_ofNat, Nat.testBit_mod_two_pow, Nat.testBit_mul_two_pow, Nat.testBit_two_pow_sub_one]
  simp [Bool.and_assoc]

theorem Fld.write_testBit (f : Fld) (v : Nat) (w : Word) (j : Nat) :
    (f.write v w).toNat.testBit j =
      if decide (j < 32) && decide (f.lo ≤ j) && decide (j - f.lo < f.width) then v.testBit (j - f.lo) else w.toNat.testBit j := by
  have hw : ∀ k, 32 ≤ k → w.toNat.testBit k = false := fun k hk =>
    Nat.testBit_lt_two_pow (Nat.lt_of_lt_of_le w.isLt (Nat.pow_le_pow_right (by decide) hk))
  simp only [Fld.write, BitVec.toNat_or, BitVec.toNat_and, BitVec.toNat_not, Nat.testBit_or, Nat.testBit_and,
    Fld.mask_testBit, BitVec.toNat_ofNat, Nat.testBit_mod_two_pow, Nat.testBit_mul_two_pow]
  have hm : (2 ^ 32 - 1 - f.mask.toNat).testBit j = (decide (j < 32) && !f.mask.toNat.testBit j) := by
    rw [Nat.sub_sub, Nat.add_comm 1, Nat.testBit_two_pow_sub_succ f.mask.isLt]
  rw [hm, Fld.mask_testBit]
  have hw := hw j
  revert hw
  generalize w.toNat.testBit j = x
  generalize v.testBit (j - f.lo) = y
  by_cases h1 : j < 32
  · simp only [h1, decide_true, Bool.true_and]
    generalize decide (f.lo ≤ j) = p
    generalize decide (j - f.lo < f.width) = q
    intro _
    cases x <;> cases y <;> cases p <;> cases q <;> rfl
  · intro hw
    simp only [h1, decide_false, Bool.false_and, hw (by omega)]
    rfl

/-- A field reads back what was written into it, reduced to its width. -/
theorem Fld.read_write_same (f : Fld) (h1 : f.hi < 32) (v : Nat) (w : Word) : f.read (f.write v w) = v % 2 ^ f.width := by
  apply Nat.eq_of_testBit_eq
  intro i
  rw [Fld.read_testBit, Fld.write_testBit, Nat.testBit_mod_two_pow]
  by_cases h : i < f.width
  · have : f.lo + i < 32 := by simp only [Fld.width] at h; omega
    simp [h, this]
  · simp [h]

/-- A field apart from the one written keeps its value. -/
theorem Fld.read_write_apart (f g : Fld) (h : f.hi < g.lo ∨ g.hi < f.lo) (v : Nat) (w : Word) :
    f.read (g.write v w) = f.read w := by
  apply Nat.eq_of_testBit_eq
  intro i
  rw [Fld.read_testBit, Fld.read_testBit, Fld.write_testBit]
  by_cases hi : i < f.width
  · have : ¬ (g.lo ≤ f.lo + i ∧ f.lo + i - g.lo < g.width) := by simp only [Fld.width] at *; omega
    by_cases h2 : g.lo ≤ f.lo + i
    · have h3 : ¬ f.lo + i - g.lo < g.width := fun h3 => this ⟨h2, h3⟩
      simp [h3]
    · simp [h2]
  · simp [hi]

/-! ### The register file -/

theorem regRead_filter (m : List (Nat × Word)) (a b : Nat) :
    regRead (m.filter (fun p => p.1 != a)) b = if b = a then regReset b else regRead m b := by
  induction m with
  | nil => simp [regRead]
  | cons p t ih =>
    by_cases h : p.1 = a
    · have hp : (p.1 != a) = false := by simpa using h
      rw [List.filter_cons, hp]
      by_cases hb : b = a
      · simpa [hb] using ih
      · have : ¬ p.1 = b := by omega
        simpa [hb, regRead, this] using ih
    · have hp : (p.1 != a) = true := by simpa using h
      rw [List.filter_cons, hp]
      by_cases hb : p.1 = b
      · have : b ≠ a := by omega
        simp [regRead, hb, this]
      · simpa [regRead, hb] using ih

theorem regRead_insert (m : List (Nat × Word)) (a : Nat) (v : Word) (b : Nat) (h : ∀ p ∈ m, p.1 ≠ a) :
    regRead (sparseInsert a v m) b = if b = a then v else regRead m b := by
  induction m with
  | nil =>
    by_cases hb : b = a
    · simp [sparseInsert, regRead, hb]
    · simp [sparseInsert, regRead, hb, Ne.symm hb]
  | cons p t ih =>
    have hp := h p (by simp)
    have iht := ih (fun q hq => h q (by simp [hq]))
    simp only [sparseInsert]
    split
    · by_cases hb : b = a
      · simp [regRead, hb]
      · simp [regRead, hb, Ne.symm hb]
    · by_cases hb : p.1 = b
      · have : b ≠ a := by omega
        simp [regRead, hb, this]
      · simp [regRead, hb, iht]

theorem regRead_regWrite (m : List (Nat × Word)) (a : Nat) (v : Word) (b : Nat) :
    regRead (regWrite m a v) b = if b = a then v else regRead m b := by
  simp only [regWrite]
  split
  · rename_i h
    rw [regRead_filter]
    by_cases hb : b = a <;> simp [hb, h]
  · rw [regRead_insert _ _ _ _ (by intro p hp; simpa using (List.mem_filter.1 hp).2), regRead_filter]
    by_cases hb : b = a <;> simp [hb]

/-- A register reads back what was stored, and every other register as before. -/
theorem State.rd_wr (s : State) (a : Nat) (v : Word) (b : Nat) : (s.wr a v).rd b = if b = a then v else s.rd b :=
  regRead_regWrite s.regs a v b

@[simp] theorem State.rd_wr_same (s : State) (a : Nat) (v : Word) : (s.wr a v).rd a = v := by simp [State.rd_wr]

theorem State.rd_put (s : State) (f : Fld) (v b : Nat) :
    (s.put f v).rd b = if b = f.addr then f.write v (s.rd f.addr) else s.rd b := State.rd_wr s f.addr _ b

/-- A field reads back what was put into it, reduced to its width. -/
theorem State.get_put_same (s : State) (f : Fld) (v : Nat) (h : f.hi < 32) : (s.put f v).get f = v % 2 ^ f.width := by
  simp [State.get, State.rd_put, Fld.read_write_same f h]

/-- A field of another register keeps its value. -/
theorem State.get_put_addr (s : State) (f g : Fld) (v : Nat) (h : f.addr ≠ g.addr) : (s.put g v).get f = s.get f := by
  simp [State.get, State.rd_put, h]

/-- A field of the same register apart from the one put keeps its value. -/
theorem State.get_put_apart (s : State) (f g : Fld) (v : Nat) (h : f.hi < g.lo ∨ g.hi < f.lo) : (s.put g v).get f = s.get f := by
  by_cases ha : f.addr = g.addr
  · simp [State.get, State.rd_put, ha, Fld.read_write_apart f g h]
  · exact s.get_put_addr f g v ha

/-- Whether putting g leaves f alone: another register, or other bits. -/
def Fld.clear (f g : Fld) : Bool := decide (f.addr ≠ g.addr) || decide (f.hi < g.lo) || decide (g.hi < f.lo)

theorem State.get_put_clear (s : State) (f g : Fld) (v : Nat) (h : f.clear g = true) : (s.put g v).get f = s.get f := by
  simp only [Fld.clear, Bool.or_eq_true, decide_eq_true_eq] at h
  rcases h with (h | h) | h
  · exact s.get_put_addr f g v h
  · exact s.get_put_apart f g v (.inl h)
  · exact s.get_put_apart f g v (.inr h)

theorem State.puts_cons (s : State) (p : Fld × Nat) (l : List (Fld × Nat)) : s.puts (p :: l) = (s.put p.1 p.2).puts l := rfl

@[simp] theorem State.puts_nil (s : State) : s.puts [] = s := rfl

/-- A field that no entry of a list touches keeps its value. -/
theorem State.get_puts_clear (f : Fld) (l : List (Fld × Nat)) (h : l.all (fun p => f.clear p.1) = true) (s : State) :
    (s.puts l).get f = s.get f := by
  induction l generalizing s with
  | nil => rfl
  | cons p t ih =>
    simp only [List.all_cons, Bool.and_eq_true] at h
    rw [State.puts_cons, ih h.2, State.get_put_clear s f p.1 p.2 h.1]

/-- Only the register file changes in `puts`. -/
theorem State.puts_eq (l : List (Fld × Nat)) (s : State) : ∃ m, s.puts l = { s with regs := m } := by
  induction l generalizing s with
  | nil => exact ⟨s.regs, rfl⟩
  | cons p t ih =>
    obtain ⟨m, h⟩ := ih (s.put p.1 p.2)
    exact ⟨m, by rw [State.puts_cons, h]; rfl⟩

end Sys2Proof.Machine
end

