-- ==== Sys2Proof/Laws/State.lean ====
section
/-! SUPPORT. What each elementary update leaves alone: one lemma per field of State per update. -/

set_option Elab.async false

namespace Sys2Proof.Machine

/-! ### `wr` changes `regs` alone -/

@[simp] theorem State.wr_pending (s : State) (a : Nat) (v : Word) : (s.wr a v).pending = s.pending := rfl
@[simp] theorem State.wr_latch (s : State) (a : Nat) (v : Word) : (s.wr a v).latch = s.latch := rfl
@[simp] theorem State.wr_freeCount (s : State) (a : Nat) (v : Word) : (s.wr a v).freeCount = s.freeCount := rfl
@[simp] theorem State.wr_clk (s : State) (a : Nat) (v : Word) : (s.wr a v).clk = s.clk := rfl
@[simp] theorem State.wr_pins (s : State) (a : Nat) (v : Word) : (s.wr a v).pins = s.pins := rfl
@[simp] theorem State.wr_lnk (s : State) (a : Nat) (v : Word) : (s.wr a v).lnk = s.lnk := rfl
@[simp] theorem State.wr_recs (s : State) (a : Nat) (v : Word) : (s.wr a v).recs = s.recs := rfl
@[simp] theorem State.wr_flt (s : State) (a : Nat) (v : Word) : (s.wr a v).flt = s.flt := rfl
@[simp] theorem State.wr_due (s : State) (a : Nat) (v : Word) : (s.wr a v).due = s.due := rfl
@[simp] theorem State.wr_md (s : State) (a : Nat) (v : Word) : (s.wr a v).md = s.md := rfl
@[simp] theorem State.wr_jrn (s : State) (a : Nat) (v : Word) : (s.wr a v).jrn = s.jrn := rfl
@[simp] theorem State.wr_cfg (s : State) (a : Nat) (v : Word) : (s.wr a v).cfg = s.cfg := rfl
@[simp] theorem State.wr_tb (s : State) (a : Nat) (v : Word) : (s.wr a v).tb = s.tb := rfl
@[simp] theorem State.wr_fibs (s : State) (a : Nat) (v : Word) : (s.wr a v).fibs = s.fibs := rfl
@[simp] theorem State.wr_pps (s : State) (a : Nat) (v : Word) : (s.wr a v).pps = s.pps := rfl
@[simp] theorem State.wr_zones (s : State) (a : Nat) (v : Word) : (s.wr a v).zones = s.zones := rfl
@[simp] theorem State.wr_events (s : State) (a : Nat) (v : Word) : (s.wr a v).events = s.events := rfl
@[simp] theorem State.wr_acu (s : State) (a : Nat) (v : Word) : (s.wr a v).acu = s.acu := rfl
@[simp] theorem State.wr_acos (s : State) (a : Nat) (v : Word) : (s.wr a v).acos = s.acos := rfl
@[simp] theorem State.wr_zprocs (s : State) (a : Nat) (v : Word) : (s.wr a v).zprocs = s.zprocs := rfl
@[simp] theorem State.wr_raws (s : State) (a : Nat) (v : Word) : (s.wr a v).raws = s.raws := rfl
@[simp] theorem State.wr_links (s : State) (a : Nat) (v : Word) : (s.wr a v).links = s.links := rfl
@[simp] theorem State.wr_chzs (s : State) (a : Nat) (v : Word) : (s.wr a v).chzs = s.chzs := rfl
@[simp] theorem State.wr_acqs (s : State) (a : Nat) (v : Word) : (s.wr a v).acqs = s.acqs := rfl
@[simp] theorem State.wr_iqs (s : State) (a : Nat) (v : Word) : (s.wr a v).iqs = s.iqs := rfl
@[simp] theorem State.wr_ovrs (s : State) (a : Nat) (v : Word) : (s.wr a v).ovrs = s.ovrs := rfl
@[simp] theorem State.wr_snap (s : State) (a : Nat) (v : Word) : (s.wr a v).snap = s.snap := rfl
@[simp] theorem State.wr_cells (s : State) (a : Nat) (v : Word) : (s.wr a v).cells = s.cells := rfl
@[simp] theorem State.wr_tmps (s : State) (a : Nat) (v : Word) : (s.wr a v).tmps = s.tmps := rfl
@[simp] theorem State.wr_auxs (s : State) (a : Nat) (v : Word) : (s.wr a v).auxs = s.auxs := rfl
@[simp] theorem State.wr_dwell (s : State) (a : Nat) (v : Word) : (s.wr a v).dwell = s.dwell := rfl
@[simp] theorem State.wr_slots (s : State) (a : Nat) (v : Word) : (s.wr a v).slots = s.slots := rfl
@[simp] theorem State.wr_gal (s : State) (a : Nat) (v : Word) : (s.wr a v).gal = s.gal := rfl
@[simp] theorem State.wr_bist (s : State) (a : Nat) (v : Word) : (s.wr a v).bist = s.bist := rfl
@[simp] theorem State.wr_stairStored (s : State) (a : Nat) (v : Word) : (s.wr a v).stairStored = s.stairStored := rfl
@[simp] theorem State.wr_repair (s : State) (a : Nat) (v : Word) : (s.wr a v).repair = s.repair := rfl
@[simp] theorem State.wr_hist (s : State) (a : Nat) (v : Word) : (s.wr a v).hist = s.hist := rfl
@[simp] theorem State.wr_chans (s : State) (a : Nat) (v : Word) : (s.wr a v).chans = s.chans := rfl
@[simp] theorem State.wr_flashes (s : State) (a : Nat) (v : Word) : (s.wr a v).flashes = s.flashes := rfl
@[simp] theorem State.wr_heads (s : State) (a : Nat) (v : Word) : (s.wr a v).heads = s.heads := rfl
@[simp] theorem State.wr_prvs (s : State) (a : Nat) (v : Word) : (s.wr a v).prvs = s.prvs := rfl
@[simp] theorem State.wr_banks (s : State) (a : Nat) (v : Word) : (s.wr a v).banks = s.banks := rfl
@[simp] theorem State.wr_sups (s : State) (a : Nat) (v : Word) : (s.wr a v).sups = s.sups := rfl
@[simp] theorem State.wr_uslots (s : State) (a : Nat) (v : Word) : (s.wr a v).uslots = s.uslots := rfl
@[simp] theorem State.wr_matrix (s : State) (a : Nat) (v : Word) : (s.wr a v).matrix = s.matrix := rfl
@[simp] theorem State.wr_sio (s : State) (a : Nat) (v : Word) : (s.wr a v).sio = s.sio := rfl
@[simp] theorem State.wr_ts (s : State) (a : Nat) (v : Word) : (s.wr a v).ts = s.ts := rfl
@[simp] theorem State.wr_net (s : State) (a : Nat) (v : Word) : (s.wr a v).net = s.net := rfl
@[simp] theorem State.wr_conns (s : State) (a : Nat) (v : Word) : (s.wr a v).conns = s.conns := rfl
@[simp] theorem State.wr_spi (s : State) (a : Nat) (v : Word) : (s.wr a v).spi = s.spi := rfl
@[simp] theorem State.wr_cls (s : State) (a : Nat) (v : Word) : (s.wr a v).cls = s.cls := rfl
@[simp] theorem State.wr_mons (s : State) (a : Nat) (v : Word) : (s.wr a v).mons = s.mons := rfl
@[simp] theorem State.wr_corr (s : State) (a : Nat) (v : Word) : (s.wr a v).corr = s.corr := rfl
@[simp] theorem State.wr_lamps (s : State) (a : Nat) (v : Word) : (s.wr a v).lamps = s.lamps := rfl
@[simp] theorem State.wr_led (s : State) (a : Nat) (v : Word) : (s.wr a v).led = s.led := rfl
@[simp] theorem State.wr_pw (s : State) (a : Nat) (v : Word) : (s.wr a v).pw = s.pw := rfl

/-! ### `put` changes `regs` alone -/

@[simp] theorem State.put_pending (s : State) (f : Fld) (v : Nat) : (s.put f v).pending = s.pending := rfl
@[simp] theorem State.put_latch (s : State) (f : Fld) (v : Nat) : (s.put f v).latch = s.latch := rfl
@[simp] theorem State.put_freeCount (s : State) (f : Fld) (v : Nat) : (s.put f v).freeCount = s.freeCount := rfl
@[simp] theorem State.put_clk (s : State) (f : Fld) (v : Nat) : (s.put f v).clk = s.clk := rfl
@[simp] theorem State.put_pins (s : State) (f : Fld) (v : Nat) : (s.put f v).pins = s.pins := rfl
@[simp] theorem State.put_lnk (s : State) (f : Fld) (v : Nat) : (s.put f v).lnk = s.lnk := rfl
@[simp] theorem State.put_recs (s : State) (f : Fld) (v : Nat) : (s.put f v).recs = s.recs := rfl
@[simp] theorem State.put_flt (s : State) (f : Fld) (v : Nat) : (s.put f v).flt = s.flt := rfl
@[simp] theorem State.put_due (s : State) (f : Fld) (v : Nat) : (s.put f v).due = s.due := rfl
@[simp] theorem State.put_md (s : State) (f : Fld) (v : Nat) : (s.put f v).md = s.md := rfl
@[simp] theorem State.put_jrn (s : State) (f : Fld) (v : Nat) : (s.put f v).jrn = s.jrn := rfl
@[simp] theorem State.put_cfg (s : State) (f : Fld) (v : Nat) : (s.put f v).cfg = s.cfg := rfl
@[simp] theorem State.put_tb (s : State) (f : Fld) (v : Nat) : (s.put f v).tb = s.tb := rfl
@[simp] theorem State.put_fibs (s : State) (f : Fld) (v : Nat) : (s.put f v).fibs = s.fibs := rfl
@[simp] theorem State.put_pps (s : State) (f : Fld) (v : Nat) : (s.put f v).pps = s.pps := rfl
@[simp] theorem State.put_zones (s : State) (f : Fld) (v : Nat) : (s.put f v).zones = s.zones := rfl
@[simp] theorem State.put_events (s : State) (f : Fld) (v : Nat) : (s.put f v).events = s.events := rfl
@[simp] theorem State.put_acu (s : State) (f : Fld) (v : Nat) : (s.put f v).acu = s.acu := rfl
@[simp] theorem State.put_acos (s : State) (f : Fld) (v : Nat) : (s.put f v).acos = s.acos := rfl
@[simp] theorem State.put_zprocs (s : State) (f : Fld) (v : Nat) : (s.put f v).zprocs = s.zprocs := rfl
@[simp] theorem State.put_raws (s : State) (f : Fld) (v : Nat) : (s.put f v).raws = s.raws := rfl
@[simp] theorem State.put_links (s : State) (f : Fld) (v : Nat) : (s.put f v).links = s.links := rfl
@[simp] theorem State.put_chzs (s : State) (f : Fld) (v : Nat) : (s.put f v).chzs = s.chzs := rfl
@[simp] theorem State.put_acqs (s : State) (f : Fld) (v : Nat) : (s.put f v).acqs = s.acqs := rfl
@[simp] theorem State.put_iqs (s : State) (f : Fld) (v : Nat) : (s.put f v).iqs = s.iqs := rfl
@[simp] theorem State.put_ovrs (s : State) (f : Fld) (v : Nat) : (s.put f v).ovrs = s.ovrs := rfl
@[simp] theorem State.put_snap (s : State) (f : Fld) (v : Nat) : (s.put f v).snap = s.snap := rfl
@[simp] theorem State.put_cells (s : State) (f : Fld) (v : Nat) : (s.put f v).cells = s.cells := rfl
@[simp] theorem State.put_tmps (s : State) (f : Fld) (v : Nat) : (s.put f v).tmps = s.tmps := rfl
@[simp] theorem State.put_auxs (s : State) (f : Fld) (v : Nat) : (s.put f v).auxs = s.auxs := rfl
@[simp] theorem State.put_dwell (s : State) (f : Fld) (v : Nat) : (s.put f v).dwell = s.dwell := rfl
@[simp] theorem State.put_slots (s : State) (f : Fld) (v : Nat) : (s.put f v).slots = s.slots := rfl
@[simp] theorem State.put_gal (s : State) (f : Fld) (v : Nat) : (s.put f v).gal = s.gal := rfl
@[simp] theorem State.put_bist (s : State) (f : Fld) (v : Nat) : (s.put f v).bist = s.bist := rfl
@[simp] theorem State.put_stairStored (s : State) (f : Fld) (v : Nat) : (s.put f v).stairStored = s.stairStored := rfl
@[simp] theorem State.put_repair (s : State) (f : Fld) (v : Nat) : (s.put f v).repair = s.repair := rfl
@[simp] theorem State.put_hist (s : State) (f : Fld) (v : Nat) : (s.put f v).hist = s.hist := rfl
@[simp] theorem State.put_chans (s : State) (f : Fld) (v : Nat) : (s.put f v).chans = s.chans := rfl
@[simp] theorem State.put_flashes (s : State) (f : Fld) (v : Nat) : (s.put f v).flashes = s.flashes := rfl
@[simp] theorem State.put_heads (s : State) (f : Fld) (v : Nat) : (s.put f v).heads = s.heads := rfl
@[simp] theorem State.put_prvs (s : State) (f : Fld) (v : Nat) : (s.put f v).prvs = s.prvs := rfl
@[simp] theorem State.put_banks (s : State) (f : Fld) (v : Nat) : (s.put f v).banks = s.banks := rfl
@[simp] theorem State.put_sups (s : State) (f : Fld) (v : Nat) : (s.put f v).sups = s.sups := rfl
@[simp] theorem State.put_uslots (s : State) (f : Fld) (v : Nat) : (s.put f v).uslots = s.uslots := rfl
@[simp] theorem State.put_matrix (s : State) (f : Fld) (v : Nat) : (s.put f v).matrix = s.matrix := rfl
@[simp] theorem State.put_sio (s : State) (f : Fld) (v : Nat) : (s.put f v).sio = s.sio := rfl
@[simp] theorem State.put_ts (s : State) (f : Fld) (v : Nat) : (s.put f v).ts = s.ts := rfl
@[simp] theorem State.put_net (s : State) (f : Fld) (v : Nat) : (s.put f v).net = s.net := rfl
@[simp] theorem State.put_conns (s : State) (f : Fld) (v : Nat) : (s.put f v).conns = s.conns := rfl
@[simp] theorem State.put_spi (s : State) (f : Fld) (v : Nat) : (s.put f v).spi = s.spi := rfl
@[simp] theorem State.put_cls (s : State) (f : Fld) (v : Nat) : (s.put f v).cls = s.cls := rfl
@[simp] theorem State.put_mons (s : State) (f : Fld) (v : Nat) : (s.put f v).mons = s.mons := rfl
@[simp] theorem State.put_corr (s : State) (f : Fld) (v : Nat) : (s.put f v).corr = s.corr := rfl
@[simp] theorem State.put_lamps (s : State) (f : Fld) (v : Nat) : (s.put f v).lamps = s.lamps := rfl
@[simp] theorem State.put_led (s : State) (f : Fld) (v : Nat) : (s.put f v).led = s.led := rfl
@[simp] theorem State.put_pw (s : State) (f : Fld) (v : Nat) : (s.put f v).pw = s.pw := rfl

/-! ### `puti` changes `regs` alone -/

@[simp] theorem State.puti_pending (s : State) (f : Fld) (z : Int) : (s.puti f z).pending = s.pending := rfl
@[simp] theorem State.puti_latch (s : State) (f : Fld) (z : Int) : (s.puti f z).latch = s.latch := rfl
@[simp] theorem State.puti_freeCount (s : State) (f : Fld) (z : Int) : (s.puti f z).freeCount = s.freeCount := rfl
@[simp] theorem State.puti_clk (s : State) (f : Fld) (z : Int) : (s.puti f z).clk = s.clk := rfl
@[simp] theorem State.puti_pins (s : State) (f : Fld) (z : Int) : (s.puti f z).pins = s.pins := rfl
@[simp] theorem State.puti_lnk (s : State) (f : Fld) (z : Int) : (s.puti f z).lnk = s.lnk := rfl
@[simp] theorem State.puti_recs (s : State) (f : Fld) (z : Int) : (s.puti f z).recs = s.recs := rfl
@[simp] theorem State.puti_flt (s : State) (f : Fld) (z : Int) : (s.puti f z).flt = s.flt := rfl
@[simp] theorem State.puti_due (s : State) (f : Fld) (z : Int) : (s.puti f z).due = s.due := rfl
@[simp] theorem State.puti_md (s : State) (f : Fld) (z : Int) : (s.puti f z).md = s.md := rfl
@[simp] theorem State.puti_jrn (s : State) (f : Fld) (z : Int) : (s.puti f z).jrn = s.jrn := rfl
@[simp] theorem State.puti_cfg (s : State) (f : Fld) (z : Int) : (s.puti f z).cfg = s.cfg := rfl
@[simp] theorem State.puti_tb (s : State) (f : Fld) (z : Int) : (s.puti f z).tb = s.tb := rfl
@[simp] theorem State.puti_fibs (s : State) (f : Fld) (z : Int) : (s.puti f z).fibs = s.fibs := rfl
@[simp] theorem State.puti_pps (s : State) (f : Fld) (z : Int) : (s.puti f z).pps = s.pps := rfl
@[simp] theorem State.puti_zones (s : State) (f : Fld) (z : Int) : (s.puti f z).zones = s.zones := rfl
@[simp] theorem State.puti_events (s : State) (f : Fld) (z : Int) : (s.puti f z).events = s.events := rfl
@[simp] theorem State.puti_acu (s : State) (f : Fld) (z : Int) : (s.puti f z).acu = s.acu := rfl
@[simp] theorem State.puti_acos (s : State) (f : Fld) (z : Int) : (s.puti f z).acos = s.acos := rfl
@[simp] theorem State.puti_zprocs (s : State) (f : Fld) (z : Int) : (s.puti f z).zprocs = s.zprocs := rfl
@[simp] theorem State.puti_raws (s : State) (f : Fld) (z : Int) : (s.puti f z).raws = s.raws := rfl
@[simp] theorem State.puti_links (s : State) (f : Fld) (z : Int) : (s.puti f z).links = s.links := rfl
@[simp] theorem State.puti_chzs (s : State) (f : Fld) (z : Int) : (s.puti f z).chzs = s.chzs := rfl
@[simp] theorem State.puti_acqs (s : State) (f : Fld) (z : Int) : (s.puti f z).acqs = s.acqs := rfl
@[simp] theorem State.puti_iqs (s : State) (f : Fld) (z : Int) : (s.puti f z).iqs = s.iqs := rfl
@[simp] theorem State.puti_ovrs (s : State) (f : Fld) (z : Int) : (s.puti f z).ovrs = s.ovrs := rfl
@[simp] theorem State.puti_snap (s : State) (f : Fld) (z : Int) : (s.puti f z).snap = s.snap := rfl
@[simp] theorem State.puti_cells (s : State) (f : Fld) (z : Int) : (s.puti f z).cells = s.cells := rfl
@[simp] theorem State.puti_tmps (s : State) (f : Fld) (z : Int) : (s.puti f z).tmps = s.tmps := rfl
@[simp] theorem State.puti_auxs (s : State) (f : Fld) (z : Int) : (s.puti f z).auxs = s.auxs := rfl
@[simp] theorem State.puti_dwell (s : State) (f : Fld) (z : Int) : (s.puti f z).dwell = s.dwell := rfl
@[simp] theorem State.puti_slots (s : State) (f : Fld) (z : Int) : (s.puti f z).slots = s.slots := rfl
@[simp] theorem State.puti_gal (s : State) (f : Fld) (z : Int) : (s.puti f z).gal = s.gal := rfl
@[simp] theorem State.puti_bist (s : State) (f : Fld) (z : Int) : (s.puti f z).bist = s.bist := rfl
@[simp] theorem State.puti_stairStored (s : State) (f : Fld) (z : Int) : (s.puti f z).stairStored = s.stairStored := rfl
@[simp] theorem State.puti_repair (s : State) (f : Fld) (z : Int) : (s.puti f z).repair = s.repair := rfl
@[simp] theorem State.puti_hist (s : State) (f : Fld) (z : Int) : (s.puti f z).hist = s.hist := rfl
@[simp] theorem State.puti_chans (s : State) (f : Fld) (z : Int) : (s.puti f z).chans = s.chans := rfl
@[simp] theorem State.puti_flashes (s : State) (f : Fld) (z : Int) : (s.puti f z).flashes = s.flashes := rfl
@[simp] theorem State.puti_heads (s : State) (f : Fld) (z : Int) : (s.puti f z).heads = s.heads := rfl
@[simp] theorem State.puti_prvs (s : State) (f : Fld) (z : Int) : (s.puti f z).prvs = s.prvs := rfl
@[simp] theorem State.puti_banks (s : State) (f : Fld) (z : Int) : (s.puti f z).banks = s.banks := rfl
@[simp] theorem State.puti_sups (s : State) (f : Fld) (z : Int) : (s.puti f z).sups = s.sups := rfl
@[simp] theorem State.puti_uslots (s : State) (f : Fld) (z : Int) : (s.puti f z).uslots = s.uslots := rfl
@[simp] theorem State.puti_matrix (s : State) (f : Fld) (z : Int) : (s.puti f z).matrix = s.matrix := rfl
@[simp] theorem State.puti_sio (s : State) (f : Fld) (z : Int) : (s.puti f z).sio = s.sio := rfl
@[simp] theorem State.puti_ts (s : State) (f : Fld) (z : Int) : (s.puti f z).ts = s.ts := rfl
@[simp] theorem State.puti_net (s : State) (f : Fld) (z : Int) : (s.puti f z).net = s.net := rfl
@[simp] theorem State.puti_conns (s : State) (f : Fld) (z : Int) : (s.puti f z).conns = s.conns := rfl
@[simp] theorem State.puti_spi (s : State) (f : Fld) (z : Int) : (s.puti f z).spi = s.spi := rfl
@[simp] theorem State.puti_cls (s : State) (f : Fld) (z : Int) : (s.puti f z).cls = s.cls := rfl
@[simp] theorem State.puti_mons (s : State) (f : Fld) (z : Int) : (s.puti f z).mons = s.mons := rfl
@[simp] theorem State.puti_corr (s : State) (f : Fld) (z : Int) : (s.puti f z).corr = s.corr := rfl
@[simp] theorem State.puti_lamps (s : State) (f : Fld) (z : Int) : (s.puti f z).lamps = s.lamps := rfl
@[simp] theorem State.puti_led (s : State) (f : Fld) (z : Int) : (s.puti f z).led = s.led := rfl
@[simp] theorem State.puti_pw (s : State) (f : Fld) (z : Int) : (s.puti f z).pw = s.pw := rfl

/-! ### `putSat` changes `regs` alone -/

@[simp] theorem State.putSat_pending (s : State) (f : Fld) (v : Nat) : (s.putSat f v).pending = s.pending := rfl
@[simp] theorem State.putSat_latch (s : State) (f : Fld) (v : Nat) : (s.putSat f v).latch = s.latch := rfl
@[simp] theorem State.putSat_freeCount (s : State) (f : Fld) (v : Nat) : (s.putSat f v).freeCount = s.freeCount := rfl
@[simp] theorem State.putSat_clk (s : State) (f : Fld) (v : Nat) : (s.putSat f v).clk = s.clk := rfl
@[simp] theorem State.putSat_pins (s : State) (f : Fld) (v : Nat) : (s.putSat f v).pins = s.pins := rfl
@[simp] theorem State.putSat_lnk (s : State) (f : Fld) (v : Nat) : (s.putSat f v).lnk = s.lnk := rfl
@[simp] theorem State.putSat_recs (s : State) (f : Fld) (v : Nat) : (s.putSat f v).recs = s.recs := rfl
@[simp] theorem State.putSat_flt (s : State) (f : Fld) (v : Nat) : (s.putSat f v).flt = s.flt := rfl
@[simp] theorem State.putSat_due (s : State) (f : Fld) (v : Nat) : (s.putSat f v).due = s.due := rfl
@[simp] theorem State.putSat_md (s : State) (f : Fld) (v : Nat) : (s.putSat f v).md = s.md := rfl
@[simp] theorem State.putSat_jrn (s : State) (f : Fld) (v : Nat) : (s.putSat f v).jrn = s.jrn := rfl
@[simp] theorem State.putSat_cfg (s : State) (f : Fld) (v : Nat) : (s.putSat f v).cfg = s.cfg := rfl
@[simp] theorem State.putSat_tb (s : State) (f : Fld) (v : Nat) : (s.putSat f v).tb = s.tb := rfl
@[simp] theorem State.putSat_fibs (s : State) (f : Fld) (v : Nat) : (s.putSat f v).fibs = s.fibs := rfl
@[simp] theorem State.putSat_pps (s : State) (f : Fld) (v : Nat) : (s.putSat f v).pps = s.pps := rfl
@[simp] theorem State.putSat_zones (s : State) (f : Fld) (v : Nat) : (s.putSat f v).zones = s.zones := rfl
@[simp] theorem State.putSat_events (s : State) (f : Fld) (v : Nat) : (s.putSat f v).events = s.events := rfl
@[simp] theorem State.putSat_acu (s : State) (f : Fld) (v : Nat) : (s.putSat f v).acu = s.acu := rfl
@[simp] theorem State.putSat_acos (s : State) (f : Fld) (v : Nat) : (s.putSat f v).acos = s.acos := rfl
@[simp] theorem State.putSat_zprocs (s : State) (f : Fld) (v : Nat) : (s.putSat f v).zprocs = s.zprocs := rfl
@[simp] theorem State.putSat_raws (s : State) (f : Fld) (v : Nat) : (s.putSat f v).raws = s.raws := rfl
@[simp] theorem State.putSat_links (s : State) (f : Fld) (v : Nat) : (s.putSat f v).links = s.links := rfl
@[simp] theorem State.putSat_chzs (s : State) (f : Fld) (v : Nat) : (s.putSat f v).chzs = s.chzs := rfl
@[simp] theorem State.putSat_acqs (s : State) (f : Fld) (v : Nat) : (s.putSat f v).acqs = s.acqs := rfl
@[simp] theorem State.putSat_iqs (s : State) (f : Fld) (v : Nat) : (s.putSat f v).iqs = s.iqs := rfl
@[simp] theorem State.putSat_ovrs (s : State) (f : Fld) (v : Nat) : (s.putSat f v).ovrs = s.ovrs := rfl
@[simp] theorem State.putSat_snap (s : State) (f : Fld) (v : Nat) : (s.putSat f v).snap = s.snap := rfl
@[simp] theorem State.putSat_cells (s : State) (f : Fld) (v : Nat) : (s.putSat f v).cells = s.cells := rfl
@[simp] theorem State.putSat_tmps (s : State) (f : Fld) (v : Nat) : (s.putSat f v).tmps = s.tmps := rfl
@[simp] theorem State.putSat_auxs (s : State) (f : Fld) (v : Nat) : (s.putSat f v).auxs = s.auxs := rfl
@[simp] theorem State.putSat_dwell (s : State) (f : Fld) (v : Nat) : (s.putSat f v).dwell = s.dwell := rfl
@[simp] theorem State.putSat_slots (s : State) (f : Fld) (v : Nat) : (s.putSat f v).slots = s.slots := rfl
@[simp] theorem State.putSat_gal (s : State) (f : Fld) (v : Nat) : (s.putSat f v).gal = s.gal := rfl
@[simp] theorem State.putSat_bist (s : State) (f : Fld) (v : Nat) : (s.putSat f v).bist = s.bist := rfl
@[simp] theorem State.putSat_stairStored (s : State) (f : Fld) (v : Nat) : (s.putSat f v).stairStored = s.stairStored := rfl
@[simp] theorem State.putSat_repair (s : State) (f : Fld) (v : Nat) : (s.putSat f v).repair = s.repair := rfl
@[simp] theorem State.putSat_hist (s : State) (f : Fld) (v : Nat) : (s.putSat f v).hist = s.hist := rfl
@[simp] theorem State.putSat_chans (s : State) (f : Fld) (v : Nat) : (s.putSat f v).chans = s.chans := rfl
@[simp] theorem State.putSat_flashes (s : State) (f : Fld) (v : Nat) : (s.putSat f v).flashes = s.flashes := rfl
@[simp] theorem State.putSat_heads (s : State) (f : Fld) (v : Nat) : (s.putSat f v).heads = s.heads := rfl
@[simp] theorem State.putSat_prvs (s : State) (f : Fld) (v : Nat) : (s.putSat f v).prvs = s.prvs := rfl
@[simp] theorem State.putSat_banks (s : State) (f : Fld) (v : Nat) : (s.putSat f v).banks = s.banks := rfl
@[simp] theorem State.putSat_sups (s : State) (f : Fld) (v : Nat) : (s.putSat f v).sups = s.sups := rfl
@[simp] theorem State.putSat_uslots (s : State) (f : Fld) (v : Nat) : (s.putSat f v).uslots = s.uslots := rfl
@[simp] theorem State.putSat_matrix (s : State) (f : Fld) (v : Nat) : (s.putSat f v).matrix = s.matrix := rfl
@[simp] theorem State.putSat_sio (s : State) (f : Fld) (v : Nat) : (s.putSat f v).sio = s.sio := rfl
@[simp] theorem State.putSat_ts (s : State) (f : Fld) (v : Nat) : (s.putSat f v).ts = s.ts := rfl
@[simp] theorem State.putSat_net (s : State) (f : Fld) (v : Nat) : (s.putSat f v).net = s.net := rfl
@[simp] theorem State.putSat_conns (s : State) (f : Fld) (v : Nat) : (s.putSat f v).conns = s.conns := rfl
@[simp] theorem State.putSat_spi (s : State) (f : Fld) (v : Nat) : (s.putSat f v).spi = s.spi := rfl
@[simp] theorem State.putSat_cls (s : State) (f : Fld) (v : Nat) : (s.putSat f v).cls = s.cls := rfl
@[simp] theorem State.putSat_mons (s : State) (f : Fld) (v : Nat) : (s.putSat f v).mons = s.mons := rfl
@[simp] theorem State.putSat_corr (s : State) (f : Fld) (v : Nat) : (s.putSat f v).corr = s.corr := rfl
@[simp] theorem State.putSat_lamps (s : State) (f : Fld) (v : Nat) : (s.putSat f v).lamps = s.lamps := rfl
@[simp] theorem State.putSat_led (s : State) (f : Fld) (v : Nat) : (s.putSat f v).led = s.led := rfl
@[simp] theorem State.putSat_pw (s : State) (f : Fld) (v : Nat) : (s.putSat f v).pw = s.pw := rfl

/-! ### `putB` changes `regs` alone -/

@[simp] theorem State.putB_pending (s : State) (f : Fld) (b : Bool) : (s.putB f b).pending = s.pending := rfl
@[simp] theorem State.putB_latch (s : State) (f : Fld) (b : Bool) : (s.putB f b).latch = s.latch := rfl
@[simp] theorem State.putB_freeCount (s : State) (f : Fld) (b : Bool) : (s.putB f b).freeCount = s.freeCount := rfl
@[simp] theorem State.putB_clk (s : State) (f : Fld) (b : Bool) : (s.putB f b).clk = s.clk := rfl
@[simp] theorem State.putB_pins (s : State) (f : Fld) (b : Bool) : (s.putB f b).pins = s.pins := rfl
@[simp] theorem State.putB_lnk (s : State) (f : Fld) (b : Bool) : (s.putB f b).lnk = s.lnk := rfl
@[simp] theorem State.putB_recs (s : State) (f : Fld) (b : Bool) : (s.putB f b).recs = s.recs := rfl
@[simp] theorem State.putB_flt (s : State) (f : Fld) (b : Bool) : (s.putB f b).flt = s.flt := rfl
@[simp] theorem State.putB_due (s : State) (f : Fld) (b : Bool) : (s.putB f b).due = s.due := rfl
@[simp] theorem State.putB_md (s : State) (f : Fld) (b : Bool) : (s.putB f b).md = s.md := rfl
@[simp] theorem State.putB_jrn (s : State) (f : Fld) (b : Bool) : (s.putB f b).jrn = s.jrn := rfl
@[simp] theorem State.putB_cfg (s : State) (f : Fld) (b : Bool) : (s.putB f b).cfg = s.cfg := rfl
@[simp] theorem State.putB_tb (s : State) (f : Fld) (b : Bool) : (s.putB f b).tb = s.tb := rfl
@[simp] theorem State.putB_fibs (s : State) (f : Fld) (b : Bool) : (s.putB f b).fibs = s.fibs := rfl
@[simp] theorem State.putB_pps (s : State) (f : Fld) (b : Bool) : (s.putB f b).pps = s.pps := rfl
@[simp] theorem State.putB_zones (s : State) (f : Fld) (b : Bool) : (s.putB f b).zones = s.zones := rfl
@[simp] theorem State.putB_events (s : State) (f : Fld) (b : Bool) : (s.putB f b).events = s.events := rfl
@[simp] theorem State.putB_acu (s : State) (f : Fld) (b : Bool) : (s.putB f b).acu = s.acu := rfl
@[simp] theorem State.putB_acos (s : State) (f : Fld) (b : Bool) : (s.putB f b).acos = s.acos := rfl
@[simp] theorem State.putB_zprocs (s : State) (f : Fld) (b : Bool) : (s.putB f b).zprocs = s.zprocs := rfl
@[simp] theorem State.putB_raws (s : State) (f : Fld) (b : Bool) : (s.putB f b).raws = s.raws := rfl
@[simp] theorem State.putB_links (s : State) (f : Fld) (b : Bool) : (s.putB f b).links = s.links := rfl
@[simp] theorem State.putB_chzs (s : State) (f : Fld) (b : Bool) : (s.putB f b).chzs = s.chzs := rfl
@[simp] theorem State.putB_acqs (s : State) (f : Fld) (b : Bool) : (s.putB f b).acqs = s.acqs := rfl
@[simp] theorem State.putB_iqs (s : State) (f : Fld) (b : Bool) : (s.putB f b).iqs = s.iqs := rfl
@[simp] theorem State.putB_ovrs (s : State) (f : Fld) (b : Bool) : (s.putB f b).ovrs = s.ovrs := rfl
@[simp] theorem State.putB_snap (s : State) (f : Fld) (b : Bool) : (s.putB f b).snap = s.snap := rfl
@[simp] theorem State.putB_cells (s : State) (f : Fld) (b : Bool) : (s.putB f b).cells = s.cells := rfl
@[simp] theorem State.putB_tmps (s : State) (f : Fld) (b : Bool) : (s.putB f b).tmps = s.tmps := rfl
@[simp] theorem State.putB_auxs (s : State) (f : Fld) (b : Bool) : (s.putB f b).auxs = s.auxs := rfl
@[simp] theorem State.putB_dwell (s : State) (f : Fld) (b : Bool) : (s.putB f b).dwell = s.dwell := rfl
@[simp] theorem State.putB_slots (s : State) (f : Fld) (b : Bool) : (s.putB f b).slots = s.slots := rfl
@[simp] theorem State.putB_gal (s : State) (f : Fld) (b : Bool) : (s.putB f b).gal = s.gal := rfl
@[simp] theorem State.putB_bist (s : State) (f : Fld) (b : Bool) : (s.putB f b).bist = s.bist := rfl
@[simp] theorem State.putB_stairStored (s : State) (f : Fld) (b : Bool) : (s.putB f b).stairStored = s.stairStored := rfl
@[simp] theorem State.putB_repair (s : State) (f : Fld) (b : Bool) : (s.putB f b).repair = s.repair := rfl
@[simp] theorem State.putB_hist (s : State) (f : Fld) (b : Bool) : (s.putB f b).hist = s.hist := rfl
@[simp] theorem State.putB_chans (s : State) (f : Fld) (b : Bool) : (s.putB f b).chans = s.chans := rfl
@[simp] theorem State.putB_flashes (s : State) (f : Fld) (b : Bool) : (s.putB f b).flashes = s.flashes := rfl
@[simp] theorem State.putB_heads (s : State) (f : Fld) (b : Bool) : (s.putB f b).heads = s.heads := rfl
@[simp] theorem State.putB_prvs (s : State) (f : Fld) (b : Bool) : (s.putB f b).prvs = s.prvs := rfl
@[simp] theorem State.putB_banks (s : State) (f : Fld) (b : Bool) : (s.putB f b).banks = s.banks := rfl
@[simp] theorem State.putB_sups (s : State) (f : Fld) (b : Bool) : (s.putB f b).sups = s.sups := rfl
@[simp] theorem State.putB_uslots (s : State) (f : Fld) (b : Bool) : (s.putB f b).uslots = s.uslots := rfl
@[simp] theorem State.putB_matrix (s : State) (f : Fld) (b : Bool) : (s.putB f b).matrix = s.matrix := rfl
@[simp] theorem State.putB_sio (s : State) (f : Fld) (b : Bool) : (s.putB f b).sio = s.sio := rfl
@[simp] theorem State.putB_ts (s : State) (f : Fld) (b : Bool) : (s.putB f b).ts = s.ts := rfl
@[simp] theorem State.putB_net (s : State) (f : Fld) (b : Bool) : (s.putB f b).net = s.net := rfl
@[simp] theorem State.putB_conns (s : State) (f : Fld) (b : Bool) : (s.putB f b).conns = s.conns := rfl
@[simp] theorem State.putB_spi (s : State) (f : Fld) (b : Bool) : (s.putB f b).spi = s.spi := rfl
@[simp] theorem State.putB_cls (s : State) (f : Fld) (b : Bool) : (s.putB f b).cls = s.cls := rfl
@[simp] theorem State.putB_mons (s : State) (f : Fld) (b : Bool) : (s.putB f b).mons = s.mons := rfl
@[simp] theorem State.putB_corr (s : State) (f : Fld) (b : Bool) : (s.putB f b).corr = s.corr := rfl
@[simp] theorem State.putB_lamps (s : State) (f : Fld) (b : Bool) : (s.putB f b).lamps = s.lamps := rfl
@[simp] theorem State.putB_led (s : State) (f : Fld) (b : Bool) : (s.putB f b).led = s.led := rfl
@[simp] theorem State.putB_pw (s : State) (f : Fld) (b : Bool) : (s.putB f b).pw = s.pw := rfl

/-! ### `inc` changes `regs` alone -/

@[simp] theorem State.inc_pending (s : State) (f : Fld) (k : Nat) : (s.inc f k).pending = s.pending := rfl
@[simp] theorem State.inc_latch (s : State) (f : Fld) (k : Nat) : (s.inc f k).latch = s.latch := rfl
@[simp] theorem State.inc_freeCount (s : State) (f : Fld) (k : Nat) : (s.inc f k).freeCount = s.freeCount := rfl
@[simp] theorem State.inc_clk (s : State) (f : Fld) (k : Nat) : (s.inc f k).clk = s.clk := rfl
@[simp] theorem State.inc_pins (s : State) (f : Fld) (k : Nat) : (s.inc f k).pins = s.pins := rfl
@[simp] theorem State.inc_lnk (s : State) (f : Fld) (k : Nat) : (s.inc f k).lnk = s.lnk := rfl
@[simp] theorem State.inc_recs (s : State) (f : Fld) (k : Nat) : (s.inc f k).recs = s.recs := rfl
@[simp] theorem State.inc_flt (s : State) (f : Fld) (k : Nat) : (s.inc f k).flt = s.flt := rfl
@[simp] theorem State.inc_due (s : State) (f : Fld) (k : Nat) : (s.inc f k).due = s.due := rfl
@[simp] theorem State.inc_md (s : State) (f : Fld) (k : Nat) : (s.inc f k).md = s.md := rfl
@[simp] theorem State.inc_jrn (s : State) (f : Fld) (k : Nat) : (s.inc f k).jrn = s.jrn := rfl
@[simp] theorem State.inc_cfg (s : State) (f : Fld) (k : Nat) : (s.inc f k).cfg = s.cfg := rfl
@[simp] theorem State.inc_tb (s : State) (f : Fld) (k : Nat) : (s.inc f k).tb = s.tb := rfl
@[simp] theorem State.inc_fibs (s : State) (f : Fld) (k : Nat) : (s.inc f k).fibs = s.fibs := rfl
@[simp] theorem State.inc_pps (s : State) (f : Fld) (k : Nat) : (s.inc f k).pps = s.pps := rfl
@[simp] theorem State.inc_zones (s : State) (f : Fld) (k : Nat) : (s.inc f k).zones = s.zones := rfl
@[simp] theorem State.inc_events (s : State) (f : Fld) (k : Nat) : (s.inc f k).events = s.events := rfl
@[simp] theorem State.inc_acu (s : State) (f : Fld) (k : Nat) : (s.inc f k).acu = s.acu := rfl
@[simp] theorem State.inc_acos (s : State) (f : Fld) (k : Nat) : (s.inc f k).acos = s.acos := rfl
@[simp] theorem State.inc_zprocs (s : State) (f : Fld) (k : Nat) : (s.inc f k).zprocs = s.zprocs := rfl
@[simp] theorem State.inc_raws (s : State) (f : Fld) (k : Nat) : (s.inc f k).raws = s.raws := rfl
@[simp] theorem State.inc_links (s : State) (f : Fld) (k : Nat) : (s.inc f k).links = s.links := rfl
@[simp] theorem State.inc_chzs (s : State) (f : Fld) (k : Nat) : (s.inc f k).chzs = s.chzs := rfl
@[simp] theorem State.inc_acqs (s : State) (f : Fld) (k : Nat) : (s.inc f k).acqs = s.acqs := rfl
@[simp] theorem State.inc_iqs (s : State) (f : Fld) (k : Nat) : (s.inc f k).iqs = s.iqs := rfl
@[simp] theorem State.inc_ovrs (s : State) (f : Fld) (k : Nat) : (s.inc f k).ovrs = s.ovrs := rfl
@[simp] theorem State.inc_snap (s : State) (f : Fld) (k : Nat) : (s.inc f k).snap = s.snap := rfl
@[simp] theorem State.inc_cells (s : State) (f : Fld) (k : Nat) : (s.inc f k).cells = s.cells := rfl
@[simp] theorem State.inc_tmps (s : State) (f : Fld) (k : Nat) : (s.inc f k).tmps = s.tmps := rfl
@[simp] theorem State.inc_auxs (s : State) (f : Fld) (k : Nat) : (s.inc f k).auxs = s.auxs := rfl
@[simp] theorem State.inc_dwell (s : State) (f : Fld) (k : Nat) : (s.inc f k).dwell = s.dwell := rfl
@[simp] theorem State.inc_slots (s : State) (f : Fld) (k : Nat) : (s.inc f k).slots = s.slots := rfl
@[simp] theorem State.inc_gal (s : State) (f : Fld) (k : Nat) : (s.inc f k).gal = s.gal := rfl
@[simp] theorem State.inc_bist (s : State) (f : Fld) (k : Nat) : (s.inc f k).bist = s.bist := rfl
@[simp] theorem State.inc_stairStored (s : State) (f : Fld) (k : Nat) : (s.inc f k).stairStored = s.stairStored := rfl
@[simp] theorem State.inc_repair (s : State) (f : Fld) (k : Nat) : (s.inc f k).repair = s.repair := rfl
@[simp] theorem State.inc_hist (s : State) (f : Fld) (k : Nat) : (s.inc f k).hist = s.hist := rfl
@[simp] theorem State.inc_chans (s : State) (f : Fld) (k : Nat) : (s.inc f k).chans = s.chans := rfl
@[simp] theorem State.inc_flashes (s : State) (f : Fld) (k : Nat) : (s.inc f k).flashes = s.flashes := rfl
@[simp] theorem State.inc_heads (s : State) (f : Fld) (k : Nat) : (s.inc f k).heads = s.heads := rfl
@[simp] theorem State.inc_prvs (s : State) (f : Fld) (k : Nat) : (s.inc f k).prvs = s.prvs := rfl
@[simp] theorem State.inc_banks (s : State) (f : Fld) (k : Nat) : (s.inc f k).banks = s.banks := rfl
@[simp] theorem State.inc_sups (s : State) (f : Fld) (k : Nat) : (s.inc f k).sups = s.sups := rfl
@[simp] theorem State.inc_uslots (s : State) (f : Fld) (k : Nat) : (s.inc f k).uslots = s.uslots := rfl
@[simp] theorem State.inc_matrix (s : State) (f : Fld) (k : Nat) : (s.inc f k).matrix = s.matrix := rfl
@[simp] theorem State.inc_sio (s : State) (f : Fld) (k : Nat) : (s.inc f k).sio = s.sio := rfl
@[simp] theorem State.inc_ts (s : State) (f : Fld) (k : Nat) : (s.inc f k).ts = s.ts := rfl
@[simp] theorem State.inc_net (s : State) (f : Fld) (k : Nat) : (s.inc f k).net = s.net := rfl
@[simp] theorem State.inc_conns (s : State) (f : Fld) (k : Nat) : (s.inc f k).conns = s.conns := rfl
@[simp] theorem State.inc_spi (s : State) (f : Fld) (k : Nat) : (s.inc f k).spi = s.spi := rfl
@[simp] theorem State.inc_cls (s : State) (f : Fld) (k : Nat) : (s.inc f k).cls = s.cls := rfl
@[simp] theorem State.inc_mons (s : State) (f : Fld) (k : Nat) : (s.inc f k).mons = s.mons := rfl
@[simp] theorem State.inc_corr (s : State) (f : Fld) (k : Nat) : (s.inc f k).corr = s.corr := rfl
@[simp] theorem State.inc_lamps (s : State) (f : Fld) (k : Nat) : (s.inc f k).lamps = s.lamps := rfl
@[simp] theorem State.inc_led (s : State) (f : Fld) (k : Nat) : (s.inc f k).led = s.led := rfl
@[simp] theorem State.inc_pw (s : State) (f : Fld) (k : Nat) : (s.inc f k).pw = s.pw := rfl

/-! ### `drawn` changes `freeCount` alone -/

@[simp] theorem State.drawn_pending (s : State) : (s.drawn).pending = s.pending := rfl
@[simp] theorem State.drawn_regs (s : State) : (s.drawn).regs = s.regs := rfl
@[simp] theorem State.drawn_latch (s : State) : (s.drawn).latch = s.latch := rfl
@[simp] theorem State.drawn_clk (s : State) : (s.drawn).clk = s.clk := rfl
@[simp] theorem State.drawn_pins (s : State) : (s.drawn).pins = s.pins := rfl
@[simp] theorem State.drawn_lnk (s : State) : (s.drawn).lnk = s.lnk := rfl
@[simp] theorem State.drawn_recs (s : State) : (s.drawn).recs = s.recs := rfl
@[simp] theorem State.drawn_flt (s : State) : (s.drawn).flt = s.flt := rfl
@[simp] theorem State.drawn_due (s : State) : (s.drawn).due = s.due := rfl
@[simp] theorem State.drawn_md (s : State) : (s.drawn).md = s.md := rfl
@[simp] theorem State.drawn_jrn (s : State) : (s.drawn).jrn = s.jrn := rfl
@[simp] theorem State.drawn_cfg (s : State) : (s.drawn).cfg = s.cfg := rfl
@[simp] theorem State.drawn_tb (s : State) : (s.drawn).tb = s.tb := rfl
@[simp] theorem State.drawn_fibs (s : State) : (s.drawn).fibs = s.fibs := rfl
@[simp] theorem State.drawn_pps (s : State) : (s.drawn).pps = s.pps := rfl
@[simp] theorem State.drawn_zones (s : State) : (s.drawn).zones = s.zones := rfl
@[simp] theorem State.drawn_events (s : State) : (s.drawn).events = s.events := rfl
@[simp] theorem State.drawn_acu (s : State) : (s.drawn).acu = s.acu := rfl
@[simp] theorem State.drawn_acos (s : State) : (s.drawn).acos = s.acos := rfl
@[simp] theorem State.drawn_zprocs (s : State) : (s.drawn).zprocs = s.zprocs := rfl
@[simp] theorem State.drawn_raws (s : State) : (s.drawn).raws = s.raws := rfl
@[simp] theorem State.drawn_links (s : State) : (s.drawn).links = s.links := rfl
@[simp] theorem State.drawn_chzs (s : State) : (s.drawn).chzs = s.chzs := rfl
@[simp] theorem State.drawn_acqs (s : State) : (s.drawn).acqs = s.acqs := rfl
@[simp] theorem State.drawn_iqs (s : State) : (s.drawn).iqs = s.iqs := rfl
@[simp] theorem State.drawn_ovrs (s : State) : (s.drawn).ovrs = s.ovrs := rfl
@[simp] theorem State.drawn_snap (s : State) : (s.drawn).snap = s.snap := rfl
@[simp] theorem State.drawn_cells (s : State) : (s.drawn).cells = s.cells := rfl
@[simp] theorem State.drawn_tmps (s : State) : (s.drawn).tmps = s.tmps := rfl
@[simp] theorem State.drawn_auxs (s : State) : (s.drawn).auxs = s.auxs := rfl
@[simp] theorem State.drawn_dwell (s : State) : (s.drawn).dwell = s.dwell := rfl
@[simp] theorem State.drawn_slots (s : State) : (s.drawn).slots = s.slots := rfl
@[simp] theorem State.drawn_gal (s : State) : (s.drawn).gal = s.gal := rfl
@[simp] theorem State.drawn_bist (s : State) : (s.drawn).bist = s.bist := rfl
@[simp] theorem State.drawn_stairStored (s : State) : (s.drawn).stairStored = s.stairStored := rfl
@[simp] theorem State.drawn_repair (s : State) : (s.drawn).repair = s.repair := rfl
@[simp] theorem State.drawn_hist (s : State) : (s.drawn).hist = s.hist := rfl
@[simp] theorem State.drawn_chans (s : State) : (s.drawn).chans = s.chans := rfl
@[simp] theorem State.drawn_flashes (s : State) : (s.drawn).flashes = s.flashes := rfl
@[simp] theorem State.drawn_heads (s : State) : (s.drawn).heads = s.heads := rfl
@[simp] theorem State.drawn_prvs (s : State) : (s.drawn).prvs = s.prvs := rfl
@[simp] theorem State.drawn_banks (s : State) : (s.drawn).banks = s.banks := rfl
@[simp] theorem State.drawn_sups (s : State) : (s.drawn).sups = s.sups := rfl
@[simp] theorem State.drawn_uslots (s : State) : (s.drawn).uslots = s.uslots := rfl
@[simp] theorem State.drawn_matrix (s : State) : (s.drawn).matrix = s.matrix := rfl
@[simp] theorem State.drawn_sio (s : State) : (s.drawn).sio = s.sio := rfl
@[simp] theorem State.drawn_ts (s : State) : (s.drawn).ts = s.ts := rfl
@[simp] theorem State.drawn_net (s : State) : (s.drawn).net = s.net := rfl
@[simp] theorem State.drawn_conns (s : State) : (s.drawn).conns = s.conns := rfl
@[simp] theorem State.drawn_spi (s : State) : (s.drawn).spi = s.spi := rfl
@[simp] theorem State.drawn_cls (s : State) : (s.drawn).cls = s.cls := rfl
@[simp] theorem State.drawn_mons (s : State) : (s.drawn).mons = s.mons := rfl
@[simp] theorem State.drawn_corr (s : State) : (s.drawn).corr = s.corr := rfl
@[simp] theorem State.drawn_lamps (s : State) : (s.drawn).lamps = s.lamps := rfl
@[simp] theorem State.drawn_led (s : State) : (s.drawn).led = s.led := rfl
@[simp] theorem State.drawn_pw (s : State) : (s.drawn).pw = s.pw := rfl

/-! ### `setFib` changes `fibs` alone -/

@[simp] theorem State.setFib_pending (s : State) (f : Nat) (x : Fibre) : (s.setFib f x).pending = s.pending := rfl
@[simp] theorem State.setFib_regs (s : State) (f : Nat) (x : Fibre) : (s.setFib f x).regs = s.regs := rfl
@[simp] theorem State.setFib_latch (s : State) (f : Nat) (x : Fibre) : (s.setFib f x).latch = s.latch := rfl
@[simp] theorem State.setFib_freeCount (s : State) (f : Nat) (x : Fibre) : (s.setFib f x).freeCount = s.freeCount := rfl
@[simp] theorem State.setFib_clk (s : State) (f : Nat) (x : Fibre) : (s.setFib f x).clk = s.clk := rfl
@[simp] theorem State.setFib_pins (s : State) (f : Nat) (x : Fibre) : (s.setFib f x).pins = s.pins := rfl
@[simp] theorem State.setFib_lnk (s : State) (f : Nat) (x : Fibre) : (s.setFib f x).lnk = s.lnk := rfl
@[simp] theorem State.setFib_recs (s : State) (f : Nat) (x : Fibre) : (s.setFib f x).recs = s.recs := rfl
@[simp] theorem State.setFib_flt (s : State) (f : Nat) (x : Fibre) : (s.setFib f x).flt = s.flt := rfl
@[simp] theorem State.setFib_due (s : State) (f : Nat) (x : Fibre) : (s.setFib f x).due = s.due := rfl
@[simp] theorem State.setFib_md (s : State) (f : Nat) (x : Fibre) : (s.setFib f x).md = s.md := rfl
@[simp] theorem State.setFib_jrn (s : State) (f : Nat) (x : Fibre) : (s.setFib f x).jrn = s.jrn := rfl
@[simp] theorem State.setFib_cfg (s : State) (f : Nat) (x : Fibre) : (s.setFib f x).cfg = s.cfg := rfl
@[simp] theorem State.setFib_tb (s : State) (f : Nat) (x : Fibre) : (s.setFib f x).tb = s.tb := rfl
@[simp] theorem State.setFib_pps (s : State) (f : Nat) (x : Fibre) : (s.setFib f x).pps = s.pps := rfl
@[simp] theorem State.setFib_zones (s : State) (f : Nat) (x : Fibre) : (s.setFib f x).zones = s.zones := rfl
@[simp] theorem State.setFib_events (s : State) (f : Nat) (x : Fibre) : (s.setFib f x).events = s.events := rfl
@[simp] theorem State.setFib_acu (s : State) (f : Nat) (x : Fibre) : (s.setFib f x).acu = s.acu := rfl
@[simp] theorem State.setFib_acos (s : State) (f : Nat) (x : Fibre) : (s.setFib f x).acos = s.acos := rfl
@[simp] theorem State.setFib_zprocs (s : State) (f : Nat) (x : Fibre) : (s.setFib f x).zprocs = s.zprocs := rfl
@[simp] theorem State.setFib_raws (s : State) (f : Nat) (x : Fibre) : (s.setFib f x).raws = s.raws := rfl
@[simp] theorem State.setFib_links (s : State) (f : Nat) (x : Fibre) : (s.setFib f x).links = s.links := rfl
@[simp] theorem State.setFib_chzs (s : State) (f : Nat) (x : Fibre) : (s.setFib f x).chzs = s.chzs := rfl
@[simp] theorem State.setFib_acqs (s : State) (f : Nat) (x : Fibre) : (s.setFib f x).acqs = s.acqs := rfl
@[simp] theorem State.setFib_iqs (s : State) (f : Nat) (x : Fibre) : (s.setFib f x).iqs = s.iqs := rfl
@[simp] theorem State.setFib_ovrs (s : State) (f : Nat) (x : Fibre) : (s.setFib f x).ovrs = s.ovrs := rfl
@[simp] theorem State.setFib_snap (s : State) (f : Nat) (x : Fibre) : (s.setFib f x).snap = s.snap := rfl
@[simp] theorem State.setFib_cells (s : State) (f : Nat) (x : Fibre) : (s.setFib f x).cells = s.cells := rfl
@[simp] theorem State.setFib_tmps (s : State) (f : Nat) (x : Fibre) : (s.setFib f x).tmps = s.tmps := rfl
@[simp] theorem State.setFib_auxs (s : State) (f : Nat) (x : Fibre) : (s.setFib f x).auxs = s.auxs := rfl
@[simp] theorem State.setFib_dwell (s : State) (f : Nat) (x : Fibre) : (s.setFib f x).dwell = s.dwell := rfl
@[simp] theorem State.setFib_slots (s : State) (f : Nat) (x : Fibre) : (s.setFib f x).slots = s.slots := rfl
@[simp] theorem State.setFib_gal (s : State) (f : Nat) (x : Fibre) : (s.setFib f x).gal = s.gal := rfl
@[simp] theorem State.setFib_bist (s : State) (f : Nat) (x : Fibre) : (s.setFib f x).bist = s.bist := rfl
@[simp] theorem State.setFib_stairStored (s : State) (f : Nat) (x : Fibre) : (s.setFib f x).stairStored = s.stairStored := rfl
@[simp] theorem State.setFib_repair (s : State) (f : Nat) (x : Fibre) : (s.setFib f x).repair = s.repair := rfl
@[simp] theorem State.setFib_hist (s : State) (f : Nat) (x : Fibre) : (s.setFib f x).hist = s.hist := rfl
@[simp] theorem State.setFib_chans (s : State) (f : Nat) (x : Fibre) : (s.setFib f x).chans = s.chans := rfl
@[simp] theorem State.setFib_flashes (s : State) (f : Nat) (x : Fibre) : (s.setFib f x).flashes = s.flashes := rfl
@[simp] theorem State.setFib_heads (s : State) (f : Nat) (x : Fibre) : (s.setFib f x).heads = s.heads := rfl
@[simp] theorem State.setFib_prvs (s : State) (f : Nat) (x : Fibre) : (s.setFib f x).prvs = s.prvs := rfl
@[simp] theorem State.setFib_banks (s : State) (f : Nat) (x : Fibre) : (s.setFib f x).banks = s.banks := rfl
@[simp] theorem State.setFib_sups (s : State) (f : Nat) (x : Fibre) : (s.setFib f x).sups = s.sups := rfl
@[simp] theorem State.setFib_uslots (s : State) (f : Nat) (x : Fibre) : (s.setFib f x).uslots = s.uslots := rfl
@[simp] theorem State.setFib_matrix (s : State) (f : Nat) (x : Fibre) : (s.setFib f x).matrix = s.matrix := rfl
@[simp] theorem State.setFib_sio (s : State) (f : Nat) (x : Fibre) : (s.setFib f x).sio = s.sio := rfl
@[simp] theorem State.setFib_ts (s : State) (f : Nat) (x : Fibre) : (s.setFib f x).ts = s.ts := rfl
@[simp] theorem State.setFib_net (s : State) (f : Nat) (x : Fibre) : (s.setFib f x).net = s.net := rfl
@[simp] theorem State.setFib_conns (s : State) (f : Nat) (x : Fibre) : (s.setFib f x).conns = s.conns := rfl
@[simp] theorem State.setFib_spi (s : State) (f : Nat) (x : Fibre) : (s.setFib f x).spi = s.spi := rfl
@[simp] theorem State.setFib_cls (s : State) (f : Nat) (x : Fibre) : (s.setFib f x).cls = s.cls := rfl
@[simp] theorem State.setFib_mons (s : State) (f : Nat) (x : Fibre) : (s.setFib f x).mons = s.mons := rfl
@[simp] theorem State.setFib_corr (s : State) (f : Nat) (x : Fibre) : (s.setFib f x).corr = s.corr := rfl
@[simp] theorem State.setFib_lamps (s : State) (f : Nat) (x : Fibre) : (s.setFib f x).lamps = s.lamps := rfl
@[simp] theorem State.setFib_led (s : State) (f : Nat) (x : Fibre) : (s.setFib f x).led = s.led := rfl
@[simp] theorem State.setFib_pw (s : State) (f : Nat) (x : Fibre) : (s.setFib f x).pw = s.pw := rfl

/-! ### `puts` changes `regs` alone -/

@[simp] theorem State.puts_pending (s : State) (l : List (Fld × Nat)) : (s.puts l).pending = s.pending := by
  obtain ⟨m, h⟩ := State.puts_eq l s; rw [h]
@[simp] theorem State.puts_latch (s : State) (l : List (Fld × Nat)) : (s.puts l).latch = s.latch := by
  obtain ⟨m, h⟩ := State.puts_eq l s; rw [h]
@[simp] theorem State.puts_freeCount (s : State) (l : List (Fld × Nat)) : (s.puts l).freeCount = s.freeCount := by
  obtain ⟨m, h⟩ := State.puts_eq l s; rw [h]
@[simp] theorem State.puts_clk (s : State) (l : List (Fld × Nat)) : (s.puts l).clk = s.clk := by
  obtain ⟨m, h⟩ := State.puts_eq l s; rw [h]
@[simp] theorem State.puts_pins (s : State) (l : List (Fld × Nat)) : (s.puts l).pins = s.pins := by
  obtain ⟨m, h⟩ := State.puts_eq l s; rw [h]
@[simp] theorem State.puts_lnk (s : State) (l : List (Fld × Nat)) : (s.puts l).lnk = s.lnk := by
  obtain ⟨m, h⟩ := State.puts_eq l s; rw [h]
@[simp] theorem State.puts_recs (s : State) (l : List (Fld × Nat)) : (s.puts l).recs = s.recs := by
  obtain ⟨m, h⟩ := State.puts_eq l s; rw [h]
@[simp] theorem State.puts_flt (s : State) (l : List (Fld × Nat)) : (s.puts l).flt = s.flt := by
  obtain ⟨m, h⟩ := State.puts_eq l s; rw [h]
@[simp] theorem State.puts_due (s : State) (l : List (Fld × Nat)) : (s.puts l).due = s.due := by
  obtain ⟨m, h⟩ := State.puts_eq l s; rw [h]
@[simp] theorem State.puts_md (s : State) (l : List (Fld × Nat)) : (s.puts l).md = s.md := by
  obtain ⟨m, h⟩ := State.puts_eq l s; rw [h]
@[simp] theorem State.puts_jrn (s : State) (l : List (Fld × Nat)) : (s.puts l).jrn = s.jrn := by
  obtain ⟨m, h⟩ := State.puts_eq l s; rw [h]
@[simp] theorem State.puts_cfg (s : State) (l : List (Fld × Nat)) : (s.puts l).cfg = s.cfg := by
  obtain ⟨m, h⟩ := State.puts_eq l s; rw [h]
@[simp] theorem State.puts_tb (s : State) (l : List (Fld × Nat)) : (s.puts l).tb = s.tb := by
  obtain ⟨m, h⟩ := State.puts_eq l s; rw [h]
@[simp] theorem State.puts_fibs (s : State) (l : List (Fld × Nat)) : (s.puts l).fibs = s.fibs := by
  obtain ⟨m, h⟩ := State.puts_eq l s; rw [h]
@[simp] theorem State.puts_pps (s : State) (l : List (Fld × Nat)) : (s.puts l).pps = s.pps := by
  obtain ⟨m, h⟩ := State.puts_eq l s; rw [h]
@[simp] theorem State.puts_zones (s : State) (l : List (Fld × Nat)) : (s.puts l).zones = s.zones := by
  obtain ⟨m, h⟩ := State.puts_eq l s; rw [h]
@[simp] theorem State.puts_events (s : State) (l : List (Fld × Nat)) : (s.puts l).events = s.events := by
  obtain ⟨m, h⟩ := State.puts_eq l s; rw [h]
@[simp] theorem State.puts_acu (s : State) (l : List (Fld × Nat)) : (s.puts l).acu = s.acu := by
  obtain ⟨m, h⟩ := State.puts_eq l s; rw [h]
@[simp] theorem State.puts_acos (s : State) (l : List (Fld × Nat)) : (s.puts l).acos = s.acos := by
  obtain ⟨m, h⟩ := State.puts_eq l s; rw [h]
@[simp] theorem State.puts_zprocs (s : State) (l : List (Fld × Nat)) : (s.puts l).zprocs = s.zprocs := by
  obtain ⟨m, h⟩ := State.puts_eq l s; rw [h]
@[simp] theorem State.puts_raws (s : State) (l : List (Fld × Nat)) : (s.puts l).raws = s.raws := by
  obtain ⟨m, h⟩ := State.puts_eq l s; rw [h]
@[simp] theorem State.puts_links (s : State) (l : List (Fld × Nat)) : (s.puts l).links = s.links := by
  obtain ⟨m, h⟩ := State.puts_eq l s; rw [h]
@[simp] theorem State.puts_chzs (s : State) (l : List (Fld × Nat)) : (s.puts l).chzs = s.chzs := by
  obtain ⟨m, h⟩ := State.puts_eq l s; rw [h]
@[simp] theorem State.puts_acqs (s : State) (l : List (Fld × Nat)) : (s.puts l).acqs = s.acqs := by
  obtain ⟨m, h⟩ := State.puts_eq l s; rw [h]
@[simp] theorem State.puts_iqs (s : State) (l : List (Fld × Nat)) : (s.puts l).iqs = s.iqs := by
  obtain ⟨m, h⟩ := State.puts_eq l s; rw [h]
@[simp] theorem State.puts_ovrs (s : State) (l : List (Fld × Nat)) : (s.puts l).ovrs = s.ovrs := by
  obtain ⟨m, h⟩ := State.puts_eq l s; rw [h]
@[simp] theorem State.puts_snap (s : State) (l : List (Fld × Nat)) : (s.puts l).snap = s.snap := by
  obtain ⟨m, h⟩ := State.puts_eq l s; rw [h]
@[simp] theorem State.puts_cells (s : State) (l : List (Fld × Nat)) : (s.puts l).cells = s.cells := by
  obtain ⟨m, h⟩ := State.puts_eq l s; rw [h]
@[simp] theorem State.puts_tmps (s : State) (l : List (Fld × Nat)) : (s.puts l).tmps = s.tmps := by
  obtain ⟨m, h⟩ := State.puts_eq l s; rw [h]
@[simp] theorem State.puts_auxs (s : State) (l : List (Fld × Nat)) : (s.puts l).auxs = s.auxs := by
  obtain ⟨m, h⟩ := State.puts_eq l s; rw [h]
@[simp] theorem State.puts_dwell (s : State) (l : List (Fld × Nat)) : (s.puts l).dwell = s.dwell := by
  obtain ⟨m, h⟩ := State.puts_eq l s; rw [h]
@[simp] theorem State.puts_slots (s : State) (l : List (Fld × Nat)) : (s.puts l).slots = s.slots := by
  obtain ⟨m, h⟩ := State.puts_eq l s; rw [h]
@[simp] theorem State.puts_gal (s : State) (l : List (Fld × Nat)) : (s.puts l).gal = s.gal := by
  obtain ⟨m, h⟩ := State.puts_eq l s; rw [h]
@[simp] theorem State.puts_bist (s : State) (l : List (Fld × Nat)) : (s.puts l).bist = s.bist := by
  obtain ⟨m, h⟩ := State.puts_eq l s; rw [h]
@[simp] theorem State.puts_stairStored (s : State) (l : List (Fld × Nat)) : (s.puts l).stairStored = s.stairStored := by
  obtain ⟨m, h⟩ := State.puts_eq l s; rw [h]
@[simp] theorem State.puts_repair (s : State) (l : List (Fld × Nat)) : (s.puts l).repair = s.repair := by
  obtain ⟨m, h⟩ := State.puts_eq l s; rw [h]
@[simp] theorem State.puts_hist (s : State) (l : List (Fld × Nat)) : (s.puts l).hist = s.hist := by
  obtain ⟨m, h⟩ := State.puts_eq l s; rw [h]
@[simp] theorem State.puts_chans (s : State) (l : List (Fld × Nat)) : (s.puts l).chans = s.chans := by
  obtain ⟨m, h⟩ := State.puts_eq l s; rw [h]
@[simp] theorem State.puts_flashes (s : State) (l : List (Fld × Nat)) : (s.puts l).flashes = s.flashes := by
  obtain ⟨m, h⟩ := State.puts_eq l s; rw [h]
@[simp] theorem State.puts_heads (s : State) (l : List (Fld × Nat)) : (s.puts l).heads = s.heads := by
  obtain ⟨m, h⟩ := State.puts_eq l s; rw [h]
@[simp] theorem State.puts_prvs (s : State) (l : List (Fld × Nat)) : (s.puts l).prvs = s.prvs := by
  obtain ⟨m, h⟩ := State.puts_eq l s; rw [h]
@[simp] theorem State.puts_banks (s : State) (l : List (Fld × Nat)) : (s.puts l).banks = s.banks := by
  obtain ⟨m, h⟩ := State.puts_eq l s; rw [h]
@[simp] theorem State.puts_sups (s : State) (l : List (Fld × Nat)) : (s.puts l).sups = s.sups := by
  obtain ⟨m, h⟩ := State.puts_eq l s; rw [h]
@[simp] theorem State.puts_uslots (s : State) (l : List (Fld × Nat)) : (s.puts l).uslots = s.uslots := by
  obtain ⟨m, h⟩ := State.puts_eq l s; rw [h]
@[simp] theorem State.puts_matrix (s : State) (l : List (Fld × Nat)) : (s.puts l).matrix = s.matrix := by
  obtain ⟨m, h⟩ := State.puts_eq l s; rw [h]
@[simp] theorem State.puts_sio (s : State) (l : List (Fld × Nat)) : (s.puts l).sio = s.sio := by
  obtain ⟨m, h⟩ := State.puts_eq l s; rw [h]
@[simp] theorem State.puts_ts (s : State) (l : List (Fld × Nat)) : (s.puts l).ts = s.ts := by
  obtain ⟨m, h⟩ := State.puts_eq l s; rw [h]
@[simp] theorem State.puts_net (s : State) (l : List (Fld × Nat)) : (s.puts l).net = s.net := by
  obtain ⟨m, h⟩ := State.puts_eq l s; rw [h]
@[simp] theorem State.puts_conns (s : State) (l : List (Fld × Nat)) : (s.puts l).conns = s.conns := by
  obtain ⟨m, h⟩ := State.puts_eq l s; rw [h]
@[simp] theorem State.puts_spi (s : State) (l : List (Fld × Nat)) : (s.puts l).spi = s.spi := by
  obtain ⟨m, h⟩ := State.puts_eq l s; rw [h]
@[simp] theorem State.puts_cls (s : State) (l : List (Fld × Nat)) : (s.puts l).cls = s.cls := by
  obtain ⟨m, h⟩ := State.puts_eq l s; rw [h]
@[simp] theorem State.puts_mons (s : State) (l : List (Fld × Nat)) : (s.puts l).mons = s.mons := by
  obtain ⟨m, h⟩ := State.puts_eq l s; rw [h]
@[simp] theorem State.puts_corr (s : State) (l : List (Fld × Nat)) : (s.puts l).corr = s.corr := by
  obtain ⟨m, h⟩ := State.puts_eq l s; rw [h]
@[simp] theorem State.puts_lamps (s : State) (l : List (Fld × Nat)) : (s.puts l).lamps = s.lamps := by
  obtain ⟨m, h⟩ := State.puts_eq l s; rw [h]
@[simp] theorem State.puts_led (s : State) (l : List (Fld × Nat)) : (s.puts l).led = s.led := by
  obtain ⟨m, h⟩ := State.puts_eq l s; rw [h]
@[simp] theorem State.puts_pw (s : State) (l : List (Fld × Nat)) : (s.puts l).pw = s.pw := by
  obtain ⟨m, h⟩ := State.puts_eq l s; rw [h]

end Sys2Proof.Machine
end

