-- ==== Sys2Proof/Laws/Records.lean ====
section
/-! SUPPORT. What making a record and declaring a fault can change: `regs`, `recs`, `flt`, `due`, `md` and `jrn`, and of the
registers only a few flags and counts. Cited instead of unfolding the record machinery. -/

set_option Elab.async false

namespace Sys2Proof.Machine

/-- The fields that records and faults may write. -/
def recFields : List Fld :=
  [NET_EVT.REC, MOD_SCAUSE.CAUSE, MOD_SCAUSE.PERM, MOD_FCNT.F1, MOD_FCNT.F2, MOD_FCNT.F3, MOD_EVT.QFULL]

/-- t differs from s in the record and fault machinery alone. -/
structure RecOnly (s t : State) : Prop where
  rest : ∃ g r f d m j, t = { s with regs := g, recs := r, flt := f, due := d, md := m, jrn := j }
  mode : t.md.mode = s.md.mode
  code : t.md.code = s.md.code
  fields : ∀ g : Fld, recFields.all (fun f => g.clear f) = true → t.get g = s.get g

theorem RecOnly.refl (s : State) : RecOnly s s := ⟨⟨s.regs, s.recs, s.flt, s.due, s.md, s.jrn, rfl⟩, rfl, rfl, fun _ _ => rfl⟩

theorem RecOnly.trans {s t u : State} (h : RecOnly s t) (k : RecOnly t u) : RecOnly s u := by
  refine ⟨?_, k.mode.trans h.mode, k.code.trans h.code, fun g hg => (k.fields g hg).trans (h.fields g hg)⟩
  obtain ⟨a1, a2, a3, a4, a5, a6, ha⟩ := h.rest
  obtain ⟨b1, b2, b3, b4, b5, b6, hb⟩ := k.rest
  exact ⟨b1, b2, b3, b4, b5, b6, by rw [hb, ha]⟩

theorem RecOnly.put (s : State) (f : Fld) (v : Nat) (hf : f ∈ recFields) : RecOnly s (s.put f v) := by
  refine ⟨⟨_, s.recs, s.flt, s.due, s.md, s.jrn, rfl⟩, rfl, rfl, fun g hg => ?_⟩
  exact s.get_put_clear g f v (List.all_eq_true.1 hg f hf)

theorem RecOnly.recs (s : State) (r : RecSys) : RecOnly s { s with recs := r } :=
  ⟨⟨s.regs, r, s.flt, s.due, s.md, s.jrn, rfl⟩, rfl, rfl, fun _ _ => rfl⟩

theorem RecOnly.flt (s : State) (x : FaultSys) : RecOnly s { s with flt := x } :=
  ⟨⟨s.regs, s.recs, x, s.due, s.md, s.jrn, rfl⟩, rfl, rfl, fun _ _ => rfl⟩

theorem RecOnly.due (s : State) (x : Due) : RecOnly s { s with due := x } :=
  ⟨⟨s.regs, s.recs, s.flt, x, s.md, s.jrn, rfl⟩, rfl, rfl, fun _ _ => rfl⟩

theorem RecOnly.jrn (s : State) (x : Journal) : RecOnly s { s with jrn := x } :=
  ⟨⟨s.regs, s.recs, s.flt, s.due, s.md, x, rfl⟩, rfl, rfl, fun _ _ => rfl⟩

theorem RecOnly.latched (s : State) (x : Option (Nat × Nat)) : RecOnly s { s with md := { s.md with latched := x } } :=
  ⟨⟨s.regs, s.recs, s.flt, s.due, _, s.jrn, rfl⟩, rfl, rfl, fun _ _ => rfl⟩

theorem State.journalise_only (s : State) (lvl : Nat) (r : Record) : RecOnly s (s.journalise lvl r) := RecOnly.jrn s _

theorem State.push_only (s : State) (r : Record) : RecOnly s (s.push r) := by
  unfold State.push
  dsimp only
  split
  · unfold State.markDelivered
    split
    · exact .refl s
    · exact .recs s _
  · split
    · exact (RecOnly.put s _ _ (by decide)).trans (.recs _ _)
    · exact .recs s _

theorem State.gapOne_only (s : State) (m : Missing) : RecOnly s (s.gapOne m) := by
  unfold State.gapOne State.number
  dsimp only
  split
  · exact .recs s _
  · split
    · exact (RecOnly.recs s _).trans (.recs _ _)
    · exact (RecOnly.recs s _).trans (State.push_only _ _)

theorem foldl_only {α : Type} (f : State → α → State) (hf : ∀ s a, RecOnly s (f s a)) (l : List α) (s : State) :
    RecOnly s (l.foldl f s) := by
  induction l generalizing s with
  | nil => exact .refl s
  | cons a t ih => exact (hf s a).trans (ih _)

theorem State.gapAll_only (s : State) (src : Nat) : RecOnly s (s.gapAll src) :=
  (RecOnly.recs s _).trans (foldl_only _ State.gapOne_only _ _)

theorem State.deliver_only (s : State) (r : Record) : RecOnly s (s.deliver r) := by
  unfold State.deliver State.lose
  repeat' split
  all_goals first | exact .refl s | exact .recs s _ | exact State.push_only s r

theorem State.record_only (s : State) (lvl src code time : Nat) (data : List Byte) :
    RecOnly s (s.record lvl src code time data) := by
  unfold State.record State.number
  dsimp only
  split
  · exact (((State.gapAll_only s src).trans (.recs _ _)).trans (State.journalise_only _ _ _)).trans (State.deliver_only _ _)
  · exact ((RecOnly.recs s _).trans (State.journalise_only _ _ _)).trans (State.deliver_only _ _)

theorem State.make_only (s : State) (lvl src code : Nat) (data : List Byte) : RecOnly s (s.make lvl src code data) := by
  unfold State.make
  split
  · exact State.record_only s _ _ _ _ _
  · exact .recs s _

theorem State.setCause_only (s : State) (b : Nat) : RecOnly s (s.setCause b) :=
  (RecOnly.put s _ _ (by decide)).trans (RecOnly.put _ _ _ (by decide))

theorem State.enqueue_only (s : State) (f : FaultRec) : RecOnly s (s.enqueue f) := RecOnly.flt s _

theorem State.raiseSafe_only (s : State) (code src : Nat) : RecOnly s (s.raiseSafe code src) := by
  have h := s.setCause_only (causeBit code)
  unfold State.raiseSafe
  dsimp only
  repeat' split
  all_goals first | exact h | exact h.trans (.flt _ _) | exact h.trans (.due _ _) | exact h.trans (.latched _ _)

theorem State.countFault_only (s : State) (lvl : Nat) : RecOnly s (s.countFault lvl) := by
  unfold State.countFault
  repeat' split
  all_goals first | exact .refl s | exact RecOnly.put s _ _ (by decide)

theorem State.queueFull_only (s : State) (f : FaultRec) : RecOnly s (s.queueFull f) :=
  ((((s.make_only _ _ _ _).trans (RecOnly.put _ _ _ (by decide))).trans (State.countFault_only _ _)).trans
    (State.raiseSafe_only _ _ _)).trans (State.enqueue_only _ _)

theorem State.ite_only (s t u : State) (c : Prop) [Decidable c] (ht : RecOnly s t) (hu : RecOnly s u) :
    RecOnly s (if c then t else u) := by
  split <;> assumption

theorem State.level3Seen_only (s : State) : RecOnly s s.level3Seen := RecOnly.flt s _

theorem State.declare_only (s : State) (lvl code src : Nat) : RecOnly s (s.declare lvl code src) := by
  have h := (s.countFault_only lvl).trans (State.enqueue_only _ ⟨lvl, code, src⟩)
  have h2 := State.ite_only s _ _ (lvl = 3) ((h.trans (State.level3Seen_only _)).trans (State.raiseSafe_only _ code src)) h
  refine State.ite_only s _ _ _ (.refl s) (State.ite_only s _ _ _ (State.ite_only s _ _ _ (.due s _) (.refl s)) ?_)
  exact State.ite_only s _ _ _ (h2.trans (State.queueFull_only _ _)) h2

/-- Everything a record with its fault can do. -/
theorem State.emitAt_only (s : State) (lvl src : Nat) (c : Code) (data : List Byte) : RecOnly s (s.emitAt lvl src c data) :=
  (s.make_only _ _ _ _).trans (State.declare_only _ _ _ _)

theorem State.emit_only (s : State) (src : Nat) (c : Code) (data : List Byte) : RecOnly s (s.emit src c data) :=
  s.emitAt_only _ _ _ _

/-- A field that records do not write is as before a record. -/
theorem State.get_emit (s : State) (src : Nat) (c : Code) (data : List Byte) (g : Fld)
    (h : recFields.all (fun f => g.clear f) = true) : (s.emit src c data).get g = s.get g := (s.emit_only src c data).fields g h

/-! ### The newest entry of the record log -/

theorem State.put_log (s : State) (f : Fld) (v : Nat) : (s.put f v).recs = s.recs := rfl

theorem State.push_log (s : State) (r : Record) : (s.push r).recs.log = s.recs.log := by
  unfold State.push State.markDelivered
  dsimp only
  repeat' split
  all_goals rfl

theorem State.deliver_log (s : State) (r : Record) : (s.deliver r).recs.log = s.recs.log := by
  unfold State.deliver State.lose
  repeat' split
  all_goals first | rfl | exact State.push_log s r

/-- In an open epoch a record is the newest entry of the log, numbered next in its source. -/
theorem State.record_log (s : State) (lvl src code time : Nat) (data : List Byte) :
    ∃ (q e : Nat) (l : List Record), (s.record lvl src code time data).recs.log = ⟨src, code, e, q, time, slice data 0 12⟩ :: l := by
  unfold State.record State.number
  dsimp only
  rw [State.deliver_log]
  exact ⟨_, _, _, rfl⟩

end Sys2Proof.Machine
end

