-- ==== Sys2Proof/Laws/Emit.lean ====
section
/-! SUPPORT. The fields of State that a record with its fault leaves alone. -/

set_option Elab.async false

namespace Sys2Proof.Machine

@[simp] theorem State.emit_pending (s : State) (src : Nat) (c : Code) (d : List Byte) : (s.emit src c d).pending = s.pending := by
  obtain ⟨_, _, _, _, _, _, h⟩ := (s.emit_only src c d).rest; rw [h]
@[simp] theorem State.emit_latch (s : State) (src : Nat) (c : Code) (d : List Byte) : (s.emit src c d).latch = s.latch := by
  obtain ⟨_, _, _, _, _, _, h⟩ := (s.emit_only src c d).rest; rw [h]
@[simp] theorem State.emit_freeCount (s : State) (src : Nat) (c : Code) (d : List Byte) : (s.emit src c d).freeCount = s.freeCount := by
  obtain ⟨_, _, _, _, _, _, h⟩ := (s.emit_only src c d).rest; rw [h]
@[simp] theorem State.emit_clk (s : State) (src : Nat) (c : Code) (d : List Byte) : (s.emit src c d).clk = s.clk := by
  obtain ⟨_, _, _, _, _, _, h⟩ := (s.emit_only src c d).rest; rw [h]
@[simp] theorem State.emit_pins (s : State) (src : Nat) (c : Code) (d : List Byte) : (s.emit src c d).pins = s.pins := by
  obtain ⟨_, _, _, _, _, _, h⟩ := (s.emit_only src c d).rest; rw [h]
@[simp] theorem State.emit_lnk (s : State) (src : Nat) (c : Code) (d : List Byte) : (s.emit src c d).lnk = s.lnk := by
  obtain ⟨_, _, _, _, _, _, h⟩ := (s.emit_only src c d).rest; rw [h]
@[simp] theorem State.emit_cfg (s : State) (src : Nat) (c : Code) (d : List Byte) : (s.emit src c d).cfg = s.cfg := by
  obtain ⟨_, _, _, _, _, _, h⟩ := (s.emit_only src c d).rest; rw [h]
@[simp] theorem State.emit_tb (s : State) (src : Nat) (c : Code) (d : List Byte) : (s.emit src c d).tb = s.tb := by
  obtain ⟨_, _, _, _, _, _, h⟩ := (s.emit_only src c d).rest; rw [h]
@[simp] theorem State.emit_fibs (s : State) (src : Nat) (c : Code) (d : List Byte) : (s.emit src c d).fibs = s.fibs := by
  obtain ⟨_, _, _, _, _, _, h⟩ := (s.emit_only src c d).rest; rw [h]
@[simp] theorem State.emit_pps (s : State) (src : Nat) (c : Code) (d : List Byte) : (s.emit src c d).pps = s.pps := by
  obtain ⟨_, _, _, _, _, _, h⟩ := (s.emit_only src c d).rest; rw [h]
@[simp] theorem State.emit_zones (s : State) (src : Nat) (c : Code) (d : List Byte) : (s.emit src c d).zones = s.zones := by
  obtain ⟨_, _, _, _, _, _, h⟩ := (s.emit_only src c d).rest; rw [h]
@[simp] theorem State.emit_events (s : State) (src : Nat) (c : Code) (d : List Byte) : (s.emit src c d).events = s.events := by
  obtain ⟨_, _, _, _, _, _, h⟩ := (s.emit_only src c d).rest; rw [h]
@[simp] theorem State.emit_acu (s : State) (src : Nat) (c : Code) (d : List Byte) : (s.emit src c d).acu = s.acu := by
  obtain ⟨_, _, _, _, _, _, h⟩ := (s.emit_only src c d).rest; rw [h]
@[simp] theorem State.emit_links (s : State) (src : Nat) (c : Code) (d : List Byte) : (s.emit src c d).links = s.links := by
  obtain ⟨_, _, _, _, _, _, h⟩ := (s.emit_only src c d).rest; rw [h]
@[simp] theorem State.emit_chzs (s : State) (src : Nat) (c : Code) (d : List Byte) : (s.emit src c d).chzs = s.chzs := by
  obtain ⟨_, _, _, _, _, _, h⟩ := (s.emit_only src c d).rest; rw [h]
@[simp] theorem State.emit_acqs (s : State) (src : Nat) (c : Code) (d : List Byte) : (s.emit src c d).acqs = s.acqs := by
  obtain ⟨_, _, _, _, _, _, h⟩ := (s.emit_only src c d).rest; rw [h]
@[simp] theorem State.emit_snap (s : State) (src : Nat) (c : Code) (d : List Byte) : (s.emit src c d).snap = s.snap := by
  obtain ⟨_, _, _, _, _, _, h⟩ := (s.emit_only src c d).rest; rw [h]
@[simp] theorem State.emit_cells (s : State) (src : Nat) (c : Code) (d : List Byte) : (s.emit src c d).cells = s.cells := by
  obtain ⟨_, _, _, _, _, _, h⟩ := (s.emit_only src c d).rest; rw [h]
@[simp] theorem State.emit_tmps (s : State) (src : Nat) (c : Code) (d : List Byte) : (s.emit src c d).tmps = s.tmps := by
  obtain ⟨_, _, _, _, _, _, h⟩ := (s.emit_only src c d).rest; rw [h]
@[simp] theorem State.emit_auxs (s : State) (src : Nat) (c : Code) (d : List Byte) : (s.emit src c d).auxs = s.auxs := by
  obtain ⟨_, _, _, _, _, _, h⟩ := (s.emit_only src c d).rest; rw [h]
@[simp] theorem State.emit_dwell (s : State) (src : Nat) (c : Code) (d : List Byte) : (s.emit src c d).dwell = s.dwell := by
  obtain ⟨_, _, _, _, _, _, h⟩ := (s.emit_only src c d).rest; rw [h]
@[simp] theorem State.emit_slots (s : State) (src : Nat) (c : Code) (d : List Byte) : (s.emit src c d).slots = s.slots := by
  obtain ⟨_, _, _, _, _, _, h⟩ := (s.emit_only src c d).rest; rw [h]
@[simp] theorem State.emit_gal (s : State) (src : Nat) (c : Code) (d : List Byte) : (s.emit src c d).gal = s.gal := by
  obtain ⟨_, _, _, _, _, _, h⟩ := (s.emit_only src c d).rest; rw [h]
@[simp] theorem State.emit_bist (s : State) (src : Nat) (c : Code) (d : List Byte) : (s.emit src c d).bist = s.bist := by
  obtain ⟨_, _, _, _, _, _, h⟩ := (s.emit_only src c d).rest; rw [h]
@[simp] theorem State.emit_stairStored (s : State) (src : Nat) (c : Code) (d : List Byte) : (s.emit src c d).stairStored = s.stairStored := by
  obtain ⟨_, _, _, _, _, _, h⟩ := (s.emit_only src c d).rest; rw [h]
@[simp] theorem State.emit_repair (s : State) (src : Nat) (c : Code) (d : List Byte) : (s.emit src c d).repair = s.repair := by
  obtain ⟨_, _, _, _, _, _, h⟩ := (s.emit_only src c d).rest; rw [h]
@[simp] theorem State.emit_hist (s : State) (src : Nat) (c : Code) (d : List Byte) : (s.emit src c d).hist = s.hist := by
  obtain ⟨_, _, _, _, _, _, h⟩ := (s.emit_only src c d).rest; rw [h]
@[simp] theorem State.emit_chans (s : State) (src : Nat) (c : Code) (d : List Byte) : (s.emit src c d).chans = s.chans := by
  obtain ⟨_, _, _, _, _, _, h⟩ := (s.emit_only src c d).rest; rw [h]
@[simp] theorem State.emit_flashes (s : State) (src : Nat) (c : Code) (d : List Byte) : (s.emit src c d).flashes = s.flashes := by
  obtain ⟨_, _, _, _, _, _, h⟩ := (s.emit_only src c d).rest; rw [h]
@[simp] theorem State.emit_heads (s : State) (src : Nat) (c : Code) (d : List Byte) : (s.emit src c d).heads = s.heads := by
  obtain ⟨_, _, _, _, _, _, h⟩ := (s.emit_only src c d).rest; rw [h]
@[simp] theorem State.emit_prvs (s : State) (src : Nat) (c : Code) (d : List Byte) : (s.emit src c d).prvs = s.prvs := by
  obtain ⟨_, _, _, _, _, _, h⟩ := (s.emit_only src c d).rest; rw [h]
@[simp] theorem State.emit_banks (s : State) (src : Nat) (c : Code) (d : List Byte) : (s.emit src c d).banks = s.banks := by
  obtain ⟨_, _, _, _, _, _, h⟩ := (s.emit_only src c d).rest; rw [h]
@[simp] theorem State.emit_sups (s : State) (src : Nat) (c : Code) (d : List Byte) : (s.emit src c d).sups = s.sups := by
  obtain ⟨_, _, _, _, _, _, h⟩ := (s.emit_only src c d).rest; rw [h]
@[simp] theorem State.emit_uslots (s : State) (src : Nat) (c : Code) (d : List Byte) : (s.emit src c d).uslots = s.uslots := by
  obtain ⟨_, _, _, _, _, _, h⟩ := (s.emit_only src c d).rest; rw [h]
@[simp] theorem State.emit_matrix (s : State) (src : Nat) (c : Code) (d : List Byte) : (s.emit src c d).matrix = s.matrix := by
  obtain ⟨_, _, _, _, _, _, h⟩ := (s.emit_only src c d).rest; rw [h]
@[simp] theorem State.emit_sio (s : State) (src : Nat) (c : Code) (d : List Byte) : (s.emit src c d).sio = s.sio := by
  obtain ⟨_, _, _, _, _, _, h⟩ := (s.emit_only src c d).rest; rw [h]
@[simp] theorem State.emit_ts (s : State) (src : Nat) (c : Code) (d : List Byte) : (s.emit src c d).ts = s.ts := by
  obtain ⟨_, _, _, _, _, _, h⟩ := (s.emit_only src c d).rest; rw [h]
@[simp] theorem State.emit_net (s : State) (src : Nat) (c : Code) (d : List Byte) : (s.emit src c d).net = s.net := by
  obtain ⟨_, _, _, _, _, _, h⟩ := (s.emit_only src c d).rest; rw [h]
@[simp] theorem State.emit_conns (s : State) (src : Nat) (c : Code) (d : List Byte) : (s.emit src c d).conns = s.conns := by
  obtain ⟨_, _, _, _, _, _, h⟩ := (s.emit_only src c d).rest; rw [h]
@[simp] theorem State.emit_spi (s : State) (src : Nat) (c : Code) (d : List Byte) : (s.emit src c d).spi = s.spi := by
  obtain ⟨_, _, _, _, _, _, h⟩ := (s.emit_only src c d).rest; rw [h]
@[simp] theorem State.emit_cls (s : State) (src : Nat) (c : Code) (d : List Byte) : (s.emit src c d).cls = s.cls := by
  obtain ⟨_, _, _, _, _, _, h⟩ := (s.emit_only src c d).rest; rw [h]
@[simp] theorem State.emit_mons (s : State) (src : Nat) (c : Code) (d : List Byte) : (s.emit src c d).mons = s.mons := by
  obtain ⟨_, _, _, _, _, _, h⟩ := (s.emit_only src c d).rest; rw [h]
@[simp] theorem State.emit_corr (s : State) (src : Nat) (c : Code) (d : List Byte) : (s.emit src c d).corr = s.corr := by
  obtain ⟨_, _, _, _, _, _, h⟩ := (s.emit_only src c d).rest; rw [h]
@[simp] theorem State.emit_lamps (s : State) (src : Nat) (c : Code) (d : List Byte) : (s.emit src c d).lamps = s.lamps := by
  obtain ⟨_, _, _, _, _, _, h⟩ := (s.emit_only src c d).rest; rw [h]
@[simp] theorem State.emit_led (s : State) (src : Nat) (c : Code) (d : List Byte) : (s.emit src c d).led = s.led := by
  obtain ⟨_, _, _, _, _, _, h⟩ := (s.emit_only src c d).rest; rw [h]
@[simp] theorem State.emit_pw (s : State) (src : Nat) (c : Code) (d : List Byte) : (s.emit src c d).pw = s.pw := by
  obtain ⟨_, _, _, _, _, _, h⟩ := (s.emit_only src c d).rest; rw [h]
@[simp] theorem State.emit_mode (s : State) (src : Nat) (c : Code) (d : List Byte) : (s.emit src c d).md.mode = s.md.mode :=
  (s.emit_only src c d).mode

end Sys2Proof.Machine
end

