-- ==== Sys2Proof/Laws/Exec.lean ====
section
/-! SUPPORT. What `exec` gives for each command: its operation, then `finish`. Cited instead of unfolding `exec`. -/

set_option Elab.async false

namespace Sys2Proof.Machine

theorem exec_registerWrite (s : State) (a : Word) (v : Word) : exec (.registerWrite a v) s = .next (State.finish (opRegisterWrite a v s)) := rfl
theorem exec_spiRead (s : State) (a : Word) (n : Byte) (crc : Byte) : exec (.spiRead a n crc) s = .next (State.finish (opSpiRead a n crc s)) := rfl
theorem exec_spiWrite (s : State) (a : Word) (data : List Word) (crc : Byte) : exec (.spiWrite a data crc) s = .next (State.finish (opSpiWrite a data crc s)) := rfl
theorem exec_spiEnvelope (s : State) (b : List Byte) (crc : Byte) : exec (.spiEnvelope b crc) s = .next (State.finish (opSpiEnvelope b crc s)) := rfl
theorem exec_spiFrameAbort (s : State) : exec (.spiFrameAbort) s = .next (State.finish (opSpiFrameAbort s)) := rfl
theorem exec_lowerWordRead (s : State) (i : Fin 8) : exec (.lowerWordRead i) s = .next (State.finish (opLowerWordRead i.val s)) := rfl
theorem exec_recordDataRead (s : State) : exec (.recordDataRead) s = .next (State.finish (opRecordDataRead s)) := rfl
theorem exec_sealDataRead (s : State) (i : Fin 56) : exec (.sealDataRead i) s = .next (State.finish (opSealDataRead i.val s)) := rfl
theorem exec_windowReplyTimeout (s : State) : exec (.windowReplyTimeout) s = .next (State.finish (opWindowReplyTimeout s)) := rfl
theorem exec_heartbeatTimeout (s : State) : exec (.heartbeatTimeout) s = .next (State.finish (opHeartbeatTimeout s)) := rfl
theorem exec_heartbeatReceived (s : State) : exec (.heartbeatReceived) s = .next (State.finish (opHeartbeatReceived s)) := rfl
theorem exec_holdingBufferDrain (s : State) : exec (.holdingBufferDrain) s = .next (State.finish (opHoldingBufferDrain s)) := rfl
theorem exec_pacerCalibrationReturn (s : State) : exec (.pacerCalibrationReturn) s = .next (State.finish (opPacerCalibrationReturn s)) := rfl
theorem exec_epochRoll (s : State) : exec (.epochRoll) s = .next (State.finish (opEpochRoll s)) := rfl
theorem exec_gapRecord (s : State) (src : Nat) : exec (.gapRecord src) s = .next (State.finish (opGapRecord src s)) := rfl
theorem exec_refInQualified (s : State) (fofs : Int) : exec (.refInQualified fofs) s = .next (State.finish (opRefInQualified fofs s)) := rfl
theorem exec_timebaseLock (s : State) : exec (.timebaseLock) s = .next (State.finish (opTimebaseLock s)) := rfl
theorem exec_holdoverEnter (s : State) (offFreq : Bool) (corr : Int) : exec (.holdoverEnter offFreq corr) s = .next (State.finish (opHoldoverEnter offFreq corr s)) := rfl
theorem exec_holdoverExit (s : State) : exec (.holdoverExit) s = .next (State.finish (opHoldoverExit s)) := rfl
theorem exec_xoFail (s : State) (o : XoObs) : exec (.xoFail o) s = .next (State.finish (opXoFail o s)) := rfl
theorem exec_timebaseUnlock (s : State) (cause : Fin 3) : exec (.timebaseUnlock cause) s = .next (State.finish (opTimebaseUnlock (cause.val + 1) s)) := rfl
theorem exec_wfmError (s : State) (f : Fin 2) (tone : Fin 4) (load : Option BankCheck) : exec (.wfmError f tone load) s = .next (State.finish (opWfmError f.val tone.val load s)) := rfl
theorem exec_probeCycleStart (s : State) (f : Fin 2) : exec (.probeCycleStart f) s = .next (State.finish (opProbeCycleStart f.val s)) := rfl
theorem exec_probeSwitch (s : State) (f : Fin 2) : exec (.probeSwitch f) s = .next (State.finish (opProbeSwitch f.val s)) := rfl
theorem exec_laserReady (s : State) (f : Fin 2) (avg : Fin 4096) : exec (.laserReady f avg) s = .next (State.finish (opLaserReady f.val avg.val s)) := rfl
theorem exec_laserNotReady (s : State) (f : Fin 2) (avg : Fin 4096) : exec (.laserNotReady f avg) s = .next (State.finish (opLaserNotReady f.val avg.val s)) := rfl
theorem exec_pmonOut (s : State) (f : Fin 2) (avg : Fin 4096) : exec (.pmonOut f avg) s = .next (State.finish (opPmonOut f.val avg.val s)) := rfl
theorem exec_checkBurst (s : State) (f : Fin 2) : exec (.checkBurst f) s = .next (State.finish (opCheckBurst f.val s)) := rfl
theorem exec_aprCheck (s : State) (f : Fin 2) : exec (.aprCheck f) s = .next (State.finish (opAprCheck f.val s)) := rfl
theorem exec_checkResultTimeout (s : State) (f : Fin 2) : exec (.checkResultTimeout f) s = .next (State.finish (opCheckResultTimeout f.val s)) := rfl
theorem exec_openEndIndication (s : State) (f : Fin 2) : exec (.openEndIndication f) s = .next (State.finish (opOpenEndIndication f.val s)) := rfl
theorem exec_continuityConfirmation (s : State) (f : Fin 2) : exec (.continuityConfirmation f) s = .next (State.finish (opContinuityConfirmation f.val s)) := rfl
theorem exec_confirmationTimeout (s : State) (f : Fin 2) : exec (.confirmationTimeout f) s = .next (State.finish (opConfirmationTimeout f.val s)) := rfl
theorem exec_force (s : State) (f : Fin 2) : exec (.force f) s = .next (State.finish (opForce f.val s)) := rfl
theorem exec_restore (s : State) (f : Fin 2) : exec (.restore f) s = .next (State.finish (opRestore f.val s)) := rfl
theorem exec_aprLockout (s : State) (f : Fin 2) : exec (.aprLockout f) s = .next (State.finish (opAprLockout f.val s)) := rfl
theorem exec_ppsInEdge (s : State) (high : Nat) : exec (.ppsInEdge high) s = .next (State.finish (opPpsInEdge high s)) := rfl
theorem exec_ppsLost (s : State) : exec (.ppsLost) s = .next (State.finish (opPpsLost s)) := rfl
theorem exec_ppsOutRise (s : State) : exec (.ppsOutRise) s = .next (State.finish (opPpsOutRise s)) := rfl
theorem exec_ppsOutFall (s : State) : exec (.ppsOutFall) s = .next (State.finish (opPpsOutFall s)) := rfl
theorem exec_landingHigh (s : State) (f : Fin 2) (raman : Bool) (fill : Nat) : exec (.landingHigh f raman fill) s = .next (State.finish (opLandingHigh f.val raman fill s)) := rfl
theorem exec_landingDropStart (s : State) (f : Fin 2) (raman : Bool) : exec (.landingDropStart f raman) s = .next (State.finish (opDropStart f.val raman s)) := rfl
theorem exec_landingOverflow (s : State) (f : Fin 2) (raman : Bool) : exec (.landingOverflow f raman) s = .next (State.finish (opLandingOverflow f.val raman s)) := rfl
theorem exec_chzHandoverStart (s : State) (c : Fin 3) (f : Fin 2) : exec (.chzHandoverStart c f) s = .next (State.finish (opChzHandoverStart c.val f.val s)) := rfl
theorem exec_chzHandover (s : State) (c : Fin 3) (agree : Bool) : exec (.chzHandover c agree) s = .next (State.finish (opChzHandover c.val agree s)) := rfl
theorem exec_chzFail (s : State) (c : Fin 3) (stall : Bool) : exec (.chzFail c stall) s = .next (State.finish (opChzFail c.val stall s)) := rfl
theorem exec_chzTakeover (s : State) (c : Fin 3) (f : Fin 2) : exec (.chzTakeover c f) s = .next (State.finish (opChzTakeover c.val f.val s)) := rfl
theorem exec_iqEstimateUpdate (s : State) (f : Fin 2) (y : Bool) (o : IqObs) : exec (.iqEstimateUpdate f y o) s = .next (State.finish (opIqEstimateUpdate f.val y o s)) := rfl
theorem exec_iqHoldExit (s : State) (f : Fin 2) (y : Bool) : exec (.iqHoldExit f y) s = .next (State.finish (opIqHoldExit f.val y s)) := rfl
theorem exec_iqReconverge (s : State) (f : Fin 2) (y : Bool) : exec (.iqReconverge f y) s = .next (State.finish (opIqReconverge f.val y s)) := rfl
theorem exec_overrange (s : State) (a : Fin 12) : exec (.overrange a) s = .next (State.finish (opOverrange a.val s)) := rfl
theorem exec_snapshotArm (s : State) : exec (.snapshotArm) s = .next (State.finish (opSnapshotArm s)) := rfl
theorem exec_snapshotDone (s : State) (volts : List (List Rat)) : exec (.snapshotDone volts) s = .next (State.finish (opSnapshotDone volts s)) := rfl
theorem exec_acqClearPeak (s : State) (p0 : Bool) (p1 : Bool) (r0 : Bool) (r1 : Bool) : exec (.acqClearPeak p0 p1 r0 r1) s = .next (State.finish (opAcqClearPeak p0 p1 r0 r1 s)) := rfl
theorem exec_acqClearCounts (s : State) : exec (.acqClearCounts) s = .next (State.finish (opAcqClearCounts s)) := rfl
theorem exec_traceProcessed (s : State) (f : Fin 2) (n : Nat) (v : TraceVolts) : exec (.traceProcessed f n v) s = .next (State.finish (opTraceProcessed f.val n v s)) := rfl
theorem exec_refLost (s : State) (f : Fin 2) : exec (.refLost f) s = .next (State.finish (opRefLost f.val s)) := rfl
theorem exec_refOk (s : State) (f : Fin 2) : exec (.refOk f) s = .next (State.finish (opRefOk f.val s)) := rfl
theorem exec_zoneValid (s : State) (f : Fin 2) (z : Fin 256) : exec (.zoneValid f z) s = .next (State.finish (opZoneValid f.val z.val s)) := rfl
theorem exec_zoneDegraded (s : State) (f : Fin 2) (z : Fin 256) : exec (.zoneDegraded f z) s = .next (State.finish (opZoneDegraded f.val z.val s)) := rfl
theorem exec_mapInterval (s : State) (f : Fin 2) (z : Fin 256) : exec (.mapInterval f z) s = .next (State.finish (opMapInterval f.val z.val s)) := rfl
theorem exec_eventHeartbeat (s : State) (f : Fin 2) (z : Fin 256) (id : Nat) : exec (.eventHeartbeat f z id) s = .next (State.finish (opEventHeartbeat f.val z.val id s)) := rfl
theorem exec_zoneStormEnd (s : State) (f : Fin 2) (z : Fin 256) : exec (.zoneStormEnd f z) s = .next (State.finish (opZoneStormEnd f.val z.val s)) := rfl
theorem exec_trackUpdate (s : State) (f : Fin 2) (obs : List TrackObs) (cands : List TrackCand) : exec (.trackUpdate f obs cands) s = .next (State.finish (opTrackUpdate f.val obs cands s)) := rfl
theorem exec_aliasSet (s : State) (f : Fin 2) : exec (.aliasSet f) s = .next (State.finish (opAliasSet f.val s)) := rfl
theorem exec_aliasClear (s : State) (f : Fin 2) : exec (.aliasClear f) s = .next (State.finish (opAliasClear f.val s)) := rfl
theorem exec_dimPermitSend (s : State) : exec (.dimPermitSend) s = .next (State.finish (opDimPermitSend s)) := rfl
theorem exec_dimPermitReceived (s : State) (l : Fin 64) : exec (.dimPermitReceived l) s = .next (State.finish (opDimPermitReceived l.val s)) := rfl
theorem exec_revokeReceived (s : State) (l : Fin 64) : exec (.revokeReceived l) s = .next (State.finish (opRevokeReceived l.val s)) := rfl
theorem exec_permitAgeExpiry (s : State) (l : Fin 64) : exec (.permitAgeExpiry l) s = .next (State.finish (opPermitAgeExpiry l.val s)) := rfl
theorem exec_dataStreamSend (s : State) (d : Fin 4) (p : Fin 8) (f : Fin 2) (z : Fin 256) (j : Fin 8) (first : Nat) (count : Nat) (late : Bool) : exec (.dataStreamSend d p f z j first count late) s = .next (State.finish (opDataStreamSend d.val (p.val + 1) f.val z.val j.val first count late s)) := rfl
theorem exec_acuClearCounts (s : State) : exec (.acuClearCounts) s = .next (State.finish (opAcuClearCounts s)) := rfl
theorem exec_ramanDarkMeasure (s : State) (f : Fin 2) (as : List Rat) (st : List Rat) : exec (.ramanDarkMeasure f as st) s = .next (State.finish (opRamanDarkMeasure f.val as st s)) := rfl
theorem exec_ramanDark (s : State) (f : Fin 2) : exec (.ramanDark f) s = .next (State.finish (opRamanDark f.val s)) := rfl
theorem exec_ramanUpdate (s : State) (f : Fin 2) : exec (.ramanUpdate f) s = .next (State.finish (opRamanUpdate f.val s)) := rfl
theorem exec_anchorStale (s : State) (f : Fin 2) : exec (.anchorStale f) s = .next (State.finish (opAnchorStale f.val s)) := rfl
theorem exec_betaUpdate (s : State) (f : Fin 2) : exec (.betaUpdate f) s = .next (State.finish (opBetaUpdate f.val s)) := rfl
theorem exec_fusedOutput (s : State) (f : Fin 2) : exec (.fusedOutput f) s = .next (State.finish (opFusedOutput f.val s)) := rfl
theorem exec_fusedRebase (s : State) (f : Fin 2) (z : Fin 256) (c : Fin 4096) (cause : Fin 3) : exec (.fusedRebase f z c cause) s = .next (State.finish (opFusedRebase f.val z.val c.val (cause.val + 1) s)) := rfl
theorem exec_auxOutput (s : State) (c : Fin 8) (o : AuxSample) : exec (.auxOutput c o) s = .next (State.finish (opAuxOutput c.val o s)) := rfl
theorem exec_auxOpen (s : State) (c : Fin 8) (cause : Fin 3) : exec (.auxOpen c cause) s = .next (State.finish (opAuxOpen c.val (cause.val + 1) s)) := rfl
theorem exec_auxRestored (s : State) (c : Fin 8) : exec (.auxRestored c) s = .next (State.finish (opAuxRestored c.val s)) := rfl
theorem exec_auxDwell (s : State) : exec (.auxDwell) s = .next (State.finish (opAuxDwell s)) := rfl
theorem exec_auxOverrange (s : State) (c : Fin 8) : exec (.auxOverrange c) s = .next (State.finish (opAuxOverrange c.val s)) := rfl
theorem exec_plannerRun (s : State) (obs : PlanObs) : exec (.plannerRun obs) s = .next (State.finish (opPlannerRun obs s)) := rfl
theorem exec_runNow (s : State) (obs : PlanObs) : exec (.runNow obs) s = .next (State.finish (opRunNow obs s)) := rfl
theorem exec_fastPath (s : State) (obs : PlanObs) : exec (.fastPath obs) s = .next (State.finish (opFastPath obs s)) := rfl
theorem exec_slackWindow (s : State) (u : Fin 23) (util : Nat) (tj : Int) : exec (.slackWindow u util tj) s = .next (State.finish (opSlackWindow u.val util tj s)) := rfl
theorem exec_taskMoveStart (s : State) : exec (.taskMoveStart) s = .next (State.finish (opTaskMoveStart s)) := rfl
theorem exec_taskMove (s : State) (bad : Option Nat) : exec (.taskMove bad) s = .next (State.finish (opTaskMove bad s)) := rfl
theorem exec_moveDeferred (s : State) : exec (.moveDeferred) s = .next (State.finish (opMoveDeferred s)) := rfl
theorem exec_engineFail (s : State) (e : Fin 20) (cause : Nat) : exec (.engineFail e cause) s = .next (State.finish (opEngineFail e.val cause s)) := rfl
theorem exec_taskRestart (s : State) (formed : List Nat) : exec (.taskRestart formed) s = .next (State.finish (opTaskRestart formed s)) := rfl
theorem exec_stairFault (s : State) (high : Bool) (mv : Nat) : exec (.stairFault high mv) s = .next (State.finish (opStairFault high mv s)) := rfl
theorem exec_galClearCounts (s : State) : exec (.galClearCounts) s = .next (State.finish (opGalClearCounts s)) := rfl
theorem exec_xferBegin (s : State) (slot : Fin 4) (len : Nat) : exec (.xferBegin slot len) s = .next (State.finish (opXferBegin slot.val len s)) := rfl
theorem exec_xferData (s : State) (w : Word) : exec (.xferData w) s = .next (State.finish (opXferData w s)) := rfl
theorem exec_xferCommit (s : State) : exec (.xferCommit) s = .next (State.finish (opXferCommit s)) := rfl
theorem exec_xferAbort (s : State) : exec (.xferAbort) s = .next (State.finish (opXferAbort s)) := rfl
theorem exec_cfgXferDone (s : State) : exec (.cfgXferDone) s = .next (State.finish (opXferDone (s.roleKey 1) s)) := rfl
theorem exec_switch (s : State) (slot : Fin 4) (persist : Bool) : exec (.switch slot persist) s = .next (State.finish (opSwitch slot.val persist s)) := rfl
theorem exec_cancel (s : State) : exec (.cancel) s = .next (State.finish (opCancel s)) := rfl
theorem exec_erase (s : State) (slot : Fin 4) : exec (.erase slot) s = .next (State.finish (opErase slot.val s)) := rfl
theorem exec_commitRb (s : State) : exec (.commitRb) s = .next (State.finish (opCommitRb s)) := rfl
theorem exec_cfgCtlWrite (s : State) (pinEn : Bool) (pref : Fin 4) : exec (.cfgCtlWrite pinEn pref) s = .next (State.finish (opCfgCtlWrite pinEn pref.val s)) := rfl
theorem exec_switchLoaded (s : State) : exec (.switchLoaded) s = .next (State.finish (opSwitchLoaded s)) := rfl
theorem exec_switchCommit (s : State) : exec (.switchCommit) s = .next (State.finish (opSwitchCommit s)) := rfl
theorem exec_cfgSwitchDone (s : State) : exec (.cfgSwitchDone) s = .next (State.finish (opCfgSwitchDone s)) := rfl
theorem exec_switchTimeout (s : State) : exec (.switchTimeout) s = .next (State.finish (opSwitchTimeout s)) := rfl
theorem exec_aspectCommand (s : State) (h : Fin 32) (v : Fin 32) : exec (.aspectCommand h v) s = .next (State.finish (opAspectCommand h.val v.val s)) := rfl
theorem exec_levelCommand (s : State) (h : Fin 32) (level : Fin 4) : exec (.levelCommand h level) s = .next (State.finish (opLevelCommand h.val level.val s)) := rfl
theorem exec_aspectChangeStep (s : State) (h : Fin 32) : exec (.aspectChangeStep h) s = .next (State.finish (opAspectChangeStep h.val s)) := rfl
theorem exec_dwellExpiry (s : State) (h : Fin 32) : exec (.dwellExpiry h) s = .next (State.finish (opDwellExpiry h.val s)) := rfl
theorem exec_pwmPeriodStart (s : State) (n : Fin 64) : exec (.pwmPeriodStart n) s = .next (State.finish (opPwmPeriodStart n.val s)) := rfl
theorem exec_dimRampStep (s : State) (n : Fin 64) : exec (.dimRampStep n) s = .next (State.finish (opDimRampStep n.val s)) := rfl
theorem exec_flashOnEdge (s : State) (g : Fin 8) (anti : Bool) : exec (.flashOnEdge g anti) s = .next (State.finish (opFlashOnEdge g.val anti s)) := rfl
theorem exec_flashOffEdge (s : State) (g : Fin 8) (anti : Bool) : exec (.flashOffEdge g anti) s = .next (State.finish (opFlashOffEdge g.val anti s)) := rfl
theorem exec_lmpClearCounts (s : State) : exec (.lmpClearCounts) s = .next (State.finish (opLmpClearCounts s)) := rfl
theorem exec_litSample (s : State) (n : Fin 64) (cur : Int) (drain : Int) (full : Bool) (inserted : Bool) : exec (.litSample n cur drain full inserted) s = .next (State.finish (opLitSample n.val cur drain full inserted s)) := rfl
theorem exec_overcurrentTrip (s : State) (n : Fin 64) (cur : Int) (drain : Int) : exec (.overcurrentTrip n cur drain) s = .next (State.finish (opOvercurrentTrip n.val cur drain s)) := rfl
theorem exec_darkSample (s : State) (n : Fin 64) (cur : Int) (drain : Int) : exec (.darkSample n cur drain) s = .next (State.finish (opDarkSample n.val cur drain s)) := rfl
theorem exec_coldTest (s : State) (n : Fin 64) (cur : Int) (drain : Int) (absorbed : Bool) : exec (.coldTest n cur drain absorbed) s = .next (State.finish (opColdTest n.val cur drain absorbed s)) := rfl
theorem exec_offTest (s : State) (n : Fin 64) (cur : Int) (drain : Int) (nbrs : List NbrObs) (absorbed : Bool) : exec (.offTest n cur drain nbrs absorbed) s = .next (State.finish (opOffTest n.val cur drain nbrs absorbed s)) := rfl
theorem exec_testOverdue (s : State) (n : Fin 64) (kind : Fin 4) : exec (.testOverdue n kind) s = .next (State.finish (opTestOverdue n.val (kind.val + 1) s)) := rfl
theorem exec_bankSupplySample (s : State) (b : Fin 4) (code : Int) : exec (.bankSupplySample b code) s = .next (State.finish (opBankSupplySample b.val code s)) := rfl
theorem exec_bankSupplyRestored (s : State) (b : Fin 4) : exec (.bankSupplyRestored b) s = .next (State.finish (opBankSupplyRestored b.val s)) := rfl
theorem exec_calibrationWindow (s : State) (n : Fin 64) (ld : Bool) (gain : Int) (ofs : Int) : exec (.calibrationWindow n ld gain ofs) s = .next (State.finish (opCalibrationWindow n.val ld gain ofs s)) := rfl
theorem exec_converterCheck (s : State) (c : Fin 2) (err : Int) (gain : Int) (ofs : Int) (rate : Nat) : exec (.converterCheck c err gain ofs rate) s = .next (State.finish (opConverterCheck c.val err gain ofs rate s)) := rfl
theorem exec_userSlotTrigger (s : State) (i : Fin 512) (code : Int) (busy : Bool) : exec (.userSlotTrigger i code busy) s = .next (State.finish (opUserSlotTrigger i.val code busy s)) := rfl
theorem exec_supMissed (s : State) (c : Fin 2) : exec (.supMissed c) s = .next (State.finish (opSupMissed c.val s)) := rfl
theorem exec_referenceSettled (s : State) (c : Fin 2) : exec (.referenceSettled c) s = .next (State.finish (opReferenceSettled c.val s)) := rfl
theorem exec_supRef (s : State) (c : Fin 2) (ok : Bool) : exec (.supRef c ok) s = .next (State.finish (opSupRef c.val ok s)) := rfl
theorem exec_light (s : State) (n : Fin 64) : exec (.light n) s = .next (State.finish (opLight n.val s)) := rfl
theorem exec_darkAll (s : State) : exec (.darkAll) s = .next (State.finish (opDarkAll s)) := rfl
theorem exec_matrix (s : State) : exec (.matrix) s = .next (State.finish (opMatrix s)) := rfl
theorem exec_matrixDriveStep (s : State) (drive : Int) (obs : List MatrixObs) : exec (.matrixDriveStep drive obs) s = .next (State.finish (opMatrixDriveStep drive obs s)) := rfl
theorem exec_lampClear (s : State) (n : Fin 64) : exec (.lampClear n) s = .next (State.finish (opLampClear n.val s)) := rfl
theorem exec_lampClearAll (s : State) : exec (.lampClearAll) s = .next (State.finish (opLampClearAll s)) := rfl
theorem exec_autoRecovery (s : State) (n : Fin 64) : exec (.autoRecovery n) s = .next (State.finish (opAutoRecovery n.val s)) := rfl
theorem exec_provingClearCounts (s : State) : exec (.provingClearCounts) s = .next (State.finish (opProvingClearCounts s)) := rfl
theorem exec_supClearCounts (s : State) : exec (.supClearCounts) s = .next (State.finish (opSupClearCounts s)) := rfl
theorem exec_testPulse (s : State) (k : Fin 4) (lo : Nat) (hi : Nat) : exec (.testPulse k lo hi) s = .next (State.finish (opTestPulse k.val lo hi s)) := rfl
theorem exec_tpoRetry (s : State) (k : Fin 4) (ok : Bool) : exec (.tpoRetry k ok) s = .next (State.finish (opTpoRetry k.val ok s)) := rfl
theorem exec_inputSample (s : State) (i : Fin 32) (level : Bool) : exec (.inputSample i level) s = .next (State.finish (opInputSample i.val level s)) := rfl
theorem exec_inputFiltered (s : State) (i : Fin 32) : exec (.inputFiltered i) s = .next (State.finish (opInputFiltered i.val s)) := rfl
theorem exec_debounceExpiry (s : State) (i : Fin 32) : exec (.debounceExpiry i) s = .next (State.finish (opDebounceExpiry i.val s)) := rfl
theorem exec_inputCapture (s : State) (i : Fin 32) (src : Fin 4) (level : Bool) (after : Bool) : exec (.inputCapture i src level after) s = .next (State.finish (opInputCapture i.val src.val level after s)) := rfl
theorem exec_discrepancyExpiry (s : State) (p : Fin 16) : exec (.discrepancyExpiry p) s = .next (State.finish (opDiscrepancyExpiry p.val s)) := rfl
theorem exec_outputOffTest (s : State) (o : Fin 8) (mv : Nat) : exec (.outputOffTest o mv) s = .next (State.finish (opOutputOffTest o.val mv s)) := rfl
theorem exec_outputReadbackSample (s : State) (o : Fin 8) (mv : Nat) : exec (.outputReadbackSample o mv) s = .next (State.finish (opOutputReadbackSample o.val mv s)) := rfl
theorem exec_cutoffTest (s : State) (mv : List Nat) : exec (.cutoffTest mv) s = .next (State.finish (opCutoffTest mv s)) := rfl
theorem exec_outputOverload (s : State) (o : Fin 8) (mv : Nat) : exec (.outputOverload o mv) s = .next (State.finish (opOutputOverload o.val mv s)) := rfl
theorem exec_edmSample (s : State) (o : Fin 8) (level : Bool) : exec (.edmSample o level) s = .next (State.finish (opEdmSample o.val level s)) := rfl
theorem exec_brakeDecayCheck (s : State) (k : Fin 2) (cur : Nat) : exec (.brakeDecayCheck k cur) s = .next (State.finish (opBrakeDecayCheck k.val cur s)) := rfl
theorem exec_brakeSwitchTest (s : State) (k : Fin 2) (hi : Nat) (lo : Nat) : exec (.brakeSwitchTest k hi lo) s = .next (State.finish (opBrakeSwitchTest k.val hi lo s)) := rfl
theorem exec_brakeTestStart (s : State) (k : Fin 2) : exec (.brakeTestStart k) s = .next (State.finish (opBrakeTestStart k.val s)) := rfl
theorem exec_brakeTestEnd (s : State) (k : Fin 2) : exec (.brakeTestEnd k) s = .next (State.finish (opBrakeTestEnd k.val s)) := rfl
theorem exec_brakeTestRetry (s : State) (k : Fin 2) : exec (.brakeTestRetry k) s = .next (State.finish (opBrakeTestRetry k.val s)) := rfl
theorem exec_brakeTestLapsed (s : State) (k : Fin 2) : exec (.brakeTestLapsed k) s = .next (State.finish (opBrakeTestLapsed k.val s)) := rfl
theorem exec_torqueOffDelay (s : State) (k : Fin 2) : exec (.torqueOffDelay k) s = .next (State.finish (opTorqueOffDelay k.val s)) := rfl
theorem exec_sioClear (s : State) (kind : Fin 4) (i : Fin 32) : exec (.sioClear kind i) s = .next (State.finish (opSioClear kind.val i.val s)) := rfl
theorem exec_sioClearAll (s : State) : exec (.sioClearAll) s = .next (State.finish (opSioClearAll s)) := rfl
theorem exec_brkTestRequest (s : State) (k : Fin 2) : exec (.brkTestRequest k) s = .next (State.finish (opBrkTestRequest k.val s)) := rfl
theorem exec_sioAck (s : State) : exec (.sioAck) s = .next (State.finish (opSioAck s)) := rfl
theorem exec_sioClearCounts (s : State) : exec (.sioClearCounts) s = .next (State.finish (opSioClearCounts s)) := rfl
theorem exec_degradedExpired (s : State) : exec (.degradedExpired) s = .next (State.finish (opDegradedExpired s)) := rfl
theorem exec_degradedTimerDiscard (s : State) : exec (.degradedTimerDiscard) s = .next (State.finish (opDegradedTimerDiscard s)) := rfl
theorem exec_safeStop (s : State) : exec (.safeStop) s = .next (State.finish (opSafeStop s)) := rfl
theorem exec_safeStopRelease (s : State) : exec (.safeStopRelease) s = .next (State.finish (opSafeStopRelease s)) := rfl
theorem exec_safeOutPulse (s : State) : exec (.safeOutPulse) s = .next (State.finish (opSafeOutPulse s)) := rfl
theorem exec_peerMismatch (s : State) : exec (.peerMismatch) s = .next (State.finish (opPeerMismatch s)) := rfl
theorem exec_linkDown (s : State) (p : Fin 2) (cause : Fin 4) : exec (.linkDown p cause) s = .next (State.finish (opLinkDown p.val (cause.val + 1) s)) := rfl
theorem exec_linkUp (s : State) (p : Fin 2) : exec (.linkUp p) s = .next (State.finish (opLinkUp p.val s)) := rfl
theorem exec_prpSupervision (s : State) : exec (.prpSupervision) s = .next (State.finish (opPrpSupervision s)) := rfl
theorem exec_ptpSync (s : State) (b : List Byte) (fu : Option (List Byte)) : exec (.ptpSync b fu) s = .next (State.finish (opPtpSync b fu s)) := rfl
theorem exec_announce (s : State) (b : List Byte) : exec (.announce b) s = .next (State.finish (opAnnounce b s)) := rfl
theorem exec_announceTimeout (s : State) (ferr : Nat) : exec (.announceTimeout ferr) s = .next (State.finish (opAnnounceTimeout ferr s)) := rfl
theorem exec_delayReq (s : State) : exec (.delayReq) s = .next (State.finish (opDelayReq s)) := rfl
theorem exec_delayResp (s : State) (b : List Byte) : exec (.delayResp b) s = .next (State.finish (opDelayResp b s)) := rfl
theorem exec_timeLocked (s : State) : exec (.timeLocked) s = .next (State.finish (opTimeLocked s)) := rfl
theorem exec_mgmtRead (s : State) (k : Carrier) (b : List Byte) : exec (.mgmtRead k b) s = .next (State.finish (opMgmtRead k b s)) := rfl
theorem exec_mgmtEnvelope (s : State) (k : Carrier) (b : List Byte) : exec (.mgmtEnvelope k b) s = .next (State.finish (opMgmtEnvelope k b s)) := rfl
theorem exec_bornakData (s : State) (k : Carrier) (b : List Byte) : exec (.bornakData k b) s = .next (State.finish (opBornakData k b s)) := rfl
theorem exec_bornakReq (s : State) (k : Carrier) (b : List Byte) : exec (.bornakReq k b) s = .next (State.finish (opBornakReq k b s)) := rfl
theorem exec_bornakAck (s : State) (k : Carrier) (b : List Byte) : exec (.bornakAck k b) s = .next (State.finish (opBornakAck k b s)) := rfl
theorem exec_bornakReqSend (s : State) (c : Fin 64) : exec (.bornakReqSend c) s = .next (State.finish (opBornakReqSend c.val s)) := rfl
theorem exec_bornakDataSend (s : State) (c : Fin 64) : exec (.bornakDataSend c) s = .next (State.finish (opBornakDataSend c.val s)) := rfl
theorem exec_bornakExpiry (s : State) (c : Fin 64) : exec (.bornakExpiry c) s = .next (State.finish (opBornakExpiry c.val s)) := rfl
theorem exec_bornakWaitTimeout (s : State) (c : Fin 64) : exec (.bornakWaitTimeout c) s = .next (State.finish (opBornakWaitTimeout c.val s)) := rfl
theorem exec_bnkErrors (s : State) (c : Fin 64) : exec (.bnkErrors c) s = .next (State.finish (opBnkErrors c.val s)) := rfl
theorem exec_netClearCounts (s : State) : exec (.netClearCounts) s = .next (State.finish (opNetClearCounts s)) := rfl
theorem exec_bnkClearCounts (s : State) : exec (.bnkClearCounts) s = .next (State.finish (opBnkClearCounts s)) := rfl
theorem exec_chainSeal (s : State) (d : Fin 4) : exec (.chainSeal d) s = .next (State.finish (opChainSeal d.val s)) := rfl
theorem exec_spiSeal (s : State) : exec (.spiSeal) s = .next (State.finish (opSpiSeal s)) := rfl
theorem exec_envelopeDecided (s : State) (o : PlanObs) : exec (.envelopeDecided o) s = .next (State.finish (opEnvelopeDecided o s)) := rfl
theorem exec_signedWrite (s : State) (role : Fin 4) (a : Word) (v : Word) (o : PlanObs) : exec (.signedWrite role a v o) s = .next (State.finish (opSignedWrite (role.val + 1) a v o s)) := rfl
theorem exec_signedRead (s : State) (role : Fin 4) (a : Word) (n : Fin 64) : exec (.signedRead role a n) s = .next (State.finish (opSignedRead (role.val + 1) a (n.val + 1) s)) := rfl
theorem exec_keySet (s : State) (signer : Fin 4) (role : Fin 4) (key : Option (List Byte)) : exec (.keySet signer role key) s = .next (State.finish (opKeySet (signer.val + 1) (role.val + 1) key s)) := rfl
theorem exec_attest (s : State) (role : Fin 4) (nonce : List Byte) : exec (.attest role nonce) s = .next (State.finish (opAttest (role.val + 1) nonce s)) := rfl
theorem exec_ledgerRead (s : State) (role : Fin 4) (area : Fin 10) (count : Fin 24) (first : Nat) : exec (.ledgerRead role area count first) s = .next (State.finish (opLedgerRead (role.val + 1) area.val (count.val + 1) first s)) := rfl
theorem exec_lifecycle (s : State) (role : Fin 4) (target : Fin 5) : exec (.lifecycle role target) s = .next (State.finish (opLifecycle (role.val + 1) target.val s)) := rfl
theorem exec_fwBegin (s : State) (role : Fin 4) (img : Fin 2) (len : Nat) : exec (.fwBegin role img len) s = .next (State.finish (opFwBegin (role.val + 1) img.val len s)) := rfl
theorem exec_fwAppend (s : State) (n : Fin 16384) : exec (.fwAppend n) s = .next (State.finish (opFwAppend (n.val + 1) s)) := rfl
theorem exec_fwCommit (s : State) (role : Fin 4) : exec (.fwCommit role) s = .next (State.finish (opFwCommit (role.val + 1) s)) := rfl
theorem exec_clsFw (s : State) : exec (.clsFw) s = .next (State.finish (opClsFw s)) := rfl
theorem exec_fwActivate (s : State) (role : Fin 4) (img : Fin 2) : exec (.fwActivate role img) s = .next (State.finish (opFwActivate (role.val + 1) img.val s)) := rfl
theorem exec_fwConfirm (s : State) (role : Fin 4) : exec (.fwConfirm role) s = .next (State.finish (opFwConfirm (role.val + 1) s)) := rfl
theorem exec_fwCommitRb (s : State) (role : Fin 4) : exec (.fwCommitRb role) s = .next (State.finish (opFwCommitRb (role.val + 1) s)) := rfl
theorem exec_trialConfirm (s : State) : exec (.trialConfirm) s = .next (State.finish (opTrialConfirm s)) := rfl
theorem exec_keyStoreCheck (s : State) (found : List StoreFault) : exec (.keyStoreCheck found) s = .next (State.finish (opKeyStoreCheck found s)) := rfl
theorem exec_rotationStep (s : State) : exec (.rotationStep) s = .next (State.finish (opRotationStep s)) := rfl
theorem exec_chzRotationStep (s : State) : exec (.chzRotationStep) s = .next (State.finish (opChzRotationStep s)) := rfl
theorem exec_bistSlice (s : State) (u : Fin 37) (stop : Option (Fin 2)) : exec (.bistSlice u stop) s = .next (State.finish (opBistSlice u.val stop s)) := rfl
theorem exec_bistSliceEnd (s : State) (r : SliceEnd) : exec (.bistSliceEnd r) s = .next (State.finish (opBistSliceEnd r s)) := rfl
theorem exec_signalDieSlice (s : State) (u : Fin 5) (r : SliceEnd) : exec (.signalDieSlice u r) s = .next (State.finish (opSignalDieSlice (u.val + 32) r s)) := rfl
theorem exec_testNow (s : State) (u : Fin 256) : exec (.testNow u) s = .next (State.finish (opTestNow u.val s)) := rfl
theorem exec_tstClearCounts (s : State) : exec (.tstClearCounts) s = .next (State.finish (opTstClearCounts s)) := rfl
theorem exec_marchRow (s : State) (a : Nat) (bad : Option MemFault) : exec (.marchRow a bad) s = .next (State.finish (opMarchRow a bad s)) := rfl
theorem exec_scrub (s : State) (a : Nat) (fix : Option MemFault) : exec (.scrub a fix) s = .next (State.finish (opScrub a fix s)) := rfl
theorem exec_lichenRead (s : State) (m : Fin 48) (reading : Option Nat) (tj : Int) : exec (.lichenRead m reading tj) s = .next (State.finish (opLichenRead m.val reading tj s)) := rfl
theorem exec_lichenHourly (s : State) : exec (.lichenHourly) s = .next (State.finish (opLichenHourly s)) := rfl
theorem exec_lichenDaily (s : State) : exec (.lichenDaily) s = .next (State.finish (opLichenDaily s)) := rfl
theorem exec_lichenForecast (s : State) : exec (.lichenForecast) s = .next (State.finish (opLichenForecast s)) := rfl
theorem exec_counterImageWrite (s : State) (bad : Option Nat) : exec (.counterImageWrite bad) s = .next (State.finish (opCounterImageWrite bad s)) := rfl
theorem exec_journalWrite (s : State) (bad : Option Nat) : exec (.journalWrite bad) s = .next (State.finish (opJournalWrite bad s)) := rfl
theorem exec_lampAgeing (s : State) (n : Fin 64) : exec (.lampAgeing n) s = .next (State.finish (opLampAgeing n.val s)) := rfl
theorem exec_release (s : State) : exec (.release) s = .next (State.finish (opRelease s)) := rfl
theorem exec_hold (s : State) : exec (.hold) s = .next (State.finish (opHold s)) := rfl
theorem exec_exitSafe (s : State) : exec (.exitSafe) s = .next (State.finish (opExitSafe s)) := rfl
theorem exec_commission (s : State) : exec (.commission) s = .next (State.finish (opCommission s)) := rfl
theorem exec_endCommissioning (s : State) : exec (.endCommissioning) s = .next (State.finish (opEnd s)) := rfl
theorem exec_commissionTimeout (s : State) : exec (.commissionTimeout) s = .next (State.finish (opCommissionTimeout s)) := rfl
theorem exec_quiesce (s : State) : exec (.quiesce) s = .next (State.finish (opQuiesce s)) := rfl
theorem exec_quiesceDone (s : State) : exec (.quiesceDone) s = .next (State.finish (opQuiesceDone s)) := rfl
theorem exec_reset (s : State) : exec (.reset) s = .next (State.finish (opReset s)) := rfl
theorem exec_modClearCounts (s : State) : exec (.modClearCounts) s = .next (State.finish (opModClearCounts s)) := rfl
theorem exec_vfieldRise (s : State) (v : Nat) : exec (.vfieldRise v) s = .next (State.finish (opVfieldRise v s)) := rfl
theorem exec_resetExit (s : State) (rmaN : Bool) : exec (.resetExit rmaN) s = .next (State.finish (opResetExit rmaN s)) := rfl
theorem exec_bootComplete (s : State) (found : List StoreFault) (bad : Option BootBist) : exec (.bootComplete found bad) s = .next (State.finish (opBootComplete found bad s)) := rfl
theorem exec_loadComplete (s : State) (pins : Fin 4) (settled : Bool) : exec (.loadComplete pins settled) s = .next (State.finish (opLoadComplete pins.val settled s)) := rfl
theorem exec_rstNAssert (s : State) : exec (.rstNAssert) s = .next (State.finish (opRstNAssert s)) := rfl
theorem exec_rstNRelease (s : State) : exec (.rstNRelease) s = .next (State.finish (opRstNRelease s)) := rfl
theorem exec_rstStuck (s : State) : exec (.rstStuck) s = .next (State.finish (opRstStuck s)) := rfl
theorem exec_rstNRearm (s : State) : exec (.rstNRearm) s = .next (State.finish (opRstNRearm s)) := rfl
theorem exec_f4HoldExpiry (s : State) : exec (.f4HoldExpiry) s = .next (State.finish (opF4HoldExpiry s)) := rfl
theorem exec_faultHandling (s : State) (signal : Bool) (lvl : Fin 3) : exec (.faultHandling signal lvl) s = .next (State.finish (opFaultHandling signal (lvl.val + 1) s)) := rfl
theorem exec_vfieldHigh (s : State) (peak : Nat) : exec (.vfieldHigh peak) s = .next (State.finish (opVfieldHigh peak s)) := rfl
theorem exec_vfieldHighEnd (s : State) (v : Nat) : exec (.vfieldHighEnd v) s = .next (State.finish (opVfieldHighEnd v s)) := rfl
theorem exec_holdupCharged (s : State) (cap : Nat) (vhold : Nat) : exec (.holdupCharged cap vhold) s = .next (State.finish (opHoldupCharged cap vhold s)) := rfl
theorem exec_holdupTimeout (s : State) (cap : Nat) (vhold : Nat) : exec (.holdupTimeout cap vhold) s = .next (State.finish (opHoldupTimeout cap vhold s)) := rfl
theorem exec_vauxFault (s : State) (cause : Fin 2) (mv : Nat) : exec (.vauxFault cause mv) s = .next (State.finish (opVauxFault (cause.val + 1) mv s)) := rfl
theorem exec_vsoLow (s : State) (v : Nat) : exec (.vsoLow v) s = .next (State.finish (opVsoLow v s)) := rfl
theorem exec_tjHigh (s : State) (die : Fin 4) (t : Int) : exec (.tjHigh die t) s = .next (State.finish (opTjHigh (die.val + 1) t s)) := rfl
theorem exec_tjHighEnd (s : State) (die : Fin 4) (t : Int) : exec (.tjHighEnd die t) s = .next (State.finish (opTjHighEnd (die.val + 1) t s)) := rfl
theorem exec_temperatureStop (s : State) (die : Fin 4) (t : Int) : exec (.temperatureStop die t) s = .next (State.finish (opTemperatureStop (die.val + 1) t s)) := rfl
theorem exec_supplyLoss (s : State) (whole : Bool) : exec (.supplyLoss whole) s = .next (State.finish (opSupplyLoss whole s)) := rfl
theorem exec_coldReset (s : State) : exec (.coldReset) s = .next (State.finish (opColdReset s)) := rfl
theorem exec_pwrClearPeak (s : State) : exec (.pwrClearPeak) s = .next (State.finish (opPwrClearPeak s)) := rfl
theorem exec_converterHandshakeStall (s : State) (c : Fin 2) : exec (.converterHandshakeStall c) s = .next (State.finish (opConverterHandshakeStall c.val s)) := rfl
theorem exec_testPulseSourceOverload (s : State) (k : Fin 4) : exec (.testPulseSourceOverload k) s = .next (State.finish (opTpoOverload k.val s)) := rfl
theorem exec_encoderEdge (s : State) (k : Fin 2) (dir : Fin 3) : exec (.encoderEdge k dir) s = .next (State.finish (opEncoderEdge k.val dir.val s)) := rfl
theorem exec_peerCauseCleared (s : State) : exec (.peerCauseCleared) s = .next (State.finish (opPeerCauseCleared s)) := rfl
theorem exec_vsoRestored (s : State) (v : Nat) : exec (.vsoRestored v) s = .next (State.finish (opVsoRestored v s)) := rfl
theorem exec_vauxRestored (s : State) (mv : Nat) : exec (.vauxRestored mv) s = .next (State.finish (opVauxRestored mv s)) := rfl
theorem exec_frontEndTemperatureResume (s : State) (t : Int) : exec (.frontEndTemperatureResume t) s = .next (State.finish (opFrontEndTemperatureResume t s)) := rfl
theorem exec_refInBad (s : State) (offFreq : Bool) : exec (.refInBad offFreq) s = .next (State.finish (opRefInBad offFreq s)) := rfl
theorem exec_arpIcmpNdRequest (s : State) (c : Carrier) (kind : Fin 3) (target : List Byte) (payload : List Byte) : exec (.arpIcmpNdRequest c kind target payload) s = .next (State.finish (opArpIcmpNdRequest c kind.val target payload s)) := rfl
theorem exec_spiUnknownCommand (s : State) (cmd : Byte) : exec (.spiUnknownCommand cmd) s = .next (State.finish (opSpiUnknownCommand cmd s)) := rfl

end Sys2Proof.Machine
end

