-- ==== Sys2Proof/Laws/Settle.lean ====
section
/-! SUPPORT. What a command ends with. The degraded conditions and the mode do not depend on records; what the degraded timer, the
mode reported, a device stop and the waiting heads of a switch leave once each is brought up to date. -/

set_option Elab.async false

namespace Sys2Proof.Machine

/-- The fields that records and the end of a command may write. -/
def endFields : List Fld :=
  recFields ++ [SIO_EVT.DEGEXP, SIO_EVT.DEGSTART, MOD_EVT.MODE, CFG_SWITCH.WAIT_HEADS, MOD_RESET.F4RST]

/-- t differs from s in records, faults, the mode reported, the degraded timer and the heads a switch waits for. -/
structure EndOnly (s t : State) : Prop where
  peer : t.sio.peerLost = s.sio.peerLost
  outs : t.sio.outs = s.sio.outs
  brks : t.sio.brks = s.sio.brks
  gal : t.gal = s.gal
  prvs : t.prvs = s.prvs
  pw : t.pw = s.pw
  inFamily : t.cfg.inFamily = s.cfg.inFamily
  mode : t.md.mode = s.md.mode
  fields : ∀ g : Fld, endFields.all (fun f => g.clear f) = true → t.get g = s.get g

theorem EndOnly.refl (s : State) : EndOnly s s := ⟨rfl, rfl, rfl, rfl, rfl, rfl, rfl, rfl, fun _ _ => rfl⟩

theorem EndOnly.trans {s t u : State} (h : EndOnly s t) (k : EndOnly t u) : EndOnly s u :=
  ⟨k.peer.trans h.peer, k.outs.trans h.outs, k.brks.trans h.brks, k.gal.trans h.gal, k.prvs.trans h.prvs, k.pw.trans h.pw,
    k.inFamily.trans h.inFamily, k.mode.trans h.mode, fun g hg => (k.fields g hg).trans (h.fields g hg)⟩

theorem EndOnly.ofRec {s t : State} (h : RecOnly s t) : EndOnly s t := by
  obtain ⟨a, b, c, d, e, f, rfl⟩ := h.rest
  refine ⟨rfl, rfl, rfl, rfl, rfl, rfl, rfl, h.mode, fun g hg => h.fields g ?_⟩
  simp only [endFields, List.all_append, Bool.and_eq_true] at hg
  exact hg.1

theorem EndOnly.put (s : State) (f : Fld) (v : Nat) (hf : f ∈ endFields) : EndOnly s (s.put f v) :=
  ⟨rfl, rfl, rfl, rfl, rfl, rfl, rfl, rfl, fun g hg => s.get_put_clear g f v (List.all_eq_true.1 hg f hf)⟩

theorem EndOnly.deg (s : State) (d : Deg) : EndOnly s { s with sio := { s.sio with deg := d } } :=
  ⟨rfl, rfl, rfl, rfl, rfl, rfl, rfl, rfl, fun _ _ => rfl⟩

theorem EndOnly.due (s : State) (d : Due) : EndOnly s { s with due := d } :=
  ⟨rfl, rfl, rfl, rfl, rfl, rfl, rfl, rfl, fun _ _ => rfl⟩

/-- The degraded conditions are those of before. -/
theorem EndOnly.conds {s t : State} (h : EndOnly s t) : t.degConds = s.degConds := by
  have h1 : ∀ p, p < 16 → t.get (SIO_PCFG.DEG p) = s.get (SIO_PCFG.DEG p) := fun p hp => h.fields _ (by revert p; decide)
  have h2 : ∀ i, i < 32 → t.get (SIO_ICFG.SRC i) = s.get (SIO_ICFG.SRC i) := fun p hp => h.fields _ (by revert p; decide)
  have h5 : ∀ i, i < 32 → t.get (SIO_ICFG.USE i) = s.get (SIO_ICFG.USE i) := fun p hp => h.fields _ (by revert p; decide)
  have h3 : t.get SIO_TPO.FAIL = s.get SIO_TPO.FAIL := h.fields _ (by decide)
  have h4 : t.get SIO_PEER.EN = s.get SIO_PEER.EN := h.fields _ (by decide)
  have e1 : (List.range 16).filter (fun p => t.on (SIO_PCFG.DEG p)) = (List.range 16).filter (fun p => s.on (SIO_PCFG.DEG p)) :=
    List.filter_congr fun p hp => by simp only [State.on, h1 p (List.mem_range.1 hp)]
  have e2 : ∀ k, (List.range 32).any (fun i => decide (t.useOf i = 2) && decide (t.get (SIO_ICFG.SRC i) = k + 1)) =
      (List.range 32).any (fun i => decide (s.useOf i = 2) && decide (s.get (SIO_ICFG.SRC i) = k + 1)) := fun k => by
    rw [Bool.eq_iff_iff, List.any_eq_true, List.any_eq_true]
    constructor <;> rintro ⟨i, hi, hx⟩ <;> refine ⟨i, hi, ?_⟩ <;>
      simp only [Bool.and_eq_true, decide_eq_true_eq] at hx ⊢ <;>
      exact ⟨by rw [State.useOf] at hx ⊢; first | rw [h5 i (List.mem_range.1 hi)]; exact hx.1 | rw [← h5 i (List.mem_range.1 hi)]; exact hx.1,
        by first | rw [h2 i (List.mem_range.1 hi)]; exact hx.2 | rw [← h2 i (List.mem_range.1 hi)]; exact hx.2⟩
  have ho : ∀ o, t.sout o = s.sout o := fun o => by simp only [State.sout, h.outs]
  have hb : ∀ k, t.brk k = s.brk k := fun k => by simp only [State.brk, h.brks]
  have e4 : t.on SIO_PEER.EN = s.on SIO_PEER.EN := by simp only [State.on, h4]
  have h6 : ∀ i, i < 32 → t.faultOf i = s.faultOf i := fun p hp => h.fields _ (by revert p; decide)
  have e5 : ((List.range 16).filter (fun p => s.on (SIO_PCFG.DEG p))).map (fun p => srcInput (if t.faultOf (2 * p) ≠ 0 then 2 * p else 2 * p + 1)) =
      ((List.range 16).filter (fun p => s.on (SIO_PCFG.DEG p))).map (fun p => srcInput (if s.faultOf (2 * p) ≠ 0 then 2 * p else 2 * p + 1)) :=
    List.map_congr_left fun p hp => by
      have hp := List.mem_range.1 (List.mem_filter.1 hp).1
      simp only [h6 (2 * p) (by omega)]
  unfold State.degConds
  dsimp only
  rw [e1, e5, h3, e4, h.peer, h.gal, h.prvs, h.pw]
  simp only [e2, ho, hb]

/-- The mode that R414 gives is that of before, where the degraded timer is. -/
theorem EndOnly.modeCode {s t : State} (h : EndOnly s t) (hd : t.sio.deg = s.sio.deg) : t.modeCode = s.modeCode := by
  have h1 : t.get CFG_STAT.SWSTATE = s.get CFG_STAT.SWSTATE := h.fields _ (by decide)
  have h2 : t.get GAL_STAT.REPLAN = s.get GAL_STAT.REPLAN := h.fields _ (by decide)
  unfold State.modeCode State.on
  rw [h.mode, h1, h2, h.inFamily, hd]

theorem RecOnly.sio {s t : State} (h : RecOnly s t) : t.sio = s.sio := by
  obtain ⟨a, b, c, d, e, f, rfl⟩ := h.rest; rfl

theorem RecOnly.modeCode {s t : State} (h : RecOnly s t) : t.modeCode = s.modeCode :=
  (EndOnly.ofRec h).modeCode (by rw [h.sio])

theorem State.clearCause_only (s : State) (b : Nat) : RecOnly s (s.clearCause b) := by
  unfold State.clearCause
  split
  · exact .refl s
  · exact .put s _ _ (by decide)

/-! ### The degraded timer -/

theorem State.degExpire_only (s : State) : EndOnly s s.degExpire :=
  ((EndOnly.deg s _).trans (.put _ _ _ (by decide))).trans (.ofRec (State.emit_only _ _ _ _))

theorem State.degEnd_only (s : State) (ran : Nat) : EndOnly s (s.degEnd ran) :=
  (EndOnly.deg s _).trans (.ofRec ((State.clearCause_only _ _).trans (State.emit_only _ _ _ _)))

theorem State.degStart_only (s : State) (c : Nat × Nat) : EndOnly s (s.degStart c) := by
  have h : ∀ d data, EndOnly s ((State.put { s with sio := { s.sio with deg := d } } SIO_EVT.DEGSTART 1).emit srcSio
      Code.DEGRADED_START data) :=
    fun d data => ((EndOnly.deg s d).trans (.put _ _ _ (by decide))).trans (.ofRec (State.emit_only _ _ _ _))
  unfold State.degStart
  dsimp only
  split
  · exact (h _ _).trans (State.degExpire_only _)
  · exact h _ _

theorem State.degSync_only (s : State) : EndOnly s s.degSync := by
  unfold State.degSync
  split
  · exact .refl s
  · dsimp only
    split
    · exact s.degEnd_only _
    · exact .refl s
    · split
      · exact s.degEnd_only _
      · exact .refl s
    · split
      · exact .refl s
      · exact s.degStart_only _

theorem State.degExpire_deg (s : State) : s.degExpire.sio.deg.deadline = none ∧ s.degExpire.sio.deg.expired = true := by
  simp [State.degExpire]

theorem State.degEnd_deg (s : State) (ran : Nat) : (s.degEnd ran).sio.deg = .reset := by
  have h := (State.clearCause_only { s with sio := { s.sio with deg := .reset } } 1).sio
  simp only [State.degEnd, State.emit_sio, h]

theorem State.degStart_deg (s : State) (c : Nat × Nat) :
    ((s.degStart c).sio.deg.deadline.isSome || (s.degStart c).sio.deg.expired) = true := by
  unfold State.degStart
  dsimp only
  split
  · simp [(State.degExpire_deg _)]
  · simp

/-- After it is brought up to date the degraded timer runs, or has expired, exactly while a condition is present (R318). -/
theorem State.degSync_backed (s : State) (hm : s.md.mode ≠ .reset) :
    (s.degSync.sio.deg.deadline.isSome || s.degSync.sio.deg.expired) = !s.degSync.degConds.isEmpty := by
  rw [s.degSync_only.conds]
  unfold State.degSync
  rw [if_neg hm]
  dsimp only
  split
  · rename_i h _; simp [h, State.degEnd_deg, Deg.reset]
  · rename_i h h'; simp [h, h']
  · rename_i h h'
    split
    · simp [h, State.degEnd_deg, Deg.reset]
    · rename_i he; simp [h, h', he]
  · rename_i h h'
    split
    · rename_i he; simp [h, he]
    · simp [h, State.degStart_deg]

/-! ### The mode reported -/

/-- The mode reported, once brought up to date, is the mode of R414; nothing else but a record and its flag changes. -/
theorem State.modeSync_code (s : State) : s.modeSync.md.code = s.modeSync.modeCode ∧ EndOnly s s.modeSync ∧ s.modeSync.sio = s.sio := by
  unfold State.modeSync
  dsimp only
  split
  · rename_i h; exact ⟨h.symm, .refl s, rfl⟩
  · have h1 : EndOnly s ({ s with md := { s.md with code := s.modeCode, prev := s.md.code } } : State) :=
      ⟨rfl, rfl, rfl, rfl, rfl, rfl, rfl, rfl, fun _ _ => rfl⟩
    have h2 := h1.trans (.put _ MOD_EVT.MODE 1 (by decide))
    have hs : (State.put { s with md := { s.md with code := s.modeCode, prev := s.md.code } } MOD_EVT.MODE 1).sio = s.sio := rfl
    have hk : (State.put { s with md := { s.md with code := s.modeCode, prev := s.md.code } } MOD_EVT.MODE 1).md.code = s.modeCode := rfl
    revert h2 hs hk
    generalize State.put { s with md := { s.md with code := s.modeCode, prev := s.md.code } } MOD_EVT.MODE 1 = u
    intro h2 hs hk
    have h3 := fun data => u.make_only 0 srcDevice Code.MODE_CHANGE.val data
    refine ⟨?_, h2.trans (.ofRec (h3 _)), (h3 _).sio.trans hs⟩
    rw [(h3 _).code, hk]
    exact ((h2.trans (.ofRec (h3 _))).modeCode (by rw [(h3 _).sio, hs])).symm

/-! ### Resets -/

theorem foldl_md {α : Type} (f : State → α → State) (hf : ∀ s a, (f s a).md = s.md) (l : List α) (s : State) :
    (l.foldl f s).md = s.md := by
  induction l generalizing s with
  | nil => rfl
  | cons a l ih => rw [List.foldl_cons, ih, hf]

theorem State.setSlot_md (s : State) (n : Nat) (x : Slot) : (s.setSlot n x).md = s.md := by
  unfold State.setSlot
  rw [State.puts_md]

theorem State.showStore_md (s : State) : s.showStore.md = s.md := by
  unfold State.showStore
  dsimp only
  have h : ∀ (x : State), ((List.range 4).foldl (fun s n =>
    let x := s.slot n
    if x = Slot.reset then s else s.setSlot n (if x.state = 1 then ⟨3, []⟩ else x)) x).md = x.md :=
    fun x => foldl_md _ (fun s n => by dsimp only; split; rfl; rw [State.setSlot_md]) _ x
  split
  · rw [State.put_md, State.puts_md, foldl_md _ (fun (s : State) e => State.put_md s _ _), foldl_md _ (fun (s : State) e => State.put_md s _ _), h]
  · rw [State.puts_md, foldl_md _ (fun (s : State) e => State.put_md s _ _), foldl_md _ (fun (s : State) e => State.put_md s _ _), h]

/-- After its units are reset the part is in RESET, and shows it. -/
theorem State.resetUnits_md (s : State) (cold : Bool) (deg : Deg) :
    (s.resetUnits cold deg).md.mode = .reset ∧ (s.resetUnits cold deg).md.code = 0 := by
  unfold State.resetUnits
  dsimp only
  rw [State.showStore_md]
  exact ⟨rfl, rfl⟩

theorem State.countReset_md (s : State) (cold : Bool) (cause : Nat) :
    (s.countReset cold cause).md.mode = s.md.mode ∧ (s.countReset cold cause).md.code = s.md.code := by
  unfold State.countReset
  split
  · rw [State.inc, State.putSat_md, State.puts_md]
    show (State.puts _ _).md.mode = _ ∧ (State.puts _ _).md.code = _
    rw [State.puts_md]
    exact ⟨rfl, rfl⟩
  · rw [State.inc, State.putSat_md, State.puts_md]
    exact ⟨rfl, rfl⟩

/-- A warm reset leads to RESET and shows it, from every other mode. -/
theorem State.warmReset_md (s : State) (cause : Nat) (h : s.md.mode ≠ .reset) :
    (s.warmReset cause).md.mode = .reset ∧ (s.warmReset cause).md.code = 0 := by
  unfold State.warmReset
  rw [if_neg h]
  rw [State.put_md, (State.countReset_md _ _ _).1, (State.countReset_md _ _ _).2, (State.resetUnits_md _ _ _).1,
    (State.resetUnits_md _ _ _).2]
  exact ⟨rfl, rfl⟩

/-- A device stop leaves the mode reported right: RESET, or what it was where the part stays in RESET or BOOT. -/
theorem State.deviceStop_md (s : State) (code src : Nat) (h : s.md.code = s.modeCode) :
    (s.deviceStop code src).md.code = (s.deviceStop code src).modeCode ∧
    (s.md.mode ≠ .boot → (s.deviceStop code src).md.mode = .reset) ∧
    (s.md.mode = .boot → (s.deviceStop code src).md.mode = .boot ∧ (s.deviceStop code src).md.bootHold = true) := by
  unfold State.deviceStop
  dsimp only
  generalize hu : (State.put { s with md := { s.md with f4Times := s.f4Recent ++ [s.clk.up] } } MOD_RESET.F4RST
    (min 7 (s.f4Recent ++ [s.clk.up]).length)) = u
  have hm : u.md.mode = s.md.mode := by rw [← hu]; rfl
  have hk : u.md.code = s.md.code := by rw [← hu]; rfl
  split
  · rename_i hr
    refine ⟨?_, fun _ => hr, fun hb => ?_⟩
    · rw [hk, h]; rw [hm] at hr; simp only [State.modeCode, hm, hr]
    · rw [hm, hb] at hr; cases hr
  · rename_i hr
    have k := u.make_only 4 srcDevice Code.DEVICE_STOP.val (le 2 code ++ le 2 src)
    split
    · rename_i hb
      rw [k.mode, hm] at hb
      refine ⟨?_, fun hn => absurd hb hn, fun _ => ⟨?_, rfl⟩⟩
      · show (u.make _ _ _ _).md.code = _
        rw [k.code, hk, h]; simp only [State.modeCode, k.mode, hm, hb]
      · show (u.make _ _ _ _).md.mode = _
        rw [k.mode, hm, hb]
    · rename_i hb
      have w := State.warmReset_md (u.make 4 srcDevice Code.DEVICE_STOP.val (le 2 code ++ le 2 src)) 6 (by rw [k.mode]; exact hr)
      refine ⟨?_, fun _ => ?_, fun hx => ?_⟩
      · simp only [State.putB, State.put_md, State.modeCode, w.1, w.2]
      · simp only [State.putB, State.put_md, w.1]
      · rw [k.mode, hm] at hb; exact absurd hx hb

/-- In BOOT a device stop is counted and recorded, and changes nothing else that a step ends with. -/
theorem State.deviceStop_boot (s : State) (code src : Nat) (h : s.md.mode = .boot) :
    EndOnly s (s.deviceStop code src) ∧ (s.deviceStop code src).sio = s.sio := by
  have h1 : EndOnly s ({ s with md := { s.md with f4Times := s.f4Recent ++ [s.clk.up] } } : State) :=
    ⟨rfl, rfl, rfl, rfl, rfl, rfl, rfl, rfl, fun _ _ => rfl⟩
  have h2 := h1.trans (.put _ MOD_RESET.F4RST (min 7 (s.f4Recent ++ [s.clk.up]).length) (by decide))
  have hs : (State.put { s with md := { s.md with f4Times := s.f4Recent ++ [s.clk.up] } } MOD_RESET.F4RST
    (min 7 (s.f4Recent ++ [s.clk.up]).length)).sio = s.sio := rfl
  unfold State.deviceStop
  dsimp only
  revert h2 hs
  generalize State.put { s with md := { s.md with f4Times := s.f4Recent ++ [s.clk.up] } } MOD_RESET.F4RST
    (min 7 (s.f4Recent ++ [s.clk.up]).length) = u
  intro h2 hs
  have hm : u.md.mode = .boot := h2.mode.trans h
  have k := u.make_only 4 srcDevice Code.DEVICE_STOP.val (le 2 code ++ le 2 src)
  rw [if_neg (by rw [hm]; decide), if_pos (k.mode.trans hm)]
  exact ⟨(h2.trans (.ofRec k)).trans ⟨rfl, rfl, rfl, rfl, rfl, rfl, rfl, rfl, fun _ _ => rfl⟩, k.sio.trans hs⟩

/-- The heads that a switch waits for are a register and a field of the switch. -/
theorem State.waitSync_only (s : State) : EndOnly s s.waitSync ∧ s.waitSync.sio = s.sio ∧ s.waitSync.md = s.md ∧
    s.waitSync.due = s.due := by
  unfold State.waitSync
  split
  · split
    · rename_i p _ _
      have h : EndOnly s ({ s with cfg := { s.cfg with waitFirst := (s.headsWaiting p).headD 0xFF } } : State) :=
        ⟨rfl, rfl, rfl, rfl, rfl, rfl, rfl, rfl, fun _ _ => rfl⟩
      exact ⟨h.trans (.put _ CFG_SWITCH.WAIT_HEADS _ (by decide)), rfl, rfl, rfl⟩
    · exact ⟨.refl s, rfl, rfl, rfl⟩
  · exact ⟨.refl s, rfl, rfl, rfl⟩

end Sys2Proof.Machine
end

