-- ==== Sys2Proof/Laws/Sparse.lean ====
section
/-! SUPPORT. Sparse tables: what a read gives after a write, and that a write keeps the canonical form. -/

set_option Elab.async false

namespace Sys2Proof.Machine

theorem sparseGet_filter {α : Type} (d : α) (m : List (Nat × α)) (a b : Nat) :
    sparseGet d (m.filter (fun p => p.1 != a)) b = if b = a then d else sparseGet d m b := by
  induction m with
  | nil => simp [sparseGet]
  | cons p t ih =>
    by_cases h : p.1 = a
    · have hp : (p.1 != a) = false := by simpa using h
      rw [List.filter_cons, hp]
      by_cases hb : b = a
      · simpa [hb] using ih
      · have : ¬ p.1 = b := by omega
        simpa [hb, sparseGet, this] using ih
    · have hp : (p.1 != a) = true := by simpa using h
      rw [List.filter_cons, hp]
      by_cases hb : p.1 = b
      · have : b ≠ a := by omega
        simp [sparseGet, hb, this]
      · simpa [sparseGet, hb] using ih

theorem sparseGet_insert {α : Type} (d : α) (m : List (Nat × α)) (a : Nat) (v : α) (b : Nat) (h : ∀ p ∈ m, p.1 ≠ a) :
    sparseGet d (sparseInsert a v m) b = if b = a then v else sparseGet d m b := by
  induction m with
  | nil =>
    by_cases hb : b = a
    · simp [sparseInsert, sparseGet, hb]
    · simp [sparseInsert, sparseGet, hb, Ne.symm hb]
  | cons p t ih =>
    have hp := h p (by simp)
    have iht := ih (fun q hq => h q (by simp [hq]))
    simp only [sparseInsert]
    split
    · by_cases hb : b = a
      · simp [sparseGet, hb]
      · simp [sparseGet, hb, Ne.symm hb]
    · by_cases hb : p.1 = b
      · have : b ≠ a := by omega
        simp [sparseGet, hb, this]
      · simp [sparseGet, hb, iht]

/-- An entry reads back what was set; every other entry as before. -/
theorem sparseGet_set {α : Type} [DecidableEq α] (d : α) (m : List (Nat × α)) (a : Nat) (v : α) (b : Nat) :
    sparseGet d (sparseSet d m a v) b = if b = a then v else sparseGet d m b := by
  simp only [sparseSet]
  split
  · rename_i h
    rw [sparseGet_filter]
    by_cases hb : b = a <;> simp [hb, h]
  · rw [sparseGet_insert _ _ _ _ _ (by intro p hp; simpa using (List.mem_filter.1 hp).2), sparseGet_filter]
    by_cases hb : b = a <;> simp [hb]

@[simp] theorem sparseGet_set_same {α : Type} [DecidableEq α] (d : α) (m : List (Nat × α)) (a : Nat) (v : α) :
    sparseGet d (sparseSet d m a v) a = v := by simp [sparseGet_set]

/-! ### The canonical form -/

/-- Keys strictly rising from a bound on, no entry at its default: the canonical form as a recursion. -/
def risesFrom {α : Type} (ok : Nat → α → Prop) : Nat → List (Nat × α) → Prop
  | _, [] => True
  | n, p :: t => n ≤ p.1 ∧ ok p.1 p.2 ∧ risesFrom ok (p.1 + 1) t

theorem risesFrom_le {α : Type} (ok : Nat → α → Prop) (m : List (Nat × α)) (n k : Nat) (h : n ≤ k) (hm : risesFrom ok k m) :
    risesFrom ok n m := by
  cases m with
  | nil => trivial
  | cons p t => exact ⟨Nat.le_trans h hm.1, hm.2⟩

theorem risesFrom_filter {α : Type} (ok : Nat → α → Prop) (f : Nat × α → Bool) (m : List (Nat × α)) (n : Nat)
    (hm : risesFrom ok n m) : risesFrom ok n (m.filter f) := by
  induction m generalizing n with
  | nil => trivial
  | cons p t ih =>
    have ht := ih (p.1 + 1) hm.2.2
    rw [List.filter_cons]
    split
    · exact ⟨hm.1, hm.2.1, ht⟩
    · exact risesFrom_le ok _ n (p.1 + 1) (by have := hm.1; omega) ht

theorem risesFrom_insert {α : Type} (ok : Nat → α → Prop) (a : Nat) (v : α) (hv : ok a v) (m : List (Nat × α)) (n : Nat)
    (hm : risesFrom ok n m) (hn : n ≤ a) (hne : ∀ p ∈ m, p.1 ≠ a) : risesFrom ok n (sparseInsert a v m) := by
  induction m generalizing n with
  | nil => exact ⟨hn, hv, trivial⟩
  | cons p t ih =>
    simp only [sparseInsert]
    split
    · rename_i h
      exact ⟨hn, hv, risesFrom_le ok (p :: t) (a + 1) p.1 h ⟨Nat.le_refl _, hm.2⟩⟩
    · rename_i h
      have hp := hne p (by simp)
      exact ⟨hm.1, hm.2.1, ih (p.1 + 1) hm.2.2 (by omega) (fun q hq => hne q (by simp [hq]))⟩

theorem sparseWf_iff {α : Type} [DecidableEq α] (d : Nat → α) (m : List (Nat × α)) :
    sparseWf d m = true ↔ risesFrom (fun k v => v ≠ d k) 0 m := by
  induction m with
  | nil => simp [sparseWf, risesFrom]
  | cons p t ih =>
    cases t with
    | nil => simp [sparseWf, risesFrom]
    | cons q u =>
      have : sparseWf d (p :: q :: u) = (decide (p.1 < q.1) && (p.2 != d p.1) && sparseWf d (q :: u)) := by
        simp only [sparseWf, List.drop_one, List.tail_cons, List.zip_cons_cons, List.all_cons]
        cases decide (p.1 < q.1) <;> cases (p.2 != d p.1) <;> simp
      rw [this]
      simp only [Bool.and_eq_true, ih, decide_eq_true_eq, bne_iff_ne, risesFrom]
      constructor
      · rintro ⟨⟨h1, h2⟩, h3⟩
        exact ⟨Nat.zero_le _, h2, h1, h3.2⟩
      · rintro ⟨_, h2, h1, h3⟩
        exact ⟨⟨h1, h2⟩, Nat.zero_le _, h3⟩

/-- Writing a register keeps the register file in its canonical form. -/
theorem regWrite_wf (m : List (Nat × Word)) (a : Nat) (v : Word) (h : sparseWf regReset m = true) :
    sparseWf regReset (regWrite m a v) = true := by
  rw [sparseWf_iff] at *
  have hf := risesFrom_filter _ (fun p => p.1 != a) m 0 h
  simp only [regWrite]
  split
  · exact hf
  · rename_i hv
    exact risesFrom_insert _ a v hv _ 0 hf (Nat.zero_le _) (by intro p hp; simpa using (List.mem_filter.1 hp).2)

end Sys2Proof.Machine
end

