-- ==== Sys2Proof/Laws/Units.lean ====
section
/-! SUPPORT. The units' tables: an entry reads back what was set, every other entry and every register as before. -/

set_option Elab.async false

namespace Sys2Proof.Machine

@[simp] theorem State.chz_setChz_same (s : State) (c : Nat) (x : Chz) : (s.setChz c x).chz c = x :=
  sparseGet_set_same _ _ _ _
theorem State.chz_setChz (s : State) (c : Nat) (x : Chz) (j : Nat) : (s.setChz c x).chz j = if j = c then x else s.chz j :=
  sparseGet_set _ _ _ _ _
@[simp] theorem State.get_setChz (s : State) (c : Nat) (x : Chz) : (s.setChz c x).get = s.get := rfl
@[simp] theorem State.geti_setChz (s : State) (c : Nat) (x : Chz) : (s.setChz c x).geti = s.geti := rfl
@[simp] theorem State.on_setChz (s : State) (c : Nat) (x : Chz) : (s.setChz c x).on = s.on := rfl
@[simp] theorem State.rd_setChz (s : State) (c : Nat) (x : Chz) : (s.setChz c x).rd = s.rd := rfl
@[simp] theorem State.chz_put (s : State) (f : Fld) (v : Nat) : (s.put f v).chz = s.chz := rfl
@[simp] theorem State.chz_puti (s : State) (f : Fld) (z : Int) : (s.puti f z).chz = s.chz := rfl
@[simp] theorem State.chz_putSat (s : State) (f : Fld) (v : Nat) : (s.putSat f v).chz = s.chz := rfl
@[simp] theorem State.chz_putB (s : State) (f : Fld) (b : Bool) : (s.putB f b).chz = s.chz := rfl
@[simp] theorem State.chz_inc (s : State) (f : Fld) (k : Nat) : (s.inc f k).chz = s.chz := rfl
@[simp] theorem State.chz_puts (s : State) (l : List (Fld × Nat)) : (s.puts l).chz = s.chz := by
  obtain ⟨m, h⟩ := State.puts_eq l s; rw [h]; rfl
@[simp] theorem State.chz_emit (s : State) (src : Nat) (c : Code) (d : List Byte) : (s.emit src c d).chz = s.chz := by
  obtain ⟨_, _, _, _, _, _, h⟩ := (s.emit_only src c d).rest; rw [h]; rfl

@[simp] theorem State.acq_setAcq_same (s : State) (f : Nat) (x : AcqFibre) : (s.setAcq f x).acq f = x :=
  sparseGet_set_same _ _ _ _
theorem State.acq_setAcq (s : State) (f : Nat) (x : AcqFibre) (j : Nat) : (s.setAcq f x).acq j = if j = f then x else s.acq j :=
  sparseGet_set _ _ _ _ _
@[simp] theorem State.get_setAcq (s : State) (f : Nat) (x : AcqFibre) : (s.setAcq f x).get = s.get := rfl
@[simp] theorem State.geti_setAcq (s : State) (f : Nat) (x : AcqFibre) : (s.setAcq f x).geti = s.geti := rfl
@[simp] theorem State.on_setAcq (s : State) (f : Nat) (x : AcqFibre) : (s.setAcq f x).on = s.on := rfl
@[simp] theorem State.rd_setAcq (s : State) (f : Nat) (x : AcqFibre) : (s.setAcq f x).rd = s.rd := rfl
@[simp] theorem State.acq_put (s : State) (f : Fld) (v : Nat) : (s.put f v).acq = s.acq := rfl
@[simp] theorem State.acq_puti (s : State) (f : Fld) (z : Int) : (s.puti f z).acq = s.acq := rfl
@[simp] theorem State.acq_putSat (s : State) (f : Fld) (v : Nat) : (s.putSat f v).acq = s.acq := rfl
@[simp] theorem State.acq_putB (s : State) (f : Fld) (b : Bool) : (s.putB f b).acq = s.acq := rfl
@[simp] theorem State.acq_inc (s : State) (f : Fld) (k : Nat) : (s.inc f k).acq = s.acq := rfl
@[simp] theorem State.acq_puts (s : State) (l : List (Fld × Nat)) : (s.puts l).acq = s.acq := by
  obtain ⟨m, h⟩ := State.puts_eq l s; rw [h]; rfl
@[simp] theorem State.acq_emit (s : State) (src : Nat) (c : Code) (d : List Byte) : (s.emit src c d).acq = s.acq := by
  obtain ⟨_, _, _, _, _, _, h⟩ := (s.emit_only src c d).rest; rw [h]; rfl

@[simp] theorem State.conn_setConn_same (s : State) (c : Nat) (x : Conn) : (s.setConn c x).conn c = x :=
  sparseGet_set_same _ _ _ _
theorem State.conn_setConn (s : State) (c : Nat) (x : Conn) (j : Nat) : (s.setConn c x).conn j = if j = c then x else s.conn j :=
  sparseGet_set _ _ _ _ _
@[simp] theorem State.get_setConn (s : State) (c : Nat) (x : Conn) : (s.setConn c x).get = s.get := rfl
@[simp] theorem State.geti_setConn (s : State) (c : Nat) (x : Conn) : (s.setConn c x).geti = s.geti := rfl
@[simp] theorem State.on_setConn (s : State) (c : Nat) (x : Conn) : (s.setConn c x).on = s.on := rfl
@[simp] theorem State.rd_setConn (s : State) (c : Nat) (x : Conn) : (s.setConn c x).rd = s.rd := rfl
@[simp] theorem State.conn_put (s : State) (f : Fld) (v : Nat) : (s.put f v).conn = s.conn := rfl
@[simp] theorem State.conn_puti (s : State) (f : Fld) (z : Int) : (s.puti f z).conn = s.conn := rfl
@[simp] theorem State.conn_putSat (s : State) (f : Fld) (v : Nat) : (s.putSat f v).conn = s.conn := rfl
@[simp] theorem State.conn_putB (s : State) (f : Fld) (b : Bool) : (s.putB f b).conn = s.conn := rfl
@[simp] theorem State.conn_inc (s : State) (f : Fld) (k : Nat) : (s.inc f k).conn = s.conn := rfl
@[simp] theorem State.conn_puts (s : State) (l : List (Fld × Nat)) : (s.puts l).conn = s.conn := by
  obtain ⟨m, h⟩ := State.puts_eq l s; rw [h]; rfl
@[simp] theorem State.conn_emit (s : State) (src : Nat) (c : Code) (d : List Byte) : (s.emit src c d).conn = s.conn := by
  obtain ⟨_, _, _, _, _, _, h⟩ := (s.emit_only src c d).rest; rw [h]; rfl

@[simp] theorem State.unit_setUnit_same (s : State) (u : Nat) (x : BistUnit) : (s.setUnit u x).unit u = x :=
  sparseGet_set_same _ _ _ _
theorem State.unit_setUnit (s : State) (u : Nat) (x : BistUnit) (j : Nat) : (s.setUnit u x).unit j = if j = u then x else s.unit j :=
  sparseGet_set _ _ _ _ _
@[simp] theorem State.get_setUnit (s : State) (u : Nat) (x : BistUnit) : (s.setUnit u x).get = s.get := rfl
@[simp] theorem State.geti_setUnit (s : State) (u : Nat) (x : BistUnit) : (s.setUnit u x).geti = s.geti := rfl
@[simp] theorem State.on_setUnit (s : State) (u : Nat) (x : BistUnit) : (s.setUnit u x).on = s.on := rfl
@[simp] theorem State.rd_setUnit (s : State) (u : Nat) (x : BistUnit) : (s.setUnit u x).rd = s.rd := rfl
@[simp] theorem State.unit_put (s : State) (f : Fld) (v : Nat) : (s.put f v).unit = s.unit := rfl
@[simp] theorem State.unit_puti (s : State) (f : Fld) (z : Int) : (s.puti f z).unit = s.unit := rfl
@[simp] theorem State.unit_putSat (s : State) (f : Fld) (v : Nat) : (s.putSat f v).unit = s.unit := rfl
@[simp] theorem State.unit_putB (s : State) (f : Fld) (b : Bool) : (s.putB f b).unit = s.unit := rfl
@[simp] theorem State.unit_inc (s : State) (f : Fld) (k : Nat) : (s.inc f k).unit = s.unit := rfl
@[simp] theorem State.unit_puts (s : State) (l : List (Fld × Nat)) : (s.puts l).unit = s.unit := by
  obtain ⟨m, h⟩ := State.puts_eq l s; rw [h]; rfl
@[simp] theorem State.unit_emit (s : State) (src : Nat) (c : Code) (d : List Byte) : (s.emit src c d).unit = s.unit := by
  obtain ⟨_, _, _, _, _, _, h⟩ := (s.emit_only src c d).rest; rw [h]; rfl

@[simp] theorem State.task_setTask_same (s : State) (t : Nat) (x : GalTask) : (s.setTask t x).task t = x :=
  sparseGet_set_same _ _ _ _
theorem State.task_setTask (s : State) (t : Nat) (x : GalTask) (j : Nat) : (s.setTask t x).task j = if j = t then x else s.task j :=
  sparseGet_set _ _ _ _ _
@[simp] theorem State.get_setTask (s : State) (t : Nat) (x : GalTask) : (s.setTask t x).get = s.get := rfl
@[simp] theorem State.geti_setTask (s : State) (t : Nat) (x : GalTask) : (s.setTask t x).geti = s.geti := rfl
@[simp] theorem State.on_setTask (s : State) (t : Nat) (x : GalTask) : (s.setTask t x).on = s.on := rfl
@[simp] theorem State.rd_setTask (s : State) (t : Nat) (x : GalTask) : (s.setTask t x).rd = s.rd := rfl
@[simp] theorem State.task_put (s : State) (f : Fld) (v : Nat) : (s.put f v).task = s.task := rfl
@[simp] theorem State.task_puti (s : State) (f : Fld) (z : Int) : (s.puti f z).task = s.task := rfl
@[simp] theorem State.task_putSat (s : State) (f : Fld) (v : Nat) : (s.putSat f v).task = s.task := rfl
@[simp] theorem State.task_putB (s : State) (f : Fld) (b : Bool) : (s.putB f b).task = s.task := rfl
@[simp] theorem State.task_inc (s : State) (f : Fld) (k : Nat) : (s.inc f k).task = s.task := rfl
@[simp] theorem State.task_puts (s : State) (l : List (Fld × Nat)) : (s.puts l).task = s.task := by
  obtain ⟨m, h⟩ := State.puts_eq l s; rw [h]; rfl
@[simp] theorem State.task_emit (s : State) (src : Nat) (c : Code) (d : List Byte) : (s.emit src c d).task = s.task := by
  obtain ⟨_, _, _, _, _, _, h⟩ := (s.emit_only src c d).rest; rw [h]; rfl

@[simp] theorem State.head_setHead_same (s : State) (h : Nat) (x : Head) : (s.setHead h x).head h = x :=
  sparseGet_set_same _ _ _ _
theorem State.head_setHead (s : State) (h : Nat) (x : Head) (j : Nat) : (s.setHead h x).head j = if j = h then x else s.head j :=
  sparseGet_set _ _ _ _ _
@[simp] theorem State.get_setHead (s : State) (h : Nat) (x : Head) : (s.setHead h x).get = s.get := rfl
@[simp] theorem State.geti_setHead (s : State) (h : Nat) (x : Head) : (s.setHead h x).geti = s.geti := rfl
@[simp] theorem State.on_setHead (s : State) (h : Nat) (x : Head) : (s.setHead h x).on = s.on := rfl
@[simp] theorem State.rd_setHead (s : State) (h : Nat) (x : Head) : (s.setHead h x).rd = s.rd := rfl
@[simp] theorem State.head_put (s : State) (f : Fld) (v : Nat) : (s.put f v).head = s.head := rfl
@[simp] theorem State.head_puti (s : State) (f : Fld) (z : Int) : (s.puti f z).head = s.head := rfl
@[simp] theorem State.head_putSat (s : State) (f : Fld) (v : Nat) : (s.putSat f v).head = s.head := rfl
@[simp] theorem State.head_putB (s : State) (f : Fld) (b : Bool) : (s.putB f b).head = s.head := rfl
@[simp] theorem State.head_inc (s : State) (f : Fld) (k : Nat) : (s.inc f k).head = s.head := rfl
@[simp] theorem State.head_puts (s : State) (l : List (Fld × Nat)) : (s.puts l).head = s.head := by
  obtain ⟨m, h⟩ := State.puts_eq l s; rw [h]; rfl
@[simp] theorem State.head_emit (s : State) (src : Nat) (c : Code) (d : List Byte) : (s.emit src c d).head = s.head := by
  obtain ⟨_, _, _, _, _, _, h⟩ := (s.emit_only src c d).rest; rw [h]; rfl

@[simp] theorem State.chan_setChan_same (s : State) (n : Nat) (x : Chan) : (s.setChan n x).chan n = x :=
  sparseGet_set_same _ _ _ _
theorem State.chan_setChan (s : State) (n : Nat) (x : Chan) (j : Nat) : (s.setChan n x).chan j = if j = n then x else s.chan j :=
  sparseGet_set _ _ _ _ _
@[simp] theorem State.get_setChan (s : State) (n : Nat) (x : Chan) : (s.setChan n x).get = s.get := rfl
@[simp] theorem State.geti_setChan (s : State) (n : Nat) (x : Chan) : (s.setChan n x).geti = s.geti := rfl
@[simp] theorem State.on_setChan (s : State) (n : Nat) (x : Chan) : (s.setChan n x).on = s.on := rfl
@[simp] theorem State.rd_setChan (s : State) (n : Nat) (x : Chan) : (s.setChan n x).rd = s.rd := rfl
@[simp] theorem State.chan_put (s : State) (f : Fld) (v : Nat) : (s.put f v).chan = s.chan := rfl
@[simp] theorem State.chan_puti (s : State) (f : Fld) (z : Int) : (s.puti f z).chan = s.chan := rfl
@[simp] theorem State.chan_putSat (s : State) (f : Fld) (v : Nat) : (s.putSat f v).chan = s.chan := rfl
@[simp] theorem State.chan_putB (s : State) (f : Fld) (b : Bool) : (s.putB f b).chan = s.chan := rfl
@[simp] theorem State.chan_inc (s : State) (f : Fld) (k : Nat) : (s.inc f k).chan = s.chan := rfl
@[simp] theorem State.chan_puts (s : State) (l : List (Fld × Nat)) : (s.puts l).chan = s.chan := by
  obtain ⟨m, h⟩ := State.puts_eq l s; rw [h]; rfl
@[simp] theorem State.chan_emit (s : State) (src : Nat) (c : Code) (d : List Byte) : (s.emit src c d).chan = s.chan := by
  obtain ⟨_, _, _, _, _, _, h⟩ := (s.emit_only src c d).rest; rw [h]; rfl

@[simp] theorem State.prv_setPrv_same (s : State) (n : Nat) (x : Prv) : (s.setPrv n x).prv n = x :=
  sparseGet_set_same _ _ _ _
theorem State.prv_setPrv (s : State) (n : Nat) (x : Prv) (j : Nat) : (s.setPrv n x).prv j = if j = n then x else s.prv j :=
  sparseGet_set _ _ _ _ _
@[simp] theorem State.get_setPrv (s : State) (n : Nat) (x : Prv) : (s.setPrv n x).get = s.get := rfl
@[simp] theorem State.geti_setPrv (s : State) (n : Nat) (x : Prv) : (s.setPrv n x).geti = s.geti := rfl
@[simp] theorem State.on_setPrv (s : State) (n : Nat) (x : Prv) : (s.setPrv n x).on = s.on := rfl
@[simp] theorem State.rd_setPrv (s : State) (n : Nat) (x : Prv) : (s.setPrv n x).rd = s.rd := rfl
@[simp] theorem State.prv_put (s : State) (f : Fld) (v : Nat) : (s.put f v).prv = s.prv := rfl
@[simp] theorem State.prv_puti (s : State) (f : Fld) (z : Int) : (s.puti f z).prv = s.prv := rfl
@[simp] theorem State.prv_putSat (s : State) (f : Fld) (v : Nat) : (s.putSat f v).prv = s.prv := rfl
@[simp] theorem State.prv_putB (s : State) (f : Fld) (b : Bool) : (s.putB f b).prv = s.prv := rfl
@[simp] theorem State.prv_inc (s : State) (f : Fld) (k : Nat) : (s.inc f k).prv = s.prv := rfl
@[simp] theorem State.prv_puts (s : State) (l : List (Fld × Nat)) : (s.puts l).prv = s.prv := by
  obtain ⟨m, h⟩ := State.puts_eq l s; rw [h]; rfl
@[simp] theorem State.prv_emit (s : State) (src : Nat) (c : Code) (d : List Byte) : (s.emit src c d).prv = s.prv := by
  obtain ⟨_, _, _, _, _, _, h⟩ := (s.emit_only src c d).rest; rw [h]; rfl

@[simp] theorem State.flash_setFlash_same (s : State) (k : Nat) (x : Flash) : (s.setFlash k x).flash k = x :=
  sparseGet_set_same _ _ _ _
theorem State.flash_setFlash (s : State) (k : Nat) (x : Flash) (j : Nat) : (s.setFlash k x).flash j = if j = k then x else s.flash j :=
  sparseGet_set _ _ _ _ _
@[simp] theorem State.get_setFlash (s : State) (k : Nat) (x : Flash) : (s.setFlash k x).get = s.get := rfl
@[simp] theorem State.geti_setFlash (s : State) (k : Nat) (x : Flash) : (s.setFlash k x).geti = s.geti := rfl
@[simp] theorem State.on_setFlash (s : State) (k : Nat) (x : Flash) : (s.setFlash k x).on = s.on := rfl
@[simp] theorem State.rd_setFlash (s : State) (k : Nat) (x : Flash) : (s.setFlash k x).rd = s.rd := rfl
@[simp] theorem State.flash_put (s : State) (f : Fld) (v : Nat) : (s.put f v).flash = s.flash := rfl
@[simp] theorem State.flash_puti (s : State) (f : Fld) (z : Int) : (s.puti f z).flash = s.flash := rfl
@[simp] theorem State.flash_putSat (s : State) (f : Fld) (v : Nat) : (s.putSat f v).flash = s.flash := rfl
@[simp] theorem State.flash_putB (s : State) (f : Fld) (b : Bool) : (s.putB f b).flash = s.flash := rfl
@[simp] theorem State.flash_inc (s : State) (f : Fld) (k : Nat) : (s.inc f k).flash = s.flash := rfl
@[simp] theorem State.flash_puts (s : State) (l : List (Fld × Nat)) : (s.puts l).flash = s.flash := by
  obtain ⟨m, h⟩ := State.puts_eq l s; rw [h]; rfl
@[simp] theorem State.flash_emit (s : State) (src : Nat) (c : Code) (d : List Byte) : (s.emit src c d).flash = s.flash := by
  obtain ⟨_, _, _, _, _, _, h⟩ := (s.emit_only src c d).rest; rw [h]; rfl

@[simp] theorem State.fib_setFib_same (s : State) (f : Nat) (x : Fibre) : (s.setFib f x).fib f = x :=
  sparseGet_set_same _ _ _ _
theorem State.fib_setFib (s : State) (f : Nat) (x : Fibre) (j : Nat) : (s.setFib f x).fib j = if j = f then x else s.fib j :=
  sparseGet_set _ _ _ _ _
@[simp] theorem State.get_setFib (s : State) (f : Nat) (x : Fibre) : (s.setFib f x).get = s.get := rfl
@[simp] theorem State.geti_setFib (s : State) (f : Nat) (x : Fibre) : (s.setFib f x).geti = s.geti := rfl
@[simp] theorem State.on_setFib (s : State) (f : Nat) (x : Fibre) : (s.setFib f x).on = s.on := rfl
@[simp] theorem State.rd_setFib (s : State) (f : Nat) (x : Fibre) : (s.setFib f x).rd = s.rd := rfl
@[simp] theorem State.fib_put (s : State) (f : Fld) (v : Nat) : (s.put f v).fib = s.fib := rfl
@[simp] theorem State.fib_puti (s : State) (f : Fld) (z : Int) : (s.puti f z).fib = s.fib := rfl
@[simp] theorem State.fib_putSat (s : State) (f : Fld) (v : Nat) : (s.putSat f v).fib = s.fib := rfl
@[simp] theorem State.fib_putB (s : State) (f : Fld) (b : Bool) : (s.putB f b).fib = s.fib := rfl
@[simp] theorem State.fib_inc (s : State) (f : Fld) (k : Nat) : (s.inc f k).fib = s.fib := rfl
@[simp] theorem State.fib_puts (s : State) (l : List (Fld × Nat)) : (s.puts l).fib = s.fib := by
  obtain ⟨m, h⟩ := State.puts_eq l s; rw [h]; rfl
@[simp] theorem State.fib_emit (s : State) (src : Nat) (c : Code) (d : List Byte) : (s.emit src c d).fib = s.fib := by
  obtain ⟨_, _, _, _, _, _, h⟩ := (s.emit_only src c d).rest; rw [h]; rfl

@[simp] theorem State.bank_setBank_same (s : State) (b : Nat) (x : LampBank) : (s.setBank b x).bank b = x :=
  sparseGet_set_same _ _ _ _
theorem State.bank_setBank (s : State) (b : Nat) (x : LampBank) (j : Nat) : (s.setBank b x).bank j = if j = b then x else s.bank j :=
  sparseGet_set _ _ _ _ _
@[simp] theorem State.get_setBank (s : State) (b : Nat) (x : LampBank) : (s.setBank b x).get = s.get := rfl
@[simp] theorem State.geti_setBank (s : State) (b : Nat) (x : LampBank) : (s.setBank b x).geti = s.geti := rfl
@[simp] theorem State.on_setBank (s : State) (b : Nat) (x : LampBank) : (s.setBank b x).on = s.on := rfl
@[simp] theorem State.rd_setBank (s : State) (b : Nat) (x : LampBank) : (s.setBank b x).rd = s.rd := rfl
@[simp] theorem State.bank_put (s : State) (f : Fld) (v : Nat) : (s.put f v).bank = s.bank := rfl
@[simp] theorem State.bank_puti (s : State) (f : Fld) (z : Int) : (s.puti f z).bank = s.bank := rfl
@[simp] theorem State.bank_putSat (s : State) (f : Fld) (v : Nat) : (s.putSat f v).bank = s.bank := rfl
@[simp] theorem State.bank_putB (s : State) (f : Fld) (b : Bool) : (s.putB f b).bank = s.bank := rfl
@[simp] theorem State.bank_inc (s : State) (f : Fld) (k : Nat) : (s.inc f k).bank = s.bank := rfl
@[simp] theorem State.bank_puts (s : State) (l : List (Fld × Nat)) : (s.puts l).bank = s.bank := by
  obtain ⟨m, h⟩ := State.puts_eq l s; rw [h]; rfl
@[simp] theorem State.bank_emit (s : State) (src : Nat) (c : Code) (d : List Byte) : (s.emit src c d).bank = s.bank := by
  obtain ⟨_, _, _, _, _, _, h⟩ := (s.emit_only src c d).rest; rw [h]; rfl

@[simp] theorem State.sup_setSup_same (s : State) (c : Nat) (x : SupConv) : (s.setSup c x).sup c = x :=
  sparseGet_set_same _ _ _ _
theorem State.sup_setSup (s : State) (c : Nat) (x : SupConv) (j : Nat) : (s.setSup c x).sup j = if j = c then x else s.sup j :=
  sparseGet_set _ _ _ _ _
@[simp] theorem State.get_setSup (s : State) (c : Nat) (x : SupConv) : (s.setSup c x).get = s.get := rfl
@[simp] theorem State.geti_setSup (s : State) (c : Nat) (x : SupConv) : (s.setSup c x).geti = s.geti := rfl
@[simp] theorem State.on_setSup (s : State) (c : Nat) (x : SupConv) : (s.setSup c x).on = s.on := rfl
@[simp] theorem State.rd_setSup (s : State) (c : Nat) (x : SupConv) : (s.setSup c x).rd = s.rd := rfl
@[simp] theorem State.sup_put (s : State) (f : Fld) (v : Nat) : (s.put f v).sup = s.sup := rfl
@[simp] theorem State.sup_puti (s : State) (f : Fld) (z : Int) : (s.puti f z).sup = s.sup := rfl
@[simp] theorem State.sup_putSat (s : State) (f : Fld) (v : Nat) : (s.putSat f v).sup = s.sup := rfl
@[simp] theorem State.sup_putB (s : State) (f : Fld) (b : Bool) : (s.putB f b).sup = s.sup := rfl
@[simp] theorem State.sup_inc (s : State) (f : Fld) (k : Nat) : (s.inc f k).sup = s.sup := rfl
@[simp] theorem State.sup_puts (s : State) (l : List (Fld × Nat)) : (s.puts l).sup = s.sup := by
  obtain ⟨m, h⟩ := State.puts_eq l s; rw [h]; rfl
@[simp] theorem State.sup_emit (s : State) (src : Nat) (c : Code) (d : List Byte) : (s.emit src c d).sup = s.sup := by
  obtain ⟨_, _, _, _, _, _, h⟩ := (s.emit_only src c d).rest; rw [h]; rfl

@[simp] theorem State.uslot_setUslot_same (s : State) (i : Nat) (x : SupSlot) : (s.setUslot i x).uslot i = x :=
  sparseGet_set_same _ _ _ _
theorem State.uslot_setUslot (s : State) (i : Nat) (x : SupSlot) (j : Nat) : (s.setUslot i x).uslot j = if j = i then x else s.uslot j :=
  sparseGet_set _ _ _ _ _
@[simp] theorem State.get_setUslot (s : State) (i : Nat) (x : SupSlot) : (s.setUslot i x).get = s.get := rfl
@[simp] theorem State.geti_setUslot (s : State) (i : Nat) (x : SupSlot) : (s.setUslot i x).geti = s.geti := rfl
@[simp] theorem State.on_setUslot (s : State) (i : Nat) (x : SupSlot) : (s.setUslot i x).on = s.on := rfl
@[simp] theorem State.rd_setUslot (s : State) (i : Nat) (x : SupSlot) : (s.setUslot i x).rd = s.rd := rfl
@[simp] theorem State.uslot_put (s : State) (f : Fld) (v : Nat) : (s.put f v).uslot = s.uslot := rfl
@[simp] theorem State.uslot_puti (s : State) (f : Fld) (z : Int) : (s.puti f z).uslot = s.uslot := rfl
@[simp] theorem State.uslot_putSat (s : State) (f : Fld) (v : Nat) : (s.putSat f v).uslot = s.uslot := rfl
@[simp] theorem State.uslot_putB (s : State) (f : Fld) (b : Bool) : (s.putB f b).uslot = s.uslot := rfl
@[simp] theorem State.uslot_inc (s : State) (f : Fld) (k : Nat) : (s.inc f k).uslot = s.uslot := rfl
@[simp] theorem State.uslot_puts (s : State) (l : List (Fld × Nat)) : (s.puts l).uslot = s.uslot := by
  obtain ⟨m, h⟩ := State.puts_eq l s; rw [h]; rfl
@[simp] theorem State.uslot_emit (s : State) (src : Nat) (c : Code) (d : List Byte) : (s.emit src c d).uslot = s.uslot := by
  obtain ⟨_, _, _, _, _, _, h⟩ := (s.emit_only src c d).rest; rw [h]; rfl

@[simp] theorem State.tpo_setTpo_same (s : State) (k : Nat) (x : Tpo) : (s.setTpo k x).tpo k = x :=
  sparseGet_set_same _ _ _ _
theorem State.tpo_setTpo (s : State) (k : Nat) (x : Tpo) (j : Nat) : (s.setTpo k x).tpo j = if j = k then x else s.tpo j :=
  sparseGet_set _ _ _ _ _
@[simp] theorem State.get_setTpo (s : State) (k : Nat) (x : Tpo) : (s.setTpo k x).get = s.get := rfl
@[simp] theorem State.geti_setTpo (s : State) (k : Nat) (x : Tpo) : (s.setTpo k x).geti = s.geti := rfl
@[simp] theorem State.on_setTpo (s : State) (k : Nat) (x : Tpo) : (s.setTpo k x).on = s.on := rfl
@[simp] theorem State.rd_setTpo (s : State) (k : Nat) (x : Tpo) : (s.setTpo k x).rd = s.rd := rfl
@[simp] theorem State.tpo_put (s : State) (f : Fld) (v : Nat) : (s.put f v).tpo = s.tpo := rfl
@[simp] theorem State.tpo_puti (s : State) (f : Fld) (z : Int) : (s.puti f z).tpo = s.tpo := rfl
@[simp] theorem State.tpo_putSat (s : State) (f : Fld) (v : Nat) : (s.putSat f v).tpo = s.tpo := rfl
@[simp] theorem State.tpo_putB (s : State) (f : Fld) (b : Bool) : (s.putB f b).tpo = s.tpo := rfl
@[simp] theorem State.tpo_inc (s : State) (f : Fld) (k : Nat) : (s.inc f k).tpo = s.tpo := rfl
@[simp] theorem State.tpo_puts (s : State) (l : List (Fld × Nat)) : (s.puts l).tpo = s.tpo := by
  obtain ⟨m, h⟩ := State.puts_eq l s; rw [h]; rfl
@[simp] theorem State.tpo_emit (s : State) (src : Nat) (c : Code) (d : List Byte) : (s.emit src c d).tpo = s.tpo := by
  obtain ⟨_, _, _, _, _, _, h⟩ := (s.emit_only src c d).rest; rw [h]; rfl

@[simp] theorem State.sin_setSin_same (s : State) (i : Nat) (x : SIn) : (s.setSin i x).sin i = x :=
  sparseGet_set_same _ _ _ _
theorem State.sin_setSin (s : State) (i : Nat) (x : SIn) (j : Nat) : (s.setSin i x).sin j = if j = i then x else s.sin j :=
  sparseGet_set _ _ _ _ _
@[simp] theorem State.get_setSin (s : State) (i : Nat) (x : SIn) : (s.setSin i x).get = s.get := rfl
@[simp] theorem State.geti_setSin (s : State) (i : Nat) (x : SIn) : (s.setSin i x).geti = s.geti := rfl
@[simp] theorem State.on_setSin (s : State) (i : Nat) (x : SIn) : (s.setSin i x).on = s.on := rfl
@[simp] theorem State.rd_setSin (s : State) (i : Nat) (x : SIn) : (s.setSin i x).rd = s.rd := rfl
@[simp] theorem State.sin_put (s : State) (f : Fld) (v : Nat) : (s.put f v).sin = s.sin := rfl
@[simp] theorem State.sin_puti (s : State) (f : Fld) (z : Int) : (s.puti f z).sin = s.sin := rfl
@[simp] theorem State.sin_putSat (s : State) (f : Fld) (v : Nat) : (s.putSat f v).sin = s.sin := rfl
@[simp] theorem State.sin_putB (s : State) (f : Fld) (b : Bool) : (s.putB f b).sin = s.sin := rfl
@[simp] theorem State.sin_inc (s : State) (f : Fld) (k : Nat) : (s.inc f k).sin = s.sin := rfl
@[simp] theorem State.sin_puts (s : State) (l : List (Fld × Nat)) : (s.puts l).sin = s.sin := by
  obtain ⟨m, h⟩ := State.puts_eq l s; rw [h]; rfl
@[simp] theorem State.sin_emit (s : State) (src : Nat) (c : Code) (d : List Byte) : (s.emit src c d).sin = s.sin := by
  obtain ⟨_, _, _, _, _, _, h⟩ := (s.emit_only src c d).rest; rw [h]; rfl

@[simp] theorem State.sout_setSout_same (s : State) (o : Nat) (x : SOut) : (s.setSout o x).sout o = x :=
  sparseGet_set_same _ _ _ _
theorem State.sout_setSout (s : State) (o : Nat) (x : SOut) (j : Nat) : (s.setSout o x).sout j = if j = o then x else s.sout j :=
  sparseGet_set _ _ _ _ _
@[simp] theorem State.get_setSout (s : State) (o : Nat) (x : SOut) : (s.setSout o x).get = s.get := rfl
@[simp] theorem State.geti_setSout (s : State) (o : Nat) (x : SOut) : (s.setSout o x).geti = s.geti := rfl
@[simp] theorem State.on_setSout (s : State) (o : Nat) (x : SOut) : (s.setSout o x).on = s.on := rfl
@[simp] theorem State.rd_setSout (s : State) (o : Nat) (x : SOut) : (s.setSout o x).rd = s.rd := rfl
@[simp] theorem State.sout_put (s : State) (f : Fld) (v : Nat) : (s.put f v).sout = s.sout := rfl
@[simp] theorem State.sout_puti (s : State) (f : Fld) (z : Int) : (s.puti f z).sout = s.sout := rfl
@[simp] theorem State.sout_putSat (s : State) (f : Fld) (v : Nat) : (s.putSat f v).sout = s.sout := rfl
@[simp] theorem State.sout_putB (s : State) (f : Fld) (b : Bool) : (s.putB f b).sout = s.sout := rfl
@[simp] theorem State.sout_inc (s : State) (f : Fld) (k : Nat) : (s.inc f k).sout = s.sout := rfl
@[simp] theorem State.sout_puts (s : State) (l : List (Fld × Nat)) : (s.puts l).sout = s.sout := by
  obtain ⟨m, h⟩ := State.puts_eq l s; rw [h]; rfl
@[simp] theorem State.sout_emit (s : State) (src : Nat) (c : Code) (d : List Byte) : (s.emit src c d).sout = s.sout := by
  obtain ⟨_, _, _, _, _, _, h⟩ := (s.emit_only src c d).rest; rw [h]; rfl

@[simp] theorem State.brk_setBrk_same (s : State) (k : Nat) (x : Brake) : (s.setBrk k x).brk k = x :=
  sparseGet_set_same _ _ _ _
theorem State.brk_setBrk (s : State) (k : Nat) (x : Brake) (j : Nat) : (s.setBrk k x).brk j = if j = k then x else s.brk j :=
  sparseGet_set _ _ _ _ _
@[simp] theorem State.get_setBrk (s : State) (k : Nat) (x : Brake) : (s.setBrk k x).get = s.get := rfl
@[simp] theorem State.geti_setBrk (s : State) (k : Nat) (x : Brake) : (s.setBrk k x).geti = s.geti := rfl
@[simp] theorem State.on_setBrk (s : State) (k : Nat) (x : Brake) : (s.setBrk k x).on = s.on := rfl
@[simp] theorem State.rd_setBrk (s : State) (k : Nat) (x : Brake) : (s.setBrk k x).rd = s.rd := rfl
@[simp] theorem State.brk_put (s : State) (f : Fld) (v : Nat) : (s.put f v).brk = s.brk := rfl
@[simp] theorem State.brk_puti (s : State) (f : Fld) (z : Int) : (s.puti f z).brk = s.brk := rfl
@[simp] theorem State.brk_putSat (s : State) (f : Fld) (v : Nat) : (s.putSat f v).brk = s.brk := rfl
@[simp] theorem State.brk_putB (s : State) (f : Fld) (b : Bool) : (s.putB f b).brk = s.brk := rfl
@[simp] theorem State.brk_inc (s : State) (f : Fld) (k : Nat) : (s.inc f k).brk = s.brk := rfl
@[simp] theorem State.brk_puts (s : State) (l : List (Fld × Nat)) : (s.puts l).brk = s.brk := by
  obtain ⟨m, h⟩ := State.puts_eq l s; rw [h]; rfl
@[simp] theorem State.brk_emit (s : State) (src : Nat) (c : Code) (d : List Byte) : (s.emit src c d).brk = s.brk := by
  obtain ⟨_, _, _, _, _, _, h⟩ := (s.emit_only src c d).rest; rw [h]; rfl

@[simp] theorem State.mon_setMon_same (s : State) (m : Nat) (x : Monitor) : (s.setMon m x).mon m = x :=
  sparseGet_set_same _ _ _ _
theorem State.mon_setMon (s : State) (m : Nat) (x : Monitor) (j : Nat) : (s.setMon m x).mon j = if j = m then x else s.mon j :=
  sparseGet_set _ _ _ _ _
@[simp] theorem State.get_setMon (s : State) (m : Nat) (x : Monitor) : (s.setMon m x).get = s.get := rfl
@[simp] theorem State.geti_setMon (s : State) (m : Nat) (x : Monitor) : (s.setMon m x).geti = s.geti := rfl
@[simp] theorem State.on_setMon (s : State) (m : Nat) (x : Monitor) : (s.setMon m x).on = s.on := rfl
@[simp] theorem State.rd_setMon (s : State) (m : Nat) (x : Monitor) : (s.setMon m x).rd = s.rd := rfl
@[simp] theorem State.mon_put (s : State) (f : Fld) (v : Nat) : (s.put f v).mon = s.mon := rfl
@[simp] theorem State.mon_puti (s : State) (f : Fld) (z : Int) : (s.puti f z).mon = s.mon := rfl
@[simp] theorem State.mon_putSat (s : State) (f : Fld) (v : Nat) : (s.putSat f v).mon = s.mon := rfl
@[simp] theorem State.mon_putB (s : State) (f : Fld) (b : Bool) : (s.putB f b).mon = s.mon := rfl
@[simp] theorem State.mon_inc (s : State) (f : Fld) (k : Nat) : (s.inc f k).mon = s.mon := rfl
@[simp] theorem State.mon_puts (s : State) (l : List (Fld × Nat)) : (s.puts l).mon = s.mon := by
  obtain ⟨m, h⟩ := State.puts_eq l s; rw [h]; rfl
@[simp] theorem State.mon_emit (s : State) (src : Nat) (c : Code) (d : List Byte) : (s.emit src c d).mon = s.mon := by
  obtain ⟨_, _, _, _, _, _, h⟩ := (s.emit_only src c d).rest; rw [h]; rfl

@[simp] theorem State.tmp_setTmp_same (s : State) (f : Nat) (x : TmpFibre) : (s.setTmp f x).tmp f = x :=
  sparseGet_set_same _ _ _ _
theorem State.tmp_setTmp (s : State) (f : Nat) (x : TmpFibre) (j : Nat) : (s.setTmp f x).tmp j = if j = f then x else s.tmp j :=
  sparseGet_set _ _ _ _ _
@[simp] theorem State.get_setTmp (s : State) (f : Nat) (x : TmpFibre) : (s.setTmp f x).get = s.get := rfl
@[simp] theorem State.geti_setTmp (s : State) (f : Nat) (x : TmpFibre) : (s.setTmp f x).geti = s.geti := rfl
@[simp] theorem State.on_setTmp (s : State) (f : Nat) (x : TmpFibre) : (s.setTmp f x).on = s.on := rfl
@[simp] theorem State.rd_setTmp (s : State) (f : Nat) (x : TmpFibre) : (s.setTmp f x).rd = s.rd := rfl
@[simp] theorem State.tmp_put (s : State) (f : Fld) (v : Nat) : (s.put f v).tmp = s.tmp := rfl
@[simp] theorem State.tmp_puti (s : State) (f : Fld) (z : Int) : (s.puti f z).tmp = s.tmp := rfl
@[simp] theorem State.tmp_putSat (s : State) (f : Fld) (v : Nat) : (s.putSat f v).tmp = s.tmp := rfl
@[simp] theorem State.tmp_putB (s : State) (f : Fld) (b : Bool) : (s.putB f b).tmp = s.tmp := rfl
@[simp] theorem State.tmp_inc (s : State) (f : Fld) (k : Nat) : (s.inc f k).tmp = s.tmp := rfl
@[simp] theorem State.tmp_puts (s : State) (l : List (Fld × Nat)) : (s.puts l).tmp = s.tmp := by
  obtain ⟨m, h⟩ := State.puts_eq l s; rw [h]; rfl
@[simp] theorem State.tmp_emit (s : State) (src : Nat) (c : Code) (d : List Byte) : (s.emit src c d).tmp = s.tmp := by
  obtain ⟨_, _, _, _, _, _, h⟩ := (s.emit_only src c d).rest; rw [h]; rfl

@[simp] theorem State.aux_setAux_same (s : State) (c : Nat) (x : AuxCh) : (s.setAux c x).aux c = x :=
  sparseGet_set_same _ _ _ _
theorem State.aux_setAux (s : State) (c : Nat) (x : AuxCh) (j : Nat) : (s.setAux c x).aux j = if j = c then x else s.aux j :=
  sparseGet_set _ _ _ _ _
@[simp] theorem State.get_setAux (s : State) (c : Nat) (x : AuxCh) : (s.setAux c x).get = s.get := rfl
@[simp] theorem State.geti_setAux (s : State) (c : Nat) (x : AuxCh) : (s.setAux c x).geti = s.geti := rfl
@[simp] theorem State.on_setAux (s : State) (c : Nat) (x : AuxCh) : (s.setAux c x).on = s.on := rfl
@[simp] theorem State.rd_setAux (s : State) (c : Nat) (x : AuxCh) : (s.setAux c x).rd = s.rd := rfl
@[simp] theorem State.aux_put (s : State) (f : Fld) (v : Nat) : (s.put f v).aux = s.aux := rfl
@[simp] theorem State.aux_puti (s : State) (f : Fld) (z : Int) : (s.puti f z).aux = s.aux := rfl
@[simp] theorem State.aux_putSat (s : State) (f : Fld) (v : Nat) : (s.putSat f v).aux = s.aux := rfl
@[simp] theorem State.aux_putB (s : State) (f : Fld) (b : Bool) : (s.putB f b).aux = s.aux := rfl
@[simp] theorem State.aux_inc (s : State) (f : Fld) (k : Nat) : (s.inc f k).aux = s.aux := rfl
@[simp] theorem State.aux_puts (s : State) (l : List (Fld × Nat)) : (s.puts l).aux = s.aux := by
  obtain ⟨m, h⟩ := State.puts_eq l s; rw [h]; rfl
@[simp] theorem State.aux_emit (s : State) (src : Nat) (c : Code) (d : List Byte) : (s.emit src c d).aux = s.aux := by
  obtain ⟨_, _, _, _, _, _, h⟩ := (s.emit_only src c d).rest; rw [h]; rfl

@[simp] theorem State.acuFib_setAcuFib_same (s : State) (f : Nat) (x : AcuFibre) : (s.setAcuFib f x).acuFib f = x :=
  sparseGet_set_same _ _ _ _
theorem State.acuFib_setAcuFib (s : State) (f : Nat) (x : AcuFibre) (j : Nat) : (s.setAcuFib f x).acuFib j = if j = f then x else s.acuFib j :=
  sparseGet_set _ _ _ _ _
@[simp] theorem State.get_setAcuFib (s : State) (f : Nat) (x : AcuFibre) : (s.setAcuFib f x).get = s.get := rfl
@[simp] theorem State.geti_setAcuFib (s : State) (f : Nat) (x : AcuFibre) : (s.setAcuFib f x).geti = s.geti := rfl
@[simp] theorem State.on_setAcuFib (s : State) (f : Nat) (x : AcuFibre) : (s.setAcuFib f x).on = s.on := rfl
@[simp] theorem State.rd_setAcuFib (s : State) (f : Nat) (x : AcuFibre) : (s.setAcuFib f x).rd = s.rd := rfl
@[simp] theorem State.acuFib_put (s : State) (f : Fld) (v : Nat) : (s.put f v).acuFib = s.acuFib := rfl
@[simp] theorem State.acuFib_puti (s : State) (f : Fld) (z : Int) : (s.puti f z).acuFib = s.acuFib := rfl
@[simp] theorem State.acuFib_putSat (s : State) (f : Fld) (v : Nat) : (s.putSat f v).acuFib = s.acuFib := rfl
@[simp] theorem State.acuFib_putB (s : State) (f : Fld) (b : Bool) : (s.putB f b).acuFib = s.acuFib := rfl
@[simp] theorem State.acuFib_inc (s : State) (f : Fld) (k : Nat) : (s.inc f k).acuFib = s.acuFib := rfl
@[simp] theorem State.acuFib_puts (s : State) (l : List (Fld × Nat)) : (s.puts l).acuFib = s.acuFib := by
  obtain ⟨m, h⟩ := State.puts_eq l s; rw [h]; rfl
@[simp] theorem State.acuFib_emit (s : State) (src : Nat) (c : Code) (d : List Byte) : (s.emit src c d).acuFib = s.acuFib := by
  obtain ⟨_, _, _, _, _, _, h⟩ := (s.emit_only src c d).rest; rw [h]; rfl

@[simp] theorem State.link_setLink_same (s : State) (l : Nat) (x : Link) : (s.setLink l x).link l = x :=
  sparseGet_set_same _ _ _ _
theorem State.link_setLink (s : State) (l : Nat) (x : Link) (j : Nat) : (s.setLink l x).link j = if j = l then x else s.link j :=
  sparseGet_set _ _ _ _ _
@[simp] theorem State.get_setLink (s : State) (l : Nat) (x : Link) : (s.setLink l x).get = s.get := rfl
@[simp] theorem State.geti_setLink (s : State) (l : Nat) (x : Link) : (s.setLink l x).geti = s.geti := rfl
@[simp] theorem State.on_setLink (s : State) (l : Nat) (x : Link) : (s.setLink l x).on = s.on := rfl
@[simp] theorem State.rd_setLink (s : State) (l : Nat) (x : Link) : (s.setLink l x).rd = s.rd := rfl
@[simp] theorem State.link_put (s : State) (f : Fld) (v : Nat) : (s.put f v).link = s.link := rfl
@[simp] theorem State.link_puti (s : State) (f : Fld) (z : Int) : (s.puti f z).link = s.link := rfl
@[simp] theorem State.link_putSat (s : State) (f : Fld) (v : Nat) : (s.putSat f v).link = s.link := rfl
@[simp] theorem State.link_putB (s : State) (f : Fld) (b : Bool) : (s.putB f b).link = s.link := rfl
@[simp] theorem State.link_inc (s : State) (f : Fld) (k : Nat) : (s.inc f k).link = s.link := rfl
@[simp] theorem State.link_puts (s : State) (l : List (Fld × Nat)) : (s.puts l).link = s.link := by
  obtain ⟨m, h⟩ := State.puts_eq l s; rw [h]; rfl
@[simp] theorem State.link_emit (s : State) (src : Nat) (c : Code) (d : List Byte) : (s.emit src c d).link = s.link := by
  obtain ⟨_, _, _, _, _, _, h⟩ := (s.emit_only src c d).rest; rw [h]; rfl

@[simp] theorem State.stairMay_put (s : State) (f : Fld) (v : Nat) : (s.put f v).stairMay = s.stairMay := rfl
@[simp] theorem State.eng_gal (s : State) (g : Gal) (e : Nat) : State.eng { s with gal := g } e = s.eng e := rfl
@[simp] theorem State.eng_setTask (s : State) (t : Nat) (x : GalTask) (e : Nat) : (s.setTask t x).eng e = s.eng e := rfl

end Sys2Proof.Machine
end

