-- ==== Sys2Proof/Tests/Slice0.lean ====
section
/-! SUPPORT. Tests: an ill-formed term for each check of WellFormed, single steps against values worked out in the spec, and for
each statement with hypotheses one theorem that shows, clause by clause, a state and operands that meet them together. -/

set_option Elab.async false

set_option linter.unusedVariables false

open Sys2Proof Sys2Proof.Machine

namespace Sys2Proof.Tests

/-! ### Small states and operands -/

/-- The state after reset with some register fields set. -/
def st (l : List (Fld × Nat)) : State := State.reset.puts l
/-- A state moved to a mode. -/
def inMode (m : Mode) (s : State) : State := { s with md := { s.md with mode := m } }
def dAux : AuxSample := .lost 0
def dRow : RegRow := ⟨0, 0, .rw, 0, 0⟩
def dRec : Record := ⟨0, 0, 0, 0, 0, []⟩
def dMove : Move := ⟨0, 0, 1, 1, none, false⟩
def dCar : Carrier := ⟨0, 0, none, [0, 0, 0, 0], 0, false⟩
def dEnv : Envelope := ⟨[], 1, [], 0, 0⟩
def dStF : StoreFault := ⟨1, 0, false⟩
def dMemF : MemFault := ⟨0, 0, 0, false, 0⟩
def dCand : TrackCand := ⟨0, 0⟩
def dMas : Master := ⟨[], [], false, 0, 0⟩
def dIq : IqEst := ⟨0, 0, 0, 0, 0⟩
def dFR : FaultRec := ⟨3, 1, 0⟩
def dQR : QRec := ⟨dRec, [4]⟩
def dMis : Missing := ⟨0, 0, 1, 1, 0⟩
def dRamp : Ramp := ⟨0, 0, 0, 0, none⟩
def dBB : BootBist := ⟨0, 0, 0, 0, 0⟩
def sigP (nums : List (PKey × Int)) (byts : List (PKey × List Byte)) (recs : List PKey) (s : State) : State :=
  { s with cfg := { s.cfg with sig := ⟨nums, byts, recs, (List.range 12)⟩ } }
def sensP (nums : List (PKey × Int)) (byts : List (PKey × List Byte)) (recs : List PKey) (s : State) : State :=
  { s with cfg := { s.cfg with sens := ⟨nums, byts, recs, (List.range 12)⟩ } }
def netP (nums : List (PKey × Int)) (byts : List (PKey × List Byte)) (recs : List PKey) (s : State) : State :=
  { s with cfg := { s.cfg with net := ⟨nums, byts, recs, (List.range 12)⟩ } }
def gal0 : State := ({ State.reset with gal := { State.reset.gal with restore := [0] } } : State)
def dOps : List Byte := [0x41, 0, 0, 0]
def envB (role : Byte) (uid : List Byte) : List Byte :=
  [0x4B, 0x45, 1, role] ++ List.replicate 8 0 ++ uid ++ List.replicate 8 0 ++ [1, 0, 0, 4] ++ dOps ++ List.replicate 96 0
def dKey : List Byte := [4]
def link0 : State := st [(NET_STAT.LINK 0, 1)]
def conn0 : State :=
  { link0 with cfg := { State.reset.cfg with sig := ⟨[(⟨9, 0x18, 0x041, [0]⟩, 7)], [], [⟨9, 0x18, 0, [0]⟩], []⟩ } }
def dg (q n : Nat) : List Byte :=
  let b := be 8 (q * 2 ^ 62 + 7) ++ List.replicate (n - 12) 0
  b ++ be 4 (crc32c b)
def dSl : SliceEnd := ⟨0, 0, 0, 0, 0⟩
def dConv : AuxConv := ⟨[], 1, false⟩
def dIqO : IqObs := ⟨dIq, false, 0, 0⟩
def dXo : XoObs := ⟨false, true, 0, 0, 0⟩
def dVolts : TraceVolts := ⟨[], [], [], [], [], [], 0⟩
theorem alias_some (s : State) (f : Nat) (h : recent s.clk.up 1000000000 (s.aco f).alias_ ≠ []) :
    s.aliasTenths f = some (roundHalf (10 * aliasMargin (recent s.clk.up 1000000000 (s.aco f).alias_))) := by
  unfold State.aliasTenths; exact if_neg h
theorem no_dets (p : Plane) (f z : Nat) (h : p.recs = []) : p.zoneDets f z = [] := by simp [Plane.zoneDets, h]
def sealOf (u : Nat) : SliceEnd := { dSl with misr := Config.goldenSeal u false 0 }
theorem seal_fails (s : State) (u : Nat) (r : SliceEnd)
    (h : r.misr = Config.goldenSeal (if u < 20 then 0 else if u < 23 then 20 else u) (s.unit u).short (s.unit u).slices) :
    s.sliceFails u r = if s.keepsState u && decide (r.restored ≠ r.saved) then some 2 else none := by
  unfold State.sliceFails; rw [if_neg (by rw [h]; simp)]
theorem on_puti (s : State) (f g : Fld) (v : Int) (h : g.addr ≠ f.addr) : (s.puti f v).on g = s.on g := by
  unfold State.on State.puti; rw [State.get_put_addr _ _ _ _ h]
def late (s : State) : State := { s with clk := ⟨10 ^ 15, 10 ^ 15, 10 ^ 15, 10 ^ 15⟩ }
theorem none_all {α : Type} {P : α → Prop} {o : Option α} (h : o = none) : ∀ t, o = some t → P t := by
  subst h; intro _ h; cases h
theorem none_all2 {α β : Type} {P : α → β → Prop} {o : Option α} {q : Option β} (h : o = none) : ∀ t k, o = some t → q = some k → P t k := by
  subst h; intro _ _ h; cases h

/-! ### Ill-formed terms (WellFormed.lean) -/

/-- Operands just outside their fields are refused. -/
theorem test_illformed_1 :
    (Instr.gapRecord (2 ^ 16)).wf = false ∧
    (Instr.refInQualified (2 ^ 31)).wf = false ∧
    (Instr.refInQualified (-2 ^ 31 - 1)).wf = false ∧
    (Instr.holdoverEnter false (2 ^ 15)).wf = false ∧
    (Instr.holdoverEnter false (-2 ^ 15 - 1)).wf = false ∧
    (Instr.xoFail ({ dXo with ofs := -2 ^ 31 - 1 })).wf = false ∧
    (Instr.ppsInEdge (2 ^ 64)).wf = false ∧
    (Instr.landingHigh 0 false (2 ^ 16)).wf = false ∧
    (Instr.iqEstimateUpdate 0 false ({ dIqO with img := 256 })).wf = false ∧
    (Instr.snapshotDone [[]]).wf = false ∧
    (Instr.traceProcessed 0 (2 ^ 64) dVolts).wf = false ∧
    (Instr.eventHeartbeat 0 0 (2 ^ 32)).wf = false := by
  decide +kernel

/-- Operands just outside their fields are refused. -/
theorem test_illformed_2 :
    (Instr.trackUpdate 0 [⟨0, false, 0, 32768⟩] []).wf = false ∧
    (Instr.trackUpdate 0 [] [⟨0, 32768⟩]).wf = false ∧
    (Instr.dataStreamSend 0 0 0 0 0 (2 ^ 32) 0 false).wf = false ∧
    (Instr.dataStreamSend 0 0 0 0 0 0 (2 ^ 16) false).wf = false ∧
    (Instr.ramanDarkMeasure 0 [] (List.replicate 125 0)).wf = false ∧
    (Instr.ramanDarkMeasure 0 (List.replicate 125 0) []).wf = false ∧
    (Instr.plannerRun ⟨[], [], [(128, 0)]⟩).wf = false ∧
    (Instr.runNow ⟨[], [], [(128, 0)]⟩).wf = false ∧
    (Instr.fastPath ⟨[], [], [(128, 0)]⟩).wf = false ∧
    (Instr.engineFail 0 3).wf = false ∧
    (Instr.taskRestart [2 ^ 16]).wf = false ∧
    (Instr.stairFault false (2 ^ 16)).wf = false := by
  decide +kernel

/-- Operands just outside their fields are refused. -/
theorem test_illformed_3 :
    (Instr.xferBegin 0 (2 ^ 24)).wf = false ∧
    (Instr.matrixDriveStep 0 [⟨64, 0, 0, 0⟩]).wf = false ∧
    (Instr.testPulse 0 (2 ^ 16) 0).wf = false ∧
    (Instr.testPulse 0 0 (2 ^ 16)).wf = false ∧
    (Instr.outputOffTest 0 (2 ^ 16)).wf = false ∧
    (Instr.outputReadbackSample 0 (2 ^ 16)).wf = false ∧
    (Instr.cutoffTest []).wf = false ∧
    (Instr.cutoffTest (List.replicate 8 (2 ^ 16))).wf = false ∧
    (Instr.outputOverload 0 (2 ^ 16)).wf = false ∧
    (Instr.brakeDecayCheck 0 (2 ^ 16)).wf = false ∧
    (Instr.brakeSwitchTest 0 (2 ^ 16) 0).wf = false ∧
    (Instr.brakeSwitchTest 0 0 (2 ^ 16)).wf = false := by
  decide +kernel

/-- Operands just outside their fields are refused. -/
theorem test_illformed_4 :
    (Instr.ptpSync [] none).wf = false ∧
    (Instr.ptpSync (List.replicate 44 0) (some [])).wf = false ∧
    (Instr.announce []).wf = false ∧
    (Instr.delayResp []).wf = false ∧
    (Instr.mgmtRead ({ dCar with uport := 65536 }) []).wf = false ∧
    (Instr.mgmtEnvelope ({ dCar with uport := 65536 }) []).wf = false ∧
    (Instr.bornakData ({ dCar with uport := 65536 }) []).wf = false ∧
    (Instr.bornakReq ({ dCar with uport := 65536 }) []).wf = false ∧
    (Instr.bornakAck ({ dCar with uport := 65536 }) []).wf = false ∧
    (Instr.envelopeDecided ⟨[], [], [(128, 0)]⟩).wf = false ∧
    (Instr.signedWrite 0 0 0 ⟨[], [], [(128, 0)]⟩).wf = false ∧
    (Instr.keySet 0 0 (some [])).wf = false := by
  decide +kernel

/-- Operands just outside their fields are refused. -/
theorem test_illformed_5 :
    (Instr.attest 0 []).wf = false ∧
    (Instr.ledgerRead 0 0 0 (2 ^ 32)).wf = false ∧
    (Instr.fwBegin 0 0 (2 ^ 32)).wf = false ∧
    (Instr.keyStoreCheck [⟨1, 5, false⟩]).wf = false ∧
    (Instr.bistSliceEnd ({ dSl with bit := 256 })).wf = false ∧
    (Instr.signalDieSlice 0 ({ dSl with bit := 256 })).wf = false ∧
    (Instr.marchRow 0x3FF none).wf = false ∧
    (Instr.marchRow 0x800 none).wf = false ∧
    (Instr.marchRow 0x400 (some ⟨0, 0, 256, false, 0⟩)).wf = false ∧
    (Instr.scrub 0x3FF none).wf = false ∧
    (Instr.scrub 0x800 none).wf = false ∧
    (Instr.scrub 0x400 (some ⟨0, 0, 256, false, 0⟩)).wf = false := by
  decide +kernel

/-- Operands just outside their fields are refused. -/
theorem test_illformed_6 :
    (Instr.lichenRead 0 (some (2 ^ 32)) 0).wf = false ∧
    (Instr.lichenRead 0 none (2 ^ 15)).wf = false ∧
    (Instr.lichenRead 0 none (-2 ^ 15 - 1)).wf = false ∧
    (Instr.vfieldRise (2 ^ 16)).wf = false ∧
    (Instr.bootComplete [⟨1, 5, false⟩] none).wf = false ∧
    (Instr.bootComplete [] (some ⟨0, 0, 0, 0, 256⟩)).wf = false ∧
    (Instr.vfieldHigh (2 ^ 16)).wf = false ∧
    (Instr.vfieldHighEnd (2 ^ 16)).wf = false ∧
    (Instr.holdupCharged 0 (2 ^ 16)).wf = false ∧
    (Instr.holdupTimeout 0 (2 ^ 16)).wf = false ∧
    (Instr.vauxFault 0 (2 ^ 16)).wf = false ∧
    (Instr.vsoLow (2 ^ 16)).wf = false := by
  decide +kernel

/-- Operands just outside their fields are refused. -/
theorem test_illformed_7 :
    (Instr.tjHigh 0 (2 ^ 15)).wf = false ∧
    (Instr.tjHigh 0 (-2 ^ 15 - 1)).wf = false ∧
    (Instr.tjHighEnd 0 (2 ^ 15)).wf = false ∧
    (Instr.tjHighEnd 0 (-2 ^ 15 - 1)).wf = false ∧
    (Instr.temperatureStop 0 (2 ^ 15)).wf = false ∧
    (Instr.temperatureStop 0 (-2 ^ 15 - 1)).wf = false ∧
    (Instr.vsoRestored (2 ^ 16)).wf = false ∧
    (Instr.vauxRestored (2 ^ 16)).wf = false ∧
    (Instr.frontEndTemperatureResume (2 ^ 15)).wf = false ∧
    (Instr.frontEndTemperatureResume (-2 ^ 15 - 1)).wf = false ∧
    (Instr.arpIcmpNdRequest ({ dCar with uport := 65536 }) 0 [0, 0, 0, 0] []).wf = false ∧
    (Instr.arpIcmpNdRequest dCar 0 [] []).wf = false := by
  decide +kernel

/-- Operands at the ends of their fields are accepted. -/
theorem test_wellformed_1 :
    (Instr.gapRecord (2 ^ 16 - 1)).wf = true ∧
    (Instr.refInQualified (-2 ^ 31)).wf = true ∧
    (Instr.holdoverEnter false (-2 ^ 15)).wf = true ∧
    (Instr.xoFail dXo).wf = true ∧
    (Instr.ppsInEdge (2 ^ 64 - 1)).wf = true ∧
    (Instr.landingHigh 0 false (2 ^ 16 - 1)).wf = true ∧
    (Instr.iqEstimateUpdate 0 false dIqO).wf = true ∧
    (Instr.snapshotDone []).wf = true ∧
    (Instr.traceProcessed 0 (2 ^ 64 - 1) dVolts).wf = true ∧
    (Instr.eventHeartbeat 0 0 (2 ^ 32 - 1)).wf = true ∧
    (Instr.trackUpdate 0 [] []).wf = true ∧
    (Instr.dataStreamSend 0 0 0 0 0 (2 ^ 32 - 1) (2 ^ 16 - 1) false).wf = true ∧
    (Instr.ramanDarkMeasure 0 (List.replicate 125 0) (List.replicate 125 0)).wf = true ∧
    (Instr.plannerRun ⟨[], [], []⟩).wf = true ∧
    (Instr.runNow ⟨[], [], []⟩).wf = true ∧
    (Instr.fastPath ⟨[], [], []⟩).wf = true := by
  decide +kernel

/-- Operands at the ends of their fields are accepted. -/
theorem test_wellformed_2 :
    (Instr.engineFail 0 1).wf = true ∧
    (Instr.taskRestart []).wf = true ∧
    (Instr.stairFault false (2 ^ 16 - 1)).wf = true ∧
    (Instr.xferBegin 0 (2 ^ 24 - 1)).wf = true ∧
    (Instr.matrixDriveStep 0 []).wf = true ∧
    (Instr.testPulse 0 (2 ^ 16 - 1) (2 ^ 16 - 1)).wf = true ∧
    (Instr.outputOffTest 0 (2 ^ 16 - 1)).wf = true ∧
    (Instr.outputReadbackSample 0 (2 ^ 16 - 1)).wf = true ∧
    (Instr.cutoffTest (List.replicate 8 (2 ^ 16 - 1))).wf = true ∧
    (Instr.outputOverload 0 (2 ^ 16 - 1)).wf = true ∧
    (Instr.brakeDecayCheck 0 (2 ^ 16 - 1)).wf = true ∧
    (Instr.brakeSwitchTest 0 (2 ^ 16 - 1) (2 ^ 16 - 1)).wf = true ∧
    (Instr.ptpSync (List.replicate 44 0) none).wf = true ∧
    (Instr.announce (List.replicate 64 0)).wf = true ∧
    (Instr.delayResp (List.replicate 54 0)).wf = true ∧
    (Instr.mgmtRead dCar []).wf = true := by
  decide +kernel

/-- Operands at the ends of their fields are accepted. -/
theorem test_wellformed_3 :
    (Instr.mgmtEnvelope dCar []).wf = true ∧
    (Instr.bornakData dCar []).wf = true ∧
    (Instr.bornakReq dCar []).wf = true ∧
    (Instr.bornakAck dCar []).wf = true ∧
    (Instr.envelopeDecided ⟨[], [], []⟩).wf = true ∧
    (Instr.signedWrite 0 0 0 ⟨[], [], []⟩).wf = true ∧
    (Instr.keySet 0 0 none).wf = true ∧
    (Instr.attest 0 (List.replicate 32 0)).wf = true ∧
    (Instr.ledgerRead 0 0 0 (2 ^ 32 - 1)).wf = true ∧
    (Instr.fwBegin 0 0 (2 ^ 32 - 1)).wf = true ∧
    (Instr.keyStoreCheck []).wf = true ∧
    (Instr.bistSliceEnd dSl).wf = true ∧
    (Instr.signalDieSlice 0 dSl).wf = true ∧
    (Instr.marchRow 0x7FF none).wf = true ∧
    (Instr.scrub 0x7FF none).wf = true ∧
    (Instr.lichenRead 0 none (-2 ^ 15)).wf = true := by
  decide +kernel

/-- Operands at the ends of their fields are accepted. -/
theorem test_wellformed_4 :
    (Instr.vfieldRise (2 ^ 16 - 1)).wf = true ∧
    (Instr.bootComplete [] none).wf = true ∧
    (Instr.vfieldHigh (2 ^ 16 - 1)).wf = true ∧
    (Instr.vfieldHighEnd (2 ^ 16 - 1)).wf = true ∧
    (Instr.holdupCharged 0 (2 ^ 16 - 1)).wf = true ∧
    (Instr.holdupTimeout 0 (2 ^ 16 - 1)).wf = true ∧
    (Instr.vauxFault 0 (2 ^ 16 - 1)).wf = true ∧
    (Instr.vsoLow (2 ^ 16 - 1)).wf = true ∧
    (Instr.tjHigh 0 (-2 ^ 15)).wf = true ∧
    (Instr.tjHighEnd 0 (-2 ^ 15)).wf = true ∧
    (Instr.temperatureStop 0 (-2 ^ 15)).wf = true ∧
    (Instr.vsoRestored (2 ^ 16 - 1)).wf = true ∧
    (Instr.vauxRestored (2 ^ 16 - 1)).wf = true ∧
    (Instr.frontEndTemperatureResume (-2 ^ 15)).wf = true ∧
    (Instr.arpIcmpNdRequest dCar 0 [0, 0, 0, 0] []).wf = true := by
  decide +kernel

/-- Each check of a XoObs refuses. -/
theorem test_illformed_XoObs_1 :
    XoObs.wf ({ dXo with ref := 2 ^ 31 }) = false ∧
    XoObs.wf ({ dXo with ofs := -2 ^ 31 - 1 }) = false := by
  decide +kernel

/-- Each check of a IqObs refuses. -/
theorem test_illformed_IqObs_1 :
    IqObs.wf ({ dIqO with img := 256 }) = false := by
  decide +kernel

/-- Each check of a TrackObs refuses. -/
theorem test_illformed_TrackObs_1 :
    TrackObs.wf (⟨65536, false, 0, 0⟩) = false ∧
    TrackObs.wf (⟨0, false, 2147483648, 0⟩) = false ∧
    TrackObs.wf (⟨0, false, 0, 32768⟩) = false := by
  decide +kernel

/-- Each check of a TrackCand refuses. -/
theorem test_illformed_TrackCand_1 :
    TrackCand.wf (⟨2147483648, 0⟩) = false ∧
    TrackCand.wf (⟨0, 32768⟩) = false := by
  decide +kernel

/-- Each check of a PlanObs refuses. -/
theorem test_illformed_PlanObs_1 :
    PlanObs.wf (⟨[(48, 0)], [], []⟩) = false ∧
    PlanObs.wf (⟨[], [(48, 0)], []⟩) = false ∧
    PlanObs.wf (⟨[], [], [(128, 0)]⟩) = false := by
  decide +kernel

/-- Each check of a MatrixObs refuses. -/
theorem test_illformed_MatrixObs_1 :
    MatrixObs.wf (⟨64, 0, 0, 0⟩) = false := by
  decide +kernel

/-- Each check of a Carrier refuses. -/
theorem test_illformed_Carrier_1 :
    Carrier.wf ({ dCar with mac := 2 ^ 48 }) = false ∧
    Carrier.wf ({ dCar with trailer := some 65536 }) = false ∧
    Carrier.wf ({ dCar with addr := [] }) = false ∧
    Carrier.wf ({ dCar with uport := 65536 }) = false := by
  decide +kernel

/-- Each check of a StoreFault refuses. -/
theorem test_illformed_StoreFault_1 :
    StoreFault.wf (⟨0, 0, false⟩) = false ∧
    StoreFault.wf (⟨6, 0, false⟩) = false ∧
    StoreFault.wf (⟨1, 5, false⟩) = false := by
  decide +kernel

/-- Each check of a SliceEnd refuses. -/
theorem test_illformed_SliceEnd_1 :
    SliceEnd.wf ({ dSl with addr := 2 ^ 32 }) = false ∧
    SliceEnd.wf ({ dSl with bit := 256 }) = false := by
  decide +kernel

/-- Each check of a MemFault refuses. -/
theorem test_illformed_MemFault_1 :
    MemFault.wf (⟨65536, 0, 0, false, 0⟩) = false ∧
    MemFault.wf (⟨0, 65536, 0, false, 0⟩) = false ∧
    MemFault.wf (⟨0, 0, 256, false, 0⟩) = false := by
  decide +kernel

/-- Each check of a BootBist refuses. -/
theorem test_illformed_BootBist_1 :
    BootBist.wf (⟨0, 65536, 0, 0, 0⟩) = false ∧
    BootBist.wf (⟨0, 0, 65536, 0, 0⟩) = false ∧
    BootBist.wf (⟨0, 0, 0, 256, 0⟩) = false ∧
    BootBist.wf (⟨0, 0, 0, 0, 256⟩) = false := by
  decide +kernel

/-! ### Single steps and check values -/

/-- 11_network_and_bornak.md gives three check values of CRC-32C (Table 11.2's text). -/
theorem test_crc32c_check : crc32c [0x31, 0x32, 0x33, 0x34, 0x35, 0x36, 0x37, 0x38, 0x39] = 0xE3069283 ∧
    crc32c (List.replicate 32 0) = 0x8A9136AA ∧ crc32c ((List.range 32).map (BitVec.ofNat 8)) = 0x46DD794E := by
  decide +kernel

/-- R351: CRC-8 with the polynomial 0x07 over the bytes of "123456789", worked out by hand from the definition. -/
theorem test_crc8_check : crc8 [0x31, 0x32, 0x33, 0x34, 0x35, 0x36, 0x37, 0x38, 0x39] = 0xF4 := by decide +kernel

def portState : State := { State.reset with pw := { State.reset.pw with vfield := true } }

/-- The example after R351: reading DEV_ID answers 80, the word and the CRC E4. -/
theorem test_spi_read_dev_id : (match exec (.spiRead 0 1 0x7C) portState with | .next t => t.spi.out | _ => []) =
    [0x80, 0x4B, 0x58, 0x26, 0x40, 0xE4] := by decide +kernel

/-- An empty queue lets 1 ns pass. -/
theorem test_tick : (match step State.reset with | .next t => t.clk.up | _ => 0) = 1 := by decide +kernel

/-- A command at the front is taken and run. -/
theorem test_step_takes_front : (match step { portState with pending := [.spiRead 0 1 0x7C, .spiFrameAbort] } with
    | .next t => t.pending
    | _ => []) = [.spiFrameAbort] := by decide +kernel

/-- R11: a plain write stores the value in the writable bits. -/
theorem test_register_write : (match exec (.registerWrite 0x20008 0xFFFFFFFF) (inMode .hold portState) with
    | .next t => t.rd 0x20008
    | _ => 0) = regMask 0x20008 := by decide +kernel

/-- A word of the table spells no command: the table gives its rows no bits. -/
theorem test_no_words : decodeTableWord 32 0 = none := by decide


/-! ### Witnesses: for each clause of a statement, a state and operands that meet its hypotheses -/

theorem wit_TimebaseCommands :
    (∃ (s : State) (fofs : Int), s.get PRB_REF.SRC ≠ 2 ∧ s.get PRB_STAT.TB ≠ 2 ∧ s.get PRB_STAT.TB ≠ 3) ∧
    (∃ (s : State) (fofs : Int), s.get PRB_REF.SRC = 2) ∧
    (∃ (s : State), s.tb.target ≠ 0) ∧
    (∃ (s : State) (offFreq : Bool) (corr : Int), s.get PRB_STAT.TB = 2 ∧ s.get PRB_REF.SRC ≠ 2 ∧ s.on PRB_STAT.DIRECT = false) ∧
    (∃ (s : State), s.get PRB_STAT.TB = 3 ∧ s.get PRB_REF.SRC ≠ 2) ∧
    (∃ (s : State) (offFreq : Bool), s.get PRB_STAT.TB ≠ 2 ∧ s.tb.target ≠ 2) ∧
    (∃ (s : State) (cause : Fin 3), s.get (PRB_STAT.FSTATE 0) ≤ 1 ∧ s.get (PRB_STAT.FSTATE 1) ≤ 1) ∧
    (∃ (s : State) (o : XoObs), s.tb.xoFailed = false ∧ (o.amplitude = true ∨ xoOffFreq o (s.witness o) = true)) ∧
    (∃ (s : State) (o : XoObs), s.tb.xoFailed = false ∧ o.amplitude = false ∧ xoOffFreq o (s.witness o) = false ∧ o.ref.natAbs ≤ 100000) :=
  ⟨⟨(st [(PRB_REF.SRC, 0), (PRB_STAT.TB, 0), (PRB_STAT.TB, 0)]), 0, by decide⟩,
   ⟨(st [(PRB_REF.SRC, 2)]), 0, by decide⟩,
   ⟨({ State.reset with tb := { State.reset.tb with target := 1 } } : State), (by decide)⟩,
   ⟨(st [(PRB_STAT.TB, 2), (PRB_REF.SRC, 0), (PRB_STAT.DIRECT, 0)]), false, 0, by decide⟩,
   ⟨(st [(PRB_STAT.TB, 3), (PRB_REF.SRC, 0)]), by decide⟩,
   ⟨(st [(PRB_STAT.TB, 0)]), false, (by decide)⟩,
   ⟨State.reset, 0, by decide⟩,
   ⟨({ State.reset with tb := { State.reset.tb with xoFailed := false } } : State), ⟨true, true, 0, 0, 0⟩, by decide⟩,
   ⟨({ State.reset with tb := { State.reset.tb with xoFailed := false } } : State), dXo, (by decide)⟩⟩

theorem wit_ProbeCycleCommands :
    (∃ (s : State) (f : Fin 2), (s.fib f.val).toFull = 0) ∧
    (∃ (s : State) (f : Fin 2), s.get PRB_STAT.TB ≠ 0 ∧ s.get (PRB_STAT.FSTATE f.val) = 3 ∧ s.get (PRB_GATE.RMN_W f.val) = 0) ∧
    (∃ (s : State) (f : Fin 2), s.get PRB_STAT.TB ≠ 0 ∧ s.get (PRB_STAT.FSTATE f.val) ≠ 3 ∧ 0 < (s.fib f.val).burst) ∧
    (∃ (s : State) (f : Fin 2), s.get PRB_STAT.TB = 0) ∧
    (∃ (s : State) (f : Fin 2) (p : Plane), s.cfg.shadow = some p ∧ s.get CFG_STAT.SWSTATE = 3 ∧ s.cfg.exchanged = true ∧ s.lnk.absent = false ∧ f.val ∉ s.cfg.probed) ∧
    (∃ (s : State) (f : Fin 2) (avg : Fin 4096), (s.pmon f.val avg.val).get (PRB_PMON.WIN f.val) = 1 ∧ (s.pmon f.val avg.val).on (PRB_STAT.LSR f.val) = true) ∧
    (∃ (s : State) (f : Fin 2), s.get (PRB_STAT.FSTATE f.val) = 1 ∧ (s.fib f.val).ready = true ∧ s.get PRB_STAT.TB ≠ 0) ∧
    (∃ (s : State) (f : Fin 2) (avg : Fin 4096), (s.pmon f.val avg.val).get (PRB_STAT.FSTATE f.val) = 1) ∧
    (∃ (s m : State) (f : Fin 2) (avg : Fin 4096), m = s.pmon f.val avg.val ∧ m.get (PRB_PMON.WIN f.val) = 3 ∧ m.get (PRB_STAT.FSTATE f.val) ≠ 0 ∧ m.get (PRB_STAT.FSTATE f.val) ≠ 6) ∧
    (∃ (s m : State) (f : Fin 2) (avg : Fin 4096), m = s.pmon f.val avg.val ∧ m.get (PRB_PMON.WIN f.val) = 2 ∧ m.get (PRB_STAT.FSTATE f.val) = 3) :=
  ⟨⟨(fun s : State => s.setFib 0 { s.fib 0 with toFull := 0 }) State.reset, 0, by decide⟩,
   ⟨(st [(PRB_STAT.TB, 1), (PRB_STAT.FSTATE 0, 3), (PRB_GATE.RMN_W 0, 0)]), 0, by decide⟩,
   ⟨(let s := st [(PRB_STAT.TB, 1)]; s.setFib 0 { s.fib 0 with burst := 1 }), 0, (by decide)⟩,
   ⟨(st [(PRB_STAT.TB, 0)]), 0, by decide⟩,
   ⟨({ st [(CFG_STAT.SWSTATE, 3)] with cfg := { State.reset.cfg with shadow := some .profileF, exchanged := true }, lnk := { State.reset.lnk with absent := false } } : State), 0, .profileF, by decide⟩,
   ⟨(let s := st [(PRB_STAT.FSTATE 0, 1), (PRB_STAT.LSR 0, 1)]; s.setFib 0 { s.fib 0 with win := (0, 4095) }), 0, 2000, (by decide)⟩,
   ⟨(fun s : State => s.setFib 0 { s.fib 0 with ready := true }) (st [(PRB_STAT.FSTATE 0, 1), (PRB_STAT.TB, 1)]), 0, by decide⟩,
   ⟨(st [(PRB_STAT.FSTATE 0, 1)]), 0, 4000, by decide⟩,
   ⟨(st [(PRB_STAT.FSTATE 0, 3)]), _, 0, 4000, ⟨rfl, (by decide), by decide, by decide⟩⟩,
   ⟨(let s := st [(PRB_STAT.FSTATE 0, 3)]; s.setFib 0 { s.fib 0 with win := (200, 4095) }), _, 0, 100, ⟨rfl, (by decide), by decide⟩⟩⟩

theorem wit_PowerReductionCommands :
    (∃ (s : State) (f : Fin 2), (s.get (PRB_STAT.FSTATE f.val) = 2 ∨ s.get (PRB_STAT.FSTATE f.val) = 4 ∨ s.get (PRB_STAT.FSTATE f.val) = 5) ∧ s.get PRB_STAT.TB ≠ 0) ∧
    (∃ (s : State) (f : Fin 2), s.get PRB_STAT.TB = 0) ∧
    (∃ (s : State) (f : Fin 2), 16 ≤ (s.aco f.val).burst.1) ∧
    (∃ (s : State) (f : Fin 2) (last bin : Nat), (s.fib f.val).check = true ∧ s.get (PRB_STAT.FSTATE f.val) = 2) ∧
    (∃ (s : State) (f : Fin 2), (s.fib f.val).check = true ∧ (s.fib f.val).burst = 0 ∧ (s.fib f.val).burstEnd + 100000000 ≤ s.clk.up) ∧
    (∃ (s : State) (f : Fin 2) (bin : Nat), (s.acuFib f.val).openSent = some bin ∧ s.get (PRB_STAT.FSTATE f.val) = 3) ∧
    (∃ (s : State) (f : Fin 2), (s.acuFib f.val).confirm = true) ∧
    (∃ (s : State) (f : Fin 2), s.get (PRB_STAT.FSTATE f.val) = 3 ∧ (s.fib f.val).confirmed + 1000000 * s.get PRB_APR.CONFIRM ≤ s.clk.up) ∧
    (∃ (s : State) (f : Fin 2), (s.get (PRB_STAT.FSTATE f.val) = 2 ∨ s.get (PRB_STAT.FSTATE f.val) = 3 ∨ s.get (PRB_STAT.FSTATE f.val) = 4)) ∧
    (∃ (s : State) (f : Fin 2), s.get (PRB_STAT.FSTATE f.val) = 5) ∧
    (∃ (s : State) (f : Fin 2), s.get (PRB_STAT.FSTATE f.val) = 6) ∧
    (∃ (s : State) (f : Fin 2), s.get (PRB_STAT.FSTATE f.val) ≠ 5 ∧ s.get (PRB_STAT.FSTATE f.val) ≠ 6) ∧
    (∃ (s : State) (f : Fin 2), s.emissionMode = true) :=
  ⟨⟨(st [(PRB_STAT.FSTATE 0, 2), (PRB_STAT.TB, 1)]), 0, by decide⟩,
   ⟨(st [(PRB_STAT.TB, 0)]), 0, by decide⟩,
   ⟨(let s := State.reset; s.setAco 0 { s.aco 0 with burst := (16, [], 0) }), 0, (by decide)⟩,
   ⟨(fun s : State => s.setFib 0 { s.fib 0 with check := true }) (st [(PRB_STAT.FSTATE 0, 2)]), 0, 0, 0, by decide⟩,
   ⟨(late ((fun s : State => s.setFib 0 { s.fib 0 with burst := 0 }) ((fun s : State => s.setFib 0 { s.fib 0 with check := true }) State.reset))), 0, by decide⟩,
   ⟨(fun s : State => s.setAcuFib 0 { s.acuFib 0 with openSent := some 0 }) (st [(PRB_STAT.FSTATE 0, 3)]), 0, 0, (by decide)⟩,
   ⟨(fun s : State => s.setAcuFib 0 { s.acuFib 0 with confirm := true }) State.reset, 0, by decide⟩,
   ⟨(late (st [(PRB_STAT.FSTATE 0, 3)])), 0, by decide⟩,
   ⟨(st [(PRB_STAT.FSTATE 0, 2)]), 0, (by decide)⟩,
   ⟨(st [(PRB_STAT.FSTATE 0, 5)]), 0, by decide⟩,
   ⟨(st [(PRB_STAT.FSTATE 0, 6)]), 0, by decide⟩,
   ⟨(st [(PRB_STAT.FSTATE 0, 0), (PRB_STAT.FSTATE 0, 0)]), 0, (by decide)⟩,
   ⟨(inMode .hold (st [(CFG_STAT.ACTIVE, 0)])), 0, by decide⟩⟩

theorem wit_PpsCommands :
    (∃ (s : State) (high : Nat), 100 ≤ high ∧ s.get PRB_STAT.PPS_IN = 3) ∧
    (∃ (s : State) (high : Nat), high < 100) ∧
    (∃ (s : State), s.get PRB_STAT.PPS_IN = 2 ∧ s.get NET_TSTAT.STATE ≠ 3) ∧
    (∃ (s : State), s.on PRB_PPS.OUT_EN = true ∧ s.on NET_TSTAT.VALID = true ∧ s.md.mode ≠ .reset ∧ s.md.mode ≠ .boot ∧ (∀ t, s.pps.lastRise = some t → t + 500000000 ≤ s.clk.up) ∧ (ppsOffset s.clk.dev).natAbs ≤ 10) ∧
    (∃ (s : State) (t : Nat), s.pps.lastRise = some t ∧ t + s.get PRB_PPS.OUT_W * 1000 ≤ s.clk.up) :=
  ⟨⟨(st [(PRB_STAT.PPS_IN, 3)]), 200, by decide⟩,
   ⟨State.reset, 0, by decide⟩,
   ⟨(st [(PRB_STAT.PPS_IN, 2), (NET_TSTAT.STATE, 0)]), (by decide)⟩,
   ⟨(late (inMode .hold (st [(PRB_PPS.OUT_EN, 1), (NET_TSTAT.VALID, 1)]))), ⟨by decide, by decide, (by decide), by decide, none_all rfl, by decide⟩⟩,
   ⟨(late (({ State.reset with pps := { State.reset.pps with lastRise := some 0 } } : State))), 0, (by decide)⟩⟩

theorem wit_LandingCommands :
    (∃ (s : State) (f : Fin 2), (s.acq f.val).rdrop = none ∧ s.gal.move = none) ∧
    (∃ (s u : State) (f : Fin 2) (a k : Nat) (rs : List TraceRec), (s.acq f.val).rdrop = some a ∧ s.dropLost f.val true a = (rs, k, u)) ∧
    (∃ (s u : State) (f : Fin 2) (a k : Nat) (rs : List TraceRec), (s.acq f.val).drop = some a ∧ s.dropLost f.val false a = (rs, k, u)) ∧
    (∃ (s : State) (f : Fin 2) (n first start cause : Nat), n ≠ 0) ∧
    (∃ (s : State) (a : Fin 12) (x : Ovr), x = sparseGet .reset s.ovrs a.val ∧ x.traces ≠ 0 ∧ (∀ t, x.recAt = some t → t + 1000000000 ≤ s.clk.up)) :=
  ⟨⟨(fun s : State => s.setAcq 0 { s.acq 0 with rdrop := none }) (({ State.reset with gal := { State.reset.gal with move := none } } : State)), 0, by decide⟩,
   ⟨(let s := State.reset; s.setAcq 0 { s.acq 0 with rdrop := some 0 }), _, 0, 0, _, _, ⟨by decide, rfl⟩⟩,
   ⟨(let s := State.reset; s.setAcq 0 { s.acq 0 with drop := some 0 }), _, 0, 0, _, _, ⟨(by decide), rfl⟩⟩,
   ⟨State.reset, 0, 1, 0, 0, 0, by decide⟩,
   ⟨({ State.reset with ovrs := [(0, ⟨0, 1, 0, none⟩)] } : State), 0, ⟨0, 1, 0, none⟩, ⟨by decide, (by decide), none_all rfl⟩⟩⟩

theorem wit_ChannelizerCommands :
    (∃ (s : State) (c : Fin 3) (f : Fin 2), s.get (ACQ_CHZ.STATE c.val) = 0 ∧ s.get (ACQ_STAT.CHZ f.val) ≠ 3 ∧ s.get (ACQ_STAT.DROP f.val) = 0 ∧ (8 * s.acqEnd f.val false : Int) ≤ (traceWindow (s.d0 f.val) (s.fib f.val).startedAt 0 0 1 0).1 + 1008) ∧
    (∃ (s : State) (c : Fin 3), s.get (ACQ_CHZ.STATE c.val) = 3) ∧
    (∃ (s : State) (c : Fin 3), s.get (ACQ_CHZ.STATE c.val) = 3 ∧ (s.chz c.val).suspect = none) ∧
    (∃ (s u : State) (c : Fin 3) (stall : Bool) (rs : List TraceRec), s.get (ACQ_CHZ.STATE c.val) = 1 ∧ s.takeLost 0 false (fun w => 8 * s.clk.up < w.2) = (rs, u)) ∧
    (∃ (s : State) (c : Fin 3) (f : Fin 2), s.get (ACQ_STAT.CHZ f.val) = 3 ∧ s.get (ACQ_CHZ.STATE c.val) = 0 ∧ s.on (PRB_CYC.EN f.val) = true ∧ (s.acq f.val).unserved = false ∧ (∀ t, (s.acq f.val).failAt = some t → t + 100000 ≤ s.clk.up)) :=
  ⟨⟨(st [(ACQ_STAT.CHZ 0, 0)]), 0, 0, by decide⟩,
   ⟨(st [(ACQ_CHZ.STATE 0, 3)]), 0, by decide⟩,
   ⟨(fun s : State => s.setChz 0 { s.chz 0 with suspect := none }) (st [(ACQ_CHZ.STATE 0, 3)]), 0, (by decide)⟩,
   ⟨(st [(ACQ_CHZ.STATE 0, 1)]), _, 0, false, _, ⟨by decide, rfl⟩⟩,
   ⟨(late ((fun s : State => s.setAcq 0 { s.acq 0 with unserved := false }) (st [(ACQ_STAT.CHZ 0, 3), (ACQ_CHZ.STATE 0, 0), (PRB_CYC.EN 0, 1)]))), 0, 0, ⟨by decide, (by decide), by decide, by decide, none_all rfl⟩⟩⟩

theorem wit_AcquisitionCommands :
    (∃ (s : State) (f : Fin 2) (y : Bool) (o : IqObs), (s.iqLive f.val = false ∨ o.ovr = true ∨ o.power ≤ -40)) ∧
    (∃ (s u : State) (f : Fin 2) (y : Bool) (o : IqObs), s.iqLive f.val = true ∧ o.ovr = false ∧ ¬ o.power ≤ -40 ∧ u = s.put (ACQ_IQSD.IMG (iqIdx f.val y)) (min 99 o.img) ∧ u.get (iqFld f.val y) = 2 ∧ iqOut o.est ≠ 0) ∧
    (∃ (s u : State) (f : Fin 2) (y : Bool) (o : IqObs), s.iqLive f.val = true ∧ o.ovr = false ∧ ¬ o.power ≤ -40 ∧ u = s.put (ACQ_IQSD.IMG (iqIdx f.val y)) (min 99 o.img) ∧ u.get (iqFld f.val y) = 2 ∧ iqOut o.est = 0 ∧ 50 ≤ o.img) ∧
    (∃ (s : State) (f : Fin 2) (y : Bool), s.iqLive f.val = true ∧ s.get (iqFld f.val y) = 3) ∧
    (∃ (s : State) (f : Fin 2) (y : Bool), s.iqLive f.val = true ∧ s.get (iqFld f.val y) = 2) ∧
    (∃ (s : State) (n a : Nat) (volts : List (List Rat)), s.snap.capture = some (n, a)) :=
  ⟨⟨State.reset, 0, false, dIqO, by decide⟩,
   ⟨(st [(PRB_STAT.FSTATE 0, 3), (ACQ_STAT.CHZ 0, 0), (ACQ_CFG.IQ_EN 0, 1), (ACQ_STAT.IQX 0, 2)]), _, 0, false, ⟨⟨0, 30000, 0, 0, 0⟩, false, 0, 0⟩, ⟨by decide, (by decide), by decide, rfl, by decide, (by decide)⟩⟩,
   ⟨(st [(PRB_STAT.FSTATE 0, 3), (ACQ_STAT.CHZ 0, 0), (ACQ_CFG.IQ_EN 0, 1), (ACQ_STAT.IQX 0, 2)]), _, 0, false, ⟨dIq, false, 0, 60⟩, ⟨by decide, by decide, (by decide), rfl, by decide, by decide, (by decide)⟩⟩,
   ⟨(st [(PRB_STAT.FSTATE 0, 3), (ACQ_STAT.CHZ 0, 0), (ACQ_CFG.IQ_EN 0, 1), (ACQ_STAT.IQX 0, 3)]), 0, false, by decide⟩,
   ⟨(st [(PRB_STAT.FSTATE 0, 3), (ACQ_STAT.CHZ 0, 0), (ACQ_CFG.IQ_EN 0, 1), (ACQ_STAT.IQX 0, 2)]), 0, false, by decide⟩,
   ⟨({ State.reset with snap := { State.reset.snap with capture := some 0 } } : State), 0, 0, [], (by decide)⟩⟩

theorem wit_AcousticHealthCommands :
    (∃ (s : State) (f : Fin 2) (n : Nat) (v : TraceVolts), (s.fib f.val).traces.find? (fun r => r.cycle = n) = none) ∧
    (∃ (s : State) (f : Fin 2) (bin drop cycle : Nat), drop ≤ 0xFFFF) ∧
    (∃ (s : State) (f : Fin 2) (how cycle : Nat), s.on (ACU_BRK.OPEN f.val) = true) ∧
    (∃ (s u : State) (f : Fin 2) (n m o : Nat), s.norefShots f.val = (n, m, o) ∧ u = s.put (ACU_HLTH.NOREF f.val) (share m n) ∧ u.get (ACU_REF.STATE f.val) = 1 ∧ n < 2 * m) ∧
    (∃ (s u : State) (f : Fin 2) (n m o : Nat), s.norefShots f.val = (n, m, o) ∧ u = s.put (ACU_HLTH.NOREF f.val) (share m n) ∧ u.get (ACU_REF.STATE f.val) = 2 ∧ n ≠ 0 ∧ 10 * m ≤ n) ∧
    (∃ (s u : State) (f : Fin 2) (m : Int), s.aliasTenths f.val = some m ∧ u = s.puti (ACU_HLTH.ALIAS_M f.val) (satS 12 m) ∧ u.on (ACU_STAT.ALIAS f.val) = false) ∧
    (∃ (s u : State) (f : Fin 2) (m : Int) (t : Nat), s.aliasTenths f.val = some m ∧ (s.aco f.val).aliasOk = some t ∧ t + 10000000000 ≤ s.clk.up ∧ u = s.puti (ACU_HLTH.ALIAS_M f.val) (satS 12 m) ∧ u.on (ACU_STAT.ALIAS f.val) = true) :=
  ⟨⟨State.reset, 0, 0, dVolts, by decide⟩,
   ⟨State.reset, 0, 0, 0, 0, by decide⟩,
   ⟨(st [(ACU_BRK.OPEN 0, 1)]), 0, 0, 0, (by decide)⟩,
   ⟨(let s := st [(ACU_REF.STATE 0, 1)]; s.setAco 0 { s.aco 0 with shots := [(0, true, false)] }), _, 0, 1, 1, 0, ⟨by decide, rfl, by decide, (by decide)⟩⟩,
   ⟨(let s := st [(ACU_REF.STATE 0, 2)]; s.setAco 0 { s.aco 0 with shots := [(0, false, false)] }), _, 0, 1, 0, 0, ⟨by decide, rfl, by decide, (by decide), by decide⟩⟩,
   ⟨(let s := st []; s.setAco 0 { s.aco 0 with alias_ := [(0, 1, 1)] }), _, 0, _, ⟨alias_some _ _ (by decide), rfl, (on_puti _ _ _ _ (by decide)).trans (by decide)⟩⟩,
   ⟨(let s := { st [(ACU_STAT.ALIAS 0, 1)] with clk := ⟨10000000000, 0, 0, 0⟩ }; s.setAco 0 { s.aco 0 with alias_ := [(9999999999, 1, 1)], aliasOk := some 0 }), _, 0, _, 0, ⟨alias_some _ _ (by decide), by decide, (by decide), rfl, (on_puti _ _ _ _ (by decide)).trans (by decide)⟩⟩⟩

theorem wit_ZoneCommands :
    (∃ (s : State) (f : Fin 2) (z : Fin 256), (s.zone f.val z.val).state = 2 ∧ 500000000 ≤ (s.zproc f.val z.val).seen ∧ s.fibreServed f.val = true ∧ s.iqReady f.val = true) ∧
    (∃ (s : State) (f : Fin 2) (z : Fin 256) (t : Tally), t = (s.zproc f.val z.val).lastSecond s.clk.up ∧ (s.zone f.val z.val).state = 3 ∧ (s.zone f.val z.val).degraded = false ∧ (s.iqHeld f.val = true ∨ s.cfg.sens.nat 3 4 0x08C [f.val, z.val] * t.all < 100 * t.bad)) ∧
    (∃ (s : State) (f : Fin 2) (z : Fin 256) (t : Tally), t = (s.zproc f.val z.val).lastSecond s.clk.up ∧ (s.zone f.val z.val).state = 3 ∧ (s.zone f.val z.val).degraded = true ∧ s.iqHeld f.val = false ∧ 100 * t.bad ≤ s.cfg.sens.nat 3 4 0x08C [f.val, z.val] * t.all) ∧
    (∃ (s : State) (f : Fin 2) (z : Fin 256) (x : ZoneProc), (s.zone f.val z.val).state = 3 ∧ s.events = [] ∧ s.cfg.sens.zoneDets f.val z.val = [] ∧ x = { s.zproc f.val z.val with levels := (s.clk.up, (s.zproc f.val z.val).formLevels (s.zonePar f.val z.val) (s.cfg.sens.cellCount f.val z.val) s.clk.up) :: recent s.clk.up 600000000000 (s.zproc f.val z.val).levels, dets := [] }) ∧
    (∃ (s u : State) (f : Fin 2) (z : Fin 256) (d j : Nat) (c : ClusterRun), u = s.setZone f.val z.val { s.zone f.val z.val with openTimes := ((s.zone f.val z.val).openTimes.filter (fun t => s.clk.up < t + 6000000000)) ++ [s.clk.up] } ∧ (recentOpens s.clk.up (u.zone f.val z.val)).length ≤ s.cfg.sens.nat 3 4 0x08B [f.val, z.val] ∧ ((u.zoneList f.val).map (fun z => (recentOpens s.clk.up (u.zone f.val z)).length)).sum < s.cfg.sens.nat 3 1 0x048 [f.val] ∧ (s.events.filter (fun e => e.fibre = f.val)).length < 256 ∧ (u.zone f.val z.val).storm = false ∧ j = s.cfg.sens.nat 4 7 0x042 [f.val, d]) ∧
    (∃ (s : State) (f : Fin 2) (z : Fin 256), (s.zone f.val z.val).storm = true ∧ (s.zone f.val z.val).stormSince + 5000000000 ≤ s.clk.up ∧ (if (s.zone f.val z.val).stormWhy = 2 then s.stormQuiet f.val (s.zoneList f.val) (s.cfg.sens.nat 3 1 0x048 [f.val]) else s.stormQuiet f.val [z.val] (s.cfg.sens.nat 3 4 0x08B [f.val, z.val])) = true) ∧
    (∃ (s : State) (f : Fin 2) (obs : List TrackObs) (cands : List TrackCand), s.fibreServed f.val = false) ∧
    (∃ (s u : State) (f : Fin 2) (cands : List TrackCand), s.fibreServed f.val = true ∧ (s.acuFib f.val).tracks = [] ∧ u = (s.mergeTracks f.val).setAcuFib f.val { (s.mergeTracks f.val).acuFib f.val with trackedAt := (s.mergeTracks f.val).clk.up }) ∧
    (∃ (s : State) (f : Fin 2) (c : TrackCand) (z : Nat), s.trackZone f.val 256 c.pos = some z ∧ (s.zone f.val z).state = 3 ∧ s.inGate c.speed = true ∧ (s.acuFib f.val).tracks.length < 64) :=
  ⟨⟨(let s := (let s := st [(PRB_STAT.FSTATE 0, 3), (ACQ_STAT.CHZ 0, 0), (ACQ_STAT.IQX 0, 2), (ACQ_STAT.IQY 0, 2)]; s.setZone 0 0 { Zone.reset with state := 2 }); s.setZproc 0 0 { ZoneProc.reset with seen := 500000000 }), 0, 0, by decide⟩,
   ⟨(let s := st [(ACQ_STAT.IQX 0, 3)]; s.setZone 0 0 { Zone.reset with state := 3 }), 0, 0, ⟨0, 0, 0, 0⟩, by decide⟩,
   ⟨(let s := State.reset; s.setZone 0 0 { Zone.reset with state := 3, degraded := true }), 0, 0, ⟨0, 0, 0, 0⟩, (by decide)⟩,
   ⟨(let s := State.reset; s.setZone 0 0 { Zone.reset with state := 3 }), 0, 0, _, ⟨by decide, by decide, no_dets _ _ _ rfl, rfl⟩⟩,
   ⟨(State.reset |> sensP [(⟨3, 1, 0x048, [0]⟩, 1), (⟨3, 4, 0x08B, [0, 0]⟩, 1)] [] []), _, 0, 0, 0, _, ⟨0, 0, 0, false⟩, ⟨rfl, (by decide), by decide, by decide, (by decide), rfl⟩⟩,
   ⟨(let s := ({ State.reset with clk := ⟨6000000000, 0, 0, 0⟩ } |> sensP [(⟨3, 4, 0x08B, [0, 0]⟩, 1)] [] []); s.setZone 0 0 { Zone.reset with storm := true }), 0, 0, by decide⟩,
   ⟨(State.reset.setZone 0 0 { Zone.reset with state := 3 }), 0, [], [], by decide⟩,
   ⟨(st [(PRB_STAT.FSTATE 0, 3), (ACQ_STAT.CHZ 0, 0), (ACQ_STAT.IQX 0, 2), (ACQ_STAT.IQY 0, 2)]), _, 0, [], ⟨(by decide), by decide, rfl⟩⟩,
   ⟨(let s := (State.reset |> sensP [(⟨3, 4, 0x089, [0, 0]⟩, 1), (⟨3, 4, 0x082, [0, 0]⟩, 10), (⟨3, 0, 0x049, []⟩, 1), (⟨3, 0, 0x069, []⟩, 10000)] [] [⟨3, 4, 0, [0, 0]⟩]); s.setZone 0 0 { Zone.reset with state := 3 }), 0, ⟨0, 100⟩, 0, by decide +kernel⟩⟩

theorem wit_PermitCommands :
    (∃ (s : State) (l : Nat), s.linkQualifies l = true ∧ s.on (linkFld l) = false) ∧
    (∃ (s : State) (l : Fin 64), (s.link l.val).permitOut = true ∧ s.lnk.absent = false) ∧
    (∃ (s u : State) (l : Fin 64), (s.link l.val).revokeOut = true ∧ s.lnk.absent = false ∧ u = s.setLink l.val { s.link l.val with revokeOut := false, permitOut := false }) ∧
    (∃ (s : State) (l : Fin 64), s.permitFresh l.val = false) ∧
    (∃ (s : State) (l : Fin 64), s.permitFresh l.val = true) ∧
    (∃ (s : State) (h : Nat), s.dimPermitted h = true) :=
  ⟨⟨({ ({ State.reset with links := [(0, ⟨false, some 0, some 0, false, false⟩)] } |> sensP [(⟨11, 0, 0x084, []⟩, 1)] [] [⟨3, 6, 0, [0]⟩]) with clk := ⟨60000000000, 0, 0, 0⟩ } : State), 0, by decide⟩,
   ⟨(fun s : State => s.setLink 0 { s.link 0 with permitOut := true }) (({ State.reset with lnk := { State.reset.lnk with absent := false } } : State)), 0, by decide⟩,
   ⟨(fun s : State => s.setLink 0 { s.link 0 with revokeOut := true }) (({ State.reset with lnk := { State.reset.lnk with absent := false } } : State)), _, 0, ⟨(by decide), by decide, rfl⟩⟩,
   ⟨State.reset, 0, by decide⟩,
   ⟨({ State.reset with links := [(0, ⟨false, none, some 0, false, false⟩)] } : State), 0, (by decide)⟩,
   ⟨(({ State.reset with links := [(0, ⟨false, some 0, some 0, false, false⟩)] } : State) |> sigP [(⟨11, 0, 0x084, []⟩, 1), (⟨3, 6, 0x0C1, [0]⟩, 0)] [] [⟨6, 0x0F, 0, [0]⟩, ⟨3, 6, 0, [0]⟩]), 0, by decide⟩⟩

theorem wit_TemperatureCommands :
    (∃ (s : State) (f : Fin 2) (as st : List Rat), s.darkUsable f.val = true) ∧
    (∃ (s : State) (f : Fin 2), (s.tmp f.val).dark = false) ∧
    (∃ (s : State) (f : Fin 2) (t : Rat), s.anchorT f.val = .ok t ∧ s.gammaT f.val t = none ∧ (∀ z ∈ s.zoneList f.val, s.fusedCells f.val z = [])) ∧
    (∃ (s : State) (f : Fin 2) (why : Nat), s.anchorT f.val = .error why ∧ s.get (TMP_STAT.ANCH f.val) = 1) ∧
    (∃ (s : State) (f : Fin 2) (z c : Nat) (r : Rat), s.cellRaman f.val z c = some r ∧ (s.cell f.val z c).state = 1 ∧ s.get (TMP_STAT.ANCH f.val) = 1) ∧
    (∃ (s : State) (f : Fin 2), s.get (TMP_STAT.ANCH f.val) = 2) ∧
    (∃ (s : State) (f : Fin 2), s.cfg.sens.flag 5 0 0x04B [] = true ∧ 10 ≤ (s.fitCells f.val).length) ∧
    (∃ (s : State) (f : Fin 2) (z c : Nat), s.zoneList f.val = [z] ∧ s.fusedCells f.val z = [c] ∧ (s.cell f.val z c).acc ≠ [] ∧ (s.cell f.val z c).state = 2) ∧
    (∃ (s : State) (f : Fin 2) (z : Fin 256) (c : Fin 4096) (cause : Fin 3), (s.cell f.val z.val c.val).state = 2 ∧ (cause = 0 → (s.zone f.val z.val).state = 2) ∧ (cause = 1 → s.get (ACU_REF.STATE f.val) = 2 ∧ ∃ t, (s.aco f.val).refLost = some t ∧ t + 60000000000 ≤ s.clk.up) ∧ (cause = 2 → s.cellDead f.val z.val c.val = true)) :=
  ⟨⟨(let s := State.reset; s.setTmp 0 { s.tmp 0 with edge := some 20000 }), 0, [], [], by decide⟩,
   ⟨(fun s : State => s.setTmp 0 { s.tmp 0 with dark := false }) State.reset, 0, by decide⟩,
   ⟨(let s := (let s := st [(ACU_REF.LEN 0, 1), (TMP_COIL.CHA_EN 0, 1), (AUX_CFG.TABLE 0, 1), (AUX_CFG.UNIT 0, 0), (TMP_CFG.TAU_R, 10)]; s.setTmp 0 { s.tmp 0 with traces := [(0, [⟨1, 1, false⟩])] }); s.setAux 0 { s.aux 0 with vals := [⟨0, some 0, false⟩] }), 0, (27315 / 100), ⟨(by decide +kernel), by decide, by decide⟩⟩,
   ⟨(st [(TMP_STAT.ANCH 0, 1)]), 0, 3, (by decide)⟩,
   ⟨(let s := (let s := (st [(TMP_STAT.ANCH 0, 1)] |> sensP [(⟨3, 4, 0x081, [0, 0]⟩, 0), (⟨3, 4, 0x082, [0, 0]⟩, 0), (⟨3, 4, 0x084, [0, 0]⟩, 1)] [] []); s.setTmp 0 { s.tmp 0 with profile := [(0, 1000)] }); s.setCell 0 0 0 { Cell.reset with state := 1 }), 0, 0, 0, 1, by decide +kernel⟩,
   ⟨(st [(TMP_STAT.ANCH 0, 2)]), 0, by decide⟩,
   ⟨(let s := ({ State.reset with cells := (List.range 10).map (fun c => (c, { Cell.reset with state := 2, fits := [(0, 0, 0), (0, 2, 0)] })) } |> sensP [(⟨5, 0, 0x04B, []⟩, 1)] [] []); s.setTmp 0 { s.tmp 0 with updates := [0, 0] }), 0, (by decide +kernel)⟩,
   ⟨(let s := (State.reset |> sensP [(⟨3, 4, 0x081, [0, 0]⟩, 0), (⟨3, 4, 0x082, [0, 0]⟩, 0), (⟨3, 4, 0x084, [0, 0]⟩, 1)] [(⟨5, 1, 0x04C, [0]⟩, [0])] [⟨3, 4, 0, [0, 0]⟩]); s.setCell 0 0 0 { Cell.reset with state := 2, acc := [(0, 0)] }), 0, 0, 0, by decide +kernel⟩,
   ⟨(let s := (let s := State.reset; s.setZone 0 0 { Zone.reset with state := 2 }); s.setCell 0 0 0 { Cell.reset with state := 2 }), 0, 0, 0, 0, ⟨by decide, fun _ => (by decide), fun h => absurd h (by decide), fun h => absurd h (by decide)⟩⟩⟩

theorem wit_AuxiliaryCommands :
    (∃ (s : State) (c : Fin 8) (a b : AuxConv), s.get (AUX_STAT.STATE c.val) ≠ 0 ∧ 0 < (s.aux c.val).discard) ∧
    (∃ (s : State) (c : Fin 8) (a b : AuxConv), s.get (AUX_STAT.STATE c.val) = 2 ∧ (s.aux c.val).discard = 0) ∧
    (∃ (s : State) (c : Fin 8) (code : Int), s.get (AUX_STAT.STATE c.val) = 2 ∧ s.get (AUX_CFG.TABLE c.val) = 0) ∧
    (∃ (s : State) (c : Fin 8) (code : Int), s.get (AUX_STAT.STATE c.val) = 2) ∧
    (∃ (s : State) (c : Fin 8) (us : Nat), s.get (AUX_STAT.STATE c.val) ≠ 0) ∧
    (∃ (s : State) (c : Fin 8) (cause : Fin 3), cause ≠ 0 ∧ 2 ≤ s.get (AUX_CFG.TYPE c.val) ∧ s.get (AUX_STAT.STATE c.val) ≠ 0 ∧ s.get (AUX_STAT.STATE c.val) ≠ 3) ∧
    (∃ (s : State) (c : Fin 8), s.get (AUX_CFG.TYPE c.val) = 1 ∧ s.get (AUX_CFG.BO c.val) ≠ 0 ∧ s.get (AUX_STAT.STATE c.val) ≠ 0 ∧ s.get (AUX_STAT.STATE c.val) ≠ 3) ∧
    (∃ (s : State) (c : Fin 8), s.get (AUX_STAT.STATE c.val) = 3) ∧
    (∃ (s : State) (c : Nat) (t : List Nat), s.get AUX_STAT.MODE ≠ 0 ∧ s.excited = c :: t ∧ s.dwell = none) ∧
    (∃ (s : State) (c : Fin 8) (o : Nat × Bool) (rest : List (Nat × Bool)), s.get (AUX_STAT.STATE c.val) ≠ 3 ∧ (∀ t, (s.aux c.val).ovrAt = some t → t + 1000000000 ≤ s.clk.up) ∧ (recent s.clk.up 1000000000 (s.aux c.val).ovrs).reverse = o :: rest) :=
  ⟨⟨((st [(AUX_STAT.STATE 0, 1)]).setAux 0 { AuxCh.reset with discard := 1 }), 0, dConv, dConv, by decide⟩,
   ⟨(fun s : State => s.setAux 0 { s.aux 0 with discard := 0 }) (st [(AUX_STAT.STATE 0, 2)]), 0, dConv, dConv, by decide⟩,
   ⟨(st [(AUX_STAT.STATE 0, 2), (AUX_CFG.TABLE 0, 0)]), 0, 0, (by decide)⟩,
   ⟨(st [(AUX_STAT.STATE 0, 2)]), 0, 0, by decide⟩,
   ⟨(st [(AUX_STAT.STATE 0, 1)]), 0, 0, by decide⟩,
   ⟨(st [(AUX_STAT.STATE 0, 1), (AUX_CFG.TYPE 0, 2)]), 0, 1, (by decide)⟩,
   ⟨(st [(AUX_CFG.TYPE 0, 1), (AUX_CFG.BO 0, 1), (AUX_STAT.STATE 0, 1)]), 0, by decide⟩,
   ⟨(st [(AUX_STAT.STATE 0, 3)]), 0, by decide⟩,
   ⟨(st [(AUX_STAT.MODE, 1), (AUX_CFG.TYPE 0, 2)]), 0, [], (by decide)⟩,
   ⟨(let s := State.reset; s.setAux 0 { s.aux 0 with ovrs := [(0, true)] }), 0, (0, true), [], ⟨by decide, none_all rfl, by decide⟩⟩⟩

theorem wit_PlainWriteCommands :
    (∃ (s : State) (a v : Word) (r : RegRow), s.answers a.toNat = true ∧ regRow a.toNat = some r ∧ r.access = .rw ∧ a.toNat ≠ ACQ_SNAP_CTL ∧ a.toNat ≠ MOS_RSEL) ∧
    (∃ (s : State) (a v : Word) (r : RegRow), s.answers a.toNat = true ∧ regRow a.toNat = some r ∧ r.access = .rw1c) ∧
    (∃ (s : State) (a v : Word) (r : RegRow), s.answers a.toNat = true ∧ regRow a.toNat = some r ∧ r.access = .wo) ∧
    (∃ (s : State) (a v : Word) (r : RegRow), regRow a.toNat = some r ∧ (r.access = .ro ∨ r.access = .sig)) ∧
    (∃ (s : State) (a v : Word), regRow a.toNat = none) ∧
    (∃ (s : State) (i : Fin 8) (n : Nat), s.answers (lowerWord i.val) = true ∧ s.notYet (lowerWord i.val) = false ∧ s.live64 (lowerWord i.val) = some n) ∧
    (∃ (s : State) (i : Fin 8) (n : Nat), s.answers (lowerWord i.val) = true ∧ s.notYet (lowerWord i.val) = false ∧ s.live64 (lowerWord i.val) = some n) :=
  ⟨⟨(inMode .hold State.reset), 0x20008, 0, ((regRow 0x20008).getD dRow), by decide⟩,
   ⟨(inMode .hold State.reset), 0x20004, 0, ((regRow 0x20004).getD dRow), by decide⟩,
   ⟨(inMode .hold State.reset), 0x200A8, 0, ((regRow 0x200A8).getD dRow), (by decide)⟩,
   ⟨(inMode .hold State.reset), 0x10000, 0, ((regRow 0x10000).getD dRow), by decide⟩,
   ⟨State.reset, 0x20003, 0, by decide⟩,
   ⟨(inMode .hold State.reset), 0, 0, (by decide)⟩,
   ⟨(inMode .hold State.reset), 0, 0, by decide⟩⟩

theorem wit_DieLinkCommands :
    (∃ (s : State), s.md.mode ≠ .reset ∧ s.lnk.absent = false ∧ s.lnk.beatAt + 20000000 ≤ s.clk.up ∧ (∀ l < 64, (s.link l).permitAt = none) ∧ s.get CFG_STAT.SWSTATE = 0) ∧
    (∃ (s : State), s.lnk.absent = true ∧ s.dieSpeaks = true ∧ s.lnk.beats < 2) ∧
    (∃ (s : State), s.lnk.absent = true ∧ s.dieSpeaks = true ∧ 2 ≤ s.lnk.beats ∧ s.flt.waitLink = []) ∧
    (∃ (s : State) (w : FaultRec) (ws : List FaultRec), s.lnk.absent = true ∧ s.dieSpeaks = true ∧ 2 ≤ s.lnk.beats ∧ s.flt.waitLink = w :: ws ∧ s.due.safe = none ∧ s.md.mode = .family) ∧
    (∃ (s : State), s.lnk.absent = false ∧ s.dieSpeaks = true) ∧
    (∃ (s : State), s.clk.up < s.lnk.beatAt + 20000000) ∧
    (∃ (s : State), s.lnk.absent = false ∧ s.get PRB_STAT.TB ≠ 0) ∧
    (∃ (s : State) (r : List Byte), s.spi.waiting = some r) :=
  ⟨⟨(late (({ inMode .hold (st [(CFG_STAT.SWSTATE, 0)]) with lnk := { State.reset.lnk with absent := false } } : State))), by decide⟩,
   ⟨({ State.reset with lnk := { State.reset.lnk with absent := true } } : State), by decide⟩,
   ⟨({ State.reset with lnk := ⟨true, 2, 0, 0⟩ } : State), (by decide)⟩,
   ⟨({ inMode .family State.reset with lnk := ⟨true, 2, 0, 0⟩, flt := { State.reset.flt with waitLink := [dFR] } } : State), dFR, [], by decide⟩,
   ⟨({ State.reset with lnk := { State.reset.lnk with absent := false } } : State), by decide⟩,
   ⟨State.reset, (by decide)⟩,
   ⟨({ st [(PRB_STAT.TB, 1)] with lnk := { State.reset.lnk with absent := false } } : State), by decide⟩,
   ⟨({ State.reset with spi := { State.reset.spi with waiting := some [] } } : State), [], by decide⟩⟩

theorem wit_RecordPathCommands :
    (∃ (s : State) (r : Record), s.lnk.absent = false ∧ s.recs.hold = [r] ∧ s.recs.exhausted = false) ∧
    (∃ (s : State) (src : Nat) (m : Missing), s.recs.epochOpen = true ∧ s.room src = true ∧ s.recs.missing = [m] ∧ m.source = src) ∧
    (∃ (s : State) (src n : Nat), s.recs.epochOpen = true ∧ s.recs.exhausted = false ∧ (src, n) ∈ s.recs.seqs ∧ 0xF0000000 ≤ n ∧ s.recs.epoch < 0xFFFF) ∧
    (∃ (s : State) (cause : List Byte), s.recs.epoch < 0xFEFF) :=
  ⟨⟨({ State.reset with lnk := { State.reset.lnk with absent := false }, recs := { State.reset.recs with hold := [dRec], exhausted := false } } : State), dRec, by decide⟩,
   ⟨({ State.reset with lnk := ⟨true, 0, 0, 0⟩, recs := { State.reset.recs with epochOpen := true, missing := [⟨0x8000, 0, 1, 1, 0⟩] } } : State), 0x8000, ⟨0x8000, 0, 1, 1, 0⟩, by decide⟩,
   ⟨({ State.reset with recs := { State.reset.recs with epochOpen := true, seqs := [(3, 0xF0000000)] } } : State), 3, 0xF0000000, (by decide)⟩,
   ⟨State.reset, [], by decide⟩⟩

theorem wit_TaskMoveCommands :
    (∃ (s : State) (m : Move) (u : State), s.gal.move = some m ∧ m.begun = none ∧ s.moveMay m = true ∧ s.eng m.dst = 0 ∧ u = ({ s with gal := { s.gal with move := some { m with begun := some (match (s.task m.task).fibre with | some f => s.cycle f | none => s.clk.up / 1000000) } } } : State).setTask m.task { s.task m.task with state := 2 }) ∧
    (∃ (s : State) (m : Move) (n : Nat), s.gal.move = some m ∧ m.begun = some n ∧ m.reason = 1) ∧
    (∃ (s : State) (m : Move) (n c : Nat), s.gal.move = some m ∧ m.begun = some n ∧ s.gal.suspects = [] ∧ s.eng m.dst = 2) ∧
    (∃ (s : State) (m : Move), s.gal.move = some m ∧ m.begun = none ∧ m.deferred = false ∧ s.moveMay m = false) ∧
    (∃ (s : State) (e : Fin 20) (cause : Nat), (s.eng e.val = 1 ∨ s.eng e.val = 2)) ∧
    (∃ (s : State) (t e : Nat) (formed : List Nat) (u : State), s.stranded = [t] ∧ s.restartOn = some e ∧ u = ((s.put (GAL_ENG.STATE e) 1).setTask t { s.task t with engine := e, state := 1 })) ∧
    (∃ (s : State) (t f : Nat) (formed : List Nat) (u : State), s.stranded = [t] ∧ s.restartOn = none ∧ (s.task t).fibre = some f ∧ u = s.zonesInvalid f 0x02 (s.get (PRB_STAT.FSTATE f))) :=
  ⟨⟨({ State.reset with gal := { State.reset.gal with move := some dMove } } : State), dMove, _, ⟨by decide, by decide, (by decide), by decide, rfl⟩⟩,
   ⟨({ State.reset with gal := { State.reset.gal with move := some ⟨0, 0, 1, 1, some 0, false⟩ } } : State), ⟨0, 0, 1, 1, some 0, false⟩, 0, by decide⟩,
   ⟨({ st [(GAL_ENG.STATE 1, 2)] with gal := { State.reset.gal with move := some ⟨0, 0, 1, 1, some 0, false⟩ } } : State), ⟨0, 0, 1, 1, some 0, false⟩, 0, 0, (by decide)⟩,
   ⟨({ st [(CFG_STAT.SWSTATE, 1)] with gal := { State.reset.gal with move := some dMove } } : State), dMove, by decide⟩,
   ⟨(st [(GAL_ENG.STATE 0, 1)]), 0, 0, by decide +kernel⟩,
   ⟨({ st [(GAL_STAT.RESERVE, 0)] with gal := { State.reset.gal with tasks := [(5, ⟨0, some 0, 0, 0, 3⟩)] } } : State), 5, 1, [], _, ⟨(by decide), by decide, rfl⟩⟩,
   ⟨({ (State.reset.puts ((List.range 20).map (fun e => (GAL_ENG.STATE e, 1)))) with gal := { State.reset.gal with tasks := [(5, ⟨0, some 0, 0, 0, 3⟩)] } } : State), 5, 0, [], _, ⟨by decide, (by decide +kernel), by decide, rfl⟩⟩⟩

theorem wit_PlannerCommands :
    (∃ (s : State) (u : Fin 23) (util : Nat) (tj : Int), 10 * s.get GAL_POLICY.ALARM + util ≤ 1000) ∧
    (∃ (s : State) (mv : Nat), s.gal.stairOff = false ∧ 900 < mv) ∧
    (∃ (s : State) (mv : Nat), s.gal.stairOff = false ∧ mv + 30 < 720 + 10 * s.get GAL_STAIR.SET) ∧
    (∃ (s : State) (o : PlanObs), s.plannerRuns = true ∧ s.gal.move = none ∧ s.get CFG_STAT.SWSTATE = 0 ∧ s.planUnits = []) ∧
    (∃ (s : State) (o : PlanObs), s.plannerRuns = true ∧ s.gal.move = none ∧ s.get CFG_STAT.SWSTATE = 0 ∧ s.planUnits = []) ∧
    (∃ (s : State) (o : PlanObs) (worst : Nat) (smin : Rat), s.plannerRuns = true ∧ s.gal.move = none ∧ s.get CFG_STAT.SWSTATE = 0 ∧ lowest (s.planUnits.map (fun u => (u, s.predicted o u))) = some (worst, smin) ∧ smin < (s.get GAL_POLICY.TARGET : Nat) / 100 ∧ s.get GAL_STAT.STEP < 14 ∧ s.gal.stairLow = false ∧ s.stairMay = true) ∧
    (∃ (s : State) (o : PlanObs) (u : Nat) (slack : Rat), s.plannerRuns = true ∧ s.slackNow = some (u, slack) ∧ slack < 10 * s.get GAL_POLICY.ALARM ∧ slack < 100 ∧ s.get GAL_STAT.STEP < 14 ∧ s.gal.stairLow = false ∧ s.stairMay = true) :=
  ⟨⟨State.reset, 0, 0, 0, by decide⟩,
   ⟨({ State.reset with gal := { State.reset.gal with stairOff := false } } : State), 901, by decide⟩,
   ⟨({ State.reset with gal := { State.reset.gal with stairOff := false } } : State), 0, (by decide)⟩,
   ⟨(inMode .hold State.reset), ⟨[], [], []⟩, by decide⟩,
   ⟨(inMode .hold State.reset), ⟨[], [], []⟩, by decide⟩,
   ⟨({ inMode .hold (st [(GAL_ENG.STATE 0, 1), (GAL_POLICY.TARGET, 10)]) with gal := { State.reset.gal with peaks := [(0, 1000)] } } : State), ⟨[], [], []⟩, 0, 0, ⟨(by decide), by decide, by decide, (by decide +kernel), by decide +kernel, by decide, (by decide)⟩⟩,
   ⟨({ inMode .hold (st [(GAL_ENG.STATE 0, 1), (GAL_POLICY.ALARM, 5)]) with gal := { State.reset.gal with wins := [(0, [1000])] } } : State), ⟨[], [], []⟩, 0, 0, ⟨by decide, by decide +kernel, (by decide +kernel), by decide +kernel, by decide, (by decide)⟩⟩⟩

theorem wit_ProfileStoreCommands :
    (∃ (s : State) (slot : Fin 4) (len : Nat), 1 ≤ len ∧ len ≤ 4194304 ∧ s.slotBusy slot.val = false ∧ s.get CFG_XFER_STAT.STATE ≠ 1 ∧ s.get CFG_XFER_STAT.STATE ≠ 2) ∧
    (∃ (s : State) (w : Word), s.get CFG_XFER_STAT.STATE = 1) ∧
    (∃ (s : State) (w : Word), s.get CFG_XFER_STAT.STATE ≠ 1) ∧
    (∃ (s : State), s.get CFG_XFER_STAT.STATE = 1) ∧
    (∃ (s : State), (s.get CFG_XFER_STAT.STATE = 1 ∨ s.get CFG_XFER_STAT.STATE = 2)) ∧
    (∃ (s : State), s.get CFG_XFER_STAT.STATE = 2 ∧ s.cfg.xfer.length ≠ s.get CFG_XFER_CTL.LENGTH) ∧
    (∃ (s : State), s.get CFG_XFER_STAT.STATE = 2 ∧ s.cfg.xfer.length = s.get CFG_XFER_CTL.LENGTH) ∧
    (∃ (s : State) (slot : Fin 4), s.slotBusy slot.val = false) ∧
    (∃ (s : State), s.get CFG_STAT.ACTIVE < 4 ∧ s.get CFG_ROLLBACK.VALUE < leAt (s.slot (s.get CFG_STAT.ACTIVE)).bytes 16 4) :=
  ⟨⟨(st [(CFG_XFER_STAT.STATE, 0), (CFG_XFER_STAT.STATE, 0)]), 0, 64, by decide⟩,
   ⟨(st [(CFG_XFER_STAT.STATE, 1)]), 0, by decide⟩,
   ⟨(st [(CFG_XFER_STAT.STATE, 0)]), 0, (by decide)⟩,
   ⟨(st [(CFG_XFER_STAT.STATE, 1)]), by decide⟩,
   ⟨(st [(CFG_XFER_STAT.STATE, 1)]), by decide⟩,
   ⟨(st [(CFG_XFER_STAT.STATE, 2), (CFG_XFER_CTL.LENGTH, 5)]), (by decide)⟩,
   ⟨(st [(CFG_XFER_STAT.STATE, 2)]), by decide⟩,
   ⟨State.reset, 0, by decide⟩,
   ⟨(({ st [(CFG_STAT.ACTIVE, 0)] with slots := [(0, ⟨2, List.replicate 24 1⟩)] } : State)), (by decide)⟩⟩

theorem wit_SwitchCommands :
    (∃ (s : State) (slot : Fin 4) (persist : Bool), s.get CFG_STAT.SWSTATE = 0 ∧ s.switchMode = true ∧ (s.slot slot.val).state = 2) ∧
    (∃ (s : State), (s.get CFG_STAT.SWSTATE = 1 ∨ s.get CFG_STAT.SWSTATE = 2)) ∧
    (∃ (s : State), s.get CFG_STAT.SWSTATE = 2 ∧ s.cfg.waitAt + s.cfg.sig.nat 11 0 0x082 [] * 1000000000 ≤ s.clk.up) ∧
    (∃ (s : State), s.get CFG_STAT.SWSTATE = 1) ∧
    (∃ (s u v : State) (p : Plane), s.cfg.shadow = some p ∧ s.get CFG_STAT.SWSTATE = 2 ∧ s.commitHolds p = true ∧ u = ((s.put CFG_STAT.SWSTATE 3).put CFG_SWITCH.WAIT_HEADS 0).bornakBefore p ∧ v = ({ u with cfg := { u.cfg with sig := p, exchanged := true, waitFirst := 0xFF, waitAt := u.clk.up - u.cfg.waitAt } } : State)) ∧
    (∃ (s : State) (p : Plane), s.cfg.shadow = some p ∧ s.get CFG_STAT.SWSTATE = 2 ∧ s.commitHolds p = false) ∧
    (∃ (s : State) (p : Plane) (f : Fin 2), s.cfg.shadow = some p ∧ s.get CFG_STAT.SWSTATE = 3 ∧ s.cfg.exchanged = true ∧ s.lnk.absent = false ∧ f.val ∉ s.cfg.probed) ∧
    (∃ (s u v : State) (p : Plane), s.cfg.shadow = some p ∧ s.get CFG_STAT.SWSTATE = 3 ∧ s.cfg.exchanged = true ∧ s.lnk.absent = false ∧ s.fibresProbed = true ∧ u = ((s.sensingExchange p).puts [(CFG_STAT.ACTIVE, s.get CFG_SWITCH.TARGET), (CFG_STAT.BYPIN, 0), (CFG_STAT.FALLBACK, 0), (CFG_STAT.STRICT, p.nat 11 0 0x081 []), (CFG_SECT.ACTIVE, (s.sensingExchange p).cfg.shadowRefused), (CFG_EVT.SWDONE, 1)]).fibresUpdate ∧ u.cfg.persist = false ∧ v = ({ u with cfg := { u.cfg with logActive := u.cfg.logLast } } : State).emit srcCfg Code.CFG_SWITCH_DONE (le 1 (s.get CFG_STAT.ACTIVE) ++ le 1 (s.get CFG_SWITCH.TARGET) ++ le 2 (min 0xFFFF (u.cfg.waitAt / 100000000)) ++ le 8 u.cfg.firstCycle)) :=
  ⟨⟨({ inMode .hold State.reset with slots := [(0, ⟨2, []⟩)] } : State), 0, false, by decide⟩,
   ⟨(st [(CFG_STAT.SWSTATE, 1)]), by decide⟩,
   ⟨(late (st [(CFG_STAT.SWSTATE, 2)])), (by decide)⟩,
   ⟨(st [(CFG_STAT.SWSTATE, 1)]), by decide⟩,
   ⟨({ st [(CFG_STAT.SWSTATE, 2)] with cfg := { State.reset.cfg with shadow := some .profileF } } : State), _, _, .profileF, ⟨by decide, (by decide), by decide, rfl, rfl⟩⟩,
   ⟨({ st [(CFG_STAT.SWSTATE, 2), (SIO_OUT.ON, 1)] with cfg := { State.reset.cfg with shadow := some .profileF, sig := ⟨[], [], [⟨8, 0x16, 0, [0]⟩], []⟩ } } : State), .profileF, by decide⟩,
   ⟨({ st [(CFG_STAT.SWSTATE, 3)] with cfg := { State.reset.cfg with shadow := some .profileF, exchanged := true }, lnk := { State.reset.lnk with absent := false } } : State), .profileF, 0, (by decide)⟩,
   ⟨({ st [(CFG_STAT.SWSTATE, 3)] with cfg := { State.reset.cfg with shadow := some .profileF, exchanged := true }, lnk := { State.reset.lnk with absent := false } } : State), _, _, .profileF, ⟨by decide, by decide, (by decide), by decide, by decide +kernel, rfl, (by decide +kernel), rfl⟩⟩⟩

theorem wit_HeadCommands :
    (∃ (s u : State) (h v : Fin 32), u = (s.put LMP_CMD.HEAD h.val).put LMP_CMD.ASPECT v.val ∧ s.cfg.sig.hasRec 6 0x0F [h.val] = true ∧ bitOf (s.cfg.sig.nat 11 0 0x085 []) h.val = true ∧ s.cfg.sig.hasAspect h.val v.val = true) ∧
    (∃ (s : State) (h v : Fin 32), s.cfg.sig.hasRec 6 0x0F [h.val] = true ∧ bitOf (s.cfg.sig.nat 11 0 0x085 []) h.val = false) ∧
    (∃ (s : State) (h : Fin 32), s.cfg.sig.hasRec 6 0x0F [h.val] = true ∧ s.on (LMP_NIGHT.H h.val) = false) ∧
    (∃ (s : State) (h : Fin 32), s.cfg.sig.hasRec 6 0x0F [h.val] = true ∧ s.on (LMP_NIGHT.H h.val) = true) ∧
    (∃ (s : State) (h : Fin 32) (a : Nat), (s.head h.val).held = some a ∧ (s.head h.val).change = none ∧ s.dwellOver h.val = true) :=
  ⟨⟨(State.reset |> sigP [(⟨11, 0, 0x085, []⟩, 1)] [] [⟨6, 0x0F, 0, [0]⟩, ⟨6, 0x10, 0, [0, 0]⟩]), _, 0, 0, ⟨rfl, by decide, by decide, (by decide)⟩⟩,
   ⟨(State.reset |> sigP [(⟨11, 0, 0x085, []⟩, 0)] [] [⟨6, 0x0F, 0, [0]⟩]), 0, 0, by decide⟩,
   ⟨(State.reset |> sigP [] [] [⟨6, 0x0F, 0, [0]⟩]), 0, by decide⟩,
   ⟨(st [(LMP_NIGHT.H 0, 1)] |> sigP [] [] [⟨6, 0x0F, 0, [0]⟩]), 0, (by decide)⟩,
   ⟨(fun s : State => s.setHead 0 { s.head 0 with change := none }) ((fun s : State => s.setHead 0 { s.head 0 with held := some 0 }) State.reset), 0, 0, by decide⟩⟩

theorem wit_DriveCommands :
    (∃ (s : State) (n : Fin 64), s.get (LMP_CH.MODE n.val) ≠ 0 ∧ s.gatesLive = true ∧ s.periodDue n.val = true ∧ (s.chan n.val).pend = none ∧ (s.chan n.val).code = 1 ∧ (s.chan n.val).applied = 1 ∧ s.litNow n.val = true) ∧
    (∃ (s : State) (n : Fin 64), s.get (LMP_CH.MODE n.val) ≠ 0 ∧ s.gatesLive = true ∧ s.periodDue n.val = true ∧ (s.chan n.val).pend = none ∧ (s.chan n.val).code = 0 ∧ (s.chan n.val).applied = 0) ∧
    (∃ (s : State) (n : Fin 64) (r : Ramp), (s.chan n.val).ramp = some r ∧ r.due s.clk.up = true) ∧
    (∃ (s : State) (g : Fin 8) (anti : Bool), s.on (LMP_FLASH.EN g.val) = true ∧ s.gatesLive = true ∧ s.flashDue g.val anti 0 = true ∧ (s.flash (2 * g.val + b2n anti)).rephase = false ∧ (∀ n < 64, (s.chan n).code ≠ 2 + b2n anti)) ∧
    (∃ (s u : State) (g : Fin 8) (anti : Bool) (n : Nat), s.on (LMP_FLASH.EN g.val) = true ∧ s.gatesLive = true ∧ s.flashDue g.val anti 0 = true ∧ (s.flash (2 * g.val + b2n anti)).rephase = false ∧ u = s.setFlash (2 * g.val + b2n anti) { s.flash (2 * g.val + b2n anti) with on := true, rephase := false } ∧ (List.range 64).filter (fun n => (u.chan n).code = 2 + b2n anti && (u.chan n).group = g.val && u.get (LMP_CH.MODE n) ≠ 0 && (u.chan n).applied ≠ 1) = [n] ∧ (u.chan n).pend = none) ∧
    (∃ (s u : State) (g : Fin 8) (anti : Bool) (n : Nat), (s.flash (2 * g.val + b2n anti)).on = true ∧ (s.flash (2 * g.val + b2n anti)).rephase = false ∧ s.flashDue g.val anti (s.flashOnLen g.val) = true ∧ u = s.setFlash (2 * g.val + b2n anti) { s.flash (2 * g.val + b2n anti) with on := false, endedAt := s.clk.up } ∧ (List.range 64).filter (fun n => (u.chan n).applied = 2 + b2n anti && (u.chan n).group = g.val) = [n]) ∧
    (∃ (s : State) (g : Fin 8) (anti : Bool), (s.flash (2 * g.val + b2n anti)).on = true ∧ (s.flash (2 * g.val + b2n anti)).rephase = false ∧ s.flashDue g.val anti (s.flashOnLen g.val) = true ∧ (∀ n < 64, (s.chan n).applied ≠ 2 + b2n anti)) ∧
    (∃ (s : State) (n : Nat), s.on (LMP_CH.HELDOFF n) = true) :=
  ⟨⟨(((inMode .hold (st [(LMP_CH.MODE 0, 1)]))).setChan 0 { Chan.reset with code := 1, applied := 1 }), 0, by decide⟩,
   ⟨((inMode .hold (st [(LMP_CH.MODE 0, 1)]))), 0, by decide⟩,
   ⟨(fun s : State => s.setChan 0 { s.chan 0 with ramp := some dRamp }) State.reset, 0, dRamp, (by decide)⟩,
   ⟨(inMode .hold (st [(LMP_FLASH.EN 0, 1)])), 0, false, by decide⟩,
   ⟨(let s := inMode .hold (st [(LMP_FLASH.EN 0, 1), (LMP_CH.MODE 0, 1)]); s.setChan 0 { Chan.reset with code := 2 }), _, 0, false, 0, ⟨by decide, (by decide), by decide +kernel, by decide, rfl, (by decide +kernel), by decide⟩⟩,
   ⟨(let s := (let s := State.reset; s.setFlash 0 { Flash.reset with on := true }); s.setChan 0 { Chan.reset with applied := 2 }), _, 0, false, 0, ⟨by decide, (by decide), by decide +kernel, rfl, by decide +kernel⟩⟩,
   ⟨({ State.reset with flashes := [(0, ⟨true, false, 0, 0⟩)] } : State), 0, false, (by decide +kernel)⟩,
   ⟨(st [(LMP_CH.HELDOFF 0, 1)]), 0, by decide⟩⟩

theorem wit_LampTestCommands :
    (∃ (s : State) (n : Fin 64) (cur drain : Int), s.proved n.val = true ∧ s.litNow n.val = true ∧ s.litDue n.val = true ∧ s.get (LMP_CH.MODE n.val) ≠ 2 ∧ s.blanking n.val = false ∧ s.supplyLost n.val = true) ∧
    (∃ (s : State) (n : Fin 64) (cur drain : Int) (full : Bool), s.proved n.val = true ∧ s.litNow n.val = true ∧ s.litDue n.val = true ∧ let c := s.calLs n.val cur; let r := (s.regulate n.val full (codeMa c)).put (LMP_PRV.LAST n.val) (codeMa c).toNat; let u := r.setPrv n.val { r.prv n.val with lastLit := some c, litAt := some (r.chan n.val).onAt }; let v := u.setPrv n.val { u.prv n.val with run := 0 }; u.blanking n.val = false ∧ u.supplyLost n.val = false ∧ u.litCause n.val c (s.calLd n.val drain) = 0) ∧
    (∃ (s : State) (n : Fin 64) (cur drain : Int) (full : Bool), s.proved n.val = true ∧ s.litNow n.val = true ∧ s.litDue n.val = true ∧ let c := s.calLs n.val cur; let d := s.calLd n.val drain; let r := (s.regulate n.val full (codeMa c)).put (LMP_PRV.LAST n.val) (codeMa c).toNat; let u := r.setPrv n.val { r.prv n.val with lastLit := some c, litAt := some (r.chan n.val).onAt }; let why := u.litCause n.val c d; let run := (u.prv n.val).run + 1; let v := u.setPrv n.val { u.prv n.val with run := run }; let w := ((v.finding n.val 1 (why = 1)).finding n.val 2 (why = 2)).finding n.val 4 (why = 4); u.blanking n.val = false ∧ u.supplyLost n.val = false ∧ why ≠ 0) ∧
    (∃ (s u v : State) (n : Fin 64) (cur drain : Int), s.proved n.val = true ∧ s.on (LMP_CH.HELDOFF n.val) = false ∧ (s.litNow n.val = true ∨ s.get (LMP_PCFG.COLD n.val) = 2) ∧ (s.tripCode n.val : Int) < satS 16 cur ∧ u = s.setChan n.val { s.chan n.val with gateUntil := s.clk.up } ∧ v = (if s.litNow n.val = true then u.setPrv n.val { u.prv n.val with bad := [] } else u)) ∧
    (∃ (s u : State) (n : Fin 64) (cur drain : Int), s.proved n.val = true ∧ s.litNow n.val = false ∧ s.darkDue n.val = true ∧ s.supplyLost n.val = false ∧ u = s.put (LMP_PRV.LAST n.val) (codeMa (s.calLs n.val cur)).toNat) ∧
    (∃ (s : State) (n : Fin 64) (cur drain : Int), s.proved n.val = true ∧ s.get (LMP_PCFG.COLD n.val) ≠ 0 ∧ (s.chan n.val).code = 0 ∧ (s.chan n.val).applied = 0 ∧ s.on (LMP_CH.HELDOFF n.val) = false ∧ s.testPending n.val (s.get (LMP_PCFG.COLD n.val) + 1) = true ∧ (s.get (LMP_PCFG.COLD n.val) = 1 → s.darkDue n.val = true)) ∧
    (∃ (s : State) (n : Fin 64) (cur drain : Int), s.proved n.val = true ∧ s.get (LMP_PCFG.COLD n.val) ≠ 0 ∧ (s.chan n.val).code = 0 ∧ (s.chan n.val).applied = 0 ∧ s.on (LMP_CH.HELDOFF n.val) = false ∧ s.testPending n.val (s.get (LMP_PCFG.COLD n.val) + 1) = true ∧ (s.get (LMP_PCFG.COLD n.val) = 1 → s.darkDue n.val = true) ∧ s.supplyLost n.val = true) ∧
    (∃ (s : State) (n : Fin 64) (cur drain : Int), s.proved n.val = true ∧ s.get (LMP_PCFG.COLD n.val) = 1 ∧ (s.chan n.val).code = 0 ∧ (s.chan n.val).applied = 0 ∧ s.on (LMP_CH.HELDOFF n.val) = false ∧ s.testPending n.val 2 = true ∧ s.darkDue n.val = true ∧ s.supplyLost n.val = false) ∧
    (∃ (s : State) (n : Fin 64) (cur drain : Int), s.proved n.val = true ∧ 2 ≤ s.get (LMP_PCFG.COLD n.val) ∧ (s.chan n.val).code = 0 ∧ (s.chan n.val).applied = 0 ∧ s.on (LMP_CH.HELDOFF n.val) = false ∧ s.testPending n.val (s.get (LMP_PCFG.COLD n.val) + 1) = true ∧ s.supplyLost n.val = false) ∧
    (∃ (s : State) (n : Fin 64) (cur drain : Int), s.proved n.val = true ∧ (s.chan n.val).applied ≠ 0 ∧ s.on (LMP_CH.HELDOFF n.val) = false ∧ s.testPending n.val 1 = true ∧ s.on (LMP_PCFG.NBR n.val) = false ∧ s.supplyLost n.val = true) ∧
    (∃ (s : State) (n : Fin 64) (cur drain : Int) (nbrs : List NbrObs), s.proved n.val = true ∧ (s.chan n.val).applied ≠ 0 ∧ s.on (LMP_CH.HELDOFF n.val) = false ∧ s.testPending n.val 1 = true ∧ s.on (LMP_PCFG.NBR n.val) = false ∧ let c := s.calLs n.val cur; let d := s.calLd n.val drain; let u := s.testDone n.val 1; let stuck := decide (20 * (u.get (LMP_BAND.DARK n.val) : Int) < c) && u.drainLow n.val d; u.supplyLost n.val = false ∧ (u.prv n.val).lastLit = none) ∧
    (∃ (s : State) (n : Fin 64) (cur drain lit : Int) (nbrs : List NbrObs), s.proved n.val = true ∧ (s.chan n.val).applied ≠ 0 ∧ s.on (LMP_CH.HELDOFF n.val) = false ∧ s.testPending n.val 1 = true ∧ s.on (LMP_PCFG.NBR n.val) = false ∧ let c := s.calLs n.val cur; let d := s.calLd n.val drain; let u := s.testDone n.val 1; let stuck := decide (20 * (u.get (LMP_BAND.DARK n.val) : Int) < c) && u.drainLow n.val d; let frozen := decide ((c - lit).natAbs < 2) && decide ((u.get (LMP_PCFG.DRAIN n.val) : Int) * u.lvCode n.val < 100 * d); u.supplyLost n.val = false ∧ (u.prv n.val).lastLit = some lit ∧ stuck = false) ∧
    (∃ (s : State) (n : Fin 64) (cur drain : Int) (nbrs : List NbrObs), s.proved n.val = true ∧ (s.chan n.val).applied ≠ 0 ∧ s.on (LMP_CH.HELDOFF n.val) = false ∧ s.testPending n.val 1 = true) ∧
    (∃ (s u : State) (n : Fin 64) (k : Fin 4), s.proved n.val = true ∧ s.testServes n.val (k.val + 1) = true ∧ k.val + 1 ∉ (s.prv n.val).ovd ∧ s.testLate n.val (k.val + 1) = true ∧ u = (s.setPrv n.val { s.prv n.val with ovd := (s.prv n.val).ovd ++ [k.val + 1] }).ovdSync n.val) :=
  ⟨⟨({ (((inMode .hold (st [(LMP_CH.MODE 0, 1), (LMP_LV.LOST 0, 1)]))).setChan 0 { Chan.reset with code := 1, applied := 1 }) with clk := ⟨600000000000, 0, 0, 0⟩ } : State), 0, 0, 0, by decide⟩,
   ⟨(let s := ({ inMode .hold (st [(LMP_CH.MODE 0, 1), (LMP_BAND.HI 0, 100)]) with clk := ⟨600000000000, 0, 0, 0⟩ } : State); s.setChan 0 { Chan.reset with code := 1, applied := 1 }), 0, 100, 0, false, by decide +kernel⟩,
   ⟨(let s := ({ inMode .hold (st [(LMP_CH.MODE 0, 1)]) with clk := ⟨600000000000, 0, 0, 0⟩ } : State); s.setChan 0 { Chan.reset with code := 1, applied := 1 }), 0, 1, 0, false, (by decide +kernel)⟩,
   ⟨((inMode .hold (st [(LMP_CH.MODE 0, 1), (LMP_BAND.HI 0, 1)])).setChan 0 { Chan.reset with code := 1, applied := 1 }), _, _, 0, 32000, 0, ⟨by decide, by decide, (by decide +kernel), by decide +kernel, rfl, rfl⟩⟩,
   ⟨(late (inMode .hold (st [(LMP_CH.MODE 0, 1)]))), _, 0, 0, 0, ⟨by decide, (by decide), by decide +kernel, by decide, rfl⟩⟩,
   ⟨((late (inMode .hold (st [(LMP_CH.MODE 0, 1), (LMP_PCFG.COLD 0, 1)]))).setPrv 0 { Prv.reset with slots := [(2, 9), (1, 9), (3, 9)] }), 0, 0, 0, (by decide +kernel)⟩,
   ⟨((late (inMode .hold (st [(LMP_CH.MODE 0, 1), (LMP_PCFG.COLD 0, 1), (LMP_LV.LOST 0, 1)]))).setPrv 0 { Prv.reset with slots := [(2, 9), (1, 9), (3, 9)] }), 0, 0, 0, by decide +kernel⟩,
   ⟨(let s := ({ inMode .hold (st [(LMP_CH.MODE 0, 1), (LMP_PCFG.COLD 0, 1)]) with clk := ⟨600000000000, 0, 0, 0⟩ } : State); s.setChan 0 { Chan.reset with code := 0 }), 0, 0, 0, by decide⟩,
   ⟨(let s := ({ inMode .hold (st [(LMP_CH.MODE 0, 1), (LMP_PCFG.COLD 0, 2)]) with clk := ⟨600000000000, 0, 0, 0⟩ } : State); s.setChan 0 { Chan.reset with code := 0 }), 0, 0, 0, (by decide)⟩,
   ⟨(((inMode .hold (st [(LMP_CH.MODE 0, 1), (LMP_LV.LOST 0, 1)]))).setChan 0 { Chan.reset with code := 1, applied := 1 }), 0, 0, 0, by decide⟩,
   ⟨(let s := ({ inMode .hold (st [(LMP_CH.MODE 0, 1)]) with clk := ⟨600000000000, 0, 0, 0⟩ } : State); s.setChan 0 { Chan.reset with code := 1, applied := 1 }), 0, 0, 0, [], by decide +kernel⟩,
   ⟨(let s := (let s := ({ inMode .hold (st [(LMP_CH.MODE 0, 1)]) with clk := ⟨600000000000, 0, 0, 0⟩ } : State); s.setChan 0 { Chan.reset with code := 1, applied := 1 }); s.setPrv 0 { Prv.reset with lastLit := some 0 }), 0, 0, 0, 0, [], (by decide +kernel)⟩,
   ⟨(((inMode .hold (st [(LMP_CH.MODE 0, 1)]))).setChan 0 { Chan.reset with code := 1, applied := 1 }), 0, 0, 0, [], by decide⟩,
   ⟨late (((inMode .hold (st [(LMP_CH.MODE 0, 1)])).setChan 0 { Chan.reset with code := 1, applied := 1 })), _, 0, 0, ⟨by decide, (by decide +kernel), by decide, by decide +kernel, rfl⟩⟩⟩

theorem wit_LampServiceCommands :
    (∃ (s : State) (b : Fin 4) (code : Int), 7 ∈ s.cfg.sig.secs ∧ s.md.mode = .hold ∧ s.on (LMP_LV.LOST b.val) = false ∧ ¬ (s.calLv b.val code < 400 * (s.get (LMP_LV.THR b.val) : Int))) ∧
    (∃ (s : State) (b : Fin 4), s.on (LMP_LV.LOST b.val) = true ∧ s.supplyBack b.val = true ∧ (∀ n < 64, s.proved n = false)) ∧
    (∃ (s : State) (b : Fin 4), s.on (LMP_LV.LOST b.val) = true ∧ s.supplyBack b.val = true) ∧
    (∃ (s : State) (n : Fin 64), (s.put LMP_PCMD.CHAN n.val).clearable n.val = true) ∧
    (∃ (s : State) (n : Fin 64), s.lampFailed n.val = true ∧ s.on (LMP_PCFG.AUTO n.val) = true ∧ s.get (LMP_PRV.CAUSE n.val) ≠ 3 ∧ s.get (LMP_PRV.CAUSE n.val) ≠ 6 ∧ s.get (LMP_PRV.CAUSE n.val) ≠ 9 ∧ (s.prv n.val).bad = [] ∧ s.recovered n.val = true) ∧
    (∃ (s u : State) (n : Fin 64) (h k : Nat), u = s.put LMP_PCMD.CHAN n.val ∧ s.md.mode = .commission ∧ s.get (LMP_CH.MODE n.val) ≠ 0 ∧ s.cfg.sig.placeOf n.val = some (h, k) ∧ (s.head h).consent = true ∧ (∃ m ∈ s.headChans h, (s.chan m).pattern = true)) ∧
    (∃ (s : State), s.md.mode = .commission ∧ s.consented s.headList = true ∧ s.matrix.left = []) ∧
    (∃ (s : State) (n : Nat) (rest : List Nat) (drive : Int), s.matrix.left = n :: rest ∧ s.matrix.since + 2000000 ≤ s.clk.up) :=
  ⟨⟨(inMode .hold (State.reset |> sigP [] [] [])), 0, 0, by decide +kernel⟩,
   ⟨(late (st [(LMP_LV.LOST 0, 1)]) |> fun s => s.setBank 0 { s.bank 0 with okSince := some 0 }), 0, by decide +kernel⟩,
   ⟨(late (st [(LMP_LV.LOST 0, 1)]) |> fun s => s.setBank 0 { s.bank 0 with okSince := some 0 }), 0, (by decide +kernel)⟩,
   ⟨(st [(LMP_PRV.STATE 0, 3)]), 0, by decide⟩,
   ⟨((st [(LMP_PRV.STATE 0, 3), (LMP_PCFG.AUTO 0, 1)]).setPrv 0 { Prv.reset with goodSince := some 0 }), 0, by decide⟩,
   ⟨(((inMode .commission (st [(LMP_CH.MODE 0, 1)]) |> sigP [] [(⟨6, 0x0F, 0x041, [0]⟩, [0])] [⟨6, 0x0F, 0, [0]⟩]).setHead 0 { Head.reset with consent := true }).setChan 0 { Chan.reset with pattern := true }), _, 0, 0, 0, ⟨rfl, (by decide), by decide, by decide, (by decide), by decide⟩⟩,
   ⟨({ inMode .commission State.reset with matrix := { State.reset.matrix with left := [] } } : State), by decide⟩,
   ⟨({ late State.reset with matrix := { State.reset.matrix with left := [0] } } : State), 0, [], 0, (by decide)⟩⟩

theorem wit_ConverterCommands :
    (∃ (s u : State) (n : Fin 64) (gain ofs : Int), s.proved n.val = true ∧ s.calWindow n.val = true ∧ gain.natAbs ≤ 200 ∧ ofs.natAbs ≤ 50 ∧ u = s.setSup (s.proverOf (n.val / 16)) { s.sup (s.proverOf (n.val / 16)) with calAt := some s.clk.up }) ∧
    (∃ (s u : State) (n : Fin 64) (gain ofs : Int), s.proved n.val = true ∧ s.calWindow n.val = true ∧ gain.natAbs ≤ 200 ∧ ofs.natAbs ≤ 50 ∧ u = s.setSup (s.proverOf (n.val / 16)) { s.sup (s.proverOf (n.val / 16)) with calAt := some s.clk.up }) ∧
    (∃ (s u : State) (n : Fin 64) (gain ofs : Int), s.proved n.val = true ∧ s.calWindow n.val = true ∧ 200 < gain.natAbs ∧ (s.prv n.val).badLd = false ∧ u = s.setSup (s.proverOf (n.val / 16)) { s.sup (s.proverOf (n.val / 16)) with calAt := some s.clk.up }) ∧
    (∃ (s u : State) (c : Fin 2) (err gain ofs : Int) (rate : Nat), c.val ∈ s.supsLeft ∧ err.natAbs ≤ 50 ∧ u = ((s.puti (SUP_CAL.GAIN c.val) (satS 16 gain)).puti (SUP_CAL.OFS c.val) (satS 16 ofs)).putSat (SUP_LOAD.RATE c.val) rate) ∧
    (∃ (s u : State) (c : Fin 2) (err gain ofs : Int) (rate : Nat), c.val ∈ s.supsLeft ∧ 50 < err.natAbs ∧ (s.sup c.val).badCheck = 1 ∧ u = ((s.puti (SUP_CAL.GAIN c.val) (satS 16 gain)).puti (SUP_CAL.OFS c.val) (satS 16 ofs)).putSat (SUP_LOAD.RATE c.val) rate) ∧
    (∃ (s : State) (c : Fin 2) (cause : Nat), s.supsLeft = [0, 1]) ∧
    (∃ (s : State) (i : Fin 512) (code : Int), (s.uslot i.val).active = true ∧ (s.slotTrigger i.val).isSome = true ∧ (s.uslot i.val).last ≠ s.slotTrigger i.val) ∧
    (∃ (s : State) (i : Fin 512) (code : Int), (s.uslot i.val).active = true ∧ (s.slotTrigger i.val).isSome = true ∧ (s.uslot i.val).last ≠ s.slotTrigger i.val ∧ s.get (SUP_STAT.STATE (i.val / 256)) = 2 ∧ -32768 ≤ code ∧ code ≤ 32767) ∧
    (∃ (s : State) (c : Fin 2), (s.sup c.val).skipped ≠ 0 ∧ ((s.sup c.val).missAt.isSome = true → (s.sup c.val).missAt.getD 0 + 1000000000 ≤ s.clk.up)) ∧
    (∃ (s : State) (c : Fin 2), s.get (SUP_STAT.STATE c.val) = 2 ∧ (s.sup c.val).refAt + 2000000 ≤ s.clk.up) ∧
    (∃ (s : State) (c : Fin 2), (s.sup c.val).ref = 1 ∧ c.val ∈ (s.putB SUP_STAT.XREF_OK false).supsLeft ∧ (s.putB SUP_STAT.XREF_OK false).get (SUP_STAT.REF c.val) = 1) ∧
    (∃ (s : State) (c : Fin 2), (s.sup c.val).ref = 1 ∧ c.val ∈ (s.putB SUP_STAT.XREF_OK true).supsLeft ∧ (s.putB SUP_STAT.XREF_OK true).get (SUP_STAT.REF c.val) = 0) :=
  ⟨⟨(late (inMode .hold (st [(LMP_CH.MODE 0, 1), (SUP_STAT.STATE 0, 1), (SUP_STAT.STATE 1, 1)]))), _, 0, 0, 0, ⟨by decide, by decide +kernel, (by decide), by decide, rfl⟩⟩,
   ⟨(late (inMode .hold (st [(LMP_CH.MODE 0, 1), (SUP_STAT.STATE 0, 1), (SUP_STAT.STATE 1, 1)]))), _, 0, 0, 0, ⟨by decide, (by decide +kernel), by decide, by decide, rfl⟩⟩,
   ⟨(late (inMode .hold (st [(LMP_CH.MODE 0, 1), (SUP_STAT.STATE 0, 1), (SUP_STAT.STATE 1, 1)]))), _, 0, 300, 0, ⟨(by decide), by decide +kernel, by decide, (by decide), rfl⟩⟩,
   ⟨(st [(SUP_STAT.STATE 0, 1)]), _, 0, 0, 0, 0, 0, ⟨by decide, by decide, rfl⟩⟩,
   ⟨((st [(SUP_STAT.STATE 0, 1)]).setSup 0 { SupConv.reset with badCheck := 1 }), _, 0, 60, 0, 0, 0, ⟨(by decide), by decide, by decide, rfl⟩⟩,
   ⟨(st [(SUP_STAT.STATE 0, 1), (SUP_STAT.STATE 1, 1)]), 0, 0, (by decide)⟩,
   ⟨((late (st [(SUP_STAT.STATE 0, 2)])).setUslot 0 { SupSlot.reset with active := true }), 0, 0, by decide +kernel⟩,
   ⟨((late (st [(SUP_STAT.STATE 0, 2)])).setUslot 0 { SupSlot.reset with active := true }), 0, 0, by decide +kernel⟩,
   ⟨(late ((fun s : State => s.setSup 0 { s.sup 0 with skipped := 1 }) State.reset)), 0, (by decide)⟩,
   ⟨(late (st [(SUP_STAT.STATE 0, 2)])), 0, by decide⟩,
   ⟨((st [(SUP_STAT.STATE 0, 1), (SUP_STAT.REF 0, 1)]).setSup 0 { SupConv.reset with ref := 1 }), 0, by decide⟩,
   ⟨((st [(SUP_STAT.STATE 0, 1), (SUP_STAT.REF 0, 0)]).setSup 0 { SupConv.reset with ref := 1 }), 0, (by decide)⟩⟩

theorem wit_SafetyInputCommands :
    (∃ (s : State) (k : Fin 4) (lo hi : Nat), s.sioLive = true ∧ bitOf s.tpoEn k.val = true ∧ (s.midPulse k.val).isSome = true ∧ (s.tpo k.val).seen ≠ s.midPulse k.val ∧ lo < 2000 ∧ 15000 < hi) ∧
    (∃ (s : State) (k : Fin 4) (lo hi : Nat), s.sioLive = true ∧ bitOf s.tpoEn k.val = true ∧ (s.midPulse k.val).isSome = true ∧ (s.tpo k.val).seen ≠ s.midPulse k.val ∧ (2000 ≤ lo ∨ hi ≤ 15000) ∧ 1 ≤ (s.tpo k.val).bad) ∧
    (∃ (s : State) (k : Fin 4) (t : Nat), (s.tpo k.val).overload = some t ∧ t + 1000000000 ≤ s.clk.up) ∧
    (∃ (s : State) (k : Fin 4) (t : Nat), (s.tpo k.val).overload = some t ∧ t + 1000000000 ≤ s.clk.up) ∧
    (∃ (s u : State) (k : Fin 4), s.sioLive = true ∧ bitOf s.tpoEn k.val = true ∧ (∀ i < 32, s.get (SIO_ICFG.SRC i) ≠ k.val + 1) ∧ u = s.setTpo k.val { s.tpo k.val with overload := some s.clk.up, good := 0 }) ∧
    (∃ (s : State) (i : Fin 32) (level : Bool), s.sioLive = true ∧ s.useOf i.val ≠ 0 ∧ s.masked = false ∧ s.on (SIO_IST.RAW i.val) ≠ level) ∧
    (∃ (s : State) (i : Fin 32) (level : Bool), s.masked = true) ∧
    (∃ (s u v : State) (i : Fin 32), s.sioLive = true ∧ s.useOf i.val ≠ 0 ∧ s.on (SIO_IST.FILT i.val) ≠ s.on (SIO_IST.RAW i.val) ∧ (s.sin i.val).rawAt + 100000 * s.get (SIO_ICFG.FILTER i.val) ≤ s.clk.up ∧ u = s.putB (SIO_IST.FILT i.val) (s.on (SIO_IST.RAW i.val)) ∧ v = u.setSin i.val { u.sin i.val with trans := u.recentTrans i.val ++ [s.clk.up], on := s.on (SIO_IST.RAW i.val) && ((u.sin i.val).on || u.get (SIO_ICFG.DEBOUNCE i.val) = 0), filtAt := s.clk.up } ∧ (u.recentTrans i.val).length + 1 ≤ (v.putSat (SIO_IST.TRANS i.val) ((u.recentTrans i.val).length + 1)).get (SIO_ICFG.CHATCNT i.val)) ∧
    (∃ (s : State) (i : Fin 32), s.sioLive = true ∧ s.useOf i.val ≠ 0 ∧ s.on (SIO_IST.FILT i.val) = true ∧ (s.sin i.val).on = false ∧ (s.sin i.val).filtAt + 1000000 * s.get (SIO_ICFG.DEBOUNCE i.val) ≤ s.clk.up) ∧
    (∃ (s u v : State) (i : Fin 32) (src : Fin 4) (level after : Bool), s.sioLive = true ∧ s.testedIn i.val = true ∧ bitOf s.tpoEn src.val = true ∧ s.captureDue i.val src.val = true ∧ u = s.setSin i.val { s.sin i.val with judged := sparseSet 0 (s.sin i.val).judged src.val ((s.maskEnd src.val).getD 0 + 1) } ∧ v = u.put (SIO_IST.PATTERN i.val) (setBitOf (u.get (SIO_IST.PATTERN i.val)) src.val level) ∧ v.on (SIO_IST.RAW i.val) ≠ after) ∧
    (∃ (s u : State) (p : Fin 16), s.sioLive = true ∧ s.pairUsed p.val = true ∧ s.disagreed p.val = true ∧ u = (s.put (SIO_PCFG.DISCFAULT p.val) 1).put SIO_EVT.INFAULT 1) :=
  ⟨⟨({ late (inMode .hold (st [(SIO_GEN.PERIOD, 100)])) with sio := { State.reset.sio with pattern := some 0 } } |> sigP [(⟨8, 0, 0x043, []⟩, 15)] [] []), 0, 0, 15001, by decide +kernel⟩,
   ⟨(({ late (inMode .hold (st [(SIO_GEN.PERIOD, 100)])) with sio := { State.reset.sio with pattern := some 0 } } |> sigP [(⟨8, 0, 0x043, []⟩, 15)] [] []).setTpo 0 { Tpo.reset with bad := 1 }), 0, 2000, 15001, by decide +kernel⟩,
   ⟨(late ((fun s : State => s.setTpo 0 { s.tpo 0 with overload := some 0 }) State.reset)), 0, 0, (by decide)⟩,
   ⟨((late State.reset).setTpo 0 { Tpo.reset with overload := some 0 }), 0, 0, by decide⟩,
   ⟨(inMode .hold (st [(SIO_ICFG.USE 0, 1)])), _, 0, ⟨by decide, (by decide), by decide, rfl⟩⟩,
   ⟨(inMode .hold (st [(SIO_ICFG.USE 0, 1), (SIO_IST.RAW 0, 1), (SIO_ICFG.CHATCNT 0, 4)])), 0, false, by decide⟩,
   ⟨({ inMode .hold (st [(SIO_GEN.PERIOD, 100)]) with sio := { State.reset.sio with pattern := some 0 } } |> sigP [(⟨8, 0, 0x043, []⟩, 15)] [] []), 0, false, (by decide +kernel)⟩,
   ⟨(late (inMode .hold (st [(SIO_ICFG.USE 0, 1), (SIO_IST.RAW 0, 1), (SIO_ICFG.CHATCNT 0, 10)]))), _, _, 0, ⟨by decide, by decide, (by decide), by decide, rfl, rfl, by decide +kernel⟩⟩,
   ⟨(late (inMode .hold (st [(SIO_ICFG.USE 0, 1), (SIO_IST.FILT 0, 1)]))), 0, (by decide)⟩,
   ⟨({ late (inMode .hold (st [(SIO_GEN.PERIOD, 100), (SIO_ICFG.USE 0, 1), (SIO_ICFG.SRC 0, 1)])) with sio := { State.reset.sio with pattern := some 0 } } |> sigP [(⟨8, 0, 0x043, []⟩, 15)] [] []), _, _, 0, 0, false, true, ⟨by decide +kernel, by decide +kernel, (by decide +kernel), by decide +kernel, rfl, rfl, by decide +kernel⟩⟩,
   ⟨({ late (inMode .hold (st [(SIO_ICFG.USE 0, 2), (SIO_ICFG.USE 1, 2)])) with sio := { State.reset.sio with disagree := [(0, 5)] } } |> sigP [] [] [⟨8, 0x15, 0, [0]⟩]), _, 0, ⟨(by decide +kernel), by decide +kernel, by decide +kernel, rfl⟩⟩⟩

theorem wit_SafetyOutputCommands :
    (∃ (s : State) (o : Fin 8) (mv : Nat), (s.sout o.val).stage = true ∧ max (s.sout o.val).switchedAt (s.sout o.val).testAt + 1000000000 * s.get (SIO_OTIM.OTINT o.val) ≤ s.clk.up ∧ 20 ≤ mv) ∧
    (∃ (s : State) (o : Nat) (mv : Nat), (s.sout o).stuck = false) ∧
    (∃ (s : State) (o : Fin 8) (mv : Nat), (s.sout o.val).stage = true ∧ max (s.sout o.val).switchedAt (s.sout o.val).testAt + 1000000000 * s.get (SIO_OTIM.OTINT o.val) ≤ s.clk.up ∧ mv < 20) ∧
    (∃ (s : State) (o : Fin 8) (mv : Nat), (s.sout o.val).stage = true) ∧
    (∃ (s u v : State) (o : Fin 8) (mv : Nat), (s.sout o.val).stage = false ∧ mv < 20 ∧ u = (s.put SIO_OUT.ON (setBitOf (s.get SIO_OUT.ON) o.val false)).putB (SIO_OCFG.ON o.val) false ∧ v = u.setSout o.val { s.sout o.val with mv := mv, stuckN := 0, seen := if u.on SIO_STAT.CUTOFF then min 2 ((s.sout o.val).seen + 1) else (s.sout o.val).seen }) ∧
    (∃ (s u : State) (mv : List Nat) (o : Nat), s.cutDue = true ∧ s.sio.cutFault = false ∧ (List.range 8).find? (fun o => (s.sout o).stage && decide (20 ≤ mv.getD o 0)) = some o ∧ u = { s with sio := { s.sio with cutAt := some s.clk.up, cutFault := true } }) ∧
    (∃ (s : State) (o : Fin 8) (mv : Nat), (s.sout o.val).stage = true ∧ (s.sout o.val).overload = false) ∧
    (∃ (s : State) (o : Fin 8) (level : Bool), s.on (SIO_OCFG.EDM o.val) = false) ∧
    (∃ (s u : State) (o : Fin 8), s.on (SIO_OCFG.USE o.val) = true ∧ s.on (SIO_OCFG.EDM o.val) = true ∧ (s.sout o.val).edm.head? = some false ∧ (s.sout o.val).stage = false ∧ (s.sout o.val).welded = false ∧ (s.sout o.val).edmLost = false ∧ (s.sout o.val).switchedAt ≠ 0 ∧ u = (s.put SIO_EDM.LEVEL (setBitOf (s.get SIO_EDM.LEVEL) o.val false)).setSout o.val { s.sout o.val with edm := (false :: (s.sout o.val).edm).take 2 } ∧ (s.sout o.val).switchedAt + u.get (SIO_OTIM.EDMT o.val) * 1000000 ≤ s.clk.up) ∧
    (∃ (s u : State) (o : Fin 8), s.on (SIO_OCFG.USE o.val) = true ∧ s.on (SIO_OCFG.EDM o.val) = true ∧ (s.sout o.val).edm.head? = some true ∧ (s.sout o.val).stage = true ∧ (s.sout o.val).edmLost = false ∧ u = (s.put SIO_EDM.LEVEL (setBitOf (s.get SIO_EDM.LEVEL) o.val true)).setSout o.val { s.sout o.val with edm := (true :: (s.sout o.val).edm).take 2 } ∧ (s.sout o.val).switchedAt + u.get (SIO_OTIM.EDMT o.val) * 1000000 ≤ s.clk.up) ∧
    (∃ (s : State) (mv : List Nat), s.cutDue = true ∧ (∀ o < 8, (s.sout o).stage = true → mv.getD o 0 < 20)) ∧
    (∃ (s : State) (kind : Fin 4) (i : Fin 32) (u : State), kind.val = 1 ∧ i.val < 8 ∧ u = (s.put SIO_CMD.KIND 1).put SIO_CMD.INDEX i.val) ∧
    (∃ (s : State) (o : Fin 8), s.md.mode ≠ .family) ∧
    (∃ (s : State) (o : Fin 8), s.on (SIO_OCFG.USE o.val) = true ∧ s.md.mode = .family ∧ (s.permitOff (s.get (SIO_OPERM.MASK o.val))).isSome = true) ∧
    (∃ (s : State) (o : Fin 8), s.outsChecked = false ∧ (s.sout o.val).stage = false) ∧
    (∃ (s u v : State) (o : Fin 8) (mv : Nat), (s.sout o.val).stage = false ∧ (s.sout o.val).stuck = false ∧ 20 ≤ mv ∧ 1 ≤ (s.sout o.val).stuckN ∧ (s.sout o.val).switchedAt + 500000 ≤ s.clk.up ∧ u = (s.put SIO_OUT.ON (setBitOf (s.get SIO_OUT.ON) o.val (20 < mv))).putB (SIO_OCFG.ON o.val) (20 < mv) ∧ u.on SIO_STAT.CUTOFF = true ∧ v = u.setSout o.val { s.sout o.val with mv := mv, stuckN := (s.sout o.val).stuckN + 1, seen := min 2 ((s.sout o.val).seen + 1) }) :=
  ⟨⟨(State.reset.setSout 0 { SOut.reset with stage := true }), 0, 20, by decide⟩,
   ⟨State.reset, 0, 0, by decide⟩,
   ⟨((late (st [])).setSout 0 { SOut.reset with stage := true }), 0, 0, (by decide)⟩,
   ⟨(fun s : State => s.setSout 0 { s.sout 0 with stage := true }) State.reset, 0, 0, by decide⟩,
   ⟨State.reset, _, _, 0, 0, ⟨by decide, (by decide), rfl, rfl⟩⟩,
   ⟨((late (st [(SIO_STAT.CUTOFF, 1)])).setSout 0 { SOut.reset with stage := true }), _, [21], 0, ⟨by decide +kernel, by decide, (by decide +kernel), rfl⟩⟩,
   ⟨(fun s : State => s.setSout 0 { s.sout 0 with overload := false }) ((fun s : State => s.setSout 0 { s.sout 0 with stage := true }) State.reset), 0, 0, by decide⟩,
   ⟨State.reset, 0, false, by decide⟩,
   ⟨((late (st [(SIO_OCFG.USE 0, 1), (SIO_OCFG.EDM 0, 1)])).setSout 0 { SOut.reset with edm := [false], switchedAt := 1 }), _, 0, ⟨(by decide), by decide, by decide, (by decide), by decide, by decide, (by decide), rfl, by decide +kernel⟩⟩,
   ⟨((late (st [(SIO_OCFG.USE 0, 1), (SIO_OCFG.EDM 0, 1)])).setSout 0 { SOut.reset with edm := [true], stage := true }), _, 0, ⟨by decide, (by decide), by decide, by decide, (by decide), rfl, by decide +kernel⟩⟩,
   ⟨(st [(SIO_STAT.CUTOFF, 1)]), [], by decide +kernel⟩,
   ⟨State.reset, 1, 0, _, ⟨(by decide), by decide, rfl⟩⟩,
   ⟨(inMode .hold State.reset), 0, by decide⟩,
   ⟨(inMode .family (st [(SIO_OCFG.USE 0, 1), (SIO_OPERM.MASK 0, 1)])), 0, (by decide +kernel)⟩,
   ⟨(({ st [(SIO_STAT.CUTOFF, 1)] with clk := { State.reset.clk with up := 500000 } } : State).setSout 0 { SOut.reset with stuckN := 1 }), 0, by decide⟩,
   ⟨((late (st [(SIO_STAT.CUTOFF, 1)])).setSout 0 { SOut.reset with stuckN := 1 }), _, _, 0, 20, ⟨by decide, (by decide), by decide, by decide, (by decide), rfl, by decide +kernel, rfl⟩⟩⟩

theorem wit_BrakeCommands :
    (∃ (s u : State) (k : Fin 2) (cur : Nat), s.on (SIO_BCFG.USE k.val) = true ∧ (s.brk k.val).decay = true ∧ s.decayed k.val = true ∧ u = (s.putSat (SIO_BRK.CURRENT k.val) cur).setBrk k.val { s.brk k.val with decay := false } ∧ u.released k.val = false ∧ (s.brk k.val).notApplied = false ∧ u.get (SIO_BCFG.APPTHR k.val) ≤ cur ∧ (s.brk k.val).test = none) ∧
    (∃ (s u : State) (k : Fin 2) (cur : Nat), s.on (SIO_BCFG.USE k.val) = true ∧ (s.brk k.val).decay = true ∧ s.decayed k.val = true ∧ u = (s.putSat (SIO_BRK.CURRENT k.val) cur).setBrk k.val { s.brk k.val with decay := false } ∧ u.released k.val = false ∧ cur < u.get (SIO_BCFG.APPTHR k.val)) ∧
    (∃ (s u : State) (k : Fin 2) (cur : Nat), s.on (SIO_BCFG.USE k.val) = true ∧ (s.brk k.val).decay = true ∧ s.decayed k.val = true ∧ u = (s.putSat (SIO_BRK.CURRENT k.val) cur).setBrk k.val { s.brk k.val with decay := false } ∧ u.released k.val = true ∧ 10 * u.get (SIO_BCFG.RELLO k.val) ≤ cur) ∧
    (∃ (s u : State) (k : Fin 2) (hi lo : Nat), s.on (SIO_BCFG.USE k.val) = true ∧ s.released k.val = false ∧ (s.brk k.val).test = none ∧ s.decayed k.val = true ∧ s.sioLive = true ∧ (s.brk k.val).swAt + 1000000000 * s.get (SIO_BCFG.SWINT k.val) ≤ s.clk.up ∧ u = s.setBrk k.val { s.brk k.val with swAt := s.clk.up } ∧ s.get (SIO_BCFG.APPTHR k.val) ≤ hi ∧ (s.brk k.val).swStuck = 0) ∧
    (∃ (s : State) (k : Fin 2), s.brkTestMay k.val = true) ∧
    (∃ (s : State) (k : Fin 2) (t0 : Nat) (p0 move : Int), (s.brk k.val).test = some (t0, p0, move) ∧ t0 + 10000000 * s.get (SIO_BTIM.TESTDUR k.val) ≤ s.clk.up) ∧
    (∃ (s : State) (k : Fin 2), (s.brk k.val).fails ≠ 0 ∧ (s.brk k.val).doneAt + 60000000000 ≤ s.clk.up ∧ (s.setBrk k.val { s.brk k.val with want := true }).brkTestMay k.val = true) ∧
    (∃ (s u : State) (k : Fin 2), s.on (SIO_BCFG.USE k.val) = true ∧ (s.brk k.val).lapsed = false ∧ (s.brk k.val).doneAt + 7200000000000 * s.get (SIO_BTIM.TESTINT k.val) ≤ s.clk.up ∧ u = s.setBrk k.val { s.brk k.val with lapsed := true }) ∧
    (∃ (s : State) (k : Fin 2), s.torqueOff k.val = true ∧ s.brkCond k.val = true) ∧
    (∃ (s u : State) (k : Fin 2), s.md.mode = .family ∧ u = (s.put SIO_CMD.INDEX k.val).setBrk k.val { s.brk k.val with want := true } ∧ u.brkTestMay k.val = false) ∧
    (∃ (s u : State) (k : Fin 2), (s.md.mode = .commission ∨ s.md.mode = .family) ∧ u = (s.put SIO_CMD.INDEX k.val).setBrk k.val { s.brk k.val with want := true } ∧ u.brkTestMay k.val = true) ∧
    (∃ (s : State) (k : Fin 2) (hi lo : Nat), s.on (SIO_BCFG.USE k.val) = true ∧ s.released k.val = false ∧ (s.brk k.val).test = none ∧ s.decayed k.val = true ∧ s.sioLive = true ∧ (s.brk k.val).swAt + 1000000000 * s.get (SIO_BCFG.SWINT k.val) ≤ s.clk.up ∧ hi < s.get (SIO_BCFG.APPTHR k.val) ∧ lo < s.get (SIO_BCFG.APPTHR k.val)) ∧
    (∃ (s u : State) (k : Fin 2), (s.brk k.val).test = none ∧ u = s.puti (SIO_BPOS.POS k.val) (s.geti (SIO_BPOS.POS k.val) + 1)) ∧
    (∃ (s : State) (k : Fin 2), s.md.mode ≠ .family) :=
  ⟨⟨(fun s : State => s.setBrk 0 { s.brk 0 with test := none }) ((fun s : State => s.setBrk 0 { s.brk 0 with notApplied := false }) ((fun s : State => s.setBrk 0 { s.brk 0 with decay := true }) (st [(SIO_BCFG.USE 0, 1)]))), _, 0, 0, ⟨by decide, by decide, (by decide), rfl, by decide, by decide, (by decide), by decide⟩⟩,
   ⟨((late (st [(SIO_BCFG.USE 0, 1), (SIO_BCFG.APPTHR 0, 1)])).setBrk 0 { Brake.reset with decay := true }), _, 0, 0, ⟨by decide, (by decide), by decide, rfl, by decide +kernel, (by decide +kernel)⟩⟩,
   ⟨((late (st [(SIO_BCFG.USE 0, 1), (SIO_BRK.HG 0, 1), (SIO_BRK.LG 0, 1)])).setBrk 0 { Brake.reset with decay := true }), _, 0, 0, ⟨by decide, by decide, (by decide), rfl, by decide +kernel, by decide +kernel⟩⟩,
   ⟨({ inMode .family (st [(SIO_BCFG.USE 0, 1), (SIO_BCFG.DEMSRC 0, 1)]) with clk := ⟨1000000000, 0, 0, 0⟩ } : State), _, 0, 0, 0, ⟨(by decide), by decide, by decide, (by decide), by decide, by decide, rfl, (by decide), by decide⟩⟩,
   ⟨(late (inMode .family (st [(SIO_BCFG.USE 0, 1), (SIO_BCFG.DEMSRC 0, 1)]))), 0, by decide +kernel⟩,
   ⟨((late (inMode .family (st [(SIO_BCFG.USE 0, 1), (SIO_BCFG.DEMSRC 0, 1)]))).setBrk 0 { Brake.reset with test := some (0, 0, 0) }), 0, 0, 0, 0, (by decide)⟩,
   ⟨((late (inMode .family (st [(SIO_BCFG.USE 0, 1), (SIO_BCFG.DEMSRC 0, 1)]))).setBrk 0 { Brake.reset with fails := 1 }), 0, by decide +kernel⟩,
   ⟨(late (inMode .family (st [(SIO_BCFG.USE 0, 1), (SIO_BCFG.DEMSRC 0, 1)]))), _, 0, ⟨by decide, (by decide), by decide +kernel, rfl⟩⟩,
   ⟨((inMode .family (st [(SIO_BCFG.USE 0, 1)])).setBrk 0 { Brake.reset with pend := some 0 }), 0, by decide +kernel⟩,
   ⟨(inMode .family State.reset), _, 0, ⟨(by decide), rfl, by decide +kernel⟩⟩,
   ⟨(late (inMode .family (st [(SIO_BCFG.USE 0, 1), (SIO_BCFG.DEMSRC 0, 1)]))), _, 0, ⟨by decide, rfl, (by decide +kernel)⟩⟩,
   ⟨(late (inMode .hold (st [(SIO_BCFG.USE 0, 1), (SIO_BCFG.APPTHR 0, 1)]))), 0, 0, 0, by decide +kernel⟩,
   ⟨(fun s : State => s.setBrk 0 { s.brk 0 with test := none }) State.reset, _, 0, ⟨by decide, rfl⟩⟩,
   ⟨State.reset, 0, (by decide)⟩⟩

theorem wit_SafetySequencerCommands :
    (∃ (s : State) (t : Nat), s.sio.deg.deadline = some t ∧ t ≤ s.clk.up) ∧
    (∃ (s : State) (secs t : Nat), s.sio.deg.kept = some (secs, t) ∧ t ≤ s.clk.up) ∧
    (∃ (s : State), s.on SIO_STAT.SSTOP = false) ∧
    (∃ (s : State), s.on SIO_STAT.SSTOP = true) ∧
    (∃ (s : State), s.indication ≠ 0 ∧ (s.sio.soAt.isSome = true → s.sio.soAt.getD 0 + 2000000000 ≤ s.clk.up)) ∧
    (∃ (s : State) (c i : Nat) (own peer : Bool), s.on SIO_PEER.MISMATCH = false ∧ s.peerLate = some (c, i, own, peer)) :=
  ⟨⟨({ State.reset with sio := { State.reset.sio with deg := ⟨some 0, 0, (0, 0), false, none⟩ } } : State), 0, by decide⟩,
   ⟨({ late State.reset with sio := { State.reset.sio with deg := { State.reset.sio.deg with kept := some (0, 0) } } } : State), 0, 0, by decide⟩,
   ⟨(st [(SIO_STAT.SSTOP, 0)]), (by decide)⟩,
   ⟨(st [(SIO_STAT.SSTOP, 1)]), by decide⟩,
   ⟨({ inMode .hold State.reset with lnk := ⟨true, 0, 0, 0⟩ } : State), by decide⟩,
   ⟨({ late (st [(SIO_PEER.EN, 1)]) with sio := { State.reset.sio with peer := some [1, 0, 0, 0, 0, 0, 0, 0], diffs := [(32, 0)] } } : State), 1, 0, false, true, (by decide +kernel)⟩⟩

theorem wit_SpiCommands :
    (∃ (s t : State) (a : Word) (n crc : Byte) (ws : List Word), s.spiAlive = true ∧ 1 ≤ n.toNat ∧ n.toNat ≤ 64 ∧ crc8 ((0x03 : Byte) :: wordBe a ++ [n]) = crc ∧ s.spi.waiting = none ∧ State.readWords n.toNat a.toNat s = (.ok ws, t)) ∧
    (∃ (s : State) (a : Word) (n crc : Byte), s.spiAlive = true ∧ 1 ≤ n.toNat ∧ n.toNat ≤ 64 ∧ crc8 ((0x03 : Byte) :: wordBe a ++ [n]) ≠ crc) ∧
    (∃ (s t : State) (a : Word) (c : Byte) (data : List Word), s.spiAlive = true ∧ 1 ≤ data.length ∧ data.length ≤ 64 ∧ crc8 ((0x02 : Byte) :: wordBe a ++ [BitVec.ofNat 8 data.length] ++ data.flatMap wordBe) = c ∧ s.spi.waiting = none ∧ s.spiBusy = false ∧ State.writeWords data a.toNat s = (none, t)) ∧
    (∃ (s : State) (a : Word) (c : Byte) (data : List Word), s.spiAlive = true ∧ 1 ≤ data.length ∧ data.length ≤ 64 ∧ crc8 ((0x02 : Byte) :: wordBe a ++ [BitVec.ofNat 8 data.length] ++ data.flatMap wordBe) ≠ c) ∧
    (∃ (s : State) (a : Word) (c : Byte) (data : List Word), s.spiAlive = true ∧ (data = [] ∨ 64 < data.length)) ∧
    (∃ (s u : State) (b : List Byte) (c : Byte), s.spiAlive = true ∧ 1 ≤ b.length ∧ b.length ≤ 1024 ∧ crc8 ((0x0B : Byte) :: be 2 b.length ++ b) = c ∧ s.spi.waiting = none ∧ s.spiBusy = false ∧ s.md.mode ≠ .reset ∧ s.md.mode ≠ .boot ∧ u = ({ s with cls := { s.cls with reply := [] } } : State).puts [(CLS_RSTAT.STATE, 1), (CLS_RSTAT.RESULT, 0), (CLS_RSTAT.LEN, 0)]) ∧
    (∃ (s : State) (b : List Byte) (c : Byte), s.spiAlive = true ∧ 1 ≤ b.length ∧ b.length ≤ 1024 ∧ crc8 ((0x0B : Byte) :: be 2 b.length ++ b) ≠ c) ∧
    (∃ (s : State) (cmd : Byte), s.spiAlive = true ∧ cmd ≠ 0x02 ∧ cmd ≠ 0x03 ∧ cmd ≠ 0x0B) :=
  ⟨⟨({ State.reset with pw := { State.reset.pw with vfield := true } } : State), _, 0, 1, 0x7C, _, ⟨by decide +kernel, by decide +kernel, (by decide +kernel), by decide +kernel, by decide +kernel, rfl⟩⟩,
   ⟨({ State.reset with pw := { State.reset.pw with vfield := true } } : State), 0, 1, 0, ⟨(by decide +kernel), by decide +kernel, by decide +kernel, (by decide +kernel)⟩⟩,
   ⟨({ inMode .hold State.reset with pw := { State.reset.pw with vfield := true } } : State), _, 0x20008, (crc8 ((0x02 : Byte) :: wordBe 0x20008 ++ [1] ++ [0, 0, 0, 0])), [0], ⟨by decide +kernel, by decide +kernel, (by decide +kernel), by decide +kernel, by decide +kernel, (by decide +kernel), rfl⟩⟩,
   ⟨({ State.reset with pw := { State.reset.pw with vfield := true } } : State), 0, 0, [0], ⟨by decide +kernel, by decide +kernel, (by decide +kernel), by decide +kernel⟩⟩,
   ⟨({ State.reset with pw := { State.reset.pw with vfield := true } } : State), 0, 0, [], by decide⟩,
   ⟨({ inMode .hold State.reset with pw := { State.reset.pw with vfield := true } } : State), _, [0], (crc8 ((0x0B : Byte) :: be 2 1 ++ [0])), ⟨(by decide +kernel), by decide +kernel, by decide +kernel, (by decide +kernel), by decide +kernel, by decide +kernel, (by decide +kernel), by decide +kernel, rfl⟩⟩,
   ⟨({ State.reset with pw := { State.reset.pw with vfield := true } } : State), [0], 0, ⟨by decide +kernel, (by decide +kernel), by decide +kernel, by decide +kernel⟩⟩,
   ⟨({ State.reset with pw := { State.reset.pw with vfield := true } } : State), 0, (by decide)⟩⟩

theorem wit_PortCommands :
    (∃ (s u : State) (p : Fin 2) (cause : Fin 4), s.linkUp p.val = true ∧ (cause = 3 → s.cfg.net.nat 10 0 (0x041 + p.val) [] = 2) ∧ u = s.puts [(NET_STAT.LINK p.val, 0), (NET_LINK.UP p.val, 0), (NET_LINK.CAUSE p.val, cause.val + 1), (NET_LINK.LOS p.val, b2n (cause.val + 1 = 1)), (NET_LINK.MOD_ABS p.val, b2n (cause.val + 1 = 2)), (NET_EVT.LINKDN, 1)]) ∧
    (∃ (s : State) (p : Fin 2), s.linkUp p.val = false ∧ s.on (NET_LINK.TX_DIS p.val) = false) ∧
    (∃ (s : State), s.prp = true ∧ (s.linkUp 0 = true ∨ s.linkUp 1 = true) ∧ (∀ t, s.net.supAt = some t → t + 2000000000 ≤ s.clk.up)) ∧
    (∃ (s : State) (cls port : Nat) (addr body : List Byte), cls ≠ 1 ∧ s.prp = true) ∧
    (∃ (s : State) (cls port : Nat) (addr body : List Byte), cls ≠ 1 ∧ s.prp = false) ∧
    (∃ (s : State) (c : Carrier) (payload target : List Byte), c.port = 0 ∧ c.full = false ∧ s.linkUp 0 = true ∧ s.prp = false ∧ target ∈ s.ownAddrs) ∧
    (∃ (s : State) (c : Carrier) (payload target : List Byte), c.port = 0 ∧ c.full = false ∧ s.linkUp 0 = true ∧ s.prp = false ∧ target ∈ s.ownAddrs ∧ target.length = 4) ∧
    (∃ (s : State) (c : Carrier), s.linkUp c.port.val = true ∧ c.full = true) ∧
    (∃ (s : State) (c : Carrier) (q : Nat), s.linkUp c.port.val = true ∧ s.prp = true ∧ c.trailer = some q ∧ (∃ e ∈ s.net.seen, e.1 = c.mac ∧ e.2.1 = q ∧ s.clk.up < e.2.2 + 400000000)) :=
  ⟨⟨link0, _, 0, 0, ⟨by decide, by decide, rfl⟩⟩,
   ⟨(st [(NET_LINK.TX_DIS 0, 0)]), 0, (by decide)⟩,
   ⟨(link0.put NET_STAT.PRP 1), ⟨by decide, by decide, none_all rfl⟩⟩,
   ⟨(st [(NET_STAT.PRP, 1)]), 0, 0, [], [], (by decide)⟩,
   ⟨State.reset, 0, 0, [], [], by decide⟩,
   ⟨(link0 |> netP [] [(⟨10, 0, 0x045, []⟩, [10, 0, 0, 1])] []), dCar, [], [10, 0, 0, 1], ⟨by decide, (by decide), by decide +kernel, by decide +kernel, List.mem_append_left _ (List.mem_append_left _ (by decide))⟩⟩,
   ⟨(link0 |> netP [] [(⟨10, 0, 0x045, []⟩, [10, 0, 0, 1])] []), dCar, [], [10, 0, 0, 1], ⟨(by decide), by decide, by decide +kernel, (by decide +kernel), List.mem_append_left _ (List.mem_append_left _ (by decide)), by decide⟩⟩,
   ⟨link0, { dCar with full := true }, by decide⟩,
   ⟨({ link0.put NET_STAT.PRP 1 with net := { Net.reset with seen := [(0, 0, 1)] } } : State), { dCar with trailer := some 0 }, 0, (by decide)⟩⟩

theorem wit_DeviceTimeCommands :
    (∃ (s : State) (b : List Byte) (fu : Option (List Byte)) (t1 : Int), s.ptpPort = some 0 ∧ syncOrigin b fu = some t1 ∧ s.ofMaster b = true) ∧
    (∃ (s u : State) (t1 θ : Int), s.get NET_TSTAT.STATE = 0 ∧ θ = (s.clk.dev : Int) - t1 - s.ts.delay ∧ u = ({ s.puti NET_OFS.OFS (satS 32 θ) with ts := { s.ts with ofs := θ, sync := some (t1, s.clk.dev), inSince := if θ.natAbs ≤ 1000 then s.ts.inSince.or (some s.clk.up) else none } } : State)) ∧
    (∃ (s u : State) (t1 θ : Int), s.get NET_TSTAT.STATE = 1 ∧ θ = (s.clk.dev : Int) - t1 - s.ts.delay ∧ θ.natAbs ≤ s.stepThreshold ∧ u = ({ s.puti NET_OFS.OFS (satS 32 θ) with ts := { s.ts with ofs := θ, sync := some (t1, s.clk.dev), inSince := if θ.natAbs ≤ 1000 then s.ts.inSince.or (some s.clk.up) else none } } : State)) ∧
    (∃ (b : List Byte) (fu : Option (List Byte)), ofBe (slice b 6 1) / 2 % 2 = 0) ∧
    (∃ (b u : List Byte), ofBe (slice b 6 1) / 2 % 2 = 1 ∧ ptpSender u = ptpSender b ∧ ptpSeqNo u = ptpSeqNo b) ∧
    (∃ (s : State) (b : List Byte), s.ptpPort = some 0 ∧ b.length = 64 ∧ ofBe (slice b 4 1) = s.cfg.net.nat 10 0 0x050 []) ∧
    (∃ (s u : State) (m : Master) (ferr : Nat), s.ts.chosen = some m ∧ m.heard + 3 * ptpInterval m.every ≤ s.clk.up ∧ (∀ x ∈ s.ts.masters, x.heard + 3 * ptpInterval x.every ≤ s.clk.up) ∧ s.get NET_TSTAT.STATE = 2 ∧ u = ({ s.put NET_TSTAT.TAI 0 with ts := { s.ts with masters := [], chosen := none, lostAt := s.clk.up, ferr := ferr, out := 0, reqEvery := none, inSince := none } } : State)) ∧
    (∃ (s u : State), s.ptpPort.isSome = true ∧ s.ts.chosen.isSome = true ∧ (∀ t k, s.ts.reqUp = some t → s.ts.reqEvery = some k → t + ptpInterval k ≤ s.clk.up) ∧ u = s.send 1 (if s.get NET_CFG.PTPUDP = 1 then [224, 0, 1, 129] else []) (if s.get NET_CFG.PTPUDP = 1 then 319 else 0) s.delayReqBytes) ∧
    (∃ (s : State) (b : List Byte) (t1 t2 t3 d : Int), s.ptpPort = some 0 ∧ s.ofMaster b = true ∧ slice b 44 10 = s.ptpIdent ∧ (ptpSeqNo b + 1) % 65536 = s.ts.reqSeq ∧ s.ts.sync = some (t1, t2) ∧ s.ts.reqAt = some t3 ∧ d = ((t2 - t1) + (ptpTime (slice b 34 10) - ptpCorr b - t3)) / 2) ∧
    (∃ (ns : Nat), ns < 2 ^ 48 * 1000000000) ∧
    (∃ (s : State), s.get NET_TSTAT.STATE = 1 ∧ s.ts.chosen.isSome = true ∧ (∃ t, s.ts.inSince = some t ∧ t + 10000000000 ≤ s.clk.up)) :=
  ⟨⟨({ st [(NET_STAT.LINK 0, 1)] with ts := { TimeSync.reset with chosen := some ⟨List.replicate 8 0, [], false, 0, 0⟩ } } : State), (List.replicate 44 0), none, 0, by decide +kernel⟩,
   ⟨State.reset, _, 0, 0, ⟨by decide, (by decide), rfl⟩⟩,
   ⟨(st [(NET_TSTAT.STATE, 1)]), _, 0, 0, ⟨by decide, by decide, (by decide +kernel), rfl⟩⟩,
   ⟨[], none, by decide⟩,
   ⟨[0, 0, 0, 0, 0, 0, 2], [], by decide +kernel⟩,
   ⟨link0, (List.replicate 64 0), (by decide +kernel)⟩,
   ⟨(late (({ st [(NET_TSTAT.STATE, 2)] with ts := { State.reset.ts with chosen := some dMas } } : State))), _, dMas, 0, ⟨by decide, by decide, (by decide), by decide, rfl⟩⟩,
   ⟨({ st [(NET_STAT.LINK 0, 1), (NET_TSTAT.STATE, 1)] with ts := { TimeSync.reset with chosen := some ⟨List.replicate 8 0, [], false, 0, 0⟩ } } : State), _, ⟨by decide, (by decide), none_all2 rfl, rfl⟩⟩,
   ⟨(({ st [(NET_STAT.LINK 0, 1)] with ts := { TimeSync.reset with chosen := some ⟨List.replicate 8 0, [], false, 0, 0⟩, sync := some (0, 0), reqAt := some 0, reqSeq := 1 } } : State) |> netP [] [(⟨10, 0, 0x044, []⟩, [2, 0, 0, 0, 0, 1])] []), (List.replicate 44 0 ++ [2, 0, 0, 0xFF, 0xFE, 0, 0, 1, 0, 1]), 0, 0, 0, 0, by decide +kernel⟩,
   ⟨0, by decide⟩,
   ⟨({ late (st [(NET_TSTAT.STATE, 1)]) with ts := { TimeSync.reset with chosen := some dMas, inSince := some 0 } } : State), ⟨(by decide), by decide, ⟨0, by decide, (by decide)⟩⟩⟩⟩

theorem wit_BornakCommands :
    (∃ (s : State) (k : Carrier) (b : List Byte), k.port = 0 ∧ k.full = false ∧ s.linkUp 0 = true ∧ s.prp = false ∧ s.lnk.absent = false ∧ b.length < 22) ∧
    (∃ (s u : State) (k : Carrier) (b : List Byte) (c : Nat), k.port = 0 ∧ k.full = false ∧ s.linkUp 0 = true ∧ s.prp = false ∧ s.lnk.absent = false ∧ s.cfg.sig.connList.find? (fun c => s.cfg.sig.connNat 1 c % 2 ^ 62 = beAt b 0 8 % 2 ^ 62) = some c ∧ beAt b 0 8 / 2 ^ 62 = 0 ∧ s.cfg.sig.connKey c = none ∧ b.length = 22 + s.cfg.sig.lrx c ∧ beAt b (18 + s.cfg.sig.lrx c) 4 = crc32c (b.take (18 + s.cfg.sig.lrx c)) ∧ u = (s.inc (NET_RX.COUNT 0)).bnkDue c) ∧
    (∃ (s u : State) (k : Carrier) (b : List Byte) (c : Nat), k.port = 0 ∧ k.full = false ∧ s.linkUp 0 = true ∧ s.prp = false ∧ s.lnk.absent = false ∧ s.cfg.sig.connList.find? (fun c => s.cfg.sig.connNat 1 c % 2 ^ 62 = beAt b 0 8 % 2 ^ 62) = some c ∧ beAt b 0 8 / 2 ^ 62 = 2 ∧ s.cfg.sig.connKey c = none ∧ b.length = 30 ∧ beAt b 26 4 = crc32c (b.take 26) ∧ u = (s.inc (NET_RX.COUNT 0)).bnkDue c) ∧
    (∃ (s u : State) (k : Carrier) (b : List Byte) (c : Nat), k.port = 0 ∧ k.full = false ∧ s.linkUp 0 = true ∧ s.prp = false ∧ s.lnk.absent = false ∧ s.cfg.sig.connList.find? (fun c => s.cfg.sig.connNat 1 c % 2 ^ 62 = beAt b 0 8 % 2 ^ 62) = some c ∧ beAt b 0 8 / 2 ^ 62 = 3 ∧ s.cfg.sig.connKey c = none ∧ b.length = 30 ∧ beAt b 26 4 = crc32c (b.take 26) ∧ u = (s.inc (NET_RX.COUNT 0)).bnkDue c) ∧
    (∃ (s : State) (c : Fin 64), (s.conn c.val).state ≠ 0 ∧ s.lnk.absent = false ∧ (∀ t, (s.conn c.val).reqAt = some t → t + s.te c.val / 2 ≤ s.clk.bornak)) ∧
    (∃ (s : State) (c : Fin 64), (s.conn c.val).state ≠ 0 ∧ s.lnk.absent = false ∧ (∀ t, (s.conn c.val).txAt = some t → t + s.cfg.sig.connNat 6 c.val * 1000000 ≤ s.clk.up ∨ t + 1000000 ≤ s.clk.up ∧ s.txPayload c.val ≠ (s.conn c.val).txLast)) ∧
    (∃ (s : State) (c : Fin 64), (s.conn c.val).state = 3 ∧ s.dataExpired c.val = true) ∧
    (∃ (s : State) (c : Fin 64), (s.conn c.val).state = 2 ∧ (s.conn c.val).tq + s.te c.val < s.clk.bornak) ∧
    (∃ (s : State) (c : Fin 64), (∃ n ∈ (s.conn c.val).win, n ≠ 0) ∧ (∀ t, (s.conn c.val).errAt = some t → t + 1000000000 ≤ s.clk.up)) ∧
    (∃ (s : State) (c seq time : Nat) (payload : List Byte), (s.conn c).state < 2) ∧
    (∃ (s : State) (c seq time d : Nat) (payload : List Byte), d = (seq + 2 ^ 32 - (s.conn c).q % 2 ^ 32) % 2 ^ 32 ∧ 2 ≤ (s.conn c).state ∧ (d = 0 ∨ 2 ^ 31 ≤ d)) ∧
    (∃ (s : State) (c seq time d : Nat) (payload : List Byte), d = (seq + 2 ^ 32 - (s.conn c).q % 2 ^ 32) % 2 ^ 32 ∧ 2 ≤ (s.conn c).state ∧ 0 < d ∧ d < 2 ^ 31 ∧ s.cfg.sig.connNat 7 c < d) ∧
    (∃ (s u : State) (c seq time d : Nat) (payload : List Byte) (x : Conn), d = (seq + 2 ^ 32 - (s.conn c).q % 2 ^ 32) % 2 ^ 32 ∧ 2 ≤ (s.conn c).state ∧ 0 < d ∧ d < 2 ^ 31 ∧ d ≤ s.cfg.sig.connNat 7 c ∧ s.senderOfs c time < 2 ^ 47 ∧ s.age100 c (s.senderOfs c time) ≤ (s.te c : Int) * 100 ∧ x = { s.conn c with q := seq, data := some (time, payload), gaps := (s.conn c).gaps + (d - 1) }.bump 3 (d - 1) ∧ u = (s.setConn c x).bnkState c 3 2 ∧ u.isPeer c = false) :=
  ⟨⟨link0, dCar, [], by decide⟩,
   ⟨conn0, _, dCar, (dg 0 22), 0, ⟨by decide +kernel, (by decide +kernel), by decide +kernel, by decide +kernel, (by decide +kernel), by decide +kernel, by decide +kernel, (by decide +kernel), by decide +kernel, by decide +kernel, rfl⟩⟩,
   ⟨conn0, _, dCar, (dg 2 30), 0, ⟨(by decide +kernel), by decide +kernel, by decide +kernel, (by decide +kernel), by decide +kernel, by decide +kernel, (by decide +kernel), by decide +kernel, by decide +kernel, (by decide +kernel), rfl⟩⟩,
   ⟨conn0, _, dCar, (dg 3 30), 0, ⟨by decide +kernel, by decide +kernel, (by decide +kernel), by decide +kernel, by decide +kernel, (by decide +kernel), by decide +kernel, by decide +kernel, (by decide +kernel), by decide +kernel, rfl⟩⟩,
   ⟨(late ((fun s : State => s.setConn 0 { s.conn 0 with state := 1 }) (({ State.reset with lnk := { State.reset.lnk with absent := false } } : State)))), 0, ⟨by decide, (by decide), none_all rfl⟩⟩,
   ⟨(late ((fun s : State => s.setConn 0 { s.conn 0 with state := 1 }) (({ State.reset with lnk := { State.reset.lnk with absent := false } } : State)))), 0, ⟨by decide, by decide, none_all rfl⟩⟩,
   ⟨((late State.reset).setConn 0 { Conn.reset with state := 3, data := some (0, []) }), 0, (by decide +kernel)⟩,
   ⟨(late ((fun s : State => s.setConn 0 { s.conn 0 with state := 2 }) State.reset)), 0, by decide⟩,
   ⟨(State.reset.setConn 0 { Conn.reset with win := [1, 0, 0, 0, 0] }), 0, ⟨by decide, none_all rfl⟩⟩,
   ⟨State.reset, 0, 0, 0, [], (by decide)⟩,
   ⟨(State.reset.setConn 0 { Conn.reset with state := 2 }), 0, 0, 0, 0, [], by decide⟩,
   ⟨(State.reset.setConn 0 { Conn.reset with state := 2 }), 0, 100, 0, 100, [], by decide⟩,
   ⟨(State.reset.setConn 0 { Conn.reset with state := 2 }), _, 0, 1, 0, 1, [], _, ⟨(by decide), by decide, by decide, (by decide), by decide, by decide, (by decide +kernel), rfl, rfl, by decide⟩⟩⟩

theorem wit_StreamCommands :
    (∃ (s : State) (q : QRec) (qs : List QRec), s.md.mode ≠ .reset ∧ s.cls.rom = false ∧ s.spiWaiting = q :: qs ∧ s.recs.spiWord < 7) ∧
    (∃ (s : State) (q : QRec) (qs : List QRec), s.md.mode ≠ .reset ∧ s.cls.rom = false ∧ s.spiWaiting = q :: qs ∧ s.recs.spiWord = 7) ∧
    (∃ (s : State) (d : Fin 4) (p : Fin 8) (f : Fin 2) (z : Fin 256) (j : Fin 8) (first count : Nat) (late : Bool), p.val ≠ 0 ∧ s.receives d.val (p.val + 1) = true ∧ ((s.product (p.val + 1) f.val z.val j.val).elems.drop first).take count ≠ [] ∧ 28 + ((s.product (p.val + 1) f.val z.val j.val).head ++ (((s.product (p.val + 1) f.val z.val j.val).elems.drop first).take count).flatten).length ≤ s.maxPayload ((s.cfg.net.bytes 10 0x1B 0x081 [d.val]).getD [])) ∧
    (∃ (s : State) (d : Fin 4) (f : Fin 2) (z : Fin 256) (j : Fin 8) (first count : Nat) (late : Bool), s.receives d.val 1 = true) ∧
    (∃ (s t : State) (k : Carrier) (b : List Byte) (ws : List Word), k.port = 0 ∧ k.full = false ∧ s.linkUp 0 = true ∧ s.prp = false ∧ b.length = 16 ∧ beAt b 0 2 = 0x4B4D ∧ beAt b 2 1 = 1 ∧ beAt b 3 1 = 1 ∧ s.cfg.net.nat 10 0 0x04E [] = 1 ∧ 1 ≤ beAt (b.drop 8) 4 1 ∧ beAt (b.drop 8) 4 1 ≤ 64 ∧ State.readWords (beAt (b.drop 8) 4 1) (beAt (b.drop 8) 0 4) (s.inc (NET_RX.COUNT 0)) = (.ok ws, t)) ∧
    (∃ (s u : State) (k : Carrier) (b : List Byte), k.port = 0 ∧ k.full = false ∧ s.linkUp 0 = true ∧ s.prp = false ∧ 9 ≤ b.length ∧ b.length ≤ 1032 ∧ beAt b 0 2 = 0x4B4D ∧ beAt b 2 1 = 1 ∧ beAt b 3 1 = 0x0B ∧ u = s.inc (NET_RX.COUNT 0) ∧ u.netBusy = false) ∧
    (∃ (s : State) (k : Carrier) (b : List Byte), k.port = 0 ∧ k.full = false ∧ s.linkUp 0 = true ∧ s.prp = false ∧ b.length < 8) :=
  ⟨⟨({ inMode .hold State.reset with recs := { State.reset.recs with queue := [dQR], spiWord := 0 } } : State), dQR, [], by decide⟩,
   ⟨({ inMode .hold State.reset with recs := { State.reset.recs with queue := [dQR], spiWord := 7 } } : State), dQR, [], by decide⟩,
   ⟨(let s := (link0 |> netP [(⟨10, 0x1B, 0x083, [0]⟩, 0xFFFF)] [] [⟨10, 0x1B, 0, [0]⟩]); s.setAux 0 { s.aux 0 with vals := [⟨0, some 0, false⟩] }), 0, 7, 0, 0, 0, 0, 1, false, (by decide +kernel)⟩,
   ⟨(link0 |> netP [(⟨10, 0x1B, 0x083, [0]⟩, 0xFFFF)] [] [⟨10, 0x1B, 0, [0]⟩]), 0, 0, 0, 0, 0, 0, false, by decide⟩,
   ⟨(link0 |> netP [(⟨10, 0, 0x04E, []⟩, 1)] [] []), _, dCar, [0x4B, 0x4D, 1, 1, 0, 0, 0, 0, 0, 0, 0, 0, 1, 0, 0, 0], _, ⟨by decide +kernel, (by decide +kernel), by decide +kernel, by decide +kernel, (by decide +kernel), by decide +kernel, by decide +kernel, (by decide +kernel), by decide +kernel, by decide +kernel, (by decide +kernel), rfl⟩⟩,
   ⟨link0, _, dCar, [0x4B, 0x4D, 1, 0x0B, 0, 0, 0, 0, 0], ⟨by decide +kernel, by decide +kernel, (by decide +kernel), by decide +kernel, by decide +kernel, (by decide +kernel), by decide +kernel, by decide +kernel, (by decide +kernel), rfl, by decide +kernel⟩⟩,
   ⟨link0, dCar, [], by decide⟩⟩

theorem wit_SealCommands :
    (∃ (s : State), s.md.mode ≠ .reset ∧ s.cls.rom = false ∧ ¬ (s.md.mode = .boot)) ∧
    (∃ (s : State) (t : Nat) (b : List Byte), s.md.mode ≠ .reset ∧ s.cls.rom = false ∧ ¬ (s.md.mode = .boot) ∧ s.spi.sealLatch = some (t, b) ∧ s.clk.up < t + 100000000) ∧
    (∃ (s : State) (i : Fin 56) (t : Nat) (b : List Byte), i ≠ 0 ∧ i ≠ 55 ∧ s.md.mode ≠ .reset ∧ s.cls.rom = false ∧ ¬ (s.md.mode = .boot) ∧ s.spi.sealLatch = some (t, b) ∧ s.clk.up < t + 100000000) ∧
    (∃ (s : State) (d : Fin 4), s.receives d.val 9 = true ∧ s.canSend = true ∧ s.cls.deciding = none ∧ s.second = s.sealedTo d.val + 1) ∧
    (∃ (s : State) (d : Fin 4), s.receives d.val 9 = true ∧ s.canSend = true ∧ s.cls.deciding = none ∧ s.sealedTo d.val + 2 ≤ s.second) ∧
    (∃ (s : State) (d : Fin 4), s.receives d.val 9 = true ∧ s.canSend = false ∧ s.cls.deciding = none ∧ s.sealedTo d.val < s.second) ∧
    (∃ (s : State) (d : Fin 4), (s.cls.deciding.isSome ∨ s.second ≤ s.sealedTo d.val)) ∧
    (∃ (s : State), s.md.mode = .hold ∧ s.cls.deciding = none ∧ s.spi.sealAt + 1000000000 ≤ s.clk.up ∧ s.clk.up < s.spi.sealAt + 2000000000) ∧
    (∃ (s : State), s.md.mode = .hold ∧ s.cls.deciding = none ∧ s.spi.sealAt + 2000000000 ≤ s.clk.up) ∧
    (∃ (s : State), (s.cls.deciding.isSome ∨ s.clk.up < s.spi.sealAt + 1000000000)) :=
  ⟨⟨({ inMode .hold State.reset with cls := { State.reset.cls with rom := false } } : State), by decide⟩,
   ⟨({ inMode .hold State.reset with spi := { Spi.reset with sealLatch := some (0, []) } } : State), 0, [], by decide⟩,
   ⟨({ inMode .hold State.reset with spi := { Spi.reset with sealLatch := some (0, []) } } : State), 1, 0, [], (by decide)⟩,
   ⟨({ (link0 |> netP [(⟨10, 0x1B, 0x083, [0]⟩, 0xFFFF)] [] [⟨10, 0x1B, 0, [0]⟩]) with clk := ⟨0, 1000000000, 0, 0⟩ } : State), 0, by decide +kernel⟩,
   ⟨(late (link0 |> netP [(⟨10, 0x1B, 0x083, [0]⟩, 0xFFFF)] [] [⟨10, 0x1B, 0, [0]⟩])), 0, by decide +kernel⟩,
   ⟨(late (State.reset |> netP [(⟨10, 0x1B, 0x083, [0]⟩, 0xFFFF)] [] [⟨10, 0x1B, 0, [0]⟩])), 0, (by decide +kernel)⟩,
   ⟨State.reset, 0, by decide⟩,
   ⟨({ inMode .hold State.reset with clk := ⟨1000000000, 0, 0, 0⟩ } : State), by decide⟩,
   ⟨(late (({ inMode .hold State.reset with cls := { State.reset.cls with deciding := none } } : State))), (by decide)⟩,
   ⟨State.reset, by decide⟩⟩

theorem wit_EnvelopeCommands :
    (∃ (s t : State) (e : Envelope) (x : Decision) (o : PlanObs), s.cls.deciding = some e ∧ s.decideEnvelope e o = (x, t) ∧ t.md.mode ≠ .reset) ∧
    (∃ (s : State) (e : Envelope) (o : PlanObs), envelopeOps e.bytes = none) ∧
    (∃ (s : State) (e : Envelope) (o : PlanObs) (ops : List EnvOp), envelopeOps e.bytes = some ops ∧ slice e.bytes 12 16 ≠ s.uid) ∧
    (∃ (s : State) (e : Envelope) (o : PlanObs) (ops : List EnvOp), envelopeOps e.bytes = some ops ∧ slice e.bytes 12 16 = s.uid ∧ s.signer (beAt e.bytes 3 1) ops = none) ∧
    (∃ (s : State) (e : Envelope) (o : PlanObs) (ops : List EnvOp) (key : List Byte) (n : Nat), envelopeOps e.bytes = some ops ∧ slice e.bytes 12 16 = s.uid ∧ s.signer (beAt e.bytes 3 1) ops = some key ∧ n = beAt e.bytes 38 2 ∧ beAt e.bytes 28 8 ≤ s.replayOf (beAt e.bytes 3 1)) :=
  ⟨⟨({ inMode .hold State.reset with cls := { Cls.reset with deciding := some dEnv } } : State), _, dEnv, _, ⟨[], [], []⟩, ⟨by decide, rfl, by decide +kernel⟩⟩,
   ⟨State.reset, dEnv, ⟨[], [], []⟩, (by decide)⟩,
   ⟨({ State.reset with regs := [(0x10, 0), (0x14, 0), (0x18, 0), (0x1C, 0)] } : State), ⟨envB 1 (List.replicate 16 1), 1, [], 0, 0⟩, ⟨[], [], []⟩, [.fwCommit], ⟨by decide +kernel, by decide +kernel⟩⟩,
   ⟨({ State.reset with regs := [(0x10, 0), (0x14, 0), (0x18, 0), (0x1C, 0)] } : State), ⟨envB 1 (List.replicate 16 0), 1, [], 0, 0⟩, ⟨[], [], []⟩, [.fwCommit], ⟨(by decide +kernel), by decide +kernel, by decide +kernel⟩⟩,
   ⟨({ State.reset with regs := [(0x10, 0), (0x14, 0), (0x18, 0), (0x1C, 0)], cls := { Cls.reset with lc := 2, keys := [(1, dKey)] } } : State), ⟨envB 1 (List.replicate 16 0), 1, [], 0, 0⟩, ⟨[], [], []⟩, [.fwCommit], dKey, 4, ⟨(by decide +kernel), by decide +kernel, by decide +kernel, (by decide +kernel), by decide +kernel⟩⟩⟩

theorem wit_OperationCommands :
    (∃ (s t : State) (a v : Word) (o : PlanObs), regAccess a.toNat ≠ some .sig ∧ s.writeWord a.toNat v = (true, t)) ∧
    (∃ (s t : State) (role : Fin 4) (a : Word) (n : Fin 64) (ws : List Word), State.readWords (n.val + 1) a.toNat s = (.ok ws, t)) ∧
    (∃ (s t : State) (role : Fin 4) (k : List Byte), s.cls.lc = 2 ∧ s.roleKey (role.val + 1) ≠ some k ∧ t = (s.setReplay (role.val + 1) 0).putKey (role.val + 1) (some k)) ∧
    (∃ (s t : State) (role : Fin 4), s.cls.lc = 2 ∧ role ≠ 0 ∧ t = (s.setReplay (role.val + 1) 0).putKey (role.val + 1) none) ∧
    (∃ (s t : State) (k : List Byte), s.cls.lc = 1 ∧ t = (({ s.putKey 1 (some k) with cls := { (s.putKey 1 (some k)).cls with lc := 2 } } : State).lifecycleRecord 1 2 2)) ∧
    (∃ (s : State) (signer role : Fin 4) (key : Option (List Byte)), signer ≠ 0) ∧
    (∃ (s : State) (role : Fin 4) (nonce : List Byte), s.cls.lc = 2) ∧
    (∃ (s t : State), s.cls.lc = 2 ∧ s.md.mode = .quiesce ∧ s.md.qdone = true ∧ t = (({ s with cls := { s.cls with armed := true } } : State).lifecycleRecord 2 3 1)) ∧
    (∃ (s t : State), s.md.mode = .quiesce ∧ s.md.qdone = true ∧ s.cls.lc = 2 ∧ t = (({ s.zeroise with cls := { s.zeroise.cls with lc := 4, armed := false } } : State).lifecycleRecord 2 4 2)) :=
  ⟨⟨(inMode .hold State.reset), _, 0x20008, 0, ⟨[], [], []⟩, ⟨by decide +kernel, rfl⟩⟩,
   ⟨State.reset, _, 0, 0, 0, _, rfl⟩,
   ⟨({ State.reset with cls := { State.reset.cls with lc := 2 } } : State), _, 0, [], ⟨by decide, (by decide), rfl⟩⟩,
   ⟨({ State.reset with cls := { State.reset.cls with lc := 2 } } : State), _, 1, ⟨by decide, by decide, rfl⟩⟩,
   ⟨({ State.reset with cls := { State.reset.cls with lc := 1 } } : State), _, [], ⟨(by decide), rfl⟩⟩,
   ⟨State.reset, 1, 0, none, by decide⟩,
   ⟨({ State.reset with cls := { State.reset.cls with lc := 2 } } : State), 0, [], by decide⟩,
   ⟨({ inMode .quiesce State.reset with md := { State.reset.md with mode := .quiesce, qdone := true }, cls := { Cls.reset with lc := 2 } } : State), _, ⟨(by decide), by decide, by decide, rfl⟩⟩,
   ⟨({ inMode .quiesce State.reset with md := { State.reset.md with mode := .quiesce, qdone := true }, cls := { Cls.reset with lc := 2 } } : State), _, ⟨(by decide), by decide, by decide, rfl⟩⟩⟩

theorem wit_FirmwareCommands :
    (∃ (s t : State) (img : Fin 2) (len : Nat), img.val ≠ s.cls.run ∧ t = (({ s.setImage img.val [] with cls := { (s.setImage img.val []).cls with fw := [], fwLen := len } } : State).puts [(CLS_FW_STAT.STATE, 1), (CLS_FW_STAT.IMG, img.val), (CLS_FW_STAT.RECEIVED, 0)])) ∧
    (∃ (s : State) (role : Fin 4) (img : Fin 2) (len : Nat), role ≠ 0) ∧
    (∃ (s : State) (n : Fin 16384), s.get CLS_FW_STAT.STATE = 1) ∧
    (∃ (s : State), s.get CLS_FW_STAT.STATE = 1) ∧
    (∃ (s : State), s.get CLS_FW_STAT.STATE = 2 ∧ s.cls.rom = false ∧ s.cls.fw ≠ [] ∧ s.cls.fw.length = s.cls.fwLen) ∧
    (∃ (s : State), s.get CLS_FW_STAT.STATE = 2 ∧ s.cls.rom = false ∧ (s.cls.fw = [] ∨ s.cls.fw.length ≠ s.cls.fwLen)) ∧
    (∃ (s t : State) (img : Fin 2), t = (({ s with cls := { s.cls with pref := img.val, trials := 0 } } : State).fwRecord img.val 3)) ∧
    (∃ (s t : State), s.cls.trial = true ∧ t = s.fwConfirmed) ∧
    (∃ (s t : State), s.cls.run ∈ s.cls.confirmed ∧ t = (({ s with cls := { s.cls with otp := (sparseSet 0 s.cls.otp 0 (min 255 (max (s.otpCounter 0) (Config.imageRollback (s.imageBytes s.cls.run))))) } } : State).fwRecord s.cls.run 5)) ∧
    (∃ (s : State), s.cls.trial = true ∧ s.md.mode = .hold ∧ s.md.holdAt + 600000000000 ≤ s.clk.up ∧ (∀ t, s.flt.f3At = some t → t + 600000000000 ≤ s.clk.up)) ∧
    (∃ (s : State), s.clk.up < s.md.holdAt + 600000000000) :=
  ⟨⟨State.reset, _, 1, 0, ⟨by decide, rfl⟩⟩,
   ⟨State.reset, 1, 0, 0, by decide⟩,
   ⟨(st [(CLS_FW_STAT.STATE, 1)]), 0, (by decide)⟩,
   ⟨(st [(CLS_FW_STAT.STATE, 1)]), by decide⟩,
   ⟨({ st [(CLS_FW_STAT.STATE, 2)] with cls := { Cls.reset with fw := [0], fwLen := 1 } } : State), by decide⟩,
   ⟨({ st [(CLS_FW_STAT.STATE, 2)] with cls := { State.reset.cls with rom := false, fw := [] } } : State), (by decide)⟩,
   ⟨State.reset, _, 0, rfl⟩,
   ⟨({ State.reset with cls := { State.reset.cls with trial := true } } : State), _, ⟨by decide, rfl⟩⟩,
   ⟨State.reset, _, ⟨by decide, rfl⟩⟩,
   ⟨(late (({ inMode .hold State.reset with cls := { State.reset.cls with trial := true } } : State))), ⟨(by decide), by decide, by decide, none_all rfl⟩⟩,
   ⟨State.reset, (by decide)⟩⟩

theorem wit_BootCommands :
    (∃ (s : State) (f : StoreFault), f.area = 1 ∧ f.corrected = false) ∧
    (∃ (s : State) (f : StoreFault), f.area = 5) ∧
    (∃ (s u v : State), s.md.mode = .boot ∧ s.md.bootHold = false ∧ s.cls.lc ≠ 4 ∧ s.due.stop = none ∧ u = [32, 33, 34, 35, 36].foldl (fun s k => s.bootPass k) s ∧ u.due.stop = none ∧ v = u.imageSelect.2) ∧
    (∃ (s u : State) (b : BootBist), s.md.mode = .boot ∧ s.md.bootHold = false ∧ s.cls.lc ≠ 4 ∧ u = s.bistFail (32 + b.unit.val) b.slice b.addr b.bit b.how) ∧
    (∃ (s : State), s.cls.pref ∈ s.cls.confirmed ∧ s.imageSigned s.cls.pref = true ∧ s.imageFresh s.cls.pref = true) ∧
    (∃ (s : State), s.cls.pref ∉ s.cls.confirmed ∧ s.cls.trials < 3 ∧ s.imageSigned s.cls.pref = true ∧ s.imageFresh s.cls.pref = true) :=
  ⟨⟨State.reset, dStF, by decide⟩,
   ⟨State.reset, ⟨5, 0, false⟩, by decide⟩,
   ⟨({ inMode .boot State.reset with due := { State.reset.due with stop := none } } : State), _, _, ⟨(by decide), by decide, by decide, (by decide), rfl, by decide, rfl⟩⟩,
   ⟨(inMode .boot State.reset), _, dBB, ⟨by decide, (by decide), by decide, rfl⟩⟩,
   ⟨State.reset, by decide⟩,
   ⟨({ State.reset with cls := { Cls.reset with confirmed := [] } } : State), ⟨(by decide), by decide, by decide, by simp [State.imageFresh, State.otpCounter, State.reset, Cls.reset, sparseGet]⟩⟩⟩

theorem wit_BistCommands :
    (∃ (s : State), s.bistOn = true ∧ s.gal.hkFailed = false ∧ s.get GAL_STAT.RESERVE < 20 ∧ s.bist.rotAt + s.rotationSlot ≤ s.clk.up ∧ s.rotationWaits = true) ∧
    (∃ (s : State) (r : Nat), s.bistOn = true ∧ s.gal.hkFailed = false ∧ s.get GAL_STAT.RESERVE = r ∧ r < 20 ∧ s.rotationWaits = false ∧ s.eng r = 0 ∧ s.bist.rotAt + s.rotationSlot ≤ s.clk.up) ∧
    (∃ (s : State), s.clk.up < s.bist.rotAt + s.rotationSlot) ∧
    (∃ (s : State), (∀ e < 20, s.eng e ≠ 4)) ∧
    (∃ (s : State) (c : Nat), s.bistOn = true ∧ s.gal.hkFailed = false ∧ (List.range 3).find? (fun c => s.get (ACQ_CHZ.STATE c) = 0) = some c ∧ s.bist.chzAt + s.chzSlot ≤ s.clk.up) ∧
    (∃ (s : State) (u : Fin 37), s.sliceMay u.val = true ∧ s.shortUnit u.val = false ∧ u.val < 20 ∧ (s.unit u.val).active = true ∧ (s.unit u.val).short = false) ∧
    (∃ (s : State) (u : Nat) (r : SliceEnd), s.get TST_STAT.UNIT = u ∧ u ≠ 0xFF ∧ s.sliceFails u r = none) ∧
    (∃ (s : State) (u how : Nat) (r : SliceEnd), s.get TST_STAT.UNIT = u ∧ u ≠ 0xFF ∧ s.sliceFails u r = some how) ∧
    (∃ (s : State) (u : Nat) (r : SliceEnd), u < 20 ∧ r.misr = Config.goldenSeal 0 (s.unit u).short (s.unit u).slices ∧ ((s.unit u).short = true → r.restored = r.saved)) ∧
    (∃ (s : State) (u : Nat) (r : SliceEnd), 23 ≤ u ∧ r.misr = Config.goldenSeal u (s.unit u).short (s.unit u).slices ∧ r.restored ≠ r.saved) ∧
    (∃ (s : State) (u : Fin 5) (r : SliceEnd) (short : Bool), s.bistOn = true ∧ (s.unit (u.val + 32)).state ≠ 2 ∧ s.signalSlice (u.val + 32) = some short ∧ (∀ t, s.bist.sigAt = some t → t + 375000000 ≤ s.clk.up) ∧ let w : State := { s with bist := { s.bist with sigAt := some s.clk.up } }; let v := (w.setUnit (u.val + 32) { s.unit (u.val + 32) with short := short }).shortSync; let x := v.unit (u.val + 32); v.sliceFails (u.val + 32) r = none) ∧
    (∃ (s : State) (u : Fin 5) (r : SliceEnd) (short : Bool) (how : Nat), s.bistOn = true ∧ (s.unit (u.val + 32)).state ≠ 2 ∧ s.signalSlice (u.val + 32) = some short ∧ (∀ t, s.bist.sigAt = some t → t + 375000000 ≤ s.clk.up) ∧ let w : State := { s with bist := { s.bist with sigAt := some s.clk.up } }; let v := (w.setUnit (u.val + 32) { s.unit (u.val + 32) with short := short }).shortSync; v.sliceFails (u.val + 32) r = some how) ∧
    (∃ (s : State) (c : Fin 2), 3 ≤ s.get (SUP_STAT.STATE (1 - c.val)) ∧ c.val ∈ s.supsLeft) ∧
    (∃ (s : State) (c : Fin 2), s.get (SUP_STAT.STATE (1 - c.val)) = 1) ∧
    (∃ (s v : State) (u : Fin 256), v = s.put TST_CMD.UNIT u.val ∧ v.bistOn = true ∧ s.gal.hkFailed = false ∧ u.val = 24) ∧
    (∃ (s v : State) (u : Fin 256), v = s.put TST_CMD.UNIT u.val ∧ v.bistOn = true ∧ s.gal.hkFailed = false ∧ u.val < 20 ∧ u.val ≠ v.get GAL_STAT.RESERVE) ∧
    (∃ (s : State), s.get TST_STAT.UNIT = 0xFF) :=
  ⟨⟨(late ({ inMode .hold (st [(GAL_STAT.RESERVE, 0)]) with gal := { Gal.reset with restore := [0] } } : State)), by decide +kernel⟩,
   ⟨(late (inMode .hold (st [(GAL_STAT.RESERVE, 0)]))), 0, by decide +kernel⟩,
   ⟨State.reset, (by decide)⟩,
   ⟨State.reset, by decide⟩,
   ⟨(late (inMode .hold State.reset)), 0, by decide +kernel⟩,
   ⟨((inMode .hold (st [(TST_STAT.UNIT, 255)])).setUnit 0 { BistUnit.reset with active := true }), 0, (by decide)⟩,
   ⟨(inMode .hold (st [(TST_STAT.UNIT, 0)])), 0, (sealOf 0), ⟨by decide, by decide, seal_fails _ _ _ rfl⟩⟩,
   ⟨(inMode .hold (st [(TST_STAT.UNIT, 23)])), 23, 2, { sealOf 23 with saved := 1 }, ⟨(by decide), by decide, seal_fails _ _ _ rfl⟩⟩,
   ⟨State.reset, 0, (sealOf 0), ⟨by decide, rfl, (by decide)⟩⟩,
   ⟨State.reset, 23, { sealOf 23 with saved := 1 }, ⟨by decide, rfl, by decide⟩⟩,
   ⟨(inMode .hold State.reset), 0, (sealOf 32), false, ⟨(by decide), by decide, by decide, none_all rfl, seal_fails _ _ _ rfl⟩⟩,
   ⟨(inMode .hold State.reset), 0, { sealOf 32 with saved := 1 }, false, 2, ⟨(by decide), by decide, by decide, none_all rfl, seal_fails _ _ _ rfl⟩⟩,
   ⟨(st [(SUP_STAT.STATE 1, 3), (SUP_STAT.STATE 0, 1)]), 0, (by decide)⟩,
   ⟨(st [(SUP_STAT.STATE 1, 1)]), 0, by decide⟩,
   ⟨(inMode .hold State.reset), _, 24, ⟨rfl, by decide, (by decide), by decide⟩⟩,
   ⟨(inMode .hold State.reset), _, 0, ⟨rfl, by decide, (by decide), by decide, by decide⟩⟩,
   ⟨(st [(TST_STAT.UNIT, 0xFF)]), (by decide)⟩⟩

theorem wit_AgeingCommands :
    (∃ (s v : State) (a : Nat) (m : MemFault), m.byCol = false ∧ m.badSpares = 0 ∧ 0 < s.sparesLeft a 1 ∧ s.repair.length < 4096 ∧ v = ((s.repairEntry a 1 m.row (s.repairsOf a 1)).memSync).put TST_EVT.REPAIR 1) ∧
    (∃ (s : State) (a k : Nat) (m : MemFault), k = (a * 65536 + m.row) * 65536 + m.col ∧ sparseGet [] s.corr k = []) ∧
    (∃ (s : State) (m : Fin 48) (tj : Int), (s.mon m.val).failed = false ∧ (∀ t, (s.mon m.val).readAt = some t → t + 60000000000 ≤ s.clk.up)) ∧
    (∃ (s : State) (m : Fin 48) (v : Nat) (tj : Int), (s.mon m.val).failed = false ∧ (∀ t, (s.mon m.val).readAt = some t → t + 60000000000 ≤ s.clk.up)) ∧
    (∃ (s : State), s.led.hourAt + 3600000000000 ≤ s.clk.up) ∧
    (∃ (s : State) (m n mean : Nat) (tj v : Int), (s.mon m).failed = false ∧ (s.mon m).hour ≠ [] ∧ n = (s.mon m).hour.length ∧ mean = (2 * ((s.mon m).hour.map (·.1)).sum + n) / (2 * n) ∧ tj = roundHalf ((((s.mon m).hour.map (·.2)).sum : Rat) / n) ∧ v = Config.lichenNormal m mean (s.get GAL_STAIR.SET) tj) ∧
    (∃ (s : State), s.led.dayAt + 86400000000000 ≤ s.clk.up) ∧
    (∃ (s : State) (date worst : Nat) (far : Bool) (first : Option (Nat × Rat)), 90 ≤ s.led.days ∧ s.gal.hkFailed = false ∧ s.led.fcast = none ∧ (∀ t, s.led.foreAt = some t → t + 86400000000000 ≤ s.clk.up) ∧ first = lowest (s.planUnits.filterMap (fun u => (s.crossDay u).map (fun d => (u, (d : Rat))))) ∧ far = first.isNone ∧ worst = (match first with | some p => p.1 | none => 0xFF) ∧ date = s.clk.dev + (match first with | some p => p.2.floor.toNat | none => 18262) * 86400000000000) :=
  ⟨⟨State.reset, _, 0x400, dMemF, ⟨by decide, by decide, (by decide), by decide, rfl⟩⟩,
   ⟨State.reset, 0, 0, dMemF, by decide⟩,
   ⟨(late ((fun s : State => s.setMon 0 { s.mon 0 with failed := false }) State.reset)), 0, 0, ⟨(by decide), none_all rfl⟩⟩,
   ⟨State.reset, 0, 0, 0, ⟨by decide, none_all rfl⟩⟩,
   ⟨(late (State.reset)), by decide⟩,
   ⟨({ State.reset with mons := [(0, { Monitor.reset with hour := [(1, 1)] })] } : State), 0, _, _, _, _, ⟨(by decide), by decide, rfl, rfl, rfl, rfl⟩⟩,
   ⟨(late (State.reset)), by decide⟩,
   ⟨({ State.reset with led := { Ledger.reset with days := 90 } } : State), _, _, _, _, ⟨(by decide), by decide, by decide, none_all rfl, rfl, rfl, rfl, rfl⟩⟩⟩

theorem wit_LedgerCommands :
    (∃ (s : State), s.gal.hkFailed = false ∧ s.led.imgAt + 600000000000 ≤ s.clk.up) ∧
    (∃ (s : State) (r : Record) (rest : List (Bool × Record)), s.jrn.wait = (false, r) :: rest ∧ s.gal.hkFailed = false) ∧
    (∃ (s : State) (r : Record) (rest : List (Bool × Record)), s.jrn.wait = (true, r) :: rest ∧ s.gal.hkFailed = false ∧ s.jrn.kept.length < 131072) ∧
    (∃ (s : State) (n : Fin 64) (x : LampLife), x = sparseGet LampLife.reset s.lamps n.val ∧ x.month.2 ≠ 0 ∧ x.ref = none) ∧
    (∃ (s v : State) (n : Fin 64) (x : LampLife) (mean r : Nat), x = sparseGet LampLife.reset s.lamps n.val ∧ x.month.2 ≠ 0 ∧ mean = lampMean x.month ∧ x.ref = some r ∧ r ≠ 0 ∧ r ≤ 10 * ((mean : Int) - r).natAbs ∧ v = ({ s with lamps := sparseSet .reset s.lamps n.val { x with means := (mean :: x.means).take 24, month := (0, 0) } } : State)) ∧
    (∃ (s : State) (role : Fin 4) (count : Fin 24) (first : Nat), role ≠ 1) :=
  ⟨⟨(late (({ State.reset with gal := { State.reset.gal with hkFailed := false } } : State))), by decide⟩,
   ⟨({ State.reset with jrn := ⟨[(false, dRec)], 0, [], [], []⟩ } : State), dRec, [], by decide⟩,
   ⟨({ State.reset with jrn := ⟨[(true, dRec)], 0, [], [], []⟩ } : State), dRec, [], (by decide)⟩,
   ⟨({ State.reset with lamps := [(0, { LampLife.reset with month := (0, 1) })] } : State), 0, { LampLife.reset with month := (0, 1) }, by decide⟩,
   ⟨({ State.reset with lamps := [(0, { LampLife.reset with month := (22, 1), ref := some 10 })] } : State), _, 0, { LampLife.reset with month := (22, 1), ref := some 10 }, 11, 10, ⟨by decide, (by decide), by decide +kernel, by decide, (by decide), by decide, rfl⟩⟩,
   ⟨State.reset, 0, 0, 0, by decide⟩⟩

theorem wit_ModeCommands :
    (∃ (s : State), s.md.mode = .hold ∧ s.get CFG_STAT.ACTIVE ≠ 4 ∧ s.connDown = none ∧ s.pins.safeStopN = true ∧ s.get CFG_STAT.SWSTATE ≠ 3) ∧
    (∃ (s : State), s.md.mode = .family) ∧
    (∃ (s : State), s.md.mode = .safe ∧ s.rd MOD_SCAUSE = 0 ∧ s.pins.safeStopN = true ∧ s.get CFG_STAT.SWSTATE ≠ 3) ∧
    (∃ (s : State), s.md.mode = .hold) ∧
    (∃ (s : State), s.md.mode = .commission) ∧
    (∃ (s : State), s.md.mode = .commission ∧ s.md.commissionSince + 14400000000000 ≤ s.clk.up) ∧
    (∃ (s : State), s.clk.up < s.md.commissionSince + 14400000000000) ∧
    (∃ (s u : State), s.md.mode = .family ∧ u = s.enterMode .quiesce 1 ∧ u.get CFG_STAT.SWSTATE = 0) ∧
    (∃ (s : State), s.md.mode = .quiesce ∧ s.md.qdone = false ∧ s.recs.queue = [] ∧ (∀ d < 4, s.receives d 9 = false)) :=
  ⟨⟨({ inMode .hold (st [(CFG_STAT.ACTIVE, 0), (CFG_STAT.SWSTATE, 0)]) with pins := { State.reset.pins with safeStopN := true } } : State), by decide⟩,
   ⟨(inMode .family State.reset), by decide⟩,
   ⟨({ inMode .safe (st [(CFG_STAT.SWSTATE, 0)]) with pins := { State.reset.pins with safeStopN := true } } : State), (by decide)⟩,
   ⟨(inMode .hold State.reset), by decide⟩,
   ⟨(inMode .commission State.reset), by decide⟩,
   ⟨(late (inMode .commission State.reset)), (by decide)⟩,
   ⟨State.reset, by decide⟩,
   ⟨(inMode .family State.reset), _, ⟨by decide, rfl, (by decide +kernel)⟩⟩,
   ⟨({ inMode .quiesce State.reset with recs := { State.reset.recs with queue := [] } } : State), by decide⟩⟩

theorem wit_ModeRefusals :
    (∃ (s : State), s.md.mode ≠ .hold) ∧
    (∃ (s : State), s.md.mode = .hold ∧ s.get CFG_STAT.ACTIVE = 4) ∧
    (∃ (s : State) (c : Nat), s.md.mode = .hold ∧ s.get CFG_STAT.ACTIVE ≠ 4 ∧ s.connDown = some c) ∧
    (∃ (s : State), s.md.mode ≠ .safe) ∧
    (∃ (s : State), s.md.mode = .safe ∧ s.rd MOD_SCAUSE ≠ 0) ∧
    (∃ (s : State), s.md.mode ≠ .family) ∧
    (∃ (s : State), s.md.mode ≠ .hold) ∧
    (∃ (s : State), s.md.mode ≠ .commission) ∧
    (∃ (s : State), s.md.mode = .analysis) ∧
    (∃ (s : State) (b : Nat), b < 128 ∧ 1 < ((List.range 7).filter (fun i => bitOf b i)).length) :=
  ⟨⟨State.reset, by decide⟩,
   ⟨(inMode .hold (st [(CFG_STAT.ACTIVE, 4)])), by decide⟩,
   ⟨(inMode .hold (st [(CFG_STAT.ACTIVE, 0)]) |> sigP [] [] [⟨9, 0x18, 0, [0]⟩]), 0, (by decide)⟩,
   ⟨State.reset, by decide⟩,
   ⟨(inMode .safe (State.reset.wr MOD_SCAUSE 1)), by decide⟩,
   ⟨State.reset, (by decide)⟩,
   ⟨State.reset, by decide⟩,
   ⟨State.reset, by decide⟩,
   ⟨(inMode .analysis State.reset), (by decide)⟩,
   ⟨State.reset, 3, by decide⟩⟩

theorem wit_ResetCommands :
    (∃ (s : State), s.md.mode ≠ .reset) ∧
    (∃ (s u v w : State), s.md.mode ≠ .reset ∧ u = (s.bistInterrupt 4).enterMode .reset 1 ∧ v = (u.put MOS_EVT.SEAL 1).make 0 srcMoss Code.MOSS_SEAL.val (le 1 3 ++ le 8 u.clk.dev ++ le 1 1) ∧ w = ((v.journalFlush v.jrn.wait.length).imageWrite none).writeTail 3) ∧
    (∃ (s : State), s.on MOD_RESET.IGNORED = true) ∧
    (∃ (s : State), s.on MOD_RESET.IGNORED = false ∧ s.pw.lossAt = none ∧ s.md.mode ≠ .reset) ∧
    (∃ (s u v : State), u = ({ ({ s with pins := { s.pins with rstN := false } } : State).put MOD_RESET.PIN 0 with md := { s.md with rstLowSince := some (s.md.rstLowSince.getD (s.clk.up - 10000000)) } } : State) ∧ u.on MOD_RESET.IGNORED = false ∧ s.pw.lossAt = none ∧ s.md.mode ≠ .reset ∧ v = u.warmReset 3) ∧
    (∃ (s : State) (t : Nat), s.md.rstLowSince = some t ∧ t + 8000000000 ≤ s.clk.up ∧ s.pins.rstN = false ∧ s.on MOD_RESET.IGNORED = false ∧ s.pw.lossAt = none ∧ s.md.mode ≠ .reset) ∧
    (∃ (s : State), s.md.f4Wait = true ∧ s.md.f4At + 10000000000 ≤ s.clk.up ∧ s.md.mode = .reset ∧ s.pins.rstN = false ∧ s.on MOD_RESET.IGNORED = false) ∧
    (∃ (s u : State), s.md.f4Wait = true ∧ s.md.f4At + 10000000000 ≤ s.clk.up ∧ s.md.mode = .reset ∧ s.pins.rstN = true ∧ s.md.pinReset = false ∧ s.on MOD_RESET.F4HOLD = false ∧ u = ({ s with md := { s.md with f4Wait := false } } : State) ∧ u.suppliesValid = true) ∧
    (∃ (s : State), s.clk.up < s.md.f4At + 10000000000) ∧
    (∃ (s u : State) (t : Nat), s.md.rstLowSince = some t ∧ t + 8000000000 ≤ s.clk.up ∧ s.pins.rstN = false ∧ s.on MOD_RESET.IGNORED = false ∧ s.pw.lossAt = none ∧ s.md.mode = .reset ∧ u = ({ s.puts [(MOD_RESET.IGNORED, 1), (MOD_RESET.INDICATE, 1)] with sio := { s.sio with indicate := true }, md := { s.md with stuckRec := some ((s.clk.up - t) / 1000000, if s.md.resetCold then 1 else 2), resetCause := 4, f4Wait := false } } : State).put MOD_RESET.CAUSE 4 ∧ u.suppliesValid = true ∧ u.on MOD_RESET.F4HOLD = false) ∧
    (∃ (s : State), s.resetMayEnd = true ∧ s.cls.zeroPending = false ∧ s.cls.armed = false) ∧
    (∃ (s u w : State) (pins : Fin 4) (settled : Bool), s.md.mode = .load ∧ s.cls.lc < 2 ∧ u = ({ s with pins := { s.pins with profSel := pins.val }, cfg := { s.cfg with shadowClamps := 0, shadowRefused := 0 } } : State).applyPlane .profileF ∧ w = (({ u.puts [(CFG_STAT.ACTIVE, 4), (CFG_STAT.STRICT, Plane.profileF.nat 11 0 0x081 []), (CFG_SECT.ACTIVE, 0)] with cfg := { u.cfg with logActive := .empty } } : State).loadedRecord 4 1 0)) ∧
    (∃ (s r t u w : State) (pins : Fin 4) (settled : Bool) (p : Plane) (slot n : Nat), s.md.mode = .load ∧ 2 ≤ s.cls.lc ∧ s.on CFG_CTL.PIN_EN = true ∧ r = ({ s with pins := { s.pins with profSel := pins.val }, cfg := { s.cfg with shadowClamps := 0, shadowRefused := 0 } } : State).put CFG_STAT.PINS pins.val ∧ r.selectLoad pins.val settled = (p, slot, t) ∧ n = (if slot = 4 then 0 else t.cfg.shadowRefused) ∧ u = (t.applyPlane p).puts [(CFG_STAT.ACTIVE, slot), (CFG_STAT.STRICT, p.nat 11 0 0x081 []), (CFG_SECT.ACTIVE, n)] ∧ w = ({ u with cfg := { u.cfg with logActive := if slot = 4 then .empty else u.cfg.logLast } } : State).loadedRecord slot 1 n) ∧
    (∃ (s : State) (signal : Bool) (lvl : Fin 3), (∀ l < 4, lvl.val + 1 < l → (s.flt.handler signal l).active = false)) ∧
    (∃ (s : State), s.peerCompares = true ∧ s.peerMatched = true) :=
  ⟨⟨(inMode .hold State.reset), by decide⟩,
   ⟨(inMode .hold State.reset), _, _, _, ⟨by decide, rfl, rfl, rfl⟩⟩,
   ⟨(st [(MOD_RESET.IGNORED, 1)]), (by decide)⟩,
   ⟨({ inMode .hold (st [(MOD_RESET.IGNORED, 0)]) with pw := { State.reset.pw with lossAt := none } } : State), by decide⟩,
   ⟨({ inMode .hold State.reset with pw := { State.reset.pw with lossAt := none } } : State), _, _, ⟨rfl, by decide, (by decide), by decide, rfl⟩⟩,
   ⟨({ late (inMode .hold State.reset) with pins := { State.reset.pins with rstN := false }, md := { State.reset.md with mode := .hold, rstLowSince := some 0 } } : State), 0, by decide⟩,
   ⟨({ late State.reset with md := { State.reset.md with f4Wait := true }, pins := { State.reset.pins with rstN := false } } : State), (by decide)⟩,
   ⟨({ late (st [(PWR_STAT.VAUX_OK, 1)]) with pw := { Power.reset with vfield := true }, md := { State.reset.md with mode := .reset, f4Wait := true } } : State), _, ⟨by decide, by decide, (by decide), by decide, by decide, (by decide), rfl, by decide⟩⟩,
   ⟨State.reset, by decide⟩,
   ⟨({ late (st [(PWR_STAT.VAUX_OK, 1)]) with pins := { State.reset.pins with rstN := false }, pw := { Power.reset with vfield := true }, md := { State.reset.md with mode := .reset, rstLowSince := some 0 } } : State), _, 0, ⟨(by decide), by decide, by decide, (by decide), by decide, by decide, rfl, (by decide +kernel), by decide +kernel⟩⟩,
   ⟨({ st [(PWR_STAT.VAUX_OK, 1)] with pw := { Power.reset with vfield := true } } : State), by decide⟩,
   ⟨(inMode .load State.reset), _, _, 0, false, ⟨(by decide), by decide, rfl, rfl⟩⟩,
   ⟨({ inMode .load (st [(CFG_CTL.PIN_EN, 1)]) with cls := { Cls.reset with lc := 2 } } : State), _, _, _, _, 0, false, _, _, _, ⟨by decide, (by decide), by decide, rfl, rfl, rfl, rfl, rfl⟩⟩,
   ⟨State.reset, false, 0, by decide⟩,
   ⟨({ late (st [(SIO_PEER.EN, 1)]) with sio := { State.reset.sio with peer := some [0, 0, 0, 0, 0, 0, 0, 0], matchAt := some 0 } } : State), (by decide +kernel)⟩⟩

theorem wit_PowerCommands :
    (∃ (s u : State) (v : Nat), s.pw.vfield = false ∧ s.pw.lossAt = none ∧ 860 < v ∧ 0 < s.get MOD_RSTCNT.COLD ∧ u = ({ s with pw := { s.pw with vfield := true, holdLate := false }, md := { s.md with rstLowSince := if s.pins.rstN then none else some s.clk.up }, led := { s.led with poSince := s.clk.up }, sio := { s.sio with deg := { s.sio.deg with kept := s.sio.deg.kept.map (fun k => (k.1, s.clk.up + 60000000000)) } } } : State)) ∧
    (∃ (s u : State) (peak : Nat), s.on PWR_STAT.VF_HIGH = false ∧ 6200 < peak ∧ u = s.puts [(PWR_STAT.VF_HIGH, 1), (PWR_EVT.VFHIGH, 1), (PWR_VFIELD.NOW, peak), (PWR_VFIELD.PEAK, max peak (s.get PWR_VFIELD.PEAK))]) ∧
    (∃ (s u : State) (v : Nat), s.on PWR_STAT.VF_HIGH = true ∧ v < 6100 ∧ u = s.puts [(PWR_STAT.VF_HIGH, 0), (PWR_EVT.VFHIGH, 1), (PWR_VFIELD.NOW, v)]) ∧
    (∃ (s : State) (cap vhold : Nat), 33 ≤ cap ∧ s.on PWR_STAT.HOLD_OK = false ∧ 2200 ≤ vhold) ∧
    (∃ (s : State) (cap vhold : Nat), s.on PWR_STAT.HOLD_OK = false ∧ s.pw.vfield = true ∧ s.pw.holdLate = false ∧ s.led.poSince + 500000000 ≤ s.clk.up) ∧
    (∃ (s : State) (cause : Fin 2) (mv : Nat), s.on PWR_STAT.VAUX_OK = true ∧ (cause.val = 0 → mv < 3135 ∨ 3465 < mv)) ∧
    (∃ (s : State) (mv : Nat), s.on PWR_STAT.VAUX_OK = false ∧ s.pw.vfield = true ∧ 3135 ≤ mv ∧ mv ≤ 3465) ∧
    (∃ (s : State) (v : Nat), s.on PWR_STAT.VSO_OK = true ∧ v < 1800) ∧
    (∃ (s : State) (v : Nat), s.on PWR_STAT.VSO_OK = false ∧ 1800 ≤ v) ∧
    (∃ (s u : State) (die : Fin 4) (t : Int), u = s.dieReads (die.val + 1) t ∧ die.val + 1 ∉ s.pw.hot ∧ 1250 < t) ∧
    (∃ (s u : State) (die : Fin 4) (t : Int), u = s.dieReads (die.val + 1) t ∧ s.pw.hot ≠ [] ∧ s.pw.sensStop = false ∧ (∀ p ∈ u.pw.reads, p.2 < 1200)) ∧
    (∃ (s u : State) (t : Int), 1400 ≤ t ∧ s.pw.sensStop = false ∧ u = ((s.dieReads 1 t).dieHot 1).tjRecord 1 t 2) ∧
    (∃ (s u : State) (t : Int), 1500 ≤ t ∧ u = ((s.dieReads 3 t).dieHot 3).tjRecord 3 t 2 ∧ s.due.stop = none) ∧
    (∃ (s u : State) (t : Int), s.pw.feStop = true ∧ t < 1200 ∧ u = ({ (s.dieReads 2 t).put PWR_STAT.FE_STOP 0 with pw := { s.pw with feStop := false } } : State)) ∧
    (∃ (s : State) (whole : Bool), s.pw.vfield = true) ∧
    (∃ (s u v w : State) (whole : Bool), s.pw.vfield = true ∧ u = s.bistInterrupt 4 ∧ v = ({ u with md := { u.md with mode := .reset, code := 0, prev := u.md.code } } : State).modeActs ∧ w = v.puts [(PWR_STAT.VF_OK, 0), (PWR_STAT.VAUX_OK, 0), (PWR_STAT.HOLD_OK, 0)]) ∧
    (∃ (s u v : State) (left : Nat), s.pw.lossAt.isSome = true ∧ u = ({ s with led := { s.led with poSecs := s.poSecs, poSince := s.clk.up } } : State) ∧ left = (match u.led.sealed with | some b => if b.whole then b.deg else if u.led.imageDeg = 0xFFFFFFFF then 0xFFFFFFFF else u.led.imageDeg - 600 | none => 0xFFFFFFFF) ∧ v = (u.resetUnits true (degKept left u.clk.up)).countReset true 2) ∧
    (∃ (s u v : State) (t : Int), 1400 ≤ t ∧ s.pw.feStop = false ∧ u = ((s.dieReads 2 t).dieHot 2).tjRecord 2 t 2 ∧ v = opTimebaseUnlock 3 (({ u with pw := { u.pw with feStop := true } } : State).put PWR_STAT.FE_STOP 1)) ∧
    (∃ (s : State), s.pw.lossAt.isSome = true) :=
  ⟨⟨(st [(MOD_RSTCNT.COLD, 1)]), _, 861, ⟨by decide, by decide, (by decide), by decide, rfl⟩⟩,
   ⟨(st [(PWR_STAT.VF_HIGH, 0)]), _, 6201, ⟨by decide, (by decide), rfl⟩⟩,
   ⟨(st [(PWR_STAT.VF_HIGH, 1)]), _, 0, ⟨by decide, by decide, rfl⟩⟩,
   ⟨(st [(PWR_STAT.HOLD_OK, 0)]), 33, 2200, (by decide)⟩,
   ⟨({ late State.reset with pw := { Power.reset with vfield := true } } : State), 0, 0, by decide⟩,
   ⟨(st [(PWR_STAT.VAUX_OK, 1)]), 0, 0, by decide⟩,
   ⟨({ st [(PWR_STAT.VAUX_OK, 0)] with pw := { State.reset.pw with vfield := true } } : State), 3300, (by decide)⟩,
   ⟨(st [(PWR_STAT.VSO_OK, 1)]), 0, by decide⟩,
   ⟨(st [(PWR_STAT.VSO_OK, 0)]), 1800, by decide⟩,
   ⟨State.reset, _, 0, 1251, ⟨rfl, (by decide), by decide⟩⟩,
   ⟨({ State.reset with pw := { Power.reset with hot := [1] } } : State), _, 0, 0, ⟨rfl, by decide, (by decide), by decide⟩⟩,
   ⟨({ State.reset with pw := { State.reset.pw with sensStop := false } } : State), _, 1400, ⟨by decide, (by decide), rfl⟩⟩,
   ⟨({ State.reset with due := { State.reset.due with stop := none } } : State), _, 1500, ⟨by decide, rfl, by decide⟩⟩,
   ⟨({ State.reset with pw := { State.reset.pw with feStop := true } } : State), _, 0, ⟨(by decide), by decide, rfl⟩⟩,
   ⟨({ State.reset with pw := { State.reset.pw with vfield := true } } : State), false, by decide⟩,
   ⟨({ State.reset with pw := { State.reset.pw with vfield := true } } : State), _, _, _, false, ⟨(by decide), rfl, rfl, rfl⟩⟩,
   ⟨({ State.reset with pw := { State.reset.pw with lossAt := some 0 } } : State), _, _, _, ⟨by decide, rfl, rfl, rfl⟩⟩,
   ⟨({ State.reset with pw := { State.reset.pw with feStop := false } } : State), _, _, 1400, ⟨by decide, (by decide), rfl, rfl⟩⟩,
   ⟨({ State.reset with pw := { State.reset.pw with lossAt := some default } } : State), by decide⟩⟩

theorem wit_StepTakesFront :
    (∃ (s : State) (c : Instr) (rest : List Instr), s.pending = c :: rest) :=
  ⟨({ State.reset with pending := [.spiFrameAbort] } : State), .spiFrameAbort, [], by decide⟩

theorem wit_EmptyQueueTick :
    (∃ (s : State), s.pending = []) :=
  ⟨State.reset, by decide⟩

theorem wit_ModeShownKept :
    (∃ (s t : State), s.modeShown ∧ step s = .next t) :=
  ⟨State.reset, _, ⟨by decide, rfl⟩⟩

theorem wit_TimerBackedKept :
    (∃ (s t : State), s.timerBacked ∧ step s = .next t) :=
  ⟨State.reset, _, ⟨by decide, rfl⟩⟩

theorem wit_CalmFinish :
    (∃ (s : State), s.calm) :=
  ⟨State.reset, by decide⟩

theorem wit_FaultModes :
    (∃ (s : State) (code src : Nat), s.due.safe = some (code, src) ∧ (s.md.mode = .hold ∨ s.md.mode = .commission ∨ s.md.mode = .family)) ∧
    (∃ (s : State), s.md.mode ≠ .hold ∧ s.md.mode ≠ .commission ∧ s.md.mode ≠ .family) ∧
    (∃ (s : State) (code src : Nat), s.due.stop = some (code, src) ∧ s.due.safe = none ∧ s.timerBacked ∧ ((s.unit 36).state ≠ 2 ∨ s.lnk.absent = true) ∧ s.md.mode ≠ .boot) ∧
    (∃ (s : State) (code src : Nat), s.due.stop = some (code, src) ∧ s.timerBacked ∧ ((s.unit 36).state ≠ 2 ∨ s.lnk.absent = true) ∧ s.md.mode = .boot) :=
  ⟨⟨({ inMode .hold State.reset with due := ⟨some (0, 0), none, 0⟩ } : State), 0, 0, by decide⟩,
   ⟨State.reset, by decide⟩,
   ⟨({ inMode .hold State.reset with due := ⟨none, some (0, 0), 0⟩ } : State), 0, 0, (by decide)⟩,
   ⟨({ inMode .boot State.reset with due := ⟨none, some (0, 0), 0⟩ } : State), 0, 0, by decide⟩⟩

theorem wit_SafeCauses :
    (∃ (s : State) (b : Nat), b ≤ 8) ∧
    (∃ (s : State) (b i : Nat), b ≤ 8 ∧ i ≤ 8 ∧ i ≠ b) ∧
    (∃ (s : State) (b : Nat), (b = 4 ∨ b = 5 ∨ b = 6)) ∧
    (∃ (s : State) (b i : Nat), b ≤ 8 ∧ i ≤ 8 ∧ b ≠ 4 ∧ b ≠ 5 ∧ b ≠ 6) ∧
    (∃ (s : State) (b a : Nat), a ≠ MOD_SCAUSE) :=
  ⟨⟨State.reset, 0, by decide⟩,
   ⟨State.reset, 0, 1, by decide⟩,
   ⟨State.reset, 4, (by decide)⟩,
   ⟨State.reset, 0, 0, by decide⟩,
   ⟨State.reset, 0, 0, by decide⟩⟩

theorem wit_RecordNumbering :
    (∃ (s : State) (lvl src code time : Nat) (data : List Byte), (∀ m ∈ s.recs.missing, m.source ≠ src)) :=
  ⟨State.reset, 0, 0, 0, 0, [], by decide⟩

theorem wit_InterruptLine :
    (∃ (s : State), (s.md.mode = .reset ∨ s.md.mode = .boot)) ∧
    (∃ (s : State), s.md.mode ≠ .reset ∧ s.md.mode ≠ .boot) :=
  ⟨⟨(inMode .reset State.reset), by decide⟩,
   ⟨(inMode .hold State.reset), by decide⟩⟩

theorem wit_ModeOrder :
    (∃ (s : State), s.md.mode = .family ∧ s.get CFG_STAT.SWSTATE ≠ 0 ∧ s.cfg.inFamily = true) ∧
    (∃ (s : State), s.md.mode = .family ∧ (s.get CFG_STAT.SWSTATE = 0 ∨ s.cfg.inFamily = false) ∧ s.get GAL_STAT.REPLAN = 1) ∧
    (∃ (s : State), s.md.mode = .family ∧ (s.get CFG_STAT.SWSTATE = 0 ∨ s.cfg.inFamily = false) ∧ s.get GAL_STAT.REPLAN ≠ 1) ∧
    (∃ (s : State), s.md.code = s.modeCode) :=
  ⟨⟨({ inMode .family (st [(CFG_STAT.SWSTATE, 1)]) with cfg := { State.reset.cfg with inFamily := true } } : State), by decide⟩,
   ⟨(inMode .family (st [(CFG_STAT.SWSTATE, 0), (GAL_STAT.REPLAN, 1)])), by decide⟩,
   ⟨(inMode .family (st [(CFG_STAT.SWSTATE, 0), (GAL_STAT.REPLAN, 0)])), (by decide)⟩,
   ⟨State.reset, by decide⟩⟩

theorem wit_BornakClock :
    (∃ (s : State) (c : Fin 64), (s.conn c.val).state ≠ 0 ∧ s.lnk.absent = false ∧ (∀ t, (s.conn c.val).reqAt = some t → t + s.te c.val / 2 ≤ s.clk.bornak)) :=
  ⟨(late ((fun s : State => s.setConn 0 { s.conn 0 with state := 1 }) (({ State.reset with lnk := { State.reset.lnk with absent := false } } : State)))), 0, ⟨by decide, by decide, none_all rfl⟩⟩

theorem wit_WriteFrame :
    (∃ (s : State) (a : Nat) (v : Word), regAccess a ≠ some .wo) ∧
    (∃ (s : State) (a : Nat) (v : Word), regAccess a ≠ some .rw ∧ regAccess a ≠ some .rw1c ∧ regAccess a ≠ some .wo) ∧
    (∃ (s : State) (a : Nat) (v : Word), a % 4 ≠ 0) :=
  ⟨⟨State.reset, 0x20008, 0, by decide +kernel⟩,
   ⟨State.reset, 0x10000, 0, by decide +kernel⟩,
   ⟨State.reset, 1, 0, (by decide)⟩⟩

theorem wit_ReadFrame :
    (∃ (s : State) (n a : Nat), a % 4 ≠ 0) ∧
    (∃ (s : State) (a : Nat), a ≠ NET_RDATA) :=
  ⟨⟨State.reset, 0, 1, by decide⟩,
   ⟨State.reset, 0, by decide⟩⟩

def dEvt : AcuEvent := ⟨1, 255, 0, 0, 7, 0, 0, 0, 0, 0, 0, 0, 0, 0⟩

theorem wit_ZoneCommands_heartbeat : ∃ (s : State) (f : Fin 2) (z : Fin 256) (id : Nat) (e : AcuEvent),
    s.events.find? (fun e => e.fibre = f.val && e.zone = z.val && e.id = id) = some e :=
  ⟨({ State.reset with events := [dEvt] } : State), 1, 255, 7, dEvt, by decide⟩

theorem wit_SwitchCommands_refused : ∃ (s : State) (slot : Fin 4) (c : Nat),
    c = (if s.get CFG_STAT.SWSTATE ≠ 0 then 1 else if s.switchMode = false then 2 else 3) ∧
    (s.get CFG_STAT.SWSTATE ≠ 0 ∨ s.switchMode = false ∨ (s.slot slot.val).state ≠ 2) :=
  ⟨st [(CFG_STAT.SWSTATE, 1)], 3, 1, by decide⟩

theorem wit_HeadCommands_step : ∃ (s u : State) (h : Fin 32) (c : HChange) (x y : List (Nat × Nat)) (rest : List (List (Nat × Nat))),
    (s.head h.val).change = some c ∧ c.rest = x :: y :: rest ∧
    u = x.foldl (fun s q => s.setCode ((s.headChans h.val).getD q.1 64) q.2 (s.aspGroup h.val c.target)) s :=
  ⟨State.reset.setHead 31 { Head.reset with change := some ⟨0, 0, 0, 2, [[], []]⟩ }, _, 31, ⟨0, 0, 0, 2, [[], []]⟩, [], [], [],
    ⟨by decide, by decide, rfl⟩⟩

theorem wit_ModeOrder_modes : ∀ m : Mode, ∃ s : State, s.md.mode = m := fun m => ⟨inMode m State.reset, rfl⟩


theorem wit_LandingCommands_crossing : (∃ (s : State) (f : Fin 2) (raman : Bool) (fill : Nat),
      s.get (landFill raman f.val) < s.get ACQ_CFG.HIGH ∧ s.get ACQ_CFG.HIGH ≤ fill) ∧
    (∃ (s : State) (f : Fin 2) (raman : Bool) (fill : Nat),
      s.get ACQ_CFG.HIGH ≤ s.get (landFill raman f.val) ∨ fill < s.get ACQ_CFG.HIGH) :=
  ⟨⟨st [(ACQ_CFG.HIGH, 40)], 1, true, 40, by decide⟩, st [(ACQ_CFG.HIGH, 40)], 0, false, 39, .inr (by decide)⟩

/-- A trace with the cycle number 3 on its way, its window over, in each kind. -/
def onWay (plan : List Shot) (full : Bool) : TraceRec := ⟨3, 0, plan, full, some (-8, 0), none⟩
def traceState (r : TraceRec) : State := State.reset.setFib 1 { State.reset.fib 1 with traces := [r] }
def dShot : Shot := ⟨0, 0, 1, false, 0, 1⟩

theorem wit_AcousticHealthCommands_kinds : ∀ k : EmissionKind, ∃ (s u : State) (f : Fin 2) (n : Nat) (v : TraceVolts) (r : TraceRec)
    (w : Int × Int), r.kind = k ∧ (s.fib f.val).traces.find? (fun q => q.cycle = n) = some r ∧ r.win = some w ∧ r.rwin = none ∧
      w.2 ≤ 8 * (s.clk.up : Int) ∧ s.gal.tooFew = false ∧ s.gal.tasks = [] ∧
      u = (s.setFib f.val { s.fib f.val with traces := (s.fib f.val).traces.filter (fun q => q.cycle ≠ n) }).traceOvr f.val n v false
  | .full => ⟨traceState (onWay [dShot] true), _, 1, 3, dVolts, onWay [dShot] true, (-8, 0),
      ⟨rfl, by decide, rfl, rfl, by decide, rfl, rfl, rfl⟩⟩
  | .check => ⟨traceState (onWay [dShot] false), _, 1, 3, dVolts, onWay [dShot] false, (-8, 0),
      ⟨rfl, by decide, rfl, rfl, by decide, rfl, rfl, rfl⟩⟩
  | .none => ⟨traceState (onWay [] false), _, 1, 3, dVolts, onWay [] false, (-8, 0),
      ⟨rfl, by decide, rfl, rfl, by decide, rfl, rfl, rfl⟩⟩
end Sys2Proof.Tests
end

section
/-! PROOF. The interrupt line (R353) and the Bornak clock (R462): its instants are the clock's, and the clock takes no step. -/

namespace Sys2Proof.Proofs

open Sys2Proof.Machine

/-! ### The interrupt line (R353) -/

theorem eventWaits_iff (s : State) : s.eventWaits = true ↔ ∃ p ∈ eventBlocks, s.rd p.1 &&& s.rd p.2 ≠ 0 := by
  simp [State.eventWaits]

theorem recordWaits_iff (s : State) :
    s.recordWaits = true ↔ s.get NET_RCTL.EN = 1 ∧ s.get NET_RCTL.IRQ = 1 ∧ ∃ q ∈ s.recs.queue, 4 ∈ q.left := by
  simp [State.recordWaits, State.on, and_assoc]

theorem irq_iff (s : State) :
    s.irq = true ↔ s.md.mode ≠ .reset ∧ s.md.mode ≠ .boot ∧ (s.eventWaits = true ∨ s.recordWaits = true) := by
  simp [State.irq, and_assoc]

/-- Settles O11: released in RESET and BOOT; otherwise low for an enabled event flag or a record that asks for it. -/
theorem interruptLine : Obligations.InterruptLine := by
  unfold Obligations.InterruptLine
  constructor
  · intro s hmode
    refine Bool.eq_false_iff.2 fun hirq => ?_
    obtain ⟨hreset, hboot, -⟩ := (irq_iff s).1 hirq
    exact hmode.elim hreset hboot
  · intro s hreset hboot
    rw [irq_iff, eventWaits_iff, recordWaits_iff]
    exact ⟨fun h => h.2.2, fun h => ⟨hreset, hboot, h⟩⟩

/-! ### Numbers in byte strings (R9) -/

@[simp] theorem le_length (n v : Nat) : (le n v).length = n := by
  induction n generalizing v with
  | zero => rfl
  | succ n ih => simp [le, ih]

@[simp] theorem be_length (n v : Nat) : (be n v).length = n := by
  simp [be]

theorem ofLe_le (n v : Nat) : ofLe (le n v) = v % 256 ^ n := by
  induction n generalizing v with
  | zero => simp [le, ofLe, Nat.mod_one]
  | succ n ih => simp [le, ofLe, ih, Nat.pow_succ', Nat.mod_mul]

theorem ofBe_be (n v : Nat) : ofBe (be n v) = v % 256 ^ n := by
  simp [ofBe, be, ofLe_le]

/-- A slice that lies within a byte string is the string's middle part. -/
theorem slice_middle (pre mid post : List Byte) : slice (pre ++ (mid ++ post)) pre.length mid.length = mid := by
  simp [slice]

theorem beAt_be_middle (pre post : List Byte) (n v : Nat) : beAt (pre ++ (be n v ++ post)) pre.length n = v % 256 ^ n := by
  have hslice := slice_middle pre (be n v) post
  rw [be_length] at hslice
  rw [beAt, hslice, ofBe_be]

/-! ### Frames (R340, R348) -/

/-- A frame with any key or none: the id and the sequence number, then the sender time, then the rest. -/
theorem bornakFrame_eq (kind id seq time : Nat) (payload : List Byte) (key : Option (List Byte)) :
    ∃ rest, bornakFrame kind id seq time payload key =
      (be 8 (id % 2 ^ 62 + kind * 2 ^ 62) ++ be 4 seq) ++ (be 6 (time % 2 ^ 48) ++ rest) := by
  cases key with
  | none => exact ⟨_, by simp only [bornakFrame, List.append_assoc]; rfl⟩
  | some k => exact ⟨_, by simp only [bornakFrame, List.append_assoc]; rfl⟩

theorem beAt_bornakFrame_time (kind id seq time : Nat) (payload : List Byte) (key : Option (List Byte)) :
    beAt (bornakFrame kind id seq time payload key) 12 6 = time % 2 ^ 48 := by
  obtain ⟨rest, hframe⟩ := bornakFrame_eq kind id seq time payload key
  have htime := beAt_be_middle (be 8 (id % 2 ^ 62 + kind * 2 ^ 62) ++ be 4 seq) rest 6 (time % 2 ^ 48)
  rw [List.length_append, be_length, be_length] at htime
  rw [hframe, htime]
  exact Nat.mod_mod _ _

@[simp] theorem send_conns (s : State) (cls : Nat) (addr : List Byte) (port : Nat) (body : List Byte) :
    (s.send cls addr port body).conns = s.conns := by
  simp only [State.send]
  split
  · rfl
  · split <;> rfl

/-- A datagram or frame that is no PTP message leaves on the traffic ports, with PRP under the next trailer sequence number. -/
theorem send_sent (s : State) (cls : Nat) (addr : List Byte) (port : Nat) (body : List Byte) (hcls : cls ≠ 1) :
    (s.send cls addr port body).net.sent =
      ⟨cls, addr, port, body, s.trafficPorts, if s.prp then some s.net.prpSeq else none⟩ :: s.net.sent := by
  simp only [State.send, if_neg hcls]
  split <;> rfl

theorem connSend_sent (s : State) (c kind : Nat) (payload : List Byte) :
    (s.connSend c kind payload).net.sent =
      ⟨2, (s.cfg.sig.bytes 9 0x18 0x043 [c]).getD [], s.cfg.sig.connNat 4 c,
        bornakFrame kind (s.cfg.sig.connNat 2 c) (s.conn c).seq s.clk.bornak payload (s.cfg.sig.connKey c), s.trafficPorts,
        if s.prp then some s.net.prpSeq else none⟩ :: s.net.sent :=
  send_sent _ _ _ _ _ (by decide)

/-- A frame sent moves its connection's sequence number and no other part of the connection. -/
theorem connSend_conn (s : State) (c kind : Nat) (payload : List Byte) :
    (s.connSend c kind payload).conn c = { s.conn c with seq := ((s.conn c).seq + 1) % 2 ^ 32 } := by
  simp only [State.connSend, State.conn, send_conns]
  exact State.conn_setConn_same s c _

/-! ### The instant of a REQ (R344) -/

theorem reqDue_iff (s : State) (c : Nat) :
    s.reqDue c = true ↔ ∀ t, (s.conn c).reqAt = some t → t + s.te c / 2 ≤ s.clk.bornak := by
  unfold State.reqDue
  cases (s.conn c).reqAt with
  | none => simp
  | some t => simp

theorem opBornakReqSend_of_due (s : State) (c : Nat) (hopen : (s.conn c).state ≠ 0) (hlink : s.lnk.absent = false)
    (hdue : s.reqDue c = true) :
    opBornakReqSend c s =
      (s.setConn c { s.conn c with reqNo := ((s.conn c).reqNo + 1) % 2 ^ 32, reqAt := some s.clk.bornak }).connSend c 2
        (be 4 (s.conn c).reqNo ++ zeros 4) := by
  simp [opBornakReqSend, hopen, hlink, hdue]

theorem opBornakReqSend_reqAt (s : State) (c : Nat) (hopen : (s.conn c).state ≠ 0) (hlink : s.lnk.absent = false)
    (hdue : s.reqDue c = true) : ((opBornakReqSend c s).conn c).reqAt = some s.clk.bornak := by
  rw [opBornakReqSend_of_due s c hopen hlink hdue, connSend_conn, State.conn_setConn_same]

/-! ### Steps of device time (R333) -/

theorem flashRephase_clk_conns (s : State) (was : Nat) (moved : Int) :
    (s.flashRephase was moved).clk = s.clk ∧ (s.flashRephase was moved).conns = s.conns := by
  simp only [State.flashRephase]
  split
  · exact ⟨rfl, rfl⟩
  · rw [State.emit_clk, State.put_clk, State.emit_conns, State.put_conns]
    exact List.foldlRecOn (motive := fun t : State => t.clk = s.clk ∧ t.conns = s.conns) _ _ ⟨rfl, rfl⟩
      fun _ ht _ _ => ht

/-- A step moves device time and the Pacer's copy, and the Bornak clock stands (R462). -/
theorem timeStep_bornak (s : State) (d : Int) (first : Bool) : (s.timeStep d first).clk.bornak = s.clk.bornak := by
  simp only [State.timeStep, apply_ite State.clk, (flashRephase_clk_conns _ _ _).1, State.emit_clk, State.put_clk, ite_self]

theorem timeStep_conns (s : State) (d : Int) (first : Bool) : (s.timeStep d first).conns = s.conns := by
  simp only [State.timeStep, apply_ite State.conns, (flashRephase_clk_conns _ _ _).2, State.emit_conns, State.put_conns, ite_self]

theorem timeStep_age100 (s : State) (d : Int) (first : Bool) (c : Nat) (x : Int) :
    (s.timeStep d first).age100 c x = s.age100 c x := by
  simp only [State.age100, State.conn, timeStep_bornak, timeStep_conns]

/-! ### One nanosecond (log entry 2) -/

theorem slewOf_eq_zero_of_not_dvd (left : Int) (period up : Nat) (h : up % period ≠ 0) : slewOf left period up = 0 := by
  simp [slewOf, h]

theorem neg_one_le_slewOf (left : Int) (period up : Nat) : -1 ≤ slewOf left period up := by
  simp only [slewOf]
  split
  · decide
  · split <;> decide

/-- The nanoseconds by which the Pacer's copy and the Bornak clock advance in one nanosecond. -/
def tickGain (s : State) : Int :=
  1 + slewOf s.lnk.slew 10000 (s.clk.up + 5000) + if s.pacerFree then 0 else slewOf s.ts.slew 20000 s.clk.up

/-- The two slews fall on different nanoseconds: device time's on multiples of 20000, the link's halfway between multiples of 10000. -/
theorem tickGain_nonneg (s : State) : 0 ≤ tickGain s := by
  have hdev := neg_one_le_slewOf s.ts.slew 20000 s.clk.up
  have hlnk := neg_one_le_slewOf s.lnk.slew 10000 (s.clk.up + 5000)
  unfold tickGain
  by_cases hup : s.clk.up % 20000 = 0
  · have hlnk := slewOf_eq_zero_of_not_dvd s.lnk.slew 10000 (s.clk.up + 5000) (by omega)
    split <;> omega
  · have hdev := slewOf_eq_zero_of_not_dvd s.ts.slew 20000 s.clk.up hup
    split <;> omega

theorem tick_pacer (s : State) : (s.tick.clk.pacer : Int) = s.clk.pacer + tickGain s := by
  have hgain := tickGain_nonneg s
  have htick : s.tick.clk.pacer = ((s.clk.pacer : Int) + tickGain s).toNat := by
    simp only [State.tick, tickGain]
  omega

theorem tick_bornak (s : State) : (s.tick.clk.bornak : Int) = s.clk.bornak + tickGain s := by
  have hgain := tickGain_nonneg s
  have htick : s.tick.clk.bornak = ((s.clk.bornak : Int) + tickGain s).toNat := by
    simp only [State.tick, tickGain]
  omega

/-- The Bornak clock gains in a nanosecond what the Pacer's copy gains (R462). -/
theorem tick_bornak_pacer (s : State) : s.tick.clk.bornak + s.clk.pacer = s.clk.bornak + s.tick.clk.pacer := by
  have hpacer := tick_pacer s
  have hbornak := tick_bornak s
  omega

/-- Settles O13: a step of device time leaves the clock and every age alone, a nanosecond moves it as the Pacer's copy, and the
instants of a REQ and of a frame are read from it. -/
theorem bornakClock : Obligations.BornakClock := by
  unfold Obligations.BornakClock
  refine ⟨timeStep_bornak, tick_bornak_pacer, timeStep_age100, ?_, connSend_sent, beAt_bornakFrame_time⟩
  intro s c hopen hlink hdue
  exact ⟨opBornakReqSend c.val s, exec_bornakReqSend s c,
    opBornakReqSend_reqAt s c.val hopen hlink ((reqDue_iff s c.val).2 hdue)⟩

end Sys2Proof.Proofs
end

section
/-! PROOF. What `MOD_STATE` shows (R414): the mode code is the first of its order whose condition holds, and the flags are read in
every mode. -/

namespace Sys2Proof.Proofs

open Sys2Proof.Machine

/-! ### The mode code -/

/-- In the run family the code is the first of switch, replan, degraded and normal whose condition holds. -/
theorem modeCode_of_family {s : State} (h : s.md.mode = .family) :
    s.modeCode = if s.get CFG_STAT.SWSTATE ≠ 0 ∧ s.cfg.inFamily = true then 8 else if s.get GAL_STAT.REPLAN = 1 then 7
      else if s.sio.deg.deadline.isSome then 6 else 5 := by
  simp only [State.modeCode, h, State.on, decide_eq_true_eq]

theorem modeCode_of_switch {s : State} (h : s.md.mode = .family) (hswitch : s.get CFG_STAT.SWSTATE ≠ 0)
    (hin : s.cfg.inFamily = true) : s.modeCode = 8 := by
  rw [modeCode_of_family h, if_pos ⟨hswitch, hin⟩]

theorem modeCode_of_no_switch {s : State} (h : s.md.mode = .family)
    (hno : s.get CFG_STAT.SWSTATE = 0 ∨ s.cfg.inFamily = false) :
    s.modeCode = if s.get GAL_STAT.REPLAN = 1 then 7 else if s.sio.deg.deadline.isSome then 6 else 5 := by
  have hfirst : ¬ (s.get CFG_STAT.SWSTATE ≠ 0 ∧ s.cfg.inFamily = true) := by
    rintro ⟨hswitch, hin⟩
    simp [hswitch, hin] at hno
  rw [modeCode_of_family h, if_neg hfirst]

theorem modeCode_lt (s : State) : s.modeCode < 16 := by
  unfold State.modeCode
  repeat' split
  all_goals decide

/-! ### The flags and the register -/

/-- The bits of a number put together of four flags, and that it fills four bits. -/
theorem bitOf_four_flags : ∀ a b c d : Bool,
    bitOf (b2n a + 2 * b2n b + 4 * b2n c + 8 * b2n d) 0 = a ∧ bitOf (b2n a + 2 * b2n b + 4 * b2n c + 8 * b2n d) 1 = b ∧
    bitOf (b2n a + 2 * b2n b + 4 * b2n c + 8 * b2n d) 2 = c ∧ b2n a + 2 * b2n b + 4 * b2n c + 8 * b2n d < 16 := by
  decide

theorem modeFlags_bits (s : State) :
    bitOf s.modeFlags 0 = s.sio.deg.deadline.isSome ∧ bitOf s.modeFlags 1 = decide (s.get GAL_STAT.REPLAN = 1) ∧
    bitOf s.modeFlags 2 = decide (s.get CFG_STAT.SWSTATE ≠ 0) ∧ s.modeFlags < 16 :=
  bitOf_four_flags s.sio.deg.deadline.isSome (decide (s.get GAL_STAT.REPLAN = 1)) (decide (s.get CFG_STAT.SWSTATE ≠ 0)) s.md.qdone

/-- Bits [3:0] of `MOD_STATE` are the code last made known and bits [7:4] the flags, for the fields above begin at bit 8. -/
theorem modState_low_byte (s : State) (hcode : s.md.code < 16) :
    s.modState % 16 = s.md.code ∧ s.modState / 16 % 16 = s.modeFlags := by
  obtain ⟨-, -, -, hflags⟩ := modeFlags_bits s
  simp only [State.modState]
  omega

/-- Settles O12: outside the run family the code is the mode's own; within it the order decides, and the flags are bits of their
own in `MOD_STATE`. -/
theorem modeOrder : Obligations.ModeOrder := by
  unfold Obligations.ModeOrder
  refine ⟨?base, fun s => modeCode_of_switch, ?replan, ?degraded, ?flags, ?register⟩
  case base =>
    intro s
    refine ⟨?_, ?_, ?_, ?_, ?_, ?_, ?_, ?_⟩ <;> intro h <;> simp only [State.modeCode, h]
  case replan =>
    intro s h hno hreplan
    rw [modeCode_of_no_switch h hno, if_pos hreplan]
  case degraded =>
    intro s h hno hreplan
    rw [modeCode_of_no_switch h hno, if_neg hreplan]
  case flags =>
    intro s
    obtain ⟨hdeg, hreplan, hswitch, -⟩ := modeFlags_bits s
    exact ⟨hdeg, hreplan, hswitch⟩
  case register =>
    intro s hshown
    rw [← hshown]
    exact modState_low_byte s (hshown ▸ modeCode_lt s)

end Sys2Proof.Proofs
end

section
/-! PROOF. What a step is (R413, R414, R318): a command is its operation followed by `State.finish`, and what `finish` leaves is the
mode that R414 gives, nothing owed, and a degraded timer that agrees with its conditions. -/

namespace Sys2Proof.Proofs

open Sys2Proof.Machine

/-! ### A command is an operation and its consequences -/

theorem exec_finishes (c : Instr) (s : State) : ∃ t, exec c s = .next (State.finish t) := by
  cases c <;> exact ⟨_, rfl⟩

theorem step_of_empty {s : State} (h : s.pending = []) : step s = .next s.idle := by
  simp only [step, h]

theorem step_of_front {s : State} {c : Instr} {rest : List Instr} (h : s.pending = c :: rest) :
    step s = exec c { s with pending := rest } := by
  simp only [step, h]

/-- What a step can be: an idle nanosecond, or the consequences of some operation. -/
theorem step_cases {s t : State} (h : step s = .next t) : t = s.idle ∨ ∃ u, t = State.finish u := by
  cases hp : s.pending with
  | nil =>
    rw [step_of_empty hp] at h
    exact .inl (Host.Outcome.next.inj h).symm
  | cons c rest =>
    obtain ⟨u, hu⟩ := exec_finishes c { s with pending := rest }
    rw [step_of_front hp, hu] at h
    exact .inr ⟨u, (Host.Outcome.next.inj h).symm⟩

/-- Settles O1: `step` is a match on the queue. -/
theorem stepTakesFront : Obligations.StepTakesFront := fun _ _ _ h => step_of_front h

/-- Settles O3: an idle nanosecond is a next state, and every command's meaning ends in `State.finish`. -/
theorem stepNeverStops : Obligations.StepNeverStops := by
  refine ⟨fun s => ?_, exec_finishes⟩
  cases hp : s.pending with
  | nil => exact ⟨_, step_of_empty hp⟩
  | cons c rest =>
    obtain ⟨u, hu⟩ := exec_finishes c { s with pending := rest }
    exact ⟨_, (step_of_front hp).trans hu⟩

/-! ### The idle nanosecond -/

/-- An idle nanosecond moves the clocks, what is left of the slews and the histograms. -/
theorem idle_only (s : State) : s.idle = { s with clk := s.idle.clk, ts := s.idle.ts, lnk := s.idle.lnk, hist := s.idle.hist } := by
  simp only [State.idle]
  split <;> rfl

theorem idle_modeShown {s : State} (h : s.modeShown) : s.idle.modeShown := by
  rw [idle_only s]
  exact h

theorem idle_timerBacked {s : State} (h : s.timerBacked) : s.idle.timerBacked := by
  rw [idle_only s]
  exact h

/-! ### What the consequences leave -/

theorem stopSync_code {s : State} (h : s.md.code = s.modeCode) : s.stopSync.md.code = s.stopSync.modeCode := by
  unfold State.stopSync
  split
  · exact (s.deviceStop_md _ _ h).1
  · exact h

/-- Nothing is owed, and the mode reported is the mode of R414. -/
theorem settle_modeShown (s : State) : s.settle.modeShown :=
  ⟨rfl, stopSync_code (State.modeSync_code _).1⟩

theorem waitSync_modeShown {s : State} (h : s.modeShown) : s.waitSync.modeShown := by
  obtain ⟨hdue, hcode⟩ := h
  obtain ⟨honly, hsio, hmd, hdue'⟩ := s.waitSync_only
  refine ⟨hdue'.trans hdue, ?_⟩
  rw [hmd, hcode, honly.modeCode (by rw [hsio])]

theorem finish_modeShown (s : State) : (State.finish s).modeShown := waitSync_modeShown (settle_modeShown s)

/-- What leaves the conditions and the timer alone keeps their agreement. -/
theorem timerBacked_of_endOnly {s t : State} (hs : s.timerBacked) (h : EndOnly s t) (hsio : t.sio = s.sio) : t.timerBacked := by
  simp only [State.timerBacked, h.mode, h.conds, hsio]
  exact hs

theorem degSync_timerBacked (s : State) : s.degSync.timerBacked := by
  by_cases hmode : s.md.mode = .reset
  · exact .inl (s.degSync_only.mode.trans hmode)
  · exact .inr (s.degSync_backed hmode)

theorem queueSync_timerBacked {s : State} (h : s.timerBacked) : s.queueSync.timerBacked := by
  unfold State.queueSync
  split
  · exact timerBacked_of_endOnly h (.ofRec (s.clearCause_only 7)) (s.clearCause_only 7).sio
  · exact h

theorem safeSync_timerBacked {s : State} (h : s.timerBacked) : s.safeSync.timerBacked := by
  unfold State.safeSync
  split
  · split
    · exact degSync_timerBacked _
    · exact h
  · exact h

theorem modeSync_timerBacked {s : State} (h : s.timerBacked) : s.modeSync.timerBacked :=
  timerBacked_of_endOnly h s.modeSync_code.2.1 s.modeSync_code.2.2

/-- A device stop leads to RESET, where nothing is judged, or in BOOT leaves the timer alone. -/
theorem stopSync_timerBacked {s : State} (h : s.timerBacked) (hcode : s.md.code = s.modeCode) : s.stopSync.timerBacked := by
  unfold State.stopSync
  split
  · rename_i code src _
    by_cases hboot : s.md.mode = .boot
    · obtain ⟨honly, hsio⟩ := s.deviceStop_boot code src hboot
      exact timerBacked_of_endOnly h honly hsio
    · exact .inl ((s.deviceStop_md code src hcode).2.1 hboot)
  · exact h

theorem settle_timerBacked (s : State) : s.settle.timerBacked :=
  stopSync_timerBacked (modeSync_timerBacked (safeSync_timerBacked (queueSync_timerBacked (degSync_timerBacked _))))
    (State.modeSync_code _).1

theorem finish_timerBacked (s : State) : (State.finish s).timerBacked :=
  timerBacked_of_endOnly (settle_timerBacked s) s.settle.waitSync_only.1 s.settle.waitSync_only.2.1

/-- Settles O4: every command ends by bringing the mode reported up to date, and an idle nanosecond touches neither. -/
theorem modeShownKept : Obligations.ModeShownKept := by
  intro s t hs hstep
  obtain rfl | ⟨u, rfl⟩ := step_cases hstep
  · exact idle_modeShown hs
  · exact finish_modeShown u

/-- Settles O5: every command ends by bringing the degraded timer up to date, and an idle nanosecond touches neither. -/
theorem timerBackedKept : Obligations.TimerBackedKept := by
  intro s t hs hstep
  obtain rfl | ⟨u, rfl⟩ := step_cases hstep
  · exact idle_timerBacked hs
  · exact finish_timerBacked u

end Sys2Proof.Proofs
end

section
/-! PROOF. Bits of numbers, and the causes of SAFE as bits of their register (R426). -/

namespace Sys2Proof.Proofs

open Sys2Proof.Machine

/-! ### One bit set or cleared -/

theorem bitOf_eq_testBit (v i : Nat) : bitOf v i = v.testBit i := Nat.testBit_eq_decide_div_mod_eq.symm

/-- A number with one bit replaced: what stands above it, the bit, what stands below. -/
theorem setBitOf_eq (v i : Nat) (x : Bool) : setBitOf v i x = 2 ^ i * (2 * (v / 2 ^ i / 2) + b2n x) + v % 2 ^ i := by
  have hv := Nat.div_add_mod v (2 ^ i)
  have hq := Nat.div_add_mod (v / 2 ^ i) 2
  have hbit : v / 2 ^ i % 2 = 0 ∨ v / 2 ^ i % 2 = 1 := by omega
  unfold setBitOf bitOf
  generalize v / 2 ^ i = q at *
  generalize v % 2 ^ i = r at *
  generalize q / 2 = h at *
  subst hv
  rcases hbit with hbit | hbit <;> rw [hbit] at hq ⊢ <;> subst hq <;> cases x <;> simp [b2n, Nat.mul_add] <;> omega

theorem half_add_b2n (h : Nat) (x : Bool) : (2 * h + b2n x) / 2 = h := by
  have hx : b2n x < 2 := by cases x <;> decide
  omega

theorem bitOf_setBitOf (v i j : Nat) (x : Bool) : bitOf (setBitOf v i x) j = if j = i then x else bitOf v j := by
  have hlow : v % 2 ^ i < 2 ^ i := Nat.mod_lt _ (Nat.two_pow_pos i)
  rw [bitOf_eq_testBit, bitOf_eq_testBit, setBitOf_eq, Nat.testBit_two_pow_mul_add _ hlow]
  rcases Nat.lt_trichotomy j i with hji | rfl | hij
  · rw [if_pos hji, if_neg (by omega), Nat.testBit_mod_two_pow]
    simp [hji]
  · rw [if_neg (by omega), if_pos rfl, Nat.sub_self]
    cases x <;> simp [b2n, Nat.testBit_zero]
  · obtain ⟨k, rfl⟩ := Nat.exists_eq_add_of_lt hij
    rw [if_neg (by omega), if_neg (by omega), show i + k + 1 - i = k + 1 by omega, Nat.testBit_succ,
      half_add_b2n, ← Nat.testBit_succ,
      Nat.testBit_div_two_pow]
    congr 1
    omega

@[simp] theorem bitOf_setBitOf_same (v i : Nat) (x : Bool) : bitOf (setBitOf v i x) i = x := by
  rw [bitOf_setBitOf, if_pos rfl]

theorem bitOf_mod_two_pow {n i : Nat} (h : i < n) (v : Nat) : bitOf (v % 2 ^ n) i = bitOf v i := by
  simp [bitOf_eq_testBit, Nat.testBit_mod_two_pow, h]

/-! ### `MOD_SCAUSE` -/

/-- The causes are nine bits of their register, apart from PERM. -/
theorem bitOf_cause_setCause (s : State) (b i : Nat) (hi : i ≤ 8) :
    bitOf ((s.setCause b).get MOD_SCAUSE.CAUSE) i = if i = b then true else bitOf (s.get MOD_SCAUSE.CAUSE) i := by
  unfold State.setCause State.putB
  rw [State.get_put_clear _ _ _ _ (by decide), State.get_put_same _ _ _ (by decide), show MOD_SCAUSE.CAUSE.width = 9 from rfl,
    bitOf_mod_two_pow (by omega), bitOf_setBitOf]

theorem clearCause_permanent (s : State) {b : Nat} (h : b = 4 ∨ b = 5 ∨ b = 6) : s.clearCause b = s := if_pos h

theorem bitOf_cause_clearCause (s : State) (b i : Nat) (hi : i ≤ 8) (hb : ¬ (b = 4 ∨ b = 5 ∨ b = 6)) :
    bitOf ((s.clearCause b).get MOD_SCAUSE.CAUSE) i = if i = b then false else bitOf (s.get MOD_SCAUSE.CAUSE) i := by
  unfold State.clearCause
  rw [if_neg hb, State.get_put_same _ _ _ (by decide), show MOD_SCAUSE.CAUSE.width = 9 from rfl, bitOf_mod_two_pow (by omega),
    bitOf_setBitOf]

theorem rd_put_other (s : State) (f : Fld) (v a : Nat) (h : a ≠ f.addr) : (s.put f v).rd a = s.rd a := by
  rw [State.rd_put, if_neg h]

theorem rd_setCause (s : State) (b a : Nat) (ha : a ≠ MOD_SCAUSE) : (s.setCause b).rd a = s.rd a := by
  exact (rd_put_other _ MOD_SCAUSE.PERM _ a ha).trans (rd_put_other _ MOD_SCAUSE.CAUSE _ a ha)

theorem rd_clearCause (s : State) (b a : Nat) (ha : a ≠ MOD_SCAUSE) : (s.clearCause b).rd a = s.rd a := by
  unfold State.clearCause
  split
  · rfl
  · exact rd_put_other _ MOD_SCAUSE.CAUSE _ a ha

/-- Settles O9: a cause is one bit, set or cleared, and the bits of the permanent classes are never cleared. -/
theorem safeCauses : Obligations.SafeCauses := by
  refine ⟨fun s b hb => ?_, fun s b i _ hi hne => ?_, fun s b => clearCause_permanent s, fun s b i _ hi h4 h5 h6 => ?_,
    fun s b a ha => ⟨rd_setCause s b a ha, rd_clearCause s b a ha⟩⟩
  · rw [bitOf_cause_setCause s b b hb, if_pos rfl]
  · rw [bitOf_cause_setCause s b i hi, if_neg hne]
  · rw [bitOf_cause_clearCause s b i hi (by omega)]
    by_cases hib : i = b <;> simp [hib]

end Sys2Proof.Proofs
end

section
/-! PROOF. The numbering of records (R42): only `State.number` moves a sequence number, and nothing that a record passes through
on its way touches what is owed. -/

namespace Sys2Proof.Proofs

open Sys2Proof.Machine

/-! ### What delivery leaves alone -/

/-- t keeps s's sequence numbers, log and epoch, what is owed and the mode: what putting a record on its way does. -/
structure OnWay (s t : State) : Prop where
  seqs : t.recs.seqs = s.recs.seqs
  log : t.recs.log = s.recs.log
  epoch : t.recs.epoch = s.recs.epoch
  due : t.due = s.due
  md : t.md = s.md

theorem OnWay.refl (s : State) : OnWay s s := ⟨rfl, rfl, rfl, rfl, rfl⟩

theorem markDelivered_onWay (s : State) (r : Record) : OnWay s (s.markDelivered r) := by
  unfold State.markDelivered
  split
  · exact .refl s
  · exact ⟨rfl, rfl, rfl, rfl, rfl⟩

theorem push_onWay (s : State) (r : Record) : OnWay s (s.push r) := by
  unfold State.push
  dsimp only
  split
  · exact markDelivered_onWay s r
  · split <;> exact ⟨rfl, rfl, rfl, rfl, rfl⟩

theorem deliver_onWay (s : State) (r : Record) : OnWay s (s.deliver r) := by
  unfold State.deliver
  split
  · exact .refl s
  · split
    · split
      · exact ⟨rfl, rfl, rfl, rfl, rfl⟩
      · exact push_onWay s r
    · exact ⟨rfl, rfl, rfl, rfl, rfl⟩

/-! ### Numbering -/

theorem number_nextSeq (s : State) (src code time : Nat) (data : List Byte) (x : Nat) :
    (s.number src code time data).2.nextSeq x = if x = src then s.nextSeq src + 1 else s.nextSeq x :=
  sparseGet_set 0 s.recs.seqs src (s.nextSeq src + 1) x

theorem OnWay.nextSeq {s t : State} (h : OnWay s t) (x : Nat) : t.nextSeq x = s.nextSeq x := by
  simp only [State.nextSeq, h.seqs]

/-- A gap record takes its source's next number. -/
theorem gapOne_nextSeq (s : State) (m : Missing) (x : Nat) :
    (s.gapOne m).nextSeq x = if x = m.source then s.nextSeq m.source + 1 else s.nextSeq x := by
  rw [← number_nextSeq s m.source Code.GAP_RECORD.val (s.stamp m.source) m.data x]
  unfold State.gapOne
  dsimp only
  split
  · rfl
  · split
    · rfl
    · exact (push_onWay _ _).nextSeq x

theorem gapOne_due_md (s : State) (m : Missing) : (s.gapOne m).due = s.due ∧ (s.gapOne m).md = s.md := by
  unfold State.gapOne
  dsimp only
  split
  · exact ⟨rfl, rfl⟩
  · split
    · exact ⟨rfl, rfl⟩
    · exact ⟨(push_onWay _ _).due, (push_onWay _ _).md⟩

theorem gapAll_nextSeq_le (s : State) (src x : Nat) : s.nextSeq x ≤ (s.gapAll src).nextSeq x := by
  unfold State.gapAll
  exact List.foldlRecOn (motive := fun t : State => s.nextSeq x ≤ t.nextSeq x) _ _ (Nat.le_refl _) fun t ht m _ => by
    rw [gapOne_nextSeq]
    split
    · subst_vars; omega
    · exact ht

theorem gapAll_due_md (s : State) (src : Nat) : (s.gapAll src).due = s.due ∧ (s.gapAll src).md = s.md := by
  unfold State.gapAll
  refine List.foldlRecOn (motive := fun t : State => t.due = s.due ∧ t.md = s.md) _ _ ⟨rfl, rfl⟩ fun t ht m _ => ?_
  exact ⟨(gapOne_due_md t m).1.trans ht.1, (gapOne_due_md t m).2.trans ht.2⟩

/-- The gap records that go before a record of a source. -/
def gapsBefore (s : State) (src : Nat) : State :=
  if s.room src && s.recs.missing.any (fun m => m.source = src) then s.gapAll src else s

theorem record_eq (s : State) (lvl src code time : Nat) (data : List Byte) :
    s.record lvl src code time data =
      (((gapsBefore s src).number src code time data).2.journalise lvl ((gapsBefore s src).number src code time data).1).deliver
        ((gapsBefore s src).number src code time data).1 := by
  unfold State.record
  simp only [gapsBefore]

theorem record_nextSeq (s : State) (lvl src code time : Nat) (data : List Byte) (x : Nat) :
    (s.record lvl src code time data).nextSeq x = if x = src then (gapsBefore s src).nextSeq src + 1 else (gapsBefore s src).nextSeq x := by
  rw [record_eq, (deliver_onWay _ _).nextSeq, ← number_nextSeq (gapsBefore s src) src code time data x]
  rfl

theorem gapsBefore_nextSeq_le (s : State) (src x : Nat) : s.nextSeq x ≤ (gapsBefore s src).nextSeq x := by
  unfold gapsBefore
  split
  · exact gapAll_nextSeq_le s src x
  · exact Nat.le_refl _

theorem gapsBefore_of_no_missing (s : State) (src : Nat) (h : ∀ m ∈ s.recs.missing, m.source ≠ src) : gapsBefore s src = s := by
  have hnone : s.recs.missing.any (fun m => m.source = src) = false := by simpa using h
  simp [gapsBefore, hnone]

theorem gapsBefore_due_md (s : State) (src : Nat) : (gapsBefore s src).due = s.due ∧ (gapsBefore s src).md = s.md := by
  unfold gapsBefore
  split
  · exact gapAll_due_md s src
  · exact ⟨rfl, rfl⟩

/-- A record leaves what is owed and the mode alone: declaring its fault is a step of its own. -/
theorem record_due_md (s : State) (lvl src code time : Nat) (data : List Byte) :
    (s.record lvl src code time data).due = s.due ∧ (s.record lvl src code time data).md = s.md := by
  rw [record_eq, (deliver_onWay _ _).due, (deliver_onWay _ _).md]
  exact gapsBefore_due_md s src

theorem make_due_md (s : State) (lvl src code : Nat) (data : List Byte) :
    (s.make lvl src code data).due = s.due ∧ (s.make lvl src code data).md = s.md := by
  unfold State.make
  split
  · exact record_due_md s _ _ _ _ _
  · exact ⟨rfl, rfl⟩

theorem make_due (s : State) (lvl src code : Nat) (data : List Byte) : (s.make lvl src code data).due = s.due :=
  (make_due_md s lvl src code data).1

theorem make_md (s : State) (lvl src code : Nat) (data : List Byte) : (s.make lvl src code data).md = s.md :=
  (make_due_md s lvl src code data).2

theorem record_log (s : State) (lvl src code time : Nat) (data : List Byte) :
    (s.record lvl src code time data).recs.log =
      ⟨src, code, (gapsBefore s src).recs.epoch, (gapsBefore s src).nextSeq src, time, slice data 0 12⟩ ::
        (gapsBefore s src).recs.log := by
  rw [record_eq, (deliver_onWay _ _).log]
  generalize gapsBefore s src = g
  rfl

/-- Settles O10: with no range of its source missing a record takes the next number; with one, the numbers of its gap records go
before its own. -/
theorem recordNumbering : Obligations.RecordNumbering := by
  unfold Obligations.RecordNumbering
  constructor
  · intro s lvl src code time data hnone
    rw [record_nextSeq, record_log, gapsBefore_of_no_missing s src hnone, if_pos rfl]
    refine ⟨rfl, rfl, fun x hx => ?_⟩
    rw [record_nextSeq, gapsBefore_of_no_missing s src hnone, if_neg hx]
  · intro s lvl src code time data
    rw [record_nextSeq, if_pos rfl]
    exact Nat.lt_succ_of_le (gapsBefore_nextSeq_le s src src)

end Sys2Proof.Proofs
end

section
/-! PROOF. The consequences that a command ends with, one by one (R30, R318, R414, R422): when each finds nothing to do, and what a
due F3 or F4 does to the mode. -/

namespace Sys2Proof.Proofs

open Sys2Proof.Machine

/-! ### Consequences with nothing to do -/

theorem linkSync_of_link {s : State} (h : (s.unit 36).state ≠ 2 ∨ s.lnk.absent = true ∨ s.md.mode = .reset) : s.linkSync = s := by
  refine if_neg ?_
  rintro ⟨hfailed, hpresent, hmode⟩
  rcases h with h | h | h
  · exact h hfailed
  · rw [hpresent] at h; exact Bool.noConfusion h
  · exact hmode h

/-- A timer that agrees with its conditions has nothing to start, end or expire. -/
theorem degSync_of_timerBacked {s : State} (h : s.timerBacked) : s.degSync = s := by
  unfold State.degSync
  split
  · rfl
  · rename_i hmode
    have hb := h.resolve_left hmode
    dsimp only
    split
    · rename_i hc hd; simp [hc, hd] at hb
    · rfl
    · rename_i hc hd; rw [if_neg (by simpa [hc, hd] using hb)]
    · rename_i hc hd; rw [if_pos (by simpa [hc, hd] using hb)]

theorem queueSync_of_no_cause {s : State} (h : s.flt.belowHalf = false ∨ bitOf (s.get MOD_SCAUSE.CAUSE) 7 = false) :
    s.queueSync = s := by
  refine if_neg ?_
  rintro ⟨hhalf, hbit⟩
  rcases h with h | h
  · rw [hhalf] at h; exact Bool.noConfusion h
  · rw [hbit] at h; exact Bool.noConfusion h

theorem safeSync_of_none {s : State} (h : s.due.safe = none) : s.safeSync = s := by
  simp only [State.safeSync, h]

theorem safeSync_of_mode {s : State} (hh : s.md.mode ≠ .hold) (hc : s.md.mode ≠ .commission) (hf : s.md.mode ≠ .family) :
    s.safeSync = s := by
  unfold State.safeSync
  split
  · rw [if_neg (by simp [hh, hc, hf])]
  · rfl

theorem modeSync_of_code {s : State} (h : s.md.code = s.modeCode) : s.modeSync = s := if_pos h.symm

theorem stopSync_of_none {s : State} (h : s.due.stop = none) : s.stopSync = s := by
  simp only [State.stopSync, h]

theorem waitSync_of_no_wait {s : State} (h : s.cfg.shadow = none ∨ s.get CFG_STAT.SWSTATE ≠ 2) : s.waitSync = s := by
  unfold State.waitSync
  split
  · rename_i hp
    rw [if_neg (h.resolve_left (by simp [hp]))]
  · rfl

/-- Settles O7: each part of `calm` is what one consequence looks for. -/
theorem calmFinish : Obligations.CalmFinish := by
  intro s hcalm
  obtain ⟨hlink, htimer, hqueue, ⟨hdue, hcode⟩, hwait⟩ := hcalm
  have hsettle : s.settle = s := by
    unfold State.settle
    rw [linkSync_of_link hlink, degSync_of_timerBacked htimer, queueSync_of_no_cause hqueue,
      safeSync_of_none (by rw [hdue]), modeSync_of_code hcode, stopSync_of_none (by rw [hdue]), ← hdue]
  rw [State.finish, hsettle, waitSync_of_no_wait hwait]

/-! ### A due F3 and a device stop -/

theorem safeSync_of_due {s : State} {code src : Nat} (h : s.due.safe = some (code, src))
    (hmode : s.md.mode = .hold ∨ s.md.mode = .commission ∨ s.md.mode = .family) : s.safeSync = (s.enterSafe code src).degSync := by
  simp only [State.safeSync, h, if_pos hmode]

/-- Bringing the mode reported up to date leaves the base mode. -/
theorem modeSync_mode (s : State) : s.modeSync.md.mode = s.md.mode := s.modeSync_code.2.1.mode

/-- A base mode entered is the mode, and its code is reported, before the units act on it. -/
theorem enterMode_eq (s : State) (m : Mode) (cause : Nat) :
    ∃ u : State, s.enterMode m cause = u.modeActs ∧ u.md.mode = m ∧ u.md.code = u.modeCode := by
  unfold State.enterMode
  refine ⟨_, rfl, ?_, ?_⟩
  · exact modeSync_mode _
  · exact (State.modeSync_code _).1

theorem enterSafe_eq (s : State) (code src : Nat) :
    ∃ u : State, s.enterSafe code src = u.modeActs ∧ u.md.mode = .safe ∧ u.md.code = u.modeCode := by
  unfold State.enterSafe
  exact enterMode_eq _ .safe 3

theorem queueSync_keeps (s : State) : s.queueSync.md = s.md ∧ s.queueSync.due = s.due := by
  unfold State.queueSync State.clearCause
  split
  · exact ⟨rfl, rfl⟩
  · exact ⟨rfl, rfl⟩

theorem modeSync_due (s : State) : s.modeSync.due = s.due := by
  unfold State.modeSync
  dsimp only
  split
  · rfl
  · rw [make_due, State.put_due]

/-- A stop due where no F3 comes before it is what `finish` ends with. -/
theorem finish_md_of_stop {s : State} {code src : Nat} (hstop : s.due.stop = some (code, src)) (htimer : s.timerBacked)
    (hlink : (s.unit 36).state ≠ 2 ∨ s.lnk.absent = true) (hsafe : s.due.safe = none ∨ s.md.mode = .boot) :
    (State.finish s).md = (s.queueSync.modeSync.deviceStop code src).md := by
  have hsync : s.queueSync.safeSync = s.queueSync := by
    rcases hsafe with hsafe | hboot
    · exact safeSync_of_none (by rw [(queueSync_keeps s).2, hsafe])
    · exact safeSync_of_mode (by rw [(queueSync_keeps s).1, hboot]; decide) (by rw [(queueSync_keeps s).1, hboot]; decide)
        (by rw [(queueSync_keeps s).1, hboot]; decide)
  have hdue : s.queueSync.modeSync.due.stop = some (code, src) := by
    rw [modeSync_due, (queueSync_keeps s).2, hstop]
  obtain ⟨-, -, hmd, -⟩ := s.settle.waitSync_only
  rw [State.finish, hmd, State.settle, linkSync_of_link (hlink.imp_right .inl), degSync_of_timerBacked htimer, hsync]
  simp only [State.stopSync, hdue]

theorem deviceStop_of_sync (s : State) (code src : Nat) :
    (s.queueSync.modeSync.deviceStop code src).md.code = (s.queueSync.modeSync.deviceStop code src).modeCode ∧
    (s.md.mode ≠ .boot → (s.queueSync.modeSync.deviceStop code src).md.mode = .reset) ∧
    (s.md.mode = .boot → (s.queueSync.modeSync.deviceStop code src).md.mode = .boot ∧
      (s.queueSync.modeSync.deviceStop code src).md.bootHold = true) := by
  have h := State.deviceStop_md s.queueSync.modeSync code src (State.modeSync_code _).1
  rwa [modeSync_mode, (queueSync_keeps s).1] at h

/-- Settles O8: what each consequence does with a due F3 or F4. -/
theorem faultModes : Obligations.FaultModes := by
  unfold Obligations.FaultModes
  refine ⟨fun s code src => ?safe, fun s code src => safeSync_of_due, fun s => safeSync_of_mode, ?stop, ?boot⟩
  case safe =>
    obtain ⟨u, hu, hmode, hcode⟩ := enterSafe_eq s code src
    refine ⟨u, hu, hmode, ?_⟩
    rw [hcode]
    simp only [State.modeCode, hmode]
  case stop =>
    intro s code src hstop hsafe htimer hlink hmode
    obtain ⟨hcode, hreset, -⟩ := deviceStop_of_sync s code src
    rw [finish_md_of_stop hstop htimer hlink (.inl hsafe)]
    refine ⟨hreset hmode, ?_⟩
    rw [hcode]
    simp only [State.modeCode, hreset hmode]
  case boot =>
    intro s code src hstop htimer hlink hmode
    rw [finish_md_of_stop hstop htimer hlink (.inr hmode)]
    exact (deviceStop_of_sync s code src).2.2 hmode

/-! ### The state after reset -/

theorem rd_reset (a : Nat) : State.reset.rd a = regReset a := rfl

/-- Settles O6: no register is listed, so each reads its reset value; in RESET no degraded condition is judged and the interrupt
line is released. -/
theorem resetLeaves : Obligations.ResetLeaves :=
  ⟨rd_reset, rfl, rfl, by decide, by decide, ⟨rfl, rfl⟩, .inl rfl, interruptLine.1 _ (.inl rfl)⟩

end Sys2Proof.Proofs
end

section
/-! PROOF. Profile transfers, erasure, the rollback counter and the power-up selection (R230, R231, R233). -/

namespace Sys2Proof.Proofs

open Sys2Proof.Machine

/-- A command's next state through its operation: where the operation gives t, the command gives what t is finished to. -/
theorem exec_of_op {c : Instr} {s t u : State} (hexec : exec c s = .next (State.finish t)) (hop : t = u) :
    exec c s = .next (State.finish u) := hop ▸ hexec

/-- What a container is verified against is not what a transfer changes. -/
theorem verifyCtx_xfer (s : State) (c : CfgSys) (n : Nat) (owner : Option (List Byte)) :
    ({ s.put CFG_EVT.XFER 1 with cfg := c } : State).verifyCtx n owner = s.verifyCtx n owner := by
  have hrd : ∀ a, a ≠ CFG_EVT → ({ s.put CFG_EVT.XFER 1 with cfg := c } : State).rd a = s.rd a :=
    rd_put_other s CFG_EVT.XFER 1
  simp only [State.verifyCtx, State.uid, State.get, hrd CFG_ROLLBACK.VALUE.addr (by decide), hrd DEV_UID0 (by decide),
    hrd DEV_UID1 (by decide), hrd DEV_UID2 (by decide), hrd DEV_UID3 (by decide)]

/-- A container of the wrong length is no security matter. -/
theorem rejectionRecord_length (s : State) (n : Nat) :
    s.rejectionRecord n ⟨8, 0, []⟩ =
      (s.put CFG_EVT.BADCONT 1).emit srcCfg Code.CFG_BAD_CONTAINER (le 1 n ++ le 1 8 ++ le 4 0) := by
  unfold State.rejectionRecord
  rw [if_neg (by decide)]

/-- What a whole container's transfer leaves of the state u, by the outcome of the verification (R231). -/
def transferJudged (slot len : Nat) (bytes : List Byte) (u : State) (outcome : Except Rejection (List (Nat × List Byte))) : State :=
  match outcome with
  | .error r => ((u.setSlot slot ⟨3, bytes⟩).puts [(CFG_XFER_STAT.STATE, 4), (CFG_XFER_STAT.CAUSE, r.cause)]).rejectionRecord slot r
  | .ok ps =>
    (ps.foldl (fun x p => if (tlvWalk (p.2.length + 1) [] p.2).isNone then x.sectionRefused slot ⟨p.1, 5, 0, []⟩ else x)
      ((u.setSlot slot ⟨2, bytes⟩).put CFG_XFER_STAT.STATE 3)).emit srcCfg Code.CFG_XFER_DONE (le 1 slot ++ le 4 len ++ slice bytes 20 4)

theorem opXferDone_whole {s : State} {owner : Option (List Byte)} (hstate : s.get CFG_XFER_STAT.STATE = 2)
    (hlen : s.cfg.xfer.length = s.get CFG_XFER_CTL.LENGTH) :
    opXferDone owner s = transferJudged (s.get CFG_XFER_CTL.SLOT) (s.get CFG_XFER_CTL.LENGTH) s.cfg.xfer
      { s.put CFG_EVT.XFER 1 with cfg := { s.cfg with xfer := [] } }
      (verifyContainer (s.verifyCtx (s.get CFG_XFER_CTL.SLOT) owner) s.cfg.xfer) := by
  rw [← verifyCtx_xfer s { s.cfg with xfer := [] }]
  exact (if_neg (not_not.2 hstate)).trans (if_neg (not_not.2 hlen))

/-- Settles O33: each command's operation with its conditions decided. -/
theorem profileStoreCommands : Obligations.ProfileStoreCommands := by
  unfold Obligations.ProfileStoreCommands
  refine ⟨?begin, ?data, ?dataIdle, ?commit, ?abort, ?short, ?done, ?erase, ?rollback, ?ctl⟩
  case begin =>
    intro s slot len hlo hhi hfree h1 h2
    refine exec_of_op (exec_xferBegin s slot len) ?_
    simp [opXferBegin, hfree, h1, h2, show len ≠ 0 by omega, show ¬ 4194304 < len by omega]
  case data =>
    intro s w h
    exact exec_of_op (exec_xferData s w) (if_pos h)
  case dataIdle =>
    intro s w h
    exact exec_of_op (exec_xferData s w) (if_neg h)
  case commit =>
    intro s h
    exact exec_of_op (exec_xferCommit s) (if_pos h)
  case abort =>
    intro s h
    exact exec_of_op (exec_xferAbort s) (if_pos h)
  case short =>
    intro s h hlen
    refine exec_of_op (exec_cfgXferDone s) ?_
    simp only [opXferDone, h, hlen, ne_eq, not_true_eq_false, not_false_eq_true, ↓reduceIte, rejectionRecord_length]
  case done =>
    intro s h hlen
    exact ⟨_, rfl, exec_of_op (exec_cfgXferDone s) (opXferDone_whole h hlen)⟩
  case erase =>
    intro s slot h
    exact exec_of_op (exec_erase s slot) (if_neg (by simp [h]))
  case rollback =>
    intro s ha hrb
    refine exec_of_op (exec_commitRb s) ?_
    simp [opCommitRb, hrb, ha]
  case ctl =>
    intro s pinEn pref
    exact exec_cfgCtlWrite s pinEn pref

end Sys2Proof.Proofs
end

section
/-! PROOF. The operations of an envelope (R359-R364, R371, R376), firmware images (R372-R375), the key-store check and the end of
BOOT (R360, R380, R394, R413). -/

namespace Sys2Proof.Proofs

open Sys2Proof.Machine

/-! ### Steps 7 and 8 of an envelope -/

theorem runOp_of_permit {s t : State} {role : Nat} {op : EnvOp} {o : PlanObs} {e : OpEnd} (hpermit : s.permit role op = 0)
    (hperform : s.perform op o = (e, t)) :
    s.runOp role op o = { t with cls := { t.cls with result := e.result, data := e.data } } := by
  simp only [State.runOp, hpermit, hperform, ne_eq, not_true_eq_false, ↓reduceIte]

theorem runOp_of_refusal {s : State} {role p : Nat} {op : EnvOp} {o : PlanObs} (hpermit : s.permit role op = p) (hp : p ≠ 0) :
    s.runOp role op o = { s with cls := { s.cls with result := p, data := [] } } := by
  simp only [State.runOp, hpermit, if_pos hp]

/-- The operations of the owner alone (Table 12.4). -/
def ownersOnly (op : EnvOp) : Prop :=
  (∃ role key, op = .keySet role key) ∨ (∃ k n, op = .fwBegin k n) ∨ op = .fwCommit ∨ (∃ k, op = .fwActivate k) ∨ op = .fwConfirm ∨
    op = .fwCommitRb

theorem permit_ownersOnly {op : EnvOp} (h : ownersOnly op) (s : State) (role : Nat) :
    s.permit role op = if role = 1 then 0 else 6 := by
  rcases h with ⟨_, _, rfl⟩ | ⟨_, _, rfl⟩ | rfl | ⟨_, rfl⟩ | rfl | rfl <;> simp [State.permit, EnvOp.roles]

theorem permit_owner {op : EnvOp} (h : ownersOnly op) (s : State) : s.permit ((0 : Fin 4).val + 1) op = 0 :=
  permit_ownersOnly h s 1

theorem permit_not_owner {op : EnvOp} (h : ownersOnly op) (s : State) {role : Fin 4} (hrole : role ≠ 0) :
    s.permit (role.val + 1) op = 6 := by
  have hne : role.val + 1 ≠ 1 := fun h => hrole (Fin.ext (Nat.succ.inj h))
  rw [permit_ownersOnly h, if_neg hne]

theorem ownersOnly_keySet (role : Nat) (key : Option (List Byte)) : ownersOnly (.keySet role key) := .inl ⟨role, key, rfl⟩

theorem ownersOnly_fwBegin (k n : Nat) : ownersOnly (.fwBegin k n) := .inr (.inl ⟨k, n, rfl⟩)

theorem wordOf_toNat (v : Word) : wordOf v.toNat = v := by
  simp [wordOf]

theorem role_mem (role : Fin 4) : role.val + 1 ∈ [1, 2, 3, 4] := by
  revert role; decide

/-! ### Zeroisation -/

theorem setSlot_cls (s : State) (n : Nat) (x : Slot) : (s.setSlot n x).cls = s.cls := by
  unfold State.setSlot
  rw [State.puts_cls]

theorem setSlot_slot (s : State) (n m : Nat) (x : Slot) : (s.setSlot n x).slot m = if m = n then x else s.slot m := by
  unfold State.setSlot State.slot
  rw [State.puts_slots]
  exact sparseGet_set _ _ _ _ _

/-- Every slot erased, in order. -/
theorem eraseSlots_cls (s : State) (l : List Nat) : (l.foldl (fun s n => s.setSlot n .reset) s).cls = s.cls :=
  List.foldlRecOn (motive := fun t : State => t.cls = s.cls) _ _ rfl fun t ht n _ => (setSlot_cls t n _).trans ht

theorem eraseSlots_slot (s : State) (l : List Nat) (n : Nat) (h : n ∈ l) :
    (l.foldl (fun s n => s.setSlot n .reset) s).slot n = .reset := by
  induction l generalizing s with
  | nil => exact absurd h List.not_mem_nil
  | cons m l ih =>
    by_cases hl : n ∈ l
    · exact ih (s.setSlot m .reset) hl
    · obtain rfl : n = m := (List.mem_cons.1 h).resolve_right hl
      rw [List.foldl_cons]
      refine List.foldlRecOn (motive := fun t : State => t.slot n = .reset) _ _ ((setSlot_slot s n n .reset).trans (if_pos rfl)) ?_
      intro t ht k _
      rw [setSlot_slot]
      split
      · rfl
      · exact ht

/-- What zeroisation does once the slots are erased: the image that does not run, and the seed. -/
def zeroiseRest (s : State) : State :=
  { s.setImage (1 - s.cls.run) [] with cls := { (s.setImage (1 - s.cls.run) []).cls with seedBlocked := true, zeroPending := false } }

theorem zeroise_eq (s : State) :
    s.zeroise = zeroiseRest ((List.range 4).foldl (fun s n => s.setSlot n .reset)
      { s with cls := { s.cls with zeroPending := true, keys := [], replay := [] } }) := rfl

theorem zeroiseRest_cls (s : State) :
    (zeroiseRest s).cls.keys = s.cls.keys ∧ (zeroiseRest s).cls.replay = s.cls.replay ∧ (zeroiseRest s).cls.seedBlocked = true ∧
      (zeroiseRest s).cls.zeroPending = false :=
  ⟨rfl, rfl, rfl, rfl⟩

theorem zeroiseRest_slot (s : State) (n : Nat) : (zeroiseRest s).slot n = s.slot n := rfl

theorem zeroise_cls (s : State) :
    s.zeroise.cls.keys = [] ∧ s.zeroise.cls.replay = [] ∧ s.zeroise.cls.seedBlocked = true ∧ s.zeroise.cls.zeroPending = false := by
  obtain ⟨hkeys, hreplay, hrest⟩ := zeroiseRest_cls ((List.range 4).foldl (fun s n => s.setSlot n .reset)
    { s with cls := { s.cls with zeroPending := true, keys := [], replay := [] } })
  rw [zeroise_eq, hkeys, hreplay, eraseSlots_cls]
  exact ⟨rfl, rfl, hrest⟩

theorem zeroise_slot (s : State) (n : Fin 4) : s.zeroise.slot n.val = .reset := by
  rw [zeroise_eq, zeroiseRest_slot, eraseSlots_slot _ _ _ (List.mem_range.2 n.isLt)]

/-- Settles O51: the role and the state permit the operation or not, and what it then performs. -/
theorem operationCommands : Obligations.OperationCommands := by
  unfold Obligations.OperationCommands
  refine ⟨?write, ?auditorWrite, ?read, ?keySet, ?keyRemove, ?claim, ?notOwner, ?attest, ?toReturned, ?toScrapped, ?zeroised⟩
  case write =>
    intro s t a v o hsig hwrite
    refine exec_of_op (exec_signedWrite s 0 a v o) (runOp_of_permit (e := ⟨0, [], false⟩) ?_ ?_)
    · simp [State.permit, State.writePermit, hsig]
    · simp [State.perform, State.signedWrite, hsig, wordOf_toNat, hwrite]
  case auditorWrite =>
    intro s a v o
    exact exec_of_op (exec_signedWrite s 3 a v o) (runOp_of_refusal (by simp [State.permit, State.writePermit]) (by decide))
  case read =>
    intro s t role a n ws hread
    refine exec_of_op (exec_signedRead s role a n) (runOp_of_permit (e := ⟨0, ws.flatMap wordBe, false⟩) ?_ ?_)
    · exact if_pos (role_mem role)
    · simp [State.perform, hread]
  case keySet =>
    rintro s t role k hlc hnew rfl
    refine exec_of_op (exec_keySet s 0 role (some k)) (runOp_of_permit (e := ⟨0, [], false⟩) (permit_owner (ownersOnly_keySet _ _) s) ?_)
    simp [State.perform, State.keySet, hlc, hnew]
  case keyRemove =>
    rintro s t role hlc hrole rfl
    refine exec_of_op (exec_keySet s 0 role none) (runOp_of_permit (e := ⟨0, [], false⟩) (permit_owner (ownersOnly_keySet _ _) s) ?_)
    simp [State.perform, State.keySet, hlc, Fin.val_eq_zero_iff, hrole]
  case claim =>
    rintro s t k hlc rfl
    refine exec_of_op (exec_keySet s 0 0 (some k)) (runOp_of_permit (e := ⟨0, [], false⟩) (permit_owner (ownersOnly_keySet _ _) s) ?_)
    simp [State.perform, State.keySet, hlc]
  case notOwner =>
    intro s signer role key hsigner
    exact exec_of_op (exec_keySet s signer role key) (runOp_of_refusal (permit_not_owner (ownersOnly_keySet _ _) s hsigner) (by decide))
  case attest =>
    intro s role nonce hlc
    refine exec_of_op (exec_attest s role nonce) (runOp_of_permit (e := ⟨0, s.attestation nonce, false⟩) ?_ rfl)
    have hrole : role.val + 1 ∈ (EnvOp.attest nonce).roles := role_mem role
    simp [State.permit, hrole, hlc]
  case toReturned =>
    rintro s t hlc hmode hdone rfl
    refine exec_of_op (exec_lifecycle s 0 3) (runOp_of_permit (e := ⟨0, [], true⟩) ?_ ?_)
    · simp [State.permit, hlc, hmode, hdone]
    · simp [State.perform, State.lifecycle, hlc]
  case toScrapped =>
    rintro s t hmode hdone hlc rfl
    refine exec_of_op (exec_lifecycle s 0 4) (runOp_of_permit (e := ⟨0, [], true⟩) ?_ ?_)
    · simp [State.permit, hlc, hmode, hdone]
    · simp [State.perform, State.lifecycle, hlc]
  case zeroised =>
    intro s
    obtain ⟨hkeys, hreplay, hseed, hpending⟩ := zeroise_cls s
    exact ⟨hkeys, hreplay, hseed, hpending, zeroise_slot s⟩

/-! ### Firmware -/

/-- An operation of the owner, performed with result 0 and no data. -/
theorem owner_performs {s t : State} {op : EnvOp} {e : OpEnd} (hop : ownersOnly op) (hperform : s.perform op noPlan = (e, t))
    (hresult : e.result = 0) (hdata : e.data = []) :
    s.runOp ((0 : Fin 4).val + 1) op noPlan = { t with cls := { t.cls with result := 0, data := [] } } := by
  rw [runOp_of_permit (permit_owner hop s) hperform, hresult, hdata]

theorem trialOver_iff (s : State) : s.trialOver = true ↔ (s.md.mode ≠ .reset ∧ s.md.mode ≠ .boot ∧ s.md.mode ≠ .load) ∧
    s.md.holdAt + 600000000000 ≤ s.clk.up ∧ ∀ t, s.flt.f3At = some t → t + 600000000000 ≤ s.clk.up := by
  simp [State.trialOver, and_assoc, Option.all_eq_true]

theorem opClsFw_of_committed {s : State} (hstate : s.get CLS_FW_STAT.STATE = 2) :
    opClsFw s =
      if (s.cls.fw ≠ [] && (s.cls.rom || s.cls.fw.length = s.cls.fwLen) && Config.imageSigned s.cls.fw &&
          decide (s.otpCounter 0 ≤ Config.imageRollback s.cls.fw)) = true then
        ((s.setImage (s.get CLS_FW_STAT.IMG) s.cls.fw).put CLS_FW_STAT.STATE 3).fwRecord (s.get CLS_FW_STAT.IMG) 1
      else (s.put CLS_FW_STAT.STATE 4).fwRecord (s.get CLS_FW_STAT.IMG) 2 := by
  simp only [opClsFw, hstate, true_or, ↓reduceIte]

theorem fwConfirmed_cls (s : State) : s.fwConfirmed.cls.trial = false ∧ s.cls.run ∈ s.fwConfirmed.cls.confirmed := by
  simp [State.fwConfirmed, State.fwRecord]

/-- Settles O52: what each command of an image does in the state that its transfer is in. -/
theorem firmwareCommands : Obligations.FirmwareCommands := by
  unfold Obligations.FirmwareCommands
  refine ⟨?begin, ?beginRefused, ?append, ?commit, ?verify, ?verifyShort, ?activate, ?confirm, ?rollback, ?trialEnds, ?trialWaits,
    fwConfirmed_cls⟩
  case begin =>
    rintro s t img len hrun rfl
    refine exec_of_op (exec_fwBegin s 0 img len) (owner_performs (e := ⟨0, [], false⟩) (ownersOnly_fwBegin _ _) ?_ rfl rfl)
    simp only [State.perform, State.fwBegin, if_neg hrun]
  case beginRefused =>
    intro s role img len hrole
    exact exec_of_op (exec_fwBegin s role img len) (runOp_of_refusal (permit_not_owner (ownersOnly_fwBegin _ _) s hrole) (by decide))
  case append =>
    intro s n hstate
    refine exec_of_op (exec_fwAppend s n) ?_
    have hn : ¬ 16384 < n.val + 1 := by omega
    simp [opFwAppend, hstate, hn]
  case commit =>
    intro s hstate
    refine exec_of_op (exec_fwCommit s 0) (owner_performs (e := ⟨0, [], true⟩) (.inr (.inr (.inl rfl))) ?_ rfl rfl)
    simp [State.perform, State.fwCommit, hstate]
  case verify =>
    intro s hstate hrom hfw hlen
    refine exec_of_op (exec_clsFw s) ?_
    simp [opClsFw_of_committed hstate, hfw, hlen]
  case verifyShort =>
    intro s hstate hrom hbad
    refine exec_of_op (exec_clsFw s) ((opClsFw_of_committed hstate).trans (if_neg ?_))
    rcases hbad with hbad | hbad <;> simp [hbad, hrom]
  case activate =>
    rintro s t img rfl
    exact exec_of_op (exec_fwActivate s 0 img) (owner_performs (e := ⟨0, [], false⟩) (.inr (.inr (.inr (.inl ⟨img.val, rfl⟩)))) rfl rfl rfl)
  case confirm =>
    rintro s t htrial rfl
    refine exec_of_op (exec_fwConfirm s 0) (owner_performs (e := ⟨0, [], false⟩) (.inr (.inr (.inr (.inr (.inl rfl))))) ?_ rfl rfl)
    simp [State.perform, State.fwConfirm, htrial]
  case rollback =>
    rintro s t hrun rfl
    refine exec_of_op (exec_fwCommitRb s 0) (owner_performs (e := ⟨0, [], false⟩) (.inr (.inr (.inr (.inr (.inr rfl))))) ?_ rfl rfl)
    simp only [State.perform, State.fwCommitRb, if_pos hrun]
  case trialEnds =>
    intro s htrial hmode hhold hf3
    have hover : s.trialOver = true := (trialOver_iff s).2 ⟨by simp [hmode], hhold, hf3⟩
    exact exec_of_op (exec_trialConfirm s) (if_pos ⟨htrial, hover⟩)
  case trialWaits =>
    intro s hwait
    refine exec_of_op (exec_trialConfirm s) (if_neg fun h => ?_)
    obtain ⟨-, hhold, -⟩ := (trialOver_iff s).1 h.2
    omega

/-! ### The end of BOOT -/

theorem imageTry_of_good {s : State} {k : Nat} (hsigned : s.imageSigned k = true) (hfresh : s.imageFresh k = true) :
    s.imageTry k = (true, s) := by
  simp [State.imageTry, hsigned, hfresh]

/-- The preferred image starts where it verifies and has not been given up. -/
theorem imageSelect_of_good {s : State} (hkept : s.cls.pref ∈ s.cls.confirmed ∨ s.cls.trials < 3)
    (hsigned : s.imageSigned s.cls.pref = true) (hfresh : s.imageFresh s.cls.pref = true) :
    s.imageSelect = (true, s.imageStart s.cls.pref) := by
  have hgiven : ¬ (s.cls.pref ∉ s.cls.confirmed ∧ 3 ≤ s.cls.trials) := by
    rintro ⟨hnot, htrials⟩
    exact hkept.elim hnot (by omega)
  simp only [State.imageSelect, hgiven, decide_false, Bool.false_eq_true, ↓reduceIte, imageTry_of_good hsigned hfresh]

theorem imageStart_cls (s : State) (h : s.cls.pref ∉ s.cls.confirmed) :
    (s.imageStart s.cls.pref).cls.trials = s.cls.trials + 1 ∧ (s.imageStart s.cls.pref).cls.trial = true := by
  simp [State.imageStart, h]

/-- Settles O53: what each finding of the check does, and how BOOT goes on. -/
theorem bootCommands : Obligations.BootCommands := by
  unfold Obligations.BootCommands
  refine ⟨fun s => exec_keyStoreCheck s [], ?key, ?logic, ?boot, ?failed, ?confirmed, ?trial⟩
  case key =>
    intro s f harea hcorrected
    refine exec_of_op (exec_keyStoreCheck s [f]) ?_
    simp [opKeyStoreCheck, State.storeFault, harea, hcorrected]
  case logic =>
    intro s f harea
    refine exec_of_op (exec_keyStoreCheck s [f]) ?_
    simp [opKeyStoreCheck, State.storeFault, harea]
  case boot =>
    rintro s u v hmode hhold hlc - rfl hstop rfl
    refine exec_of_op (exec_bootComplete s [] none) ?_
    have hstop : ([32, 33, 34, 35, 36].foldl (fun s k => s.bootPass k) s).due.stop.isSome = false := by rw [hstop]; rfl
    simp only [opBootComplete, opKeyStoreCheck, State.bootBist, List.foldl_nil, hmode, hhold, hlc, ne_eq, not_true_eq_false,
      Bool.false_eq_true, Bool.true_eq_false, or_self, ↓reduceIte, hstop]
    rfl
  case failed =>
    rintro s u b hmode hhold hlc rfl
    refine exec_of_op (exec_bootComplete s [] (some b)) ?_
    simp only [opBootComplete, opKeyStoreCheck, State.bootBist, List.foldl_nil, hmode, hhold, hlc, ne_eq, not_true_eq_false,
      Bool.false_eq_true, or_self, ↓reduceIte, true_or]
  case confirmed =>
    intro s hconfirmed
    exact imageSelect_of_good (.inl hconfirmed)
  case trial =>
    intro s hnew htrials hsigned hfresh
    exact ⟨imageSelect_of_good (.inr htrials) hsigned hfresh, imageStart_cls s hnew⟩

end Sys2Proof.Proofs
end

section
/-! PROOF. The degraded timer, SAFE_STOP_N and pairing (R318-R324), SPI frames (R350-R352) and the Moss ledger (R402-R407). -/

namespace Sys2Proof.Proofs

open Sys2Proof.Machine

/-- Settles O43: each event of the safety sequencer acts once its time is reached. -/
theorem safetySequencerCommands : Obligations.SafetySequencerCommands := by
  unfold Obligations.SafetySequencerCommands
  refine ⟨?expired, ?discard, ?stop, ?stopRelease, ?pulse, ?ack, ?mismatch⟩
  case expired =>
    intro s t hdeadline ht
    refine exec_of_op (exec_degradedExpired s) ?_
    simp only [opDegradedExpired, hdeadline, if_pos ht]
  case discard =>
    intro s secs t hkept ht
    refine exec_of_op (exec_degradedTimerDiscard s) ?_
    simp only [opDegradedTimerDiscard, hkept, if_pos ht]
  case stop =>
    intro s hoff
    exact exec_of_op (exec_safeStop s) (if_neg (Bool.eq_false_iff.1 hoff))
  case stopRelease =>
    intro s hon
    exact exec_of_op (exec_safeStopRelease s) (if_neg (Bool.eq_false_iff.not.2 (not_not.2 hon)))
  case pulse =>
    intro s hshown hdue
    have hlate : ¬(s.sio.soAt.isSome ∧ s.clk.up < s.sio.soAt.getD 0 + 2000000000) := fun h => absurd h.2 (not_lt.2 (hdue h.1))
    refine exec_of_op (exec_safeOutPulse s) ?_
    simp only [opSafeOutPulse, if_neg hlate, if_neg hshown]
  case ack => exact exec_sioAck
  case mismatch =>
    intro s c i own peer hnone hlate
    refine exec_of_op (exec_peerMismatch s) ?_
    simp only [opPeerMismatch, hnone, hlate, Bool.false_eq_true, ↓reduceIte]

/-! ### The gate of an SPI frame (R350, R351) -/

section Gate

variable {s : State} {countOk crcOk busy : Bool} {act : State → State}

theorem spiGate_bad (halive : s.spiAlive = true) (hcount : countOk = false) :
    s.spiGate countOk crcOk busy act = (s.inc NET_SPI.BADCMD).spiAnswer 0x84 [] := by
  simp [State.spiGate, State.spiBad, halive, hcount]

theorem spiGate_crc (halive : s.spiAlive = true) (hcount : countOk = true) (hcrc : crcOk = false) :
    s.spiGate countOk crcOk busy act = (s.inc NET_SPI.CRC).spiAnswer 0x82 [] := by
  simp [State.spiGate, State.spiCrc, halive, hcount, hcrc]

theorem spiGate_act (halive : s.spiAlive = true) (hcount : countOk = true) (hcrc : crcOk = true) (hwaiting : s.spi.waiting = none)
    (hbusy : busy = false) : s.spiGate countOk crcOk busy act = act s := by
  simp [State.spiGate, halive, hcount, hcrc, hwaiting, hbusy]

end Gate

theorem countOk_of_le {n m : Nat} (hlow : 1 ≤ n) (hhigh : n ≤ m) : (1 ≤ n && n ≤ m : Bool) = true :=
  (Bool.and_eq_true _ _).mpr ⟨decide_eq_true hlow, decide_eq_true hhigh⟩

/-- Settles O44: the gate lets a frame act, or answers what is wrong with it. -/
theorem spiCommands : Obligations.SpiCommands := by
  unfold Obligations.SpiCommands
  refine ⟨?read, ?readCrc, ?write, ?writeCrc, ?writeCount, ?envelope, ?envelopeCrc, exec_spiFrameAbort, ?unknown⟩
  case read =>
    intro s t a n crc ws halive hlow hhigh hcrc hwaiting hread
    refine exec_of_op (exec_spiRead s a n crc)
      ((spiGate_act halive (countOk_of_le hlow hhigh) (decide_eq_true hcrc) hwaiting rfl).trans ?_)
    simp only [hread]
  case readCrc =>
    intro s a n crc halive hlow hhigh hcrc
    exact exec_of_op (exec_spiRead s a n crc) (spiGate_crc halive (countOk_of_le hlow hhigh) (decide_eq_false hcrc))
  case write =>
    intro s t a c data halive hlow hhigh hcrc hwaiting _ hwrite
    refine exec_of_op (exec_spiWrite s a data c)
      ((spiGate_act halive (countOk_of_le hlow hhigh) (decide_eq_true hcrc) hwaiting rfl).trans ?_)
    simp only [hwrite]
  case writeCrc =>
    intro s a c data halive hlow hhigh hcrc
    exact exec_of_op (exec_spiWrite s a data c) (spiGate_crc halive (countOk_of_le hlow hhigh) (decide_eq_false hcrc))
  case writeCount =>
    intro s a c data halive hcount
    refine exec_of_op (exec_spiWrite s a data c) (spiGate_bad halive ?_)
    rcases hcount with rfl | hlong
    · rfl
    · simp only [decide_eq_false (not_le.2 hlong), Bool.and_false]
  case envelope =>
    rintro s u b c halive hlow hhigh hcrc hwaiting hbusy hreset hboot rfl
    refine exec_of_op (exec_spiEnvelope s b c)
      ((spiGate_act halive (countOk_of_le hlow hhigh) (decide_eq_true hcrc) hwaiting hbusy).trans ?_)
    exact if_neg (not_or.2 ⟨hreset, hboot⟩)
  case envelopeCrc =>
    intro s b c halive hlow hhigh hcrc
    exact exec_of_op (exec_spiEnvelope s b c) (spiGate_crc halive (countOk_of_le hlow hhigh) (decide_eq_false hcrc))
  case unknown =>
    intro s cmd halive hwrite hread henvelope
    refine exec_of_op (exec_spiUnknownCommand s cmd) ?_
    simp only [opSpiUnknownCommand, hwrite, hread, henvelope, or_self, halive, Bool.true_eq_false, ↓reduceIte, State.spiBad]

/-! ### The Moss ledger -/

theorem imageWrite_good (s : State) : (s.imageWrite none).led.imageSeq = s.led.imageSeq + 1 ∧
    (s.imageWrite none).led.imgPo = s.poSecs ∧ (s.imageWrite none).led.imgFaults = s.jrn.faults ∧
    (s.imageWrite none).led.imgHist = s.hist ∧ (s.imageWrite none).jrn = s.jrn ∧ (s.imageWrite none).recs = s.recs :=
  ⟨rfl, rfl, rfl, rfl, rfl, rfl⟩

theorem opJournalWrite_good {s : State} {kept : Bool} {r : Record} {rest : List (Bool × Record)} (hwait : s.jrn.wait = (kept, r) :: rest)
    (hup : s.gal.hkFailed = false) :
    opJournalWrite none s = ({ s with jrn := { s.jrn with wait := rest } } : State).journalEntry kept r := by
  have hdrop : s.jrn.wait.drop (s.jrn.wait.length - rest.length) = rest := by simp [hwait]
  simp only [opJournalWrite, hwait, hup, Bool.false_eq_true, ↓reduceIte]
  rw [← hwait, hdrop]

theorem journalEntry_rolling (s : State) (r : Record) :
    s.journalEntry false r = { s with jrn := { s.jrn with next := s.jrn.next + 1, rolling := ((s.jrn.next, r) :: s.jrn.rolling).take 65536 } } :=
  rfl

theorem journalEntry_kept {s : State} (r : Record) (hroom : s.jrn.kept.length < 131072) :
    (s.journalEntry true r).jrn = { s.jrn with next := s.jrn.next + 1, kept := (s.jrn.next, r) :: s.jrn.kept } ∧
      (s.journalEntry true r).recs = s.recs := by
  have htake : ((s.jrn.next, r) :: s.jrn.kept).take 131072 = (s.jrn.next, r) :: s.jrn.kept :=
    List.take_of_length_le (Nat.succ_le_of_lt hroom)
  have hfull : decide (131072 ≤ s.jrn.kept.length) = false := decide_eq_false (not_le.2 hroom)
  simp only [State.journalEntry, ↓reduceIte, hfull, Bool.false_eq_true, htake]
  exact ⟨rfl, rfl⟩

/-- Settles O56: the image and the journal written, a lamp's month closed, the ledger read by those allowed to. -/
theorem ledgerCommands : Obligations.LedgerCommands := by
  unfold Obligations.LedgerCommands
  refine ⟨?image, ?rolling, ?kept, ?noRef, ?ageing, ?read, ?auditor⟩
  case image =>
    intro s hup hdue
    refine ⟨s.imageWrite none, exec_of_op (exec_counterImageWrite s none) (if_neg ?_), imageWrite_good s⟩
    exact not_or.2 ⟨Bool.eq_false_iff.1 hup, not_lt.2 hdue⟩
  case rolling =>
    intro s r rest hwait hup
    exact exec_of_op (exec_journalWrite s none) ((opJournalWrite_good hwait hup).trans (journalEntry_rolling _ r))
  case kept =>
    intro s r rest hwait hup hroom
    refine ⟨_, exec_of_op (exec_journalWrite s none) (opJournalWrite_good hwait hup), ?_⟩
    obtain ⟨hjrn, hrecs⟩ := journalEntry_kept (s := { s with jrn := { s.jrn with wait := rest } }) r hroom
    rw [hjrn, hrecs]
    exact ⟨rfl, rfl, rfl, rfl⟩
  case noRef =>
    rintro s n x rfl hmonth href
    refine exec_of_op (exec_lampAgeing s n) ?_
    simp only [opLampAgeing, if_neg hmonth, href]
  case ageing =>
    rintro s v n x mean r rfl hmonth rfl href hr hfar rfl
    refine exec_of_op (exec_lampAgeing s n) ?_
    simp only [opLampAgeing, if_neg hmonth, href, if_pos (And.intro hr hfar)]
  case read =>
    intro s role count first hrole
    refine exec_of_op (exec_ledgerRead s role 9 count first) (runOp_of_permit (e := ⟨0, _, false⟩) ?_ rfl)
    have hmem : ∀ role : Fin 4, role ≠ 1 → role.val + 1 ∈ [1, 3, 4] := by decide
    exact if_pos (hmem role hrole)
  case auditor =>
    intro s area count first
    exact exec_of_op (exec_ledgerRead s 1 area count first) (runOp_of_refusal rfl (by decide))

end Sys2Proof.Proofs
end

section
/-! PROOF. The mode commands that are accepted (R413-R428), seals (R369, R370), the SPI record path and management datagrams
(R338, R354) and the decision of an envelope (R361-R364). -/

namespace Sys2Proof.Proofs

open Sys2Proof.Machine

/-- A fold whose every step keeps the state keeps it. -/
theorem foldl_keeps {α β : Type} {f : α → β → α} {a : α} {l : List β} (h : ∀ b ∈ l, f a b = a) : l.foldl f a = a :=
  List.foldlRecOn (motive := fun x => x = a) l f rfl fun x hx b hb => by rw [hx, h b hb]

/-- With no record waiting and no destination that takes seals, QUIESCE's end sends nothing. -/
theorem opQuiesceDone_nothing_waits {s : State} (hqueue : s.recs.queue = [])
    (hseals : ∀ d < 4, s.receives d 9 = false) :
    (List.range 4).foldl (fun s d => State.recordsDrain s.recs.queue.length d s) s = s ∧
      (List.range 4).foldl (fun s d => if s.receives d 9 && s.canSend then s.netSeal d else s) s = s := by
  constructor
  · refine foldl_keeps fun d _ => ?_
    rw [hqueue]
    rfl
  · refine foldl_keeps fun d hd => ?_
    rw [hseals d (List.mem_range.1 hd), Bool.false_and]
    rfl

theorem writeTail_clk_md (s : State) (cause : Nat) : (s.writeTail cause).clk = s.clk ∧ (s.writeTail cause).md = s.md := by
  unfold State.writeTail
  split <;> exact ⟨rfl, rfl⟩

theorem spiSealNow_clk_md (s : State) : s.spiSealNow.clk = s.clk ∧ s.spiSealNow.md = s.md := ⟨rfl, rfl⟩

/-- A record of a code that is no fault leaves the mode alone. -/
theorem emit_md_of_no_fault {c : Code} (hc : c.lvl = 0) (s : State) (src : Nat) (data : List Byte) : (s.emit src c data).md = s.md := by
  unfold State.emit State.emitAt State.declare
  rw [if_pos hc, make_md]

/-- Settles O57: every accepted mode command, and what COMMISSION and QUIESCE do in time. -/
theorem modeCommands : Obligations.ModeCommands := by
  unfold Obligations.ModeCommands
  refine ⟨?release, ?hold, ?exitSafe, ?commission, ?endCommission, ?timeout, ?early, ?quiesce, ?quiesceDone, exec_modClearCounts⟩
  case release =>
    intro s hmode hprofile hconn hstop hswitch
    refine exec_of_op (exec_release s) ?_
    simp only [opRelease, State.committing, hmode, hprofile, hconn, hstop, hswitch, ne_eq, not_true_eq_false, decide_false,
      Bool.true_eq_false, Bool.false_eq_true, ↓reduceIte]
  case hold =>
    intro s hmode
    exact exec_of_op (exec_hold s) (if_pos hmode)
  case exitSafe =>
    intro s hmode hcause hstop hswitch
    refine exec_of_op (exec_exitSafe s) ?_
    simp only [opExitSafe, State.committing, hmode, hcause, hstop, hswitch, ne_eq, not_true_eq_false, decide_false,
      Bool.true_eq_false, Bool.false_eq_true, ↓reduceIte]
  case commission =>
    intro s hmode
    exact exec_of_op (exec_commission s) (if_pos hmode)
  case endCommission =>
    intro s hmode
    exact exec_of_op (exec_endCommissioning s) (if_pos hmode)
  case timeout =>
    intro s hmode hdue
    exact exec_of_op (exec_commissionTimeout s) (if_pos ⟨hmode, hdue⟩)
  case early =>
    intro s hearly
    exact exec_of_op (exec_commissionTimeout s) (if_neg fun h => absurd h.2 (not_le.2 hearly))
  case quiesce =>
    rintro s u hmode rfl hswitch
    refine exec_of_op (exec_quiesce s) ((if_pos (.inr (.inr (.inl hmode)))).trans ?_)
    simp only [if_pos hswitch]
  case quiesceDone =>
    intro s hmode hdone hqueue hseals
    obtain ⟨hdrain, hseal⟩ := opQuiesceDone_nothing_waits hqueue hseals
    refine ⟨_, rfl, exec_of_op (exec_quiesceDone s) ?_⟩
    obtain ⟨hclk, hmd⟩ := writeTail_clk_md s.spiSealNow 3
    obtain ⟨hclkSeal, hmdSeal⟩ := spiSealNow_clk_md s
    simp only [opQuiesceDone, hmode, hdone, ne_eq, not_true_eq_false, Bool.false_eq_true, or_self, ↓reduceIte, hdrain, hseal,
      State.put_clk, State.put_md, State.emit_clk, emit_md_of_no_fault (c := Code.MOSS_SEAL) rfl, hclk, hmd, hclkSeal, hmdSeal]

end Sys2Proof.Proofs
end

section
/-! PROOF. Seals (R369, R370), the SPI record path, streams and management datagrams (R338, R354) and the decision of an
envelope (R361-R364). -/

namespace Sys2Proof.Proofs

open Sys2Proof.Machine

/-! ### Words behind the pacer's own windows -/

section Answers

variable {s : State} (hreset : s.md.mode ≠ .reset) (hrom : s.cls.rom = false)
include hreset hrom

theorem answers_of_not_signal {a : Nat} (hword : a % 4 = 0) (hwindow : signalWindow a = false) : s.answers a = true := by
  simp [State.answers, State.reachable, hword, hwindow, hreset, hrom]

theorem readWord_recordData : s.readWord NET_RDATA = (some s.rdataRead.1, s.rdataRead.2) := by
  have hanswers : s.answers NET_RDATA = true := answers_of_not_signal hreset hrom rfl rfl
  have hnow : s.notYet NET_RDATA = false := by
    have hwindow : (NET_RDATA / 0x10000 = 5 || NET_RDATA / 0x10000 = 6 || NET_RDATA / 0x10000 = 0xB || NET_RDATA / 0x10000 = 0xC ||
      NET_RDATA / 0x10000 = 0xD : Bool) = false := rfl
    simp only [State.notYet, hwindow, Bool.and_false, Bool.false_and]
  simp only [State.readWord, hanswers, hnow, Bool.true_eq_false, Bool.false_eq_true, ↓reduceIte]

theorem readWord_sealData (hboot : s.md.mode ≠ .boot) (i : Fin 56) :
    s.readWord (CLS_SEAL_D i.val) = (some (s.sealRead i.val).1, (s.sealRead i.val).2) := by
  have hwords : ∀ i : Fin 56, CLS_SEAL_D i.val % 4 = 0 ∧ signalWindow (CLS_SEAL_D i.val) = false ∧ CLS_SEAL_D i.val ≠ NET_RDATA ∧
      (CLS_SEAL_D 0 ≤ CLS_SEAL_D i.val ∧ CLS_SEAL_D i.val ≤ CLS_SEAL_D 55) ∧ (CLS_SEAL_D i.val - CLS_SEAL_D 0) / 4 = i.val := by decide
  obtain ⟨hword, hwindow, hrecord, hseal, hindex⟩ := hwords i
  have hanswers := answers_of_not_signal hreset hrom hword hwindow
  have hnow : s.notYet (CLS_SEAL_D i.val) = false := by simp [State.notYet, hboot]
  unfold State.readWord
  rw [if_neg (Bool.not_eq_false _ ▸ hanswers), if_neg (Bool.eq_false_iff.1 hnow), if_neg hrecord, if_pos hseal, hindex]

end Answers

/-! ### The latch of the seal read -/

theorem sealRead_first (s : State) : (s.sealRead 0).2 = { s with spi := { s.spi with sealLatch := some (s.clk.up, s.spi.sealNow) } } := rfl

theorem sealRead_latched {s : State} {i t : Nat} {b : List Byte} (hi : i ≠ 0) (hlatch : s.spi.sealLatch = some (t, b))
    (hearly : s.clk.up < t + 100000000) :
    s.sealRead i = (BitVec.ofNat 32 (ofBe (slice b (4 * i) 4)), if i = 55 then { s with spi := { s.spi with sealLatch := none } } else s) := by
  simp only [State.sealRead, if_neg hi, hlatch, if_pos hearly]

/-- Settles O49: reading a seal, and when a chain or the SPI path is sealed, late, or not at all. -/
theorem sealCommands : Obligations.SealCommands := by
  unfold Obligations.SealCommands
  refine ⟨?first, ?last, ?between, ?sealed, ?late, ?noSend, ?notDue, ?spi, ?spiLate, ?spiNotDue, ?now⟩
  case first =>
    intro s hreset hrom hboot
    exact exec_of_op (exec_sealDataRead s 0) (congrArg Prod.snd (readWord_sealData hreset hrom hboot 0))
  case last =>
    intro s t b hreset hrom hboot hlatch hearly
    refine exec_of_op (exec_sealDataRead s 55) ((congrArg Prod.snd (readWord_sealData hreset hrom hboot 55)).trans ?_)
    rw [sealRead_latched (by decide) hlatch hearly]
    rfl
  case between =>
    intro s i t b hfirst hlast hreset hrom hboot hlatch hearly
    have hread := readWord_sealData hreset hrom hboot i
    have hi : i.val ≠ 0 := fun h => hfirst (Fin.ext h)
    have hi55 : i.val ≠ 55 := fun h => hlast (Fin.ext h)
    rw [sealRead_latched hi hlatch hearly, if_neg hi55] at hread
    exact ⟨exec_of_op (exec_sealDataRead s i) (congrArg Prod.snd hread), congrArg Prod.fst hread⟩
  case sealed =>
    intro s d hreceives hsend hidle hsecond
    refine exec_of_op (exec_chainSeal s d) ?_
    have hlate : ¬ s.sealedTo d.val + 2 ≤ s.second := by omega
    have hdue : ¬ s.second ≤ s.sealedTo d.val := by omega
    simp only [opChainSeal, hreceives, hsend, hidle, Option.isSome_none, hlate, hdue, Bool.true_eq_false, Bool.false_eq_true, or_self,
      ↓reduceIte]
  case late =>
    intro s d hreceives hsend hidle hlate
    refine exec_of_op (exec_chainSeal s d) ?_
    have hdue : ¬ s.second ≤ s.sealedTo d.val := by omega
    simp only [opChainSeal, State.sealLate, hreceives, hsend, hidle, Option.isSome_none, hlate, hdue, Bool.true_eq_false,
      Bool.false_eq_true, or_self, ↓reduceIte]
  case noSend =>
    intro s d hreceives hsend hidle hdue
    refine exec_of_op (exec_chainSeal s d) ?_
    simp only [opChainSeal, hreceives, hsend, hidle, Option.isSome_none, not_le.2 hdue, Bool.true_eq_false, Bool.false_eq_true, or_self,
      ↓reduceIte]
  case notDue =>
    intro s d hwaits
    exact exec_of_op (exec_chainSeal s d) (if_pos (.inr hwaits))
  case spi =>
    intro s hmode hidle hdue hearly
    have hruns : ¬(s.md.mode = .reset ∨ s.md.mode = .boot ∨ s.cls.deciding.isSome ∨ s.clk.up < s.spi.sealAt + 1000000000) := by
      simp [hmode, hidle, hdue]
    have hnotLate : ¬ s.spi.sealAt + 1000000000 + 1000000000 ≤ s.clk.up := by omega
    exact exec_of_op (exec_spiSeal s) ((if_neg hruns).trans (if_neg hnotLate))
  case spiLate =>
    intro s hmode hidle hlate
    have hruns : ¬(s.md.mode = .reset ∨ s.md.mode = .boot ∨ s.cls.deciding.isSome ∨ s.clk.up < s.spi.sealAt + 1000000000) := by
      have hdue : s.spi.sealAt + 1000000000 ≤ s.clk.up := by omega
      simp [hmode, hidle, hdue]
    have hlate : s.spi.sealAt + 1000000000 + 1000000000 ≤ s.clk.up := (Nat.add_assoc _ _ _).trans_le hlate
    exact exec_of_op (exec_spiSeal s) ((if_neg hruns).trans (if_pos hlate))
  case spiNotDue =>
    intro s hwaits
    exact exec_of_op (exec_spiSeal s) (if_pos (.inr (.inr hwaits)))
  case now => exact fun s => ⟨rfl, rfl, rfl⟩

/-! ### Records over SPI, streams and management datagrams -/

theorem rdataRead_front {s : State} {q : QRec} {qs : List QRec} (hwaiting : s.spiWaiting = q :: qs) :
    s.rdataRead.2 = if s.recs.spiWord = 7 then ({ s with recs := { s.recs with spiWord := (s.recs.spiWord + 1) % 8 } } : State).spiTake
      else { s with recs := { s.recs with spiWord := (s.recs.spiWord + 1) % 8 } } := by
  simp only [State.rdataRead, hwaiting]

theorem prp_inc_rx (s : State) : (s.inc (NET_RX.COUNT 0)).prp = s.prp :=
  congrArg (fun v : Nat => decide (v = 1)) (s.get_put_clear NET_STAT.PRP (NET_RX.COUNT 0) _ (by decide))

/-- A datagram taken in at port 0 without PRP. -/
theorem netRx_single {s : State} {k : Carrier} (hport : k.port = 0) (hroom : k.full = false) (hlink : s.linkUp 0 = true)
    (hprp : s.prp = false) : s.netRx k = (true, s.inc (NET_RX.COUNT 0)) := by
  have hp : k.port.val = 0 := congrArg Fin.val hport
  have hprp' : (s.inc (NET_RX.COUNT 0)).prp = false := (prp_inc_rx s).trans hprp
  simp only [State.netRx, hp, hlink, hroom, hprp', Bool.true_eq_false, Bool.false_eq_true, Nat.zero_ne_one, ↓reduceIte]

/-- A management datagram that its port has taken in (R338, R354). -/
def mgmtTaken (s : State) (k : Carrier) (b : List Byte) : State :=
  if b.length < 8 ∨ beAt b 0 2 ≠ 0x4B4D ∨ beAt b 2 1 ≠ 1 then s.mgmtBad k 1
  else if beAt b 3 1 = 0x01 then (if (b.drop 8).length = 8 then s.mgmtRead k (beAt b 4 4) (b.drop 8) else s.mgmtBad k 1)
  else if beAt b 3 1 = 0x0B then
    (if 1 ≤ (b.drop 8).length ∧ (b.drop 8).length ≤ 1024 then s.mgmtEnvelope k (beAt b 4 4) (b.drop 8) else s.mgmtBad k 1)
  else s.mgmtBad k 2

theorem mgmtRx_taken {s : State} {k : Carrier} (b : List Byte) (hport : k.port = 0) (hroom : k.full = false) (hlink : s.linkUp 0 = true)
    (hprp : s.prp = false) : s.mgmtRx k b = mgmtTaken (s.inc (NET_RX.COUNT 0)) k b := by
  simp only [State.mgmtRx, netRx_single hport hroom hlink hprp, Bool.true_eq_false, ↓reduceIte, mgmtTaken]

/-- Settles O48: a record read word by word, data streams sent or dropped, management datagrams read, passed on or counted bad. -/
theorem streamCommands : Obligations.StreamCommands := by
  unfold Obligations.StreamCommands
  refine ⟨?word, ?lastWord, ?product, ?records, ?read, ?envelope, ?bad⟩
  case word =>
    intro s q qs hreset hrom hwaiting hword
    refine exec_of_op (exec_recordDataRead s) ((congrArg Prod.snd (readWord_recordData hreset hrom)).trans ?_)
    exact (rdataRead_front hwaiting).trans (if_neg (Nat.ne_of_lt hword))
  case lastWord =>
    intro s q qs hreset hrom hwaiting hword
    refine exec_of_op (exec_recordDataRead s) ((congrArg Prod.snd (readWord_recordData hreset hrom)).trans ?_)
    refine (rdataRead_front hwaiting).trans ((if_pos hword).trans ?_)
    rw [hword]
  case product =>
    intro s d p f z j first count late hp hreceives hsome hfits x es
    refine exec_of_op (exec_dataStreamSend s d p f z j first count late) ?_
    have hproduct : ¬(p.val + 1 = 0 ∨ 9 ≤ p.val + 1 ∨ s.receives d.val (p.val + 1) = false) := by
      rintro (hzero | hlarge | hnone)
      · exact Nat.succ_ne_zero _ hzero
      · omega
      · exact Bool.noConfusion (hreceives.symm.trans hnone)
    have hnotRecords : ¬ p.val + 1 = 1 := fun h => hp (Nat.succ.inj h)
    simp only [opDataStreamSend, if_neg hproduct, if_neg hnotRecords, hsome, not_lt.2 hfits, or_self, ↓reduceIte]
    rfl
  case records =>
    intro s d f z j first count late hreceives
    refine exec_of_op (exec_dataStreamSend s d 0 f z j first count late) ((if_neg ?_).trans (if_pos rfl))
    simp [hreceives]
  case read =>
    intro s t k b ws hport hroom hlink hprp hlen hmagic hversion hkind hallowed hlow hhigh hread
    refine exec_of_op (exec_mgmtRead s k b) ((mgmtRx_taken b hport hroom hlink hprp).trans ?_)
    have hframe : ¬(b.length < 8 ∨ beAt b 0 2 ≠ 0x4B4D ∨ beAt b 2 1 ≠ 1) := by simp [hlen, hmagic, hversion]
    have hbody : (b.drop 8).length = 8 := by rw [List.length_drop, hlen]
    have hcount : ¬(beAt (b.drop 8) 4 1 = 0 ∨ 64 < beAt (b.drop 8) 4 1) := by omega
    refine (if_neg hframe).trans ((if_pos hkind).trans ((if_pos hbody).trans ((if_neg (not_not.2 hallowed)).trans ((if_neg hcount).trans ?_))))
    simp only [hread]
  case envelope =>
    rintro s u k b hport hroom hlink hprp hlow hhigh hmagic hversion hkind rfl hbusy
    refine exec_of_op (exec_mgmtEnvelope s k b) ((mgmtRx_taken b hport hroom hlink hprp).trans ?_)
    have hframe : ¬(b.length < 8 ∨ beAt b 0 2 ≠ 0x4B4D ∨ beAt b 2 1 ≠ 1) := by
      simp only [hmagic, hversion, ne_eq, not_true_eq_false, or_false, not_lt]; omega
    have hnotRead : ¬ beAt b 3 1 = 0x01 := by rw [hkind]; decide
    have hbody : 1 ≤ (b.drop 8).length ∧ (b.drop 8).length ≤ 1024 := by rw [List.length_drop]; omega
    refine (if_neg hframe).trans ((if_neg hnotRead).trans ((if_pos hkind).trans ((if_pos hbody).trans ?_)))
    simp only [State.mgmtEnvelope, hbusy, Bool.false_eq_true, ↓reduceIte]
  case bad =>
    intro s k b hport hroom hlink hprp hlen
    have hbad : s.mgmtRx k b = (s.inc (NET_RX.COUNT 0)).mgmtBad k 1 :=
      (mgmtRx_taken b hport hroom hlink hprp).trans (if_pos (.inl hlen))
    exact ⟨exec_of_op (exec_mgmtEnvelope s k b) hbad, exec_of_op (exec_mgmtRead s k b) hbad⟩

/-- Settles O50: the steps of the decision in order, each refusal with its result, and the reply and record of the decision. -/
theorem envelopeCommands : Obligations.EnvelopeCommands := by
  unfold Obligations.EnvelopeCommands
  refine ⟨?decided, ?malformed, ?otherPart, ?noKey, ?refused⟩
  case decided =>
    intro s t e x o hdeciding hdecide hmode
    refine exec_of_op (exec_envelopeDecided s o) ?_
    simp only [opEnvelopeDecided, hdeciding, hdecide, if_neg hmode]
  case malformed =>
    intro s e o hops
    simp only [State.decideEnvelope, hops, refusal]
  case otherPart =>
    intro s e o ops hops huid
    simp only [State.decideEnvelope, hops, if_pos huid, refusal]
  case noKey =>
    intro s e o ops hops huid hkey
    simp only [State.decideEnvelope, hops, huid, ne_eq, not_true_eq_false, ↓reduceIte, hkey, refusal]
  case refused =>
    rintro s e o ops key n hops huid hkey rfl hreplay
    simp only [State.decideEnvelope, hops, huid, ne_eq, not_true_eq_false, ↓reduceIte, hkey, if_pos hreplay, refusal]

end Sys2Proof.Proofs
end

section
/-! PROOF. The timebase (R55-R60), automatic power reduction (R72-R77), the Landings and overrange (R104-R114). -/

namespace Sys2Proof.Proofs

open Sys2Proof.Machine

/-! ### The timebase -/

theorem stopFibre_of_ready {s : State} {f : Nat} (h : s.get (PRB_STAT.FSTATE f) ≤ 1) : s.stopFibre f = s := by
  unfold State.stopFibre
  exact if_neg (by omega)

/-- What a lost lock writes where no fibre emits. -/
def unlocked (s : State) : State :=
  ({ s.puts [(PRB_STAT.TB, 0), (PRB_STAT.DIRECT, 0)] with tb := { s.tb with noLock := some (s.tb.noLock.getD s.clk.up) } } : State).put
    LMP_STAT.PACER_CAL 0

theorem unlocked_fstate (s : State) (f : Fin 2) : (unlocked s).get (PRB_STAT.FSTATE f.val) = s.get (PRB_STAT.FSTATE f.val) := by
  have hclear : ∀ f : Fin 2, [PRB_STAT.TB, PRB_STAT.DIRECT, LMP_STAT.PACER_CAL].all (PRB_STAT.FSTATE f.val).clear = true := by decide
  obtain ⟨htb, hdirect, hcal⟩ : (PRB_STAT.FSTATE f.val).clear PRB_STAT.TB = true ∧ (PRB_STAT.FSTATE f.val).clear PRB_STAT.DIRECT = true ∧
      (PRB_STAT.FSTATE f.val).clear LMP_STAT.PACER_CAL = true := by simpa using hclear f
  calc (unlocked s).get (PRB_STAT.FSTATE f.val)
      = ((s.put PRB_STAT.TB 0).put PRB_STAT.DIRECT 0).get (PRB_STAT.FSTATE f.val) := State.get_put_clear _ _ _ _ hcal
    _ = (s.put PRB_STAT.TB 0).get (PRB_STAT.FSTATE f.val) := State.get_put_clear _ _ _ _ hdirect
    _ = s.get (PRB_STAT.FSTATE f.val) := State.get_put_clear _ _ _ _ htb

theorem unlock_of_ready {s : State} (h0 : s.get (PRB_STAT.FSTATE 0) ≤ 1) (h1 : s.get (PRB_STAT.FSTATE 1) ≤ 1) : s.unlock = unlocked s := by
  have hstop0 : (unlocked s).stopFibre 0 = unlocked s := stopFibre_of_ready ((unlocked_fstate s 0).trans_le h0)
  have hstop1 : (unlocked s).stopFibre 1 = unlocked s := stopFibre_of_ready ((unlocked_fstate s 1).trans_le h1)
  calc s.unlock = ((unlocked s).stopFibre 0).stopFibre 1 := rfl
    _ = unlocked s := by rw [hstop0, hstop1]

/-- The reference read while it is qualified: what chooses the target is as before. -/
theorem seekRef_refOk (s : State) (z : Int) :
    ((s.put PRB_STAT.REF_OK 1).puti PRB_REF.FOFS z).seekRef =
      if s.get PRB_REF.SRC = 2 ∨ s.get PRB_STAT.TB = 2 ∨ s.get PRB_STAT.TB = 3 then (s.put PRB_STAT.REF_OK 1).puti PRB_REF.FOFS z
      else { (s.put PRB_STAT.REF_OK 1).puti PRB_REF.FOFS z with tb := { s.tb with target := 2, targetDirect := s.tb.xoFailed } } := by
  have hsrc : ((s.put PRB_STAT.REF_OK 1).puti PRB_REF.FOFS z).get PRB_REF.SRC = s.get PRB_REF.SRC :=
    (State.get_put_clear _ _ _ _ (by decide)).trans (State.get_put_clear _ _ _ _ (by decide))
  have htb : ((s.put PRB_STAT.REF_OK 1).puti PRB_REF.FOFS z).get PRB_STAT.TB = s.get PRB_STAT.TB :=
    (State.get_put_clear _ _ _ _ (by decide)).trans (State.get_put_clear _ _ _ _ (by decide))
  have hok : ((s.put PRB_STAT.REF_OK 1).puti PRB_REF.FOFS z).get PRB_STAT.REF_OK ≠ 0 := by
    have h1 : ((s.put PRB_STAT.REF_OK 1).puti PRB_REF.FOFS z).get PRB_STAT.REF_OK = 1 :=
      (State.get_put_clear _ _ _ _ (by decide)).trans (State.get_put_same _ _ _ (by decide))
    rw [h1]; decide
  simp only [State.seekRef, hsrc, htb, hok, false_or, State.puti_tb, State.put_tb]

/-- Settles O16: what qualifies the timebase, what holds it over, and what takes its lock away. -/
theorem timebaseCommands : Obligations.TimebaseCommands := by
  unfold Obligations.TimebaseCommands
  refine ⟨?seek, ?ignored, ?lock, ?holdover, ?holdoverEnd, ?refBad, ?unlock, ?xoFail, ?xoGood⟩
  case seek =>
    intro s fofs hsrc href hhold
    refine exec_of_op (exec_refInQualified s fofs) ((seekRef_refOk s _).trans (if_neg ?_))
    exact not_or.2 ⟨hsrc, not_or.2 ⟨href, hhold⟩⟩
  case ignored =>
    intro s fofs hsrc
    exact exec_of_op (exec_refInQualified s fofs) ((seekRef_refOk s _).trans (if_pos (.inl hsrc)))
  case lock =>
    intro s htarget
    exact exec_of_op (exec_timebaseLock s) (if_neg htarget)
  case holdover =>
    intro s offFreq corr htb hsrc hdirect
    refine exec_of_op (exec_holdoverEnter s offFreq corr) ?_
    exact (if_neg (not_not.2 htb)).trans ((if_neg hsrc).trans (if_neg (Bool.eq_false_iff.1 hdirect)))
  case holdoverEnd =>
    intro s htb hsrc
    refine exec_of_op (exec_holdoverExit s) ((if_neg (not_or.2 ⟨not_not.2 htb, hsrc⟩)).trans ?_)
    simp only [State.holdSecs, if_pos htb]
  case refBad =>
    intro s offFreq htb htarget
    exact exec_of_op (exec_refInBad s offFreq) ((if_neg htb).trans (if_neg htarget))
  case unlock =>
    intro s cause h0 h1
    refine ⟨_, rfl, _, rfl, exec_of_op (exec_timebaseUnlock s cause) ?_⟩
    simp only [opTimebaseUnlock, unlock_of_ready h0 h1]
    rfl
  case xoFail =>
    intro s o hxo hfails
    have hbad : ¬(o.amplitude = false ∧ xoOffFreq o (s.witness o) = false) := by
      rintro ⟨hamplitude, hfreq⟩
      rcases hfails with h | h <;> simp_all
    refine ⟨_, rfl, fun hgood => exec_of_op (exec_xoFail s o) ?_, fun hgood => exec_of_op (exec_xoFail s o) ?_⟩
    · exact (if_neg (Bool.eq_false_iff.1 hxo)).trans ((if_neg hbad).trans (if_pos hgood))
    · exact (if_neg (Bool.eq_false_iff.1 hxo)).trans ((if_neg hbad).trans (if_neg (Bool.eq_false_iff.1 hgood)))
  case xoGood =>
    intro s o hxo hamplitude hfreq href
    refine exec_of_op (exec_xoFail s o) ?_
    exact (if_neg (Bool.eq_false_iff.1 hxo)).trans ((if_pos ⟨hamplitude, hfreq⟩).trans (if_neg fun h => absurd h.1 (not_lt.2 href)))

/-! ### Automatic power reduction -/

/-- A check that fails in START. -/
theorem checkResult_fails_in_start {s : State} {f : Nat} (hcheck : (s.fib f).check = true) (hstart : s.get (PRB_STAT.FSTATE f) = 2)
    (last bin : Nat) :
    s.checkResult f false last bin =
      ((((s.setFib f { s.fib f with check := false, passes := 0 }).put (ACU_BRK.CHECK f) 0).emit (srcBlock 1) Code.APR_CHECK
        (le 1 f ++ le 1 0 ++ le 1 0 ++ le 4 last)).enterApr f 4 bin) := by
  simp only [State.checkResult, hcheck, hstart, Bool.true_eq_false, Bool.false_eq_true, ↓reduceIte, Nat.reduceEqDiff, or_self, false_and,
    decide_false, Bool.not_false, Bool.and_true, State.putB, b2n, Nat.zero_min]

/-- Settles O18: the check burst and its verdict, what enters reduced power, and what restores full power. -/
theorem powerReductionCommands : Obligations.PowerReductionCommands := by
  unfold Obligations.PowerReductionCommands
  refine ⟨?burst, ?noBurst, ?check, ?failed, ?timeout, ?openEnd, ?confirm, ?confirmTimeout, ?force, ?restoreHeld, ?restoreLocked,
    ?restoreRefused, ?lockout⟩
  case burst =>
    intro s f hstate htb
    refine ⟨fun hlsr hready => ?_, fun hready => ?_⟩
    · refine exec_of_op (exec_checkBurst s f) ((if_pos ⟨hstate, htb⟩).trans (if_pos ?_))
      rw [hlsr, hready]; rfl
    · refine exec_of_op (exec_checkBurst s f) ((if_pos ⟨hstate, htb⟩).trans (if_neg ?_))
      rw [hready, Bool.and_false]; exact Bool.false_ne_true
  case noBurst =>
    intro s f htb
    exact exec_of_op (exec_checkBurst s f) (if_neg fun h => h.2 htb)
  case check =>
    intro s f hburst
    exact ⟨_, rfl, exec_of_op (exec_aprCheck s f) (if_neg (not_lt.2 hburst))⟩
  case failed =>
    intro s f last bin hcheck hstart
    exact checkResult_fails_in_start hcheck hstart last bin
  case timeout =>
    intro s f hcheck hburst hdue
    exact exec_of_op (exec_checkResultTimeout s f) (if_pos ⟨hcheck, hburst, hdue⟩)
  case openEnd =>
    intro s f bin hsent hfull
    refine exec_of_op (exec_openEndIndication s f) ?_
    simp only [opOpenEndIndication, hsent]
    exact if_pos hfull
  case confirm =>
    intro s f hconfirm
    exact exec_of_op (exec_continuityConfirmation s f) (if_pos hconfirm)
  case confirmTimeout =>
    intro s f hfull hdue
    exact exec_of_op (exec_confirmationTimeout s f) (if_pos ⟨hfull, hdue⟩)
  case force =>
    intro s f hstate
    exact exec_of_op (exec_force s f) (if_pos hstate)
  case restoreHeld =>
    intro s f hheld
    exact exec_of_op (exec_restore s f) (if_pos hheld)
  case restoreLocked =>
    intro s f hlocked
    exact exec_of_op (exec_restore s f) ((if_neg (by rw [hlocked]; decide)).trans (if_pos hlocked))
  case restoreRefused =>
    intro s f hheld hlocked
    exact exec_of_op (exec_restore s f) ((if_neg hheld).trans (if_neg hlocked))
  case lockout =>
    intro s f hmode
    exact exec_of_op (exec_aprLockout s f) (if_neg (Bool.eq_false_iff.not.2 (not_not.2 hmode)))

/-! ### The Landings -/

theorem moveAbandon_of_no_move {s : State} (h : s.gal.move = none) (cause : Nat) : s.moveAbandon cause = s := by
  simp only [State.moveAbandon, h]

/-- Settles O20: a Landing's fill, what it drops and the lost traces, and overrange gathered in one record. -/
theorem landingCommands : Obligations.LandingCommands := by
  unfold Obligations.LandingCommands
  refine ⟨?high, ?dropStart, ?raman, ?coherent, ?lost, ?overrange⟩
  case high =>
    intro s f raman fill
    refine ⟨fun hbelow hreached => exec_of_op (exec_landingHigh s f raman fill) (if_pos ⟨hbelow, hreached⟩), fun hno => ?_⟩
    exact exec_of_op (exec_landingHigh s f raman fill) (if_neg fun h => by omega)
  case dropStart =>
    intro s f hrunning hmove
    have hstart : opLandingDropStart f.val true s = _ := if_neg (by simp [hrunning])
    refine exec_of_op (exec_landingDropStart s f true) ((moveAbandon_of_no_move ?_ 3).trans hstart)
    rw [hstart]
    exact hmove
  case raman =>
    intro s u f a k rs hdrop hlost
    refine ⟨_, rfl, exec_of_op (exec_landingOverflow s f true) ?_⟩
    simp only [opLandingOverflow, hdrop, hlost, ↓reduceIte]
    rfl
  case coherent =>
    intro s u f a k rs hdrop hlost
    refine ⟨_, rfl, exec_of_op (exec_landingOverflow s f false) ?_⟩
    simp only [opLandingOverflow, hdrop, hlost, Bool.false_eq_true, ↓reduceIte]
    rfl
  case lost =>
    intro s f n first start cause hn
    exact if_neg hn
  case overrange =>
    rintro s a x rfl htraces hdue
    have hready : (match (sparseGet .reset s.ovrs a.val : Ovr).recAt with
        | some t => decide (t + 1000000000 ≤ s.clk.up)
        | none => true) = true := by
      cases hrec : (sparseGet .reset s.ovrs a.val : Ovr).recAt with
      | none => rfl
      | some t => exact decide_eq_true (hdue t hrec)
    refine exec_of_op (exec_overrange s a) ?_
    have hno : ¬((sparseGet .reset s.ovrs a.val : Ovr).traces = 0 ∨ (match (sparseGet .reset s.ovrs a.val : Ovr).recAt with
        | some t => decide (t + 1000000000 ≤ s.clk.up)
        | none => true) = false) := not_or.2 ⟨htraces, by rw [hready]; exact Bool.noConfusion⟩
    exact if_neg hno

end Sys2Proof.Proofs
end

section
/-! PROOF. Three statements that miss a part of what the model does: the end of a burst, the mark of a trial at a handover, and
the stop of the sensing at a trace. -/

namespace Sys2Proof.Proofs

open Sys2Proof.Machine

/-! ### Two readings of one step -/

/-- In RESET with nothing owed, no cause and no shadow profile a state is calm. -/
theorem calm_of_reset {s : State} (hmode : s.md.mode = .reset) (hdue : s.due = ⟨none, none, 0⟩) (hcode : s.md.code = 0)
    (hcause : bitOf (s.get MOD_SCAUSE.CAUSE) 7 = false) (hshadow : s.cfg.shadow = none) : s.calm := by
  have hmodeCode : s.modeCode = 0 := by simp only [State.modeCode, hmode]
  exact ⟨.inr (.inr hmode), .inl hmode, .inr hcause, ⟨hdue, hcode.trans hmodeCode.symm⟩, .inl hshadow⟩

/-- Where a command leaves a calm state, what it leaves before its consequences is determined. -/
theorem left_unique {c : Instr} {s t u : State} (ht : t.calm) (hu : u.calm) (hexec : exec c s = .next (State.finish t))
    (hexec' : exec c s = .next (State.finish u)) : t = u := by
  rw [hexec, calmFinish t ht, calmFinish u hu] at hexec'
  exact Host.Outcome.next.inj hexec'

/-- A fibre in the last cycle of its burst, one nanosecond after reset. -/
def lastOfBurst : Fibre := { Fibre.reset with burst := 1, startedAt := 1 }

/-- The cycle that ends a burst notes when it ends (R73), with or without a lock. -/
theorem cycleEmits_burstEnd {s : State} {f : Nat} (hlast : (s.fib f).burst = 1) :
    ((s.cycleEmits f).fib f).burstEnd = (s.fib f).startedAt + s.cycleNs f := by
  unfold State.cycleEmits
  rw [State.fib_setFib_same]
  exact if_pos hlast

/-- Refutes O17: with the timebase off the clause for a cycle keeps the end of the burst, but the cycle that is the last of a burst
sets it. After reset with a burst of one cycle begun at 1 ns the model gives 1, the clause 0. -/
theorem not_probeCycleCommands : ¬ Obligations.ProbeCycleCommands := by
  unfold Obligations.ProbeCycleCommands
  rintro ⟨_, _, _, hoff, _⟩
  have hfib : (State.reset.setFib 0 lastOfBurst).fib 0 = lastOfBurst := State.fib_setFib_same _ _ _
  have hmodel : (((State.reset.setFib 0 lastOfBurst).cycleEmits 0).fib 0).burstEnd = 1 := by
    rw [cycleEmits_burstEnd (by rw [hfib]; rfl), hfib]
    decide
  have hclause : (((State.reset.setFib 0 lastOfBurst).cycleEmits 0).fib 0).burstEnd = 0 := by
    have h := congrArg (fun t : State => (t.fib 0).burstEnd) (hoff (State.reset.setFib 0 lastOfBurst) 0 (by decide))
    refine h.trans ?_
    simp only [Fin.val_zero, State.fib_setFib_same]
    rfl
  exact absurd (hmodel.symm.trans hclause) (by decide)

/-- After reset with channelizer 1 serving fibre 0 and a utilisation of 0 noted for the trial of channelizer 0. -/
def onTrial : State :=
  { State.reset.put (ACQ_STAT.CHZ 0) 1 with gal := { State.reset.gal with chzRun := [(20, some 0)] } }

/-- Channelizer 0 beside the incumbent of fibre 0, with Gallery g. -/
def besideIncumbent (g : Gal) : State :=
  (({ onTrial with gal := g } : State).put (ACQ_CHZ.STATE 0) 3).setChz 0
    { onTrial.chz 0 with fibre := 0, incumbent := onTrial.get (ACQ_STAT.CHZ 0), trace := onTrial.cycle 0 }

theorem besideIncumbent_calm (g : Gal) : (besideIncumbent g).calm := by
  have hcause : bitOf ((besideIncumbent .reset).get MOD_SCAUSE.CAUSE) 7 = false := by decide
  exact calm_of_reset rfl rfl rfl hcause rfl

/-- Refutes O21: the clause for the start of a handover keeps the utilisations noted of channelizers on trial, but the start clears
that of the channelizer. -/
theorem not_channelizerCommands : ¬ Obligations.ChannelizerCommands := by
  unfold Obligations.ChannelizerCommands
  rintro ⟨hstart, _⟩
  have hclause : exec (.chzHandoverStart 0 0) onTrial = .next (State.finish (besideIncumbent { onTrial.gal with handover := none })) :=
    hstart onTrial 0 0 (by decide) (by decide) (by decide) (by decide)
  have hop : opChzHandoverStart 0 0 onTrial =
      besideIncumbent { onTrial.gal with handover := none, chzRun := sparseSet none onTrial.gal.chzRun 20 none } := by
    unfold opChzHandoverStart
    rw [if_pos (by decide)]
    rfl
  have hmodel : exec (.chzHandoverStart 0 0) onTrial =
      .next (State.finish (besideIncumbent { onTrial.gal with handover := none, chzRun := sparseSet none onTrial.gal.chzRun 20 none })) :=
    exec_of_op (exec_chzHandoverStart onTrial 0 0) hop
  have hrun := congrArg (fun t : State => t.gal.chzRun) (left_unique (besideIncumbent_calm _) (besideIncumbent_calm _) hclause hmodel)
  exact absurd hrun (by decide : ¬ [(20, some 0)] = sparseSet none [(20, some 0)] 20 none)

/-- After reset with the Stair off and a trace of fibre 0 that waits, without emission. -/
def sensingStopped : State :=
  ({ State.reset with gal := { State.reset.gal with stairOff := true } } : State).setFib 0
    { Fibre.reset with traces := [⟨0, 0, [], false, some (0, 0), none⟩] }

/-- A trace with no samples. -/
def noVolts : TraceVolts := ⟨[], [], [], [], [], [], 0⟩

theorem traceOvr_noVolts (s : State) (f cycle : Nat) : s.traceOvr f cycle noVolts false = s := rfl

/-- With the sensing stopped a trace waits (R210). -/
theorem opTraceProcessed_stopped {s : State} {f n : Nat} {v : TraceVolts} {r : TraceRec}
    (htrace : (s.fib f).traces.find? (fun r => r.cycle = n) = some r) (hstopped : s.sensStopped = true) : opTraceProcessed f n v s = s := by
  simp only [opTraceProcessed, htrace, hstopped, Bool.not_true, Bool.and_false, Bool.false_and, Bool.false_eq_true, ↓reduceIte]

/-- Refutes O23: the clause for a trace leaves out that sensing may be stopped. With the Stair off the model keeps the trace, the
clause takes it from the fibre. -/
theorem not_acousticHealthCommands : ¬ Obligations.AcousticHealthCommands := by
  unfold Obligations.AcousticHealthCommands
  rintro ⟨_, htrace, _⟩
  have hfib : sensingStopped.fib 0 = { Fibre.reset with traces := [⟨0, 0, [], false, some (0, 0), none⟩] } := State.fib_setFib_same _ _ _
  have hfind : (sensingStopped.fib 0).traces.find? (fun r => r.cycle = 0) = some ⟨0, 0, [], false, some (0, 0), none⟩ := by
    rw [hfib]; rfl
  obtain ⟨_, _, hnone⟩ := htrace sensingStopped _ 0 0 noVolts _ (0, 0) hfind rfl rfl (by decide) rfl rfl rfl
  have hclause := hnone rfl
  rw [traceOvr_noVolts] at hclause
  have hmodel : exec (.traceProcessed 0 0 noVolts) sensingStopped = .next (State.finish sensingStopped) :=
    exec_of_op (exec_traceProcessed sensingStopped 0 0 noVolts) (opTraceProcessed_stopped hfind rfl)
  have hcause : bitOf (sensingStopped.get MOD_SCAUSE.CAUSE) 7 = false := by decide
  have hcalm : sensingStopped.calm := calm_of_reset rfl rfl rfl hcause rfl
  have hcalm' : ∀ x, (sensingStopped.setFib 0 x).calm := fun _ => calm_of_reset rfl rfl rfl hcause rfl
  have htraces := congrArg (fun t : State => (t.fib 0).traces) (left_unique hcalm (hcalm' _) hmodel hclause)
  simp only [Fin.val_zero, State.fib_setFib_same, hfib] at htraces
  exact absurd (congrArg List.length htraces) (by decide)

end Sys2Proof.Proofs
end

section
/-! PROOF. Zones, events, storms and tracks (R127-R140, R154), approach permits (R148, R250), auxiliary channels (R170-R180). -/

namespace Sys2Proof.Proofs

open Sys2Proof.Machine

/-! ### Zones -/

theorem closeEvents_of_no_events {s : State} (h : s.events = []) (p : AcuEvent → Bool) (reason : Nat) : s.closeEvents p reason = s := by
  unfold State.closeEvents
  rw [h]
  rfl

theorem setZone_clk (s : State) (f z : Nat) (x : Zone) : (s.setZone f z x).clk = s.clk := rfl

/-- A zone's map interval without detectors and open events writes the levels alone. -/
theorem opMapInterval_quiet {s : State} {f z : Nat} {x : ZoneProc} (hvalid : (s.zone f z).state = 3) (hevents : s.events = [])
    (hdets : s.cfg.sens.zoneDets f z = [])
    (hx : x = { s.zproc f z with
      levels := (s.clk.up, (s.zproc f z).formLevels (s.zonePar f z) (s.cfg.sens.cellCount f z) s.clk.up) ::
        recent s.clk.up 600000000000 (s.zproc f z).levels
      dets := [] }) :
    opMapInterval f z s = ((s.setZproc f z x).setZproc f z x).linksEvaluate := by
  have hkept : ∀ g : AcuEvent → AcuEvent, ({ s.setZproc f z x with events := (s.setZproc f z x).events.map g } : State) = s.setZproc f z x := by
    intro g
    have hnone : (s.setZproc f z x).events = [] := hevents
    rw [hnone, List.map_nil, ← hnone]
  have hclosed : ∀ p r, (s.setZproc f z x).closeEvents p r = s.setZproc f z x := closeEvents_of_no_events hevents
  simp only [opMapInterval, hvalid, ne_eq, not_true_eq_false, ↓reduceIte, hdets, List.map_nil, ← hx, hkept, hclosed]
  subst hx
  rfl

/-- A fibre's tracks at an update that sees none of them. -/
theorem opTrackUpdate_untracked {s : State} {f : Nat} (hserved : s.fibreServed f = true) (htracks : (s.acuFib f).tracks = [])
    (cands : List TrackCand) :
    opTrackUpdate f [] cands s = ((cands.foldl (fun s c => s.candidate f c)
      ((s.mergeTracks f).setAcuFib f { (s.mergeTracks f).acuFib f with trackedAt := (s.mergeTracks f).clk.up })).trackRecords
        f).linksEvaluate := by
  simp only [opTrackUpdate, hserved, Bool.true_eq_false, ↓reduceIte, htracks, List.filter_nil, List.map_nil, List.append_nil, List.foldl_nil]

/-- Settles O24: zones becoming valid, degraded and quiet again, events opened and reported, tracks begun. -/
theorem zoneCommands : Obligations.ZoneCommands := by
  unfold Obligations.ZoneCommands
  refine ⟨?valid, ?degraded, ?restored, ?map, ?opens, ?heartbeat, ?stormEnd, ?notServed, ?tracks, ?candidate, ?counts⟩
  case valid =>
    intro s f z hstate hseen hserved hiq
    exact exec_of_op (exec_zoneValid s f z) (if_pos ⟨hstate, hseen, hserved, hiq⟩)
  case degraded =>
    rintro s f z t rfl hstate hdegraded hbad
    have hset : (s.iqHeld f.val || decide (s.cfg.sens.nat 3 4 0x08C [f.val, z.val] * ((s.zproc f.val z.val).lastSecond s.clk.up).all <
        100 * ((s.zproc f.val z.val).lastSecond s.clk.up).bad)) = true := by simpa using hbad
    refine exec_of_op (exec_zoneDegraded s f z) ?_
    simp only [opZoneDegraded, hset, hstate, hdegraded, ne_eq, Bool.false_eq_true, not_false_eq_true, and_self, ↓reduceIte, b2n]
  case restored =>
    rintro s f z t rfl hstate hdegraded hheld hgood
    have hset : (s.iqHeld f.val || decide (s.cfg.sens.nat 3 4 0x08C [f.val, z.val] * ((s.zproc f.val z.val).lastSecond s.clk.up).all <
        100 * ((s.zproc f.val z.val).lastSecond s.clk.up).bad)) = false := by simp [hheld, hgood]
    refine exec_of_op (exec_zoneDegraded s f z) ?_
    simp only [opZoneDegraded, hset, hstate, hdegraded, ne_eq, Bool.true_eq_false, Bool.false_eq_true, not_false_eq_true, and_self,
      ↓reduceIte, b2n]
  case map =>
    intro s f z x hvalid hevents hdets hx
    exact exec_of_op (exec_mapInterval s f z) (opMapInterval_quiet hvalid hevents hdets hx)
  case opens =>
    rintro s u f z d j c hu hmine hall hopen hstorm rfl
    have hclk : u.clk = s.clk := by rw [hu]; rfl
    have hevents : u.events = s.events := by rw [hu]; rfl
    have hnotMine := not_lt.2 hmine
    have hnotAll := not_or.2 ⟨not_le.2 hall, not_le.2 hopen⟩
    rw [← hevents] at hnotAll
    rcases hpeak : (u.zproc f.val z.val).peak (s.cfg.sens.nat 4 7 0x042 [f.val, d]) c.first c.last with ⟨cell, level⟩
    refine ⟨cell, level, rfl, ?_⟩
    simp only [State.wouldOpen, ← hu, hnotMine, hnotAll, hstorm, Bool.false_eq_true, ↓reduceIte, setZone_clk, hclk, hpeak]
  case heartbeat =>
    intro s f z id e hfind
    refine exec_of_op (exec_eventHeartbeat s f z id) ?_
    simp only [opEventHeartbeat, hfind]
  case stormEnd =>
    intro s f z hstorm hdue hcalm
    exact exec_of_op (exec_zoneStormEnd s f z) (if_pos ⟨hstorm, hdue, hcalm⟩)
  case notServed =>
    intro s f obs cands hserved
    exact exec_of_op (exec_trackUpdate s f obs cands) (if_pos hserved)
  case tracks =>
    rintro s u f cands hserved htracks rfl
    exact exec_of_op (exec_trackUpdate s f [] cands) (opTrackUpdate_untracked hserved htracks cands)
  case candidate =>
    intro s f c z hzone hvalid hgate hroom
    have hfilter : (s.trackZone f.val 256 c.pos).filter (fun z => (s.zone f.val z).state = 3 && s.inGate c.speed) = some z := by
      rw [hzone]; simp [hvalid, hgate]
    simp only [State.candidate, hfilter, if_pos hroom]
  case counts =>
    intro s
    refine ⟨opAcuClearCounts s, exec_acuClearCounts s, rfl, rfl, fun p hp => ?_⟩
    obtain ⟨q, _, rfl⟩ := List.mem_map.1 (List.mem_of_mem_filter hp)
    exact ⟨rfl, rfl⟩

/-! ### Approach permits -/

/-- Settles O25: permits sent, received, revoked and expired, and the heads that they dim. -/
theorem permitCommands : Obligations.PermitCommands := by
  unfold Obligations.PermitCommands
  refine ⟨exec_dimPermitSend, ?send, ?received, ?revoked, ?expired, ?fresh, ?dimmed⟩
  case send =>
    intro s l hqualifies hoff
    exact (if_neg (Bool.eq_false_iff.not.2 (not_not.2 hqualifies))).trans (if_neg (Bool.eq_false_iff.1 hoff))
  case received =>
    intro s l hpermit hlink
    exact exec_of_op (exec_dimPermitReceived s l) (if_pos (by rw [hpermit, hlink]; rfl))
  case revoked =>
    rintro s u l hrevoke hlink rfl
    exact exec_of_op (exec_revokeReceived s l) (if_pos (by rw [hrevoke, hlink]; rfl))
  case expired =>
    intro s l hexpired
    exact exec_of_op (exec_permitAgeExpiry s l) (if_neg (Bool.eq_false_iff.1 hexpired))
  case fresh =>
    intro s l hfresh
    exact exec_of_op (exec_permitAgeExpiry s l) (if_pos hfresh)
  case dimmed =>
    intro s h hdim
    unfold State.dimPermitted at hdim
    exact List.all_eq_true.1 ((Bool.and_eq_true _ _).mp hdim).2

/-! ### Auxiliary channels -/

/-- The code and its flag written, the channel's state as before. -/
theorem auxState_raw (s : State) (c : Fin 8) (code : Int) (ovr : Bool) :
    ((s.puti (AUX_RAW.CODE c.val) code).putB (AUX_RAW.OVR c.val) ovr).get (AUX_STAT.STATE c.val) = s.get (AUX_STAT.STATE c.val) := by
  have hclear : ∀ c : Fin 8, (AUX_STAT.STATE c.val).clear (AUX_RAW.OVR c.val) = true ∧
      (AUX_STAT.STATE c.val).clear (AUX_RAW.CODE c.val) = true := by decide
  exact (State.get_put_clear _ _ _ _ (hclear c).1).trans (State.get_put_clear _ _ _ _ (hclear c).2)

/-- A sample taken at full rate: whether it is over range decides what the value register shows (R172, R174). -/
theorem auxDeliver_code {s : State} {c : Fin 8} {code : Int} (hrun : s.get (AUX_STAT.STATE c.val) = 2) (htable : s.get (AUX_CFG.TABLE c.val) = 0) :
    s.auxDeliver c.val code false =
      ((((s.puti (AUX_RAW.CODE c.val) code).putB (AUX_RAW.OVR c.val) false).put (AUX_RAW.OOT c.val) 0).puti (AUX_VAL.VAL c.val) code).setAux
        c.val { s.aux c.val with
          vals := (s.aux c.val).vals.filter (fun e => s.clk.up < e.at_ + 600000000000) ++ [⟨s.clk.up, some code, false⟩] } := by
  have hclear : ∀ c : Fin 8, (AUX_CFG.TABLE c.val).clear (AUX_RAW.OVR c.val) = true ∧
      (AUX_CFG.TABLE c.val).clear (AUX_RAW.CODE c.val) = true := by decide
  have hstate := (auxState_raw s c code false).trans hrun
  have hoff : ((s.puti (AUX_RAW.CODE c.val) code).putB (AUX_RAW.OVR c.val) false).on (AUX_CFG.TABLE c.val) = false := by
    have htable' : ((s.puti (AUX_RAW.CODE c.val) code).putB (AUX_RAW.OVR c.val) false).get (AUX_CFG.TABLE c.val) = 0 :=
      (State.get_put_clear _ _ _ _ (hclear c).1).trans ((State.get_put_clear _ _ _ _ (hclear c).2).trans htable)
    simp [State.on, htable']
  simp only [State.auxDeliver, hstate, hoff, Nat.reduceEqDiff, Bool.false_eq_true, or_self, ↓reduceIte]
  rfl

theorem auxDeliver_over {s : State} {c : Fin 8} {code : Int} (hrun : s.get (AUX_STAT.STATE c.val) = 2) :
    s.auxDeliver c.val code true =
      ((((s.puti (AUX_RAW.CODE c.val) code).putB (AUX_RAW.OVR c.val) true).put (AUX_RAW.OOT c.val) 0).puti (AUX_VAL.VAL c.val)
        (-0x80000000)).setAux c.val { s.aux c.val with
          vals := (s.aux c.val).vals.filter (fun e => s.clk.up < e.at_ + 600000000000) ++ [⟨s.clk.up, none, false⟩] } := by
  have hstate := (auxState_raw s c code true).trans hrun
  simp only [State.auxDeliver, hstate, Nat.reduceEqDiff, true_or, ↓reduceIte, noTemp]
  rfl

/-- Settles O27: outputs of an auxiliary channel, its open and restored circuit, the dwell and the overrange record. -/
theorem auxiliaryCommands : Obligations.AuxiliaryCommands := by
  unfold Obligations.AuxiliaryCommands
  refine ⟨?discarded, ?delivered, fun s c code => auxDeliver_code, fun s c code => auxDeliver_over, ?lost, ?opened, ?openedRtd, ?restored, ?dwell,
    ?overrange⟩
  case discarded =>
    intro s c a b hstate hdiscard
    exact exec_of_op (exec_auxOutput s c (.value a b)) ((if_neg hstate).trans (if_pos hdiscard))
  case delivered =>
    intro s c a b hstate hdiscard code ovr seen
    refine exec_of_op (exec_auxOutput s c (.value a b)) ?_
    have hon : ¬ s.get (AUX_STAT.STATE c.val) = 0 := by rw [hstate]; decide
    have hclosed : ¬ s.get (AUX_STAT.STATE c.val) = 3 := by rw [hstate]; decide
    simp only [opAuxOutput, if_neg hon, hdiscard, lt_irrefl, if_neg hclosed, ↓reduceIte]
    rfl
  case lost =>
    intro s c us hstate
    exact exec_of_op (exec_auxOutput s c (.lost us)) (if_neg hstate)
  case opened =>
    intro s c cause hcause htype hoff hopen first
    have hne : cause.val + 1 ≠ 1 := fun h => hcause (Fin.ext (Nat.succ.inj h))
    refine exec_of_op (exec_auxOpen s c cause) ?_
    simp only [opAuxOpen, decide_eq_true htype, hne, hoff, hopen, ne_eq, not_false_eq_true, and_self, ↓reduceIte,
      decide_true, b2n]
    rfl
  case openedRtd =>
    intro s c htype hcurrent hoff hopen first
    refine exec_of_op (exec_auxOpen s c 0) ?_
    simp only [opAuxOpen, Fin.val_zero, zero_add, ↓reduceIte, htype, hcurrent, hoff, hopen, ne_eq, not_false_eq_true, not_true_eq_false,
      decide_true, decide_false, Bool.and_self, and_self, b2n]
    rfl
  case restored =>
    intro s c hopen
    exact exec_of_op (exec_auxRestored s c) (if_pos hopen)
  case dwell =>
    intro s c t hmode hexcited hdwell
    refine exec_of_op (exec_auxDwell s) ((if_neg hmode).trans ?_)
    simp only [hexcited, hdwell]
  case overrange =>
    intro s c o rest hclosed hdue hrecent
    refine exec_of_op (exec_auxOverrange s c) ?_
    cases hat : (s.aux c.val).ovrAt with
    | none => simp only [opAuxOverrange, hrecent, hat, hclosed, Bool.true_eq_false, or_self, ↓reduceIte]
    | some t => simp only [opAuxOverrange, hrecent, hat, hclosed, decide_eq_true (hdue t hat), Bool.true_eq_false, or_self, ↓reduceIte]

end Sys2Proof.Proofs
end

section
/-! PROOF. Register writes and the latch of a lower word (R11-R16), the die link (R30, R31, R54) and the record path (R42-R52). -/

namespace Sys2Proof.Proofs

open Sys2Proof.Machine

/-! ### What a plain write of one word does, by the access of its register -/

theorem masked_keeps (m v : Word) : ∀ old : Word, ((old &&& ~~~ m) ||| (v &&& m)) &&& ~~~ m = old &&& ~~~ m := by
  intro old
  ext i
  simp only [BitVec.getElem_and, BitVec.getElem_or, BitVec.getElem_not]
  cases old[i] <;> cases m[i] <;> cases v[i] <;> rfl

theorem cleared_keeps (m v : Word) : ∀ old : Word, (old &&& ~~~ (v &&& m)) &&& ~~~ m = old &&& ~~~ m := by
  intro old
  ext i
  simp only [BitVec.getElem_and, BitVec.getElem_not]
  cases old[i] <;> cases m[i] <;> cases v[i] <;> rfl

theorem rwValue_of_plain {a : Nat} (hsnap : a ≠ ACQ_SNAP_CTL) (hrsel : a ≠ MOS_RSEL) (old v : Word) :
    rwValue a old v = (old &&& ~~~ regMask a) ||| (v &&& regMask a) := by
  simp only [rwValue, hsnap, hrsel, false_and, ↓reduceIte]

section Write

variable {s : State} {a : Nat} {v : Word} {r : RegRow}

theorem writeWord_unanswered (h : s.answers a = false) : s.writeWord a v = (false, s) := if_pos h

theorem writeWord_rw (hanswers : s.answers a = true) (hrow : regRow a = some r) (hrw : r.access = .rw) :
    s.writeWord a v = (true, s.wr a (rwValue a (s.rd a) v)) := by
  simp only [State.writeWord, hanswers, hrow, hrw, Bool.true_eq_false, ↓reduceIte]

theorem writeWord_rw1c (hanswers : s.answers a = true) (hrow : regRow a = some r) (hrw1c : r.access = .rw1c) :
    s.writeWord a v = (true, s.wr a (s.rd a &&& ~~~ (v &&& regMask a))) := by
  simp only [State.writeWord, hanswers, hrow, hrw1c, Bool.true_eq_false, ↓reduceIte]

theorem writeWord_wo (hanswers : s.answers a = true) (hrow : regRow a = some r) (hwo : r.access = .wo) :
    s.writeWord a v = (true, s.writeAction a v) := by
  simp only [State.writeWord, hanswers, hrow, hwo, Bool.true_eq_false, ↓reduceIte]

theorem writeWord_fixed (hrow : regRow a = some r) (hfixed : r.access = .ro ∨ r.access = .sig) : s.writeWord a v = (false, s) := by
  unfold State.writeWord
  split
  · rfl
  · rcases hfixed with h | h <;> simp only [hrow, h]

theorem writeWord_no_register (hrow : regRow a = none) : s.writeWord a v = (false, s) := by
  unfold State.writeWord
  split
  · rfl
  · simp only [hrow]

theorem answers_of_unaligned (h : a % 4 ≠ 0) : s.answers a = false := by
  simp only [State.answers, h, decide_false, Bool.false_and]

end Write

/-- The frame of a plain write: an action apart, the register alone changes, and its reserved bits stay. -/
theorem writeWord_frame {s : State} {a : Nat} (haction : regAccess a ≠ some .wo) (v : Word) :
    (s.writeWord a v).2 = s ∨ ∃ x : Word, (s.writeWord a v).2 = s.wr a x ∧
      (regAccess a = some .rw1c → x &&& ~~~ regMask a = s.rd a &&& ~~~ regMask a) ∧
      (regAccess a = some .rw → a ≠ ACQ_SNAP_CTL → a ≠ MOS_RSEL → x &&& ~~~ regMask a = s.rd a &&& ~~~ regMask a) := by
  cases hanswers : s.answers a with
  | false => exact .inl (congrArg Prod.snd (writeWord_unanswered hanswers))
  | true =>
    cases hrow : regRow a with
    | none => exact .inl (congrArg Prod.snd (writeWord_no_register hrow))
    | some r =>
      have haccess : regAccess a = some r.access := by rw [regAccess, hrow]; rfl
      rw [haccess] at haction ⊢
      cases hr : r.access with
      | ro => exact .inl (congrArg Prod.snd (writeWord_fixed hrow (.inl hr)))
      | sig => exact .inl (congrArg Prod.snd (writeWord_fixed hrow (.inr hr)))
      | rw =>
        refine .inr ⟨_, congrArg Prod.snd (writeWord_rw hanswers hrow hr), nofun, fun _ hsnap hrsel => ?_⟩
        rw [rwValue_of_plain hsnap hrsel, masked_keeps]
      | rw1c =>
        exact .inr ⟨_, congrArg Prod.snd (writeWord_rw1c hanswers hrow hr), fun _ => cleared_keeps _ _ _, nofun⟩
      | wo => exact absurd (congrArg some hr) haction

/-- Settles O14: what a plain write leaves alone. -/
theorem writeFrame : Obligations.WriteFrame := by
  unfold Obligations.WriteFrame
  refine ⟨?frame, ?ignored, fun s a v h => writeWord_unanswered (answers_of_unaligned h)⟩
  case frame =>
    intro s a v haction
    refine ⟨_, rfl, ?_⟩
    rcases writeWord_frame (s := s) haction v with hsame | ⟨x, hwr, hrw1c, hrw⟩
    · rw [hsame]
      exact ⟨rfl, fun _ _ => rfl, fun _ => rfl, fun _ _ _ => rfl⟩
    · rw [hwr]
      refine ⟨rfl, fun b hb => (State.rd_wr s a x b).trans (if_neg hb), ?_⟩
      rw [State.rd_wr_same]
      exact ⟨hrw1c, hrw⟩
  case ignored =>
    intro s a v hrw hrw1c hwo
    cases hrow : regRow a with
    | none => exact writeWord_no_register hrow
    | some r =>
      have haccess : regAccess a = some r.access := by rw [regAccess, hrow]; rfl
      rw [haccess] at hrw hrw1c hwo
      refine writeWord_fixed hrow ?_
      cases hr : r.access with
      | ro => exact .inl rfl
      | sig => exact .inr rfl
      | rw => exact absurd (congrArg some hr) hrw
      | rw1c => exact absurd (congrArg some hr) hrw1c
      | wo => exact absurd (congrArg some hr) hwo

/-! ### The latch of a lower word -/

theorem lowerWord_fixed : ∀ i : Fin 8, lowerWord i.val ≠ NET_RDATA ∧
    ¬(CLS_SEAL_D 0 ≤ lowerWord i.val ∧ lowerWord i.val ≤ CLS_SEAL_D 55) ∧ ¬(MOS_RD 0 ≤ lowerWord i.val ∧ lowerWord i.val ≤ MOS_RD 7) := by
  decide

/-- The state after a read of a lower word: its upper word latched. -/
def latched (s : State) (a n : Nat) : State :=
  { s with latch := (a, wordOf (n / 2 ^ 32)) :: s.latch.filter (fun p => p.1 ≠ a) }

theorem live64_latched (s : State) (a n : Nat) : (latched s a n).live64 = s.live64 := rfl

theorem live64_lowerWord (i : Fin 8) (s : State) : ∃ n, s.live64 (lowerWord i.val) = some n := by
  fin_cases i <;> exact ⟨_, rfl⟩

theorem live64_upperWord (i : Fin 8) (s : State) : s.live64 (lowerWord i.val + 4) = none := by
  fin_cases i <;> rfl

theorem view_upperWord {s : State} {a n : Nat} (hupper : s.live64 a = none) (ha : 4 ≤ a) (hlower : s.live64 (a - 4) = some n) :
    s.view a = s.upper64 (a - 4) n := by
  simp only [State.view, hupper, if_pos ha, hlower]

theorem upper64_latched (s : State) (a n m : Nat) : (latched s a n).upper64 a m = wordOf (n / 2 ^ 32) := by
  simp only [State.upper64, latched, List.find?_cons, decide_true]

section LowerWord

variable {s : State} {i : Fin 8} {n : Nat} (hanswers : s.answers (lowerWord i.val) = true) (hnow : s.notYet (lowerWord i.val) = false)
  (hlive : s.live64 (lowerWord i.val) = some n)
include hlive

theorem view_lowerWord : s.view (lowerWord i.val) = wordOf n := by
  simp only [State.view, hlive]

theorem view_upperWord_latched : (latched s (lowerWord i.val) n).view (lowerWord i.val + 4) = wordOf (n / 2 ^ 32) := by
  have hlower : (latched s (lowerWord i.val) n).live64 (lowerWord i.val + 4 - 4) = some n := by
    rw [Nat.add_sub_cancel, live64_latched, hlive]
  rw [view_upperWord (live64_upperWord i _) (Nat.le_add_left 4 _) hlower, Nat.add_sub_cancel, upper64_latched]

include hanswers hnow

theorem readWord_lowerWord : s.readWord (lowerWord i.val) = (some (wordOf n), latched s (lowerWord i.val) n) := by
  obtain ⟨hrecord, hseal, hledger⟩ := lowerWord_fixed i
  unfold State.readWord
  rw [if_neg (Bool.not_eq_false _ ▸ hanswers), if_neg (Bool.eq_false_iff.1 hnow), if_neg hrecord, if_neg hseal, if_neg hledger]
  simp only [hlive, view_lowerWord hlive, latched]

end LowerWord

/-- Settles O28: a plain write by the access of its register, a lower word read with its upper word latched. -/
theorem plainWriteCommands : Obligations.PlainWriteCommands := by
  unfold Obligations.PlainWriteCommands
  refine ⟨?rw, ?rw1c, ?wo, ?fixed, ?none, ?lower, ?upper, live64_lowerWord⟩
  case rw =>
    intro s a v r hanswers hrow hr hsnap hrsel
    refine exec_of_op (exec_registerWrite s a v) ((congrArg Prod.snd (writeWord_rw hanswers hrow hr)).trans ?_)
    rw [rwValue_of_plain hsnap hrsel]
  case rw1c =>
    intro s a v r hanswers hrow hr
    exact exec_of_op (exec_registerWrite s a v) (congrArg Prod.snd (writeWord_rw1c hanswers hrow hr))
  case wo =>
    intro s a v r hanswers hrow hr
    exact exec_of_op (exec_registerWrite s a v) (congrArg Prod.snd (writeWord_wo hanswers hrow hr))
  case fixed =>
    intro s a v r hrow hr
    exact exec_of_op (exec_registerWrite s a v) (congrArg Prod.snd (writeWord_fixed hrow hr))
  case none =>
    intro s a v hrow
    exact exec_of_op (exec_registerWrite s a v) (congrArg Prod.snd (writeWord_no_register hrow))
  case lower =>
    intro s i n hanswers hnow hlive
    exact exec_of_op (exec_lowerWordRead s i) (congrArg Prod.snd (readWord_lowerWord hanswers hnow hlive))
  case upper =>
    intro s i n hanswers hnow hlive
    exact ⟨_, readWord_lowerWord hanswers hnow hlive, view_upperWord_latched hlive, rfl, rfl⟩

end Sys2Proof.Proofs
end

section
/-! PROOF. The die link (R30, R31, R54) and the record path (R43, R46, R52). -/

namespace Sys2Proof.Proofs

open Sys2Proof.Machine

/-! ### The die link -/

/-- The die link absent: what depends on the signal die has not been told yet. -/
def silent (s : State) : State := ({ s with lnk := { s.lnk with absent := true, beats := 0 } } : State).put LMP_STAT.PACER_CAL 0

theorem permitsGone_of_none {s : State} (hpermits : ∀ l < 64, (s.link l).permitAt = none) :
    (List.range 64).foldl (fun s l => if (s.link l).permitAt.isSome then s.permitGone l else s) s = s := by
  refine foldl_keeps fun l hl => if_neg ?_
  rw [hpermits l (List.mem_range.1 hl)]
  exact Bool.false_ne_true

/-- The signal die falls silent with no permit held and no switch under way. -/
theorem dieAbsent_idle {s : State} (hpermits : ∀ l < 64, (s.link l).permitAt = none) (hswitch : s.get CFG_STAT.SWSTATE = 0) :
    s.dieAbsent = silent s := by
  have hpermits' : ∀ l < 64, ((silent s).link l).permitAt = none := hpermits
  have hidle : ¬((silent s).get CFG_STAT.SWSTATE ≠ 0 ∧ (silent s).cfg.exchanged = false) := fun h =>
    h.1 ((State.get_put_clear _ CFG_STAT.SWSTATE LMP_STAT.PACER_CAL _ (by decide)).trans hswitch)
  have hfold := permitsGone_of_none hpermits'
  unfold silent at hfold hidle
  simp only [State.dieAbsent, hfold, if_neg hidle, silent]

/-- Settles O29: the link lost, the beats that bring it back, and the calibration and the replies that follow it. -/
theorem dieLinkCommands : Obligations.DieLinkCommands := by
  unfold Obligations.DieLinkCommands
  refine ⟨?lost, ?beat, ?back, ?backSafe, ?present, ?early, ?calibrated, ?reply⟩
  case lost =>
    intro s hmode hpresent hdue hpermits hswitch
    refine exec_of_op (exec_heartbeatTimeout s) ((if_neg (not_lt.2 hdue)).trans ((if_neg ?_).trans (dieAbsent_idle hpermits hswitch)))
    exact not_or.2 ⟨hmode, Bool.eq_false_iff.1 hpresent⟩
  case beat =>
    intro s habsent hspeaks hbeats
    refine exec_of_op (exec_heartbeatReceived s) ?_
    simp only [opHeartbeatReceived, hspeaks, habsent, Bool.true_eq_false, hbeats, ↓reduceIte]
  case back =>
    intro s habsent hspeaks hbeats hwaits
    refine exec_of_op (exec_heartbeatReceived s) ?_
    simp only [opHeartbeatReceived, hspeaks, habsent, Bool.true_eq_false, not_lt.2 hbeats, hwaits, ↓reduceIte]
  case backSafe =>
    intro s w ws habsent hspeaks hbeats hwaits hdue hmode
    refine exec_of_op (exec_heartbeatReceived s) ?_
    simp only [opHeartbeatReceived, hspeaks, habsent, Bool.true_eq_false, not_lt.2 hbeats, hwaits, hdue, hmode, or_true, and_self,
      ↓reduceIte]
  case present =>
    intro s hpresent hspeaks
    refine exec_of_op (exec_heartbeatReceived s) ?_
    simp only [opHeartbeatReceived, hspeaks, hpresent, Bool.true_eq_false, ↓reduceIte]
  case early =>
    intro s hearly
    exact exec_of_op (exec_heartbeatTimeout s) (if_pos hearly)
  case calibrated =>
    intro s hpresent htb
    exact exec_of_op (exec_pacerCalibrationReturn s) (if_neg (not_or.2 ⟨Bool.eq_false_iff.1 hpresent, htb⟩))
  case reply =>
    intro s r hwaiting
    refine exec_of_op (exec_windowReplyTimeout s) ?_
    simp only [opWindowReplyTimeout, hwaiting]

/-! ### The record path -/

theorem gapOne_epoch (s : State) (m : Missing) : (s.gapOne m).recs.epoch = s.recs.epoch := by
  unfold State.gapOne
  dsimp only
  split
  · rfl
  · split
    · rfl
    · exact (push_onWay _ _).epoch

theorem gapsBefore_epoch (s : State) (src : Nat) : (gapsBefore s src).recs.epoch = s.recs.epoch := by
  unfold gapsBefore State.gapAll
  split
  · exact List.foldlRecOn (motive := fun t : State => t.recs.epoch = s.recs.epoch) _ _ rfl fun t ht m _ => (gapOne_epoch t m).trans ht
  · rfl

/-- A record without a fault stays in its epoch. -/
theorem emit_epoch_of_no_fault {c : Code} (hc : c.lvl = 0) (s : State) (src : Nat) (data : List Byte) :
    (s.emit src c data).recs.epoch = s.recs.epoch := by
  unfold State.emit State.emitAt State.declare
  rw [if_pos hc]
  unfold State.make
  split
  · rw [record_eq, (deliver_onWay _ _).epoch]
    exact gapsBefore_epoch s src
  · rfl

/-- The state in which the record of a rolled epoch is made. -/
def rolled (s : State) : State :=
  { s with recs := { s.recs with epoch := s.recs.epoch + 1, resets := 0, epochOpen := true, seqs := [], delivered := [] } }

theorem openEpoch_roll {s : State} (hepoch : s.recs.epoch < 0xFEFF) (cause : List Byte) :
    s.openEpoch 3 cause = (rolled s).emit srcDevice Code.EPOCH_START (le 2 s.recs.epoch ++ le 1 3 ++ le 1 1) := by
  have hroom : ¬ 0xFFFF ≤ s.recs.epoch := by omega
  have hnext : min 0xFFFF (s.recs.epoch + 1) = s.recs.epoch + 1 := by omega
  have hkept : ((rolled s).emit srcDevice Code.EPOCH_START (le 2 s.recs.epoch ++ le 1 3 ++ le 1 1)).recs.epoch = s.recs.epoch + 1 :=
    emit_epoch_of_no_fault rfl _ _ _
  have hlow : ¬ 0xFF00 ≤ ((rolled s).emit srcDevice Code.EPOCH_START (le 2 s.recs.epoch ++ le 1 3 ++ le 1 1)).recs.epoch := by omega
  simp only [State.openEpoch, if_neg hroom, decide_true, ↓reduceIte, hnext, Bool.true_or, b2n]
  exact if_neg hlow

theorem opHoldingBufferDrain_one {s : State} {r : Record} (hpresent : s.lnk.absent = false) (hhold : s.recs.hold = [r])
    (hopen : s.recs.exhausted = false) :
    opHoldingBufferDrain s =
      (if s.recordPaths = [] ∨ s.queueSpace = true then ({ s with recs := { s.recs with hold := [] } } : State).push r else s) := by
  have hkept : ({ s with recs := { s.recs with hold := [r], exhausted := false } } : State) = s := by rw [← hhold, ← hopen]
  by_cases hpaths : s.recordPaths = []
  · simp only [opHoldingBufferDrain, hpresent, hpaths, hhold, hopen, Bool.false_eq_true, true_or, ↓reduceIte, List.length_singleton,
      List.take_succ_cons, List.take_zero, List.drop_succ_cons, List.drop_zero, List.foldl_cons, List.foldl_nil]
  · by_cases hspace : s.queueSpace = true
    · have hone : min 1 (Config.recordQueueDepth - s.recs.queue.length) = 1 := by
        have hlt : s.recs.queue.length < Config.recordQueueDepth := of_decide_eq_true hspace
        omega
      simp only [opHoldingBufferDrain, hpresent, hpaths, hspace, hhold, hopen, hone, Bool.false_eq_true, or_true, ↓reduceIte,
        List.length_singleton, List.take_succ_cons, List.take_zero, List.drop_succ_cons, List.drop_zero, List.foldl_cons, List.foldl_nil]
    · have hnone : min 1 (Config.recordQueueDepth - s.recs.queue.length) = 0 := by
        have hge : ¬ s.recs.queue.length < Config.recordQueueDepth := fun h => hspace (decide_eq_true h)
        omega
      simp only [opHoldingBufferDrain, hpresent, hpaths, hspace, hhold, hopen, hnone, Bool.false_eq_true, or_self, ↓reduceIte,
        List.length_singleton, List.take_zero, List.drop_zero, List.foldl_nil]
      exact hkept

theorem gapAll_single {s : State} {m : Missing} (hmissing : s.recs.missing = [m]) :
    s.gapAll m.source = ({ s with recs := { s.recs with missing := [] } } : State).gapOne m := by
  have hmine : s.recs.missing.filter (fun x => x.source = m.source) = [m] := by rw [hmissing]; simp
  have hothers : s.recs.missing.filter (fun x => x.source ≠ m.source) = [] := by rw [hmissing]; simp
  unfold State.gapAll
  rw [hmine, hothers]
  rfl

/-- Settles O30: a held record delivered, a missing range reported, an epoch rolled over. -/
theorem recordPathCommands : Obligations.RecordPathCommands := by
  unfold Obligations.RecordPathCommands
  refine ⟨?drain, ?gap, ?roll, ?close, fun s => rfl, fun s cause h => openEpoch_roll h cause⟩
  case drain =>
    intro s r hpresent hhold hopen
    exact exec_of_op (exec_holdingBufferDrain s) (opHoldingBufferDrain_one hpresent hhold hopen)
  case gap =>
    rintro s src m hopen hroom hmissing rfl
    refine exec_of_op (exec_gapRecord s m.source) ((if_pos ⟨hopen, hroom, ?_⟩).trans (gapAll_single hmissing))
    rw [hmissing]; simp
  case roll =>
    intro s src n hopen hexhausted hmem hfull hepoch
    have hdue : ¬(s.recs.epochOpen = false ∨ s.recs.exhausted ∨ s.recs.seqs.all (fun p => p.2 < 0xF0000000)) := by
      rintro (h | h | h)
      · exact Bool.noConfusion (hopen.symm.trans h)
      · exact Bool.noConfusion (hexhausted.symm.trans h)
      · exact absurd (of_decide_eq_true (List.all_eq_true.1 h _ hmem)) (not_lt.2 hfull)
    exact exec_of_op (exec_epochRoll s) ((if_neg hdue).trans (if_neg (not_le.2 hepoch)))
  case close =>
    intro s hevents
    simp only [State.eventsRollClose, hevents, closeEvents_of_no_events hevents]

end Sys2Proof.Proofs
end

section
/-! PROOF. Moves of tasks and the loss of an engine (R189-R193), the Stair and the planner (R196-R210). -/

namespace Sys2Proof.Proofs

open Sys2Proof.Machine

/-! ### Moves -/

/-- Settles O31: a move begun, deferred, agreed or mismatched, and an engine's tasks restarted or waiting. -/
theorem taskMoveCommands : Obligations.TaskMoveCommands := by
  unfold Obligations.TaskMoveCommands
  refine ⟨?start, ?agreed, ?mismatch, ?deferred, ?engineFail, ?restart, ?noEngine⟩
  case start =>
    rintro s m u hmove hbegun hmay hfree rfl
    refine exec_of_op (exec_taskMoveStart s) ?_
    have hdst : ∀ g x, (({ s with gal := g } : State).setTask m.task x).eng m.dst = 0 := fun _ _ => hfree
    simp only [opTaskMoveStart, hmove, hbegun, hmay, Option.isSome_none, Bool.true_eq_false, Bool.false_eq_true, or_self, ↓reduceIte]
    exact congrArg State.galSync (if_pos (hdst _ _))
  case agreed =>
    intro s m n hmove hbegun hreason
    refine ⟨_, rfl, exec_of_op (exec_taskMove s none) ?_⟩
    simp only [opTaskMove, hmove, hbegun, hreason, OfNat.one_ne_ofNat, ↓reduceIte]
  case mismatch =>
    intro s m n c hmove hbegun hsuspects hdst
    refine exec_of_op (exec_taskMove s (some c)) ?_
    have hdst' : ∀ g x, (({ s with gal := g } : State).setTask m.task x).eng m.dst = 2 := fun _ _ => hdst
    simp only [opTaskMove, hmove, hbegun, hsuspects, List.find?_nil, List.filter_nil, List.nil_append]
    rw [if_pos (hdst' _ _)]
    rfl
  case deferred =>
    intro s m hmove hbegun hdeferred hmay
    refine exec_of_op (exec_moveDeferred s) ?_
    simp only [opMoveDeferred, hmove, hbegun, hdeferred, hmay, Option.isSome_none, Bool.false_eq_true, or_self, ↓reduceIte]
    rfl
  case engineFail =>
    intro s e cause hcommitted
    exact exec_of_op (exec_engineFail s e cause) (if_pos hcommitted)
  case restart =>
    rintro s t e formed u hstranded hengine rfl v rfl w hw hcls
    refine exec_of_op (exec_taskRestart s formed) ?_
    have hkept : ¬([t].any (fun t => (w.task t).cls = 9)) := by simp [hcls]
    subst hw
    unfold opTaskRestart
    rw [hstranded, hengine]
    exact congrArg (fun x : State => (x.zonesStart 0).zonesStart 1) (if_neg hkept)
  case noEngine =>
    rintro s t f formed u hstranded hengine hfibre rfl
    refine exec_of_op (exec_taskRestart s formed) ?_
    have hfibres : ([t].filterMap (fun t => (s.task t).fibre)).eraseDups = [f] := by
      rw [List.filterMap_cons, hfibre]; rfl
    unfold opTaskRestart
    rw [hstranded, hengine]
    simp only [hfibres, reduceCtorEq, ↓reduceIte, List.foldl_cons, List.foldl_nil]

/-! ### A signed field read back -/

theorem toSigned_ofSigned {n : Nat} (hn : 0 < n) {z : Int} (hlow : -(2 ^ (n - 1) : Int) ≤ z) (hhigh : z < 2 ^ (n - 1)) :
    toSigned n (ofSigned n z % 2 ^ n) = z := by
  obtain ⟨k, rfl⟩ : ∃ k, n = k + 1 := ⟨n - 1, by omega⟩
  have hpow : (2 : Int) ^ (k + 1) = 2 * 2 ^ k := by ring
  have hpowN : (2 : Nat) ^ (k + 1) = 2 * 2 ^ k := by ring
  have hpos : (0 : Int) < 2 ^ k := by positivity
  have hcast : ((2 ^ k : Nat) : Int) = 2 ^ k := by push_cast; rfl
  simp only [Nat.add_sub_cancel] at hlow hhigh
  have hcode : ((ofSigned (k + 1) z : Nat) : Int) = z % (2 * 2 ^ k) := by
    unfold ofSigned
    rw [hpow, Int.toNat_of_nonneg (Int.emod_nonneg _ (by omega))]
  have hlt : ofSigned (k + 1) z < 2 ^ (k + 1) := by
    have hmod : z % (2 * 2 ^ k) < 2 * 2 ^ k := Int.emod_lt_of_pos _ (by omega)
    rw [hpowN]; omega
  simp only [toSigned, Nat.mod_eq_of_lt hlt, Nat.add_sub_cancel]
  rw [hpow, hcode]
  by_cases hz : 0 ≤ z
  · have hself : z % (2 * 2 ^ k) = z := Int.emod_eq_of_lt hz (by omega)
    rw [if_pos (by omega), hself]
  · have hwrap : z % (2 * 2 ^ k) = z + 2 * 2 ^ k := by
      rw [← Int.add_emod_right]
      exact Int.emod_eq_of_lt (by omega) (by omega)
    rw [if_neg (by omega), hwrap]
    omega

theorem satS_range {n : Nat} (z : Int) : -(2 ^ (n - 1) : Int) ≤ satS n z ∧ satS n z < 2 ^ (n - 1) := by
  have hpos : (0 : Int) < 2 ^ (n - 1) := by positivity
  unfold satS
  omega

theorem geti_puti_satS (s : State) {f : Fld} (hhi : f.hi < 32) (hwidth : 0 < f.width) (z : Int) :
    (s.puti f (satS f.width z)).geti f = satS f.width z := by
  have hget : (s.puti f (satS f.width z)).get f = ofSigned f.width (satS f.width z) % 2 ^ f.width := State.get_put_same s f _ hhi
  rw [State.geti, hget]
  exact toSigned_ofSigned hwidth (satS_range z).1 (satS_range z).2

/-! ### Slack -/

theorem slackFld_shape (u : Fin 23) : (slackFld u.val).hi = 21 ∧ (slackFld u.val).width = 11 := by
  unfold slackFld
  split <;> exact ⟨rfl, rfl⟩

/-- A window of load that leaves the alarm's slack: it is counted, and no record is made. -/
theorem opSlackWindow_quiet {s : State} {u : Fin 23} {util : Nat} (hquiet : 10 * s.get GAL_POLICY.ALARM + util ≤ 1000) (tj : Int) :
    (opSlackWindow u.val util tj s).recs = s.recs ∧
      (opSlackWindow u.val util tj s).geti (slackFld u.val) =
        satS 11 (1000 - (((util :: sparseGet [] s.gal.wins u.val).take 10).foldl max 0 : Nat)) ∧
      sparseGet [] (opSlackWindow u.val util tj s).gal.wins u.val = (util :: sparseGet [] s.gal.wins u.val).take 10 := by
  obtain ⟨hhi, hwidth⟩ := slackFld_shape u
  have halarm : ∀ (g : Gal) (h : List (Nat × Nat)) (z : Int),
      (({ s with gal := g, hist := h } : State).puti (slackFld u.val) z).get GAL_POLICY.ALARM = s.get GAL_POLICY.ALARM := by
    intro g h z
    have hclear : ∀ u : Fin 23, GAL_POLICY.ALARM.clear (slackFld u.val) = true := by decide
    exact State.get_put_clear _ _ _ _ (hclear u)
  unfold opSlackWindow
  dsimp only
  rw [if_neg fun h => ?_]
  · refine ⟨rfl, ?_, sparseGet_set_same [] s.gal.wins u.val ((util :: sparseGet [] s.gal.wins u.val).take 10)⟩
    have hread := fun s : State => geti_puti_satS s (f := slackFld u.val) (by rw [hhi]; decide) (by rw [hwidth]; decide)
    rw [hwidth] at hread
    exact hread _ _
  · rw [halarm] at h
    omega

/-! ### The Stair -/

/-- t keeps s's step of the Stair and the step stored. -/
structure StairKept (s t : State) : Prop where
  step : t.get GAL_STAT.STEP = s.get GAL_STAT.STEP
  stored : t.stairStored = s.stairStored

theorem StairKept.refl (s : State) : StairKept s s := ⟨rfl, rfl⟩

theorem StairKept.trans {s t u : State} (h : StairKept s t) (k : StairKept t u) : StairKept s u :=
  ⟨k.step.trans h.step, k.stored.trans h.stored⟩

theorem StairKept.put (s : State) (f : Fld) (v : Nat) (h : GAL_STAT.STEP.clear f = true) : StairKept s (s.put f v) :=
  ⟨State.get_put_clear s _ f v h, rfl⟩

theorem StairKept.inc (s : State) (f : Fld) (h : GAL_STAT.STEP.clear f = true) : StairKept s (s.inc f) := .put s f _ h

theorem StairKept.puts (s : State) (l : List (Fld × Nat)) (h : l.all (fun p => GAL_STAT.STEP.clear p.1) = true) : StairKept s (s.puts l) :=
  ⟨State.get_puts_clear _ l h s, State.puts_stairStored s l⟩

theorem StairKept.emit (s : State) (src : Nat) (c : Code) (data : List Byte) : StairKept s (s.emit src c data) :=
  ⟨State.get_emit s src c data _ (by decide), State.emit_stairStored s src c data⟩

theorem StairKept.setUnit (s : State) (u : Nat) (x : BistUnit) : StairKept s (s.setUnit u x) := ⟨rfl, rfl⟩

theorem StairKept.ite {s t u : State} {p : Prop} [Decidable p] (ht : StairKept s t) (hu : StairKept s u) :
    StairKept s (if p then t else u) := by
  split <;> assumption

theorem untest_stairKept (s : State) (u : Nat) : StairKept s (s.untest u) := by
  have heng : ∀ u : Fin 20, GAL_STAT.STEP.clear (GAL_ENG.STATE u.val) = true := by decide
  have hchz : ∀ c : Fin 3, GAL_STAT.STEP.clear (ACQ_CHZ.STATE c.val) = true := by decide
  unfold State.untest
  split
  · exact .refl s
  · split
    next hu =>
      split
      · exact (StairKept.put s _ _ (heng ⟨u, hu⟩)).trans (.put _ _ _ (by decide))
      · exact .refl s
    next =>
      split
      next hu =>
        split
        · exact .put s _ _ (hchz ⟨u - 20, by omega⟩)
        · exact .refl s
      next => exact .refl s

theorem bistInterrupt_stairKept (s : State) (cause : Nat) : StairKept s (s.bistInterrupt cause) := by
  unfold State.bistInterrupt
  dsimp only
  split
  · exact .refl s
  · have hstopped := ((untest_stairKept s (s.get TST_STAT.UNIT)).trans (.put _ TST_STAT.UNIT 0xFF (by decide))).trans
      (.inc _ TST_CNT.INTR (by decide))
    exact .ite (((hstopped.trans (.setUnit _ _ _)).trans (.put _ TST_EVT.INTR 1 (by decide))).trans (.emit _ _ _ _))
      (hstopped.trans (.setUnit _ _ _))

/-- The Stair's new step noted, before the registers show it. -/
def stairNoted (s : State) (k : Nat) : State := { s with stairStored := some k, gal := { s.gal with stairAt := some s.clk.up } }

/-- A step of the Stair: the step shown and the step stored. -/
theorem stairStep_step {s : State} {k : Nat} (hk : k < 16) (reason : Nat) (smin : Int) (worst : Nat) :
    (s.stairStep k reason smin worst).get GAL_STAT.STEP = k ∧ (s.stairStep k reason smin worst).stairStored = some k := by
  have hput : ((stairNoted s k).put GAL_STAT.STEP k).get GAL_STAT.STEP = k := by
    rw [State.get_put_same _ _ _ (by decide)]
    exact Nat.mod_eq_of_lt hk
  have hshown := StairKept.puts ((stairNoted s k).put GAL_STAT.STEP k)
    [(GAL_STAIR.SET, k), (GAL_STAIR.STORED, k), (GAL_STAIR.MAX, max k ((stairNoted s k).get GAL_STAIR.MAX))] rfl
  have hset : StairKept ((stairNoted s k).put GAL_STAT.STEP k) (s.stairSet k) :=
    (hshown.trans (.inc _ GAL_STAIR.CHANGES (by decide))).trans (bistInterrupt_stairKept _ 1)
  have hstep : StairKept ((stairNoted s k).put GAL_STAT.STEP k) (s.stairStep k reason smin worst) :=
    (hset.trans (.put _ GAL_EVT.STEP 1 (by decide))).trans (.emit _ _ _ _)
  exact ⟨hstep.step.trans hput, hstep.stored⟩

/-! ### A run of the planner -/

/-- The predictions shown change registers alone. -/
theorem predictions_gal_clk (s : State) (l : List Nat) (z : Nat → Int) :
    (l.foldl (fun s u => s.puti (predFld u) (z u)) s).gal = s.gal ∧ (l.foldl (fun s u => s.puti (predFld u) (z u)) s).clk = s.clk :=
  List.foldlRecOn (motive := fun t : State => t.gal = s.gal ∧ t.clk = s.clk) _ _ ⟨rfl, rfl⟩ fun _ ht _ _ => ht

theorem stairMay_of_gal_clk {s t : State} (hgal : t.gal = s.gal) (hclk : t.clk = s.clk) : t.stairMay = s.stairMay := by
  unfold State.stairMay
  rw [hgal, hclk]

section Plan

variable {s : State} (hruns : s.plannerRuns = true) (hmove : s.gal.move = none) (hswitch : s.get CFG_STAT.SWSTATE = 0)
include hruns hmove hswitch

theorem plan_no_units (hunits : s.planUnits = []) (o : PlanObs) : s.plan o = { s with gal := { s.gal with planAt := s.clk.up, peaks := [] } } := by
  simp only [State.plan, hruns, hmove, hswitch, hunits, Option.isSome_none, ne_eq, not_true_eq_false, decide_false, Bool.or_self,
    Bool.true_eq_false, Bool.false_eq_true, or_self, ↓reduceIte, List.map_nil, lowest]

/-- Where the lowest prediction misses the target and the Stair may rise, the run raises it by a step. -/
theorem plan_raises {o : PlanObs} {worst : Nat} {smin : Rat} (hlow : lowest (s.planUnits.map (fun u => (u, s.predicted o u))) = some (worst, smin))
    (htarget : smin < (s.get GAL_POLICY.TARGET : Nat) / 100) (hstep : s.get GAL_STAT.STEP < 14) (hstair : s.gal.stairLow = false)
    (hmay : s.stairMay = true) : ∃ (t : State) (z : Int), s.plan o = t.stairStep (s.get GAL_STAT.STEP + 1) 1 z worst := by
  unfold State.plan
  rw [if_neg (by simp [hruns, hmove, hswitch])]
  simp only [hlow, if_pos htarget]
  have hpred := predictions_gal_clk s (List.range 23) fun u => satS 10 (roundHalf
    ((((s.planUnits.map (fun u => (u, s.predicted o u))).find? (fun p => p.1 = u)).map (·.2)).getD 0 * 500))
  generalize (List.range 23).foldl (fun s' u => s'.puti (predFld u) (satS 10 (roundHalf
    ((((s.planUnits.map (fun u => (u, s.predicted o u))).find? (fun p => p.1 = u)).map (·.2)).getD 0 * 500)))) s = t at hpred ⊢
  obtain ⟨hgal, hclk⟩ := hpred
  have hshown : ∀ l f z, ((t.puts l).puti f z).gal = s.gal ∧ ((t.puts l).puti f z).clk = s.clk := fun l f z =>
    ⟨(State.puts_gal t l).trans hgal, (State.puts_clk t l).trans hclk⟩
  rw [if_pos ⟨hstep, (congrArg Gal.stairLow (hshown _ _ _).1).trans hstair⟩,
    if_pos ((stairMay_of_gal_clk (hshown _ _ _).1 (hshown _ _ _).2).trans hmay)]
  exact ⟨_, _, rfl⟩

end Plan

/-- Settles O32: load windows, the Stair's faults, and what a run of the planner or its fast path changes. -/
theorem plannerCommands : Obligations.PlannerCommands := by
  unfold Obligations.PlannerCommands
  refine ⟨?window, ?stairHigh, ?stairLow, ?noUnits, ?noUnitsNow, ?raise, ?fast, exec_galClearCounts⟩
  case window =>
    intro s u util tj hquiet
    exact ⟨_, exec_slackWindow s u util tj, opSlackWindow_quiet hquiet tj⟩
  case stairHigh =>
    intro s mv hon hhigh
    refine exec_of_op (exec_stairFault s true mv) (if_neg ?_)
    rw [hon]
    exact not_or.2 ⟨Bool.false_ne_true, not_le.2 hhigh⟩
  case stairLow =>
    intro s mv hon hlow
    refine exec_of_op (exec_stairFault s false mv) (if_neg ?_)
    rw [hon]
    exact not_or.2 ⟨Bool.false_ne_true, not_le.2 hlow⟩
  case noUnits =>
    intro s o hruns hmove hswitch hunits
    exact exec_of_op (exec_plannerRun s o) (plan_no_units hruns hmove hswitch hunits o)
  case noUnitsNow =>
    intro s o hruns hmove hswitch hunits
    exact exec_of_op (exec_runNow s o) (plan_no_units hruns hmove hswitch hunits o)
  case raise =>
    intro s o worst smin hruns hmove hswitch hlow htarget hstep hstair hmay
    obtain ⟨t, z, hplan⟩ := plan_raises hruns hmove hswitch hlow htarget hstep hstair hmay
    refine ⟨s.plan o, exec_plannerRun s o, exec_runNow s o, ?_⟩
    rw [hplan]
    exact stairStep_step (by omega) 1 z worst
  case fast =>
    intro s o u slack hruns hslack halarm hlow hstep hstair hmay
    have hmay' : (s.put GAL_STAT.FAST 1).stairMay = true := hmay
    refine exec_of_op (exec_fastPath s o) ?_
    simp only [opFastPath, hruns, hslack, decide_eq_true halarm, Bool.true_or, Bool.true_eq_false, hstep, hstair, and_self, hlow, hmay',
      ↓reduceIte]

end Sys2Proof.Proofs
end

section
/-! PROOF. Heads and their changes (R257-R267), PWM periods and flash edges (R246-R253). -/

namespace Sys2Proof.Proofs

open Sys2Proof.Machine

/-! ### Heads -/

theorem unknownRecord_of_defined {s : State} {h v : Nat} (hdef : s.cfg.sig.hasAspect h v = true) (src : Nat) :
    s.unknownRecord h v src = s ∧ s.defined h v = v := by
  have hv : s.defined h v = v := if_pos (.inr hdef)
  exact ⟨if_pos hv, hv⟩

theorem selectLevel_changed {s : State} {h : Nat} {night : Bool} (hhead : s.cfg.sig.hasRec 6 0x0F [h] = true) (hother : s.on (LMP_NIGHT.H h) = !night)
    (src : Nat) : s.selectLevel h night src = ((s.putB (LMP_NIGHT.H h) night).applyLevel h).levelRecord h src := by
  refine if_neg ?_
  rw [hhead, hother]
  cases night <;> decide

theorem nightSet_command (s : State) (h : Fin 32) : (s.put LMP_CMD.HEAD h.val).on (LMP_NIGHT.H h.val) = s.on (LMP_NIGHT.H h.val) := by
  have hclear : ∀ h : Fin 32, (LMP_NIGHT.H h.val).clear LMP_CMD.HEAD = true := by decide
  exact congrArg (fun v : Nat => decide (v = 1)) (State.get_put_clear s _ _ _ (hclear h))

theorem ite_cfg {s t u : State} {p : Prop} [Decidable p] (ht : t.cfg = s.cfg) (hu : u.cfg = s.cfg) : (if p then t else u).cfg = s.cfg := by
  split <;> assumption

theorem chanEnter_cfg (s : State) (n : Nat) (lit flashEdge : Bool) : (s.chanEnter n lit flashEdge).cfg = s.cfg := by
  unfold State.chanEnter
  refine ite_cfg rfl ?_
  simp only [State.ovdSync, State.provingSync, State.puts_cfg, State.putB_cfg]
  exact ite_cfg rfl rfl

theorem chanDark_cfg (s : State) (n : Nat) : (s.chanDark n).cfg = s.cfg := ite_cfg rfl (chanEnter_cfg _ _ _ _)

/-- A step's codes leave what is configured alone. -/
theorem setCode_cfg (s : State) (n code group : Nat) : (s.setCode n code group).cfg = s.cfg := ite_cfg rfl (ite_cfg (chanDark_cfg _ _) rfl)

/-- Two folds whose steps agree wherever an invariant of the first holds. -/
theorem foldl_congr_of_invariant {α β : Type} {f g : α → β → α} {P : α → Prop} (hP : ∀ a b, P a → P (f a b))
    (heq : ∀ a b, P a → f a b = g a b) (l : List β) {a : α} (ha : P a) : l.foldl f a = l.foldl g a := by
  induction l generalizing a with
  | nil => rfl
  | cons b l ih => rw [List.foldl_cons, List.foldl_cons, ih (hP a b ha), heq a b ha]

theorem headChans_of_cfg {s t : State} (hcfg : t.cfg = s.cfg) (h : Nat) : t.headChans h = s.headChans h :=
  congrArg (fun c : CfgSys => c.sig.headChans h) hcfg

/-- A head's channels may be read before a step or while its codes are set. -/
theorem stepCodes_chans (s : State) (h target : Nat) (st : List (Nat × Nat)) :
    st.foldl (fun t q => t.setCode ((s.headChans h).getD q.1 64) q.2 (t.aspGroup h target)) s =
      st.foldl (fun t q => t.setCode ((t.headChans h).getD q.1 64) q.2 (t.aspGroup h target)) s := by
  refine foldl_congr_of_invariant (P := fun t : State => t.cfg = s.cfg) (fun t q ht => (setCode_cfg t _ _ _).trans ht) (fun t q ht => ?_) st rfl
  rw [headChans_of_cfg ht]

/-- A step of a change that is not its last. -/
theorem headStep_between {s : State} {h : Nat} {c : HChange} {st st' : List (Nat × Nat)} {rest : List (List (Nat × Nat))}
    (hchange : (s.head h).change = some c) (hrest : c.rest = st :: st' :: rest) {u : State}
    (hu : u = st.foldl (fun s q => s.setCode ((s.headChans h).getD q.1 64) q.2 (s.aspGroup h c.target)) s) :
    s.headStep h = u.setHead h { u.head h with change := some { c with rest := st' :: rest } } := by
  simp only [State.headStep, hchange, hrest, reduceCtorEq, ↓reduceIte, stepCodes_chans s, ← hu]

/-- The heads' counts cleared, head by head. -/
theorem countsCleared (s : State) (l : List Nat) :
    ∃ t : State, l.foldl (fun s h => s.setHead h { s.head h with changes := 0, coalesced := 0 }) s = t ∧ t.regs = s.regs ∧ t.recs = s.recs ∧
      ∀ h : Nat, (h ∈ l ∨ (s.head h).changes = 0 ∧ (s.head h).coalesced = 0 → (t.head h).changes = 0 ∧ (t.head h).coalesced = 0) ∧
        (t.head h).shown = (s.head h).shown ∧ (t.head h).demand = (s.head h).demand := by
  induction l generalizing s with
  | nil => exact ⟨s, rfl, rfl, rfl, fun h => ⟨fun hd => hd.resolve_left List.not_mem_nil, rfl, rfl⟩⟩
  | cons k l ih =>
    obtain ⟨t, ht, hregs, hrecs, hheads⟩ := ih (s.setHead k { s.head k with changes := 0, coalesced := 0 })
    refine ⟨t, ht, hregs, hrecs, fun h => ?_⟩
    have hh := hheads h
    rw [State.head_setHead] at hh
    by_cases hk : h = k
    · subst hk
      rw [if_pos rfl] at hh
      exact ⟨fun _ => hh.1 (.inr ⟨rfl, rfl⟩), hh.2⟩
    · rw [if_neg hk] at hh
      exact ⟨fun hd => hh.1 (hd.imp_left fun hmem => (List.mem_cons.1 hmem).resolve_left hk), hh.2⟩

/-- Settles O35: aspect and level commands, the steps of a change, its dwell, and the counts. -/
theorem headCommands : Obligations.HeadCommands := by
  unfold Obligations.HeadCommands
  refine ⟨?aspect, ?demand, ?night, ?day, ?step, ?dwell, ?counts⟩
  case aspect =>
    rintro s u h v rfl hhead hsource hdefined
    obtain ⟨hrecord, hvalue⟩ := unknownRecord_of_defined (s := (s.put LMP_CMD.HEAD h.val).put LMP_CMD.ASPECT v.val) hdefined 2
    refine exec_of_op (exec_aspectCommand s h v) ((if_neg (Bool.eq_false_iff.not.2 (not_not.2 hhead))).trans ((if_pos hsource).trans ?_))
    simp only [hrecord, hvalue]
  case demand =>
    intro s h v hhead hsource
    refine exec_of_op (exec_aspectCommand s h v) ?_
    exact (if_neg (Bool.eq_false_iff.not.2 (not_not.2 hhead))).trans (if_neg (Bool.eq_false_iff.1 hsource))
  case night =>
    intro s h hhead hoff
    exact exec_of_op (exec_levelCommand s h 2) (selectLevel_changed (s := s.put LMP_CMD.HEAD h.val) (night := true) hhead
      ((nightSet_command s h).trans hoff) 2)
  case day =>
    intro s h hhead hon
    exact exec_of_op (exec_levelCommand s h 1) (selectLevel_changed (s := s.put LMP_CMD.HEAD h.val) (night := false) hhead
      ((nightSet_command s h).trans hon) 2)
  case step =>
    intro s u h c st st' rest hchange hrest hdue hu
    refine exec_of_op (exec_aspectChangeStep s h) ?_
    simp only [opAspectChangeStep, hchange, hdue, ↓reduceIte, headStep_between hchange hrest hu]
  case dwell =>
    intro s h a hheld hchange hover
    refine exec_of_op (exec_dwellExpiry s h) ?_
    simp only [opDwellExpiry, State.tryHeld, hheld, hchange, hover, Option.isNone_none, Bool.and_self, ↓reduceIte]
  case counts =>
    intro s
    obtain ⟨t, ht, hregs, hrecs, hheads⟩ := countsCleared s (List.range 32)
    refine ⟨t, exec_of_op (exec_lmpClearCounts s) ht, hregs, hrecs, fun h => ?_⟩
    obtain ⟨hcleared, hkept⟩ := hheads h.val
    obtain ⟨hchanges, hcoalesced⟩ := hcleared (.inl (List.mem_range.2 h.isLt))
    exact ⟨hchanges, hcoalesced, hkept⟩

/-! ### PWM periods and flash edges -/

theorem onPhase_heldOff {s : State} {n : Nat} (hheld : s.on (LMP_CH.HELDOFF n) = true) :
    s.onPhase n = s.setChan n { s.chan n with gateUntil := s.clk.up } := by
  simp only [State.onPhase, hheld, Bool.true_or, ↓reduceIte]

/-- The gates of a steady channel that is lit go on for its duty. -/
theorem opPwmPeriodStart_lit {s : State} {n : Nat} (hmode : s.get (LMP_CH.MODE n) ≠ 0) (hlive : s.gatesLive = true) (hdue : s.periodDue n = true)
    (hpend : (s.chan n).pend = none) (hcode : (s.chan n).code = 1) (happlied : (s.chan n).applied = 1) (hlit : s.litNow n = true) :
    opPwmPeriodStart n s =
      (s.setBank (n / 16) ({ s.bank (n / 16) with start := some ((s.clk.up : Int) - (s.stagger n : Int)) } : LampBank)).onPhase n := by
  have hsteady : s.flashing n = false := by simp [State.flashing, hcode]
  have hlit' : ∀ x, (s.setBank (n / 16) x).litNow n = true := fun _ => hlit
  have hchan : ∀ x, (s.setBank (n / 16) x).chan n = s.chan n := fun _ => rfl
  simp only [opPwmPeriodStart, hmode, hlive, hdue, Bool.true_eq_false, or_self, ↓reduceIte, hsteady, Bool.false_eq_true, hpend, hchan, hcode,
    one_ne_zero, happlied, hlit']

/-- The gates of a dark channel end with the period. -/
theorem opPwmPeriodStart_dark {s : State} {n : Nat} (hmode : s.get (LMP_CH.MODE n) ≠ 0) (hlive : s.gatesLive = true) (hdue : s.periodDue n = true)
    (hpend : (s.chan n).pend = none) (hcode : (s.chan n).code = 0) (happlied : (s.chan n).applied = 0) :
    ((opPwmPeriodStart n s).chan n).gateUntil = s.clk.up ∧ ((opPwmPeriodStart n s).chan n).applied = 0 ∧ (opPwmPeriodStart n s).regs = s.regs := by
  have hsteady : s.flashing n = false := by simp [State.flashing, hcode]
  have hchan : ∀ x, (s.setBank (n / 16) x).chan n = s.chan n := fun _ => rfl
  have hdark : ∀ (t : State) (x : Chan), x.applied = 0 → (t.setChan n x).litNow n = false := by
    intro t x hx
    simp [State.litNow, State.chan_setChan_same, hx]
  simp only [opPwmPeriodStart, hmode, hlive, hdue, Bool.true_eq_false, or_self, ↓reduceIte, hsteady, Bool.false_eq_true, hpend, hchan, hcode,
    State.chanDark, happlied, hdark, State.chan_setChan_same]
  exact ⟨rfl, trivial, rfl⟩

/-- A channel at the on edge of its flash group. -/
def onEdge (code : Nat) (s : State) (n : Nat) : State :=
  let c := s.chan n
  let s := s.setChan n { c with applied := code, flashOn := true, edge := some s.clk.up }
  let s := match c.pend with
    | some d => (s.setChan n { s.chan n with pend := none }).put (LMP_DUTY.DUTY n) d
    | none => s
  (s.chanEnter n true (!decide (c.applied = 0))).onPhase n

theorem onEdge_no_level {s : State} {n : Nat} (hpend : (s.chan n).pend = none) (code : Nat) :
    onEdge code s n = ((s.setChan n { s.chan n with applied := code, flashOn := true, edge := some s.clk.up }).chanEnter n true
      (decide ((s.chan n).applied ≠ 0))).onPhase n := by
  simp only [onEdge, hpend, ne_eq, decide_not]

section FlashEdge

variable {s u : State} {g : Nat} {anti : Bool}

theorem opFlashOnEdge_due (hon : s.on (LMP_FLASH.EN g) = true) (hlive : s.gatesLive = true) (hdue : s.flashDue g anti 0 = true)
    (hrephase : (s.flash (2 * g + b2n anti)).rephase = false)
    (hu : u = s.setFlash (2 * g + b2n anti) { s.flash (2 * g + b2n anti) with on := true, rephase := false }) :
    opFlashOnEdge g anti s = ((List.range 64).filter (fun n => (u.chan n).code = 2 + b2n anti && (u.chan n).group = g &&
      u.get (LMP_CH.MODE n) ≠ 0 && (u.chan n).applied ≠ 1)).foldl (onEdge (2 + b2n anti)) u := by
  subst hu
  refine if_neg ?_
  simp [hon, hlive, hdue, hrephase]

theorem opFlashOffEdge_due (hon : (s.flash (2 * g + b2n anti)).on = true) (hrephase : (s.flash (2 * g + b2n anti)).rephase = false)
    (hdue : s.flashDue g anti (s.flashOnLen g) = true)
    (hu : u = s.setFlash (2 * g + b2n anti) { s.flash (2 * g + b2n anti) with on := false, endedAt := s.clk.up }) :
    opFlashOffEdge g anti s = ((List.range 64).filter (fun n => (u.chan n).applied = 2 + b2n anti && (u.chan n).group = g)).foldl
      (fun s n => (s.setChan n { s.chan n with flashOn := false, gateUntil := s.clk.up }).chanEnter n false true) u := by
  subst hu
  refine if_neg ?_
  simp [hon, hdue, hrephase]

end FlashEdge

/-- Settles O36: period starts, the dimming ramp and the edges of a flash group. -/
theorem driveCommands : Obligations.DriveCommands := by
  unfold Obligations.DriveCommands
  refine ⟨?lit, ?dark, ?ramp, ?onNone, ?onOne, ?offOne, ?offNone, fun s n => onPhase_heldOff⟩
  case lit =>
    intro s n hmode hlive hdue hpend hcode happlied hlit
    exact exec_of_op (exec_pwmPeriodStart s n) (opPwmPeriodStart_lit hmode hlive hdue hpend hcode happlied hlit)
  case dark =>
    intro s n hmode hlive hdue hpend hcode happlied
    exact ⟨_, exec_pwmPeriodStart s n, opPwmPeriodStart_dark hmode hlive hdue hpend hcode happlied⟩
  case ramp =>
    intro s n r hramp hdue
    refine exec_of_op (exec_dimRampStep s n) ?_
    simp only [opDimRampStep, hramp, hdue, Bool.true_eq_false, ↓reduceIte]
  case onNone =>
    intro s g anti hon hlive hdue hrephase hcodes
    refine exec_of_op (exec_flashOnEdge s g anti) ((opFlashOnEdge_due hon hlive hdue hrephase rfl).trans ?_)
    rw [List.filter_eq_nil_iff.2]
    · rfl
    · intro n hn
      have hcode : ∀ x, ((s.setFlash (2 * g.val + b2n anti) x).chan n).code ≠ 2 + b2n anti := fun _ => hcodes n (List.mem_range.1 hn)
      simp [hcode]
  case onOne =>
    intro s u g anti n hon hlive hdue hrephase hu hmine hpend
    refine exec_of_op (exec_flashOnEdge s g anti) ((opFlashOnEdge_due hon hlive hdue hrephase hu).trans ?_)
    rw [hmine]
    exact onEdge_no_level hpend _
  case offOne =>
    intro s u g anti n hon hrephase hdue hu hmine
    refine exec_of_op (exec_flashOffEdge s g anti) ((opFlashOffEdge_due hon hrephase hdue hu).trans ?_)
    rw [hmine]
    rfl
  case offNone =>
    intro s g anti hon hrephase hdue happlied
    refine exec_of_op (exec_flashOffEdge s g anti) ((opFlashOffEdge_due hon hrephase hdue rfl).trans ?_)
    rw [List.filter_eq_nil_iff.2]
    · rfl
    · intro n hn
      have hother : ∀ x, ((s.setFlash (2 * g.val + b2n anti) x).chan n).applied ≠ 2 + b2n anti := fun _ => happlied n (List.mem_range.1 hn)
      simp [hother]

end Sys2Proof.Proofs
end

section
/-! PROOF. Samples, trips and tests of a lamp channel (R279-R286). -/

namespace Sys2Proof.Proofs

open Sys2Proof.Machine

/-! ### Lit samples -/

/-- What a lit sample does once it is measured and counts (R279, R280). -/
def litJudge (n : Nat) (cur drain : Int) (s : State) : State :=
  let cause := s.litCause n cur drain
  let run := if cause = 0 then 0 else (s.prv n).run + 1
  let s := s.setPrv n { s.prv n with run := run }
  let s := [1, 2, 4].foldl (fun s c => s.finding n c (c = cause)) s
  if cause = 0 then s.lampPasses n cur else if s.nDark n ≤ run then s.lampFail n cause cur drain 0xFF else s

/-- A lit sample measured: the current shown and kept. -/
def litMeasured (n : Nat) (cur : Int) (full : Bool) (s : State) : State :=
  let r := (s.regulate n full (codeMa cur)).put (LMP_PRV.LAST n) (codeMa cur).toNat
  r.setPrv n { r.prv n with lastLit := some cur, litAt := some (r.chan n).onAt }

section Lit

variable {s : State} {n : Nat} {cur drain : Int} {full : Bool} (hproved : s.proved n = true) (hlit : s.litNow n = true)
  (hdue : s.litDue n = true)
include hproved hlit hdue

theorem opLitSample_blank (hblank : (litMeasured n (s.calLs n cur) full s).blanking n ∨ (litMeasured n (s.calLs n cur) full s).supplyLost n) :
    opLitSample n cur drain full false s = litMeasured n (s.calLs n cur) full s := by
  have htaken : ¬(s.proved n = false ∨ s.litNow n = false ∨ s.litDue n = false) := by simp [hproved, hlit, hdue]
  exact (if_neg htaken).trans (if_pos (.inr hblank))

theorem opLitSample_judged (hblank : (litMeasured n (s.calLs n cur) full s).blanking n = false)
    (hlost : (litMeasured n (s.calLs n cur) full s).supplyLost n = false) :
    opLitSample n cur drain full false s = litJudge n (s.calLs n cur) (s.calLd n drain) (litMeasured n (s.calLs n cur) full s) := by
  have htaken : ¬(s.proved n = false ∨ s.litNow n = false ∨ s.litDue n = false) := by simp [hproved, hlit, hdue]
  have hcounts : ¬((false && (litMeasured n (s.calLs n cur) full s).insertsTest n) = true ∨
      (litMeasured n (s.calLs n cur) full s).blanking n = true ∨ (litMeasured n (s.calLs n cur) full s).supplyLost n = true) := by
    simp [hblank, hlost]
  exact (if_neg htaken).trans (if_neg hcounts)

end Lit

theorem litJudge_passes {s : State} {n : Nat} {cur drain : Int} (hgood : s.litCause n cur drain = 0) :
    litJudge n cur drain s =
      ((((s.setPrv n { s.prv n with run := 0 }).finding n 1 false).finding n 2 false).finding n 4 false).lampPasses n cur := by
  simp only [litJudge, hgood, ↓reduceIte, List.foldl_cons, List.foldl_nil, one_ne_zero, OfNat.ofNat_ne_zero, decide_false]

theorem litJudge_fails {s : State} {n : Nat} {cur drain : Int} (hbad : s.litCause n cur drain ≠ 0) :
    litJudge n cur drain s =
      (let run := (s.prv n).run + 1
       let why := s.litCause n cur drain
       let w := (((s.setPrv n { s.prv n with run := run }).finding n 1 (why = 1)).finding n 2 (why = 2)).finding n 4 (why = 4)
       if w.nDark n ≤ run then w.lampFail n why cur drain 0xFF else w) := by
  have hcomm : ∀ k : Nat, decide (k = s.litCause n cur drain) = decide (s.litCause n cur drain = k) := fun k => decide_eq_decide.2 eq_comm
  simp only [litJudge, if_neg hbad, List.foldl_cons, List.foldl_nil, hcomm]

/-! ### Supply and tests -/

theorem supplyLost_clear (n : Fin 64) : (LMP_LV.LOST (n.val / 16)).clear (LMP_PRV.LAST n.val) = true ∧
    (LMP_LV.LOST (n.val / 16)).clear (LMP_OVD.C (n.val / 32) (n.val % 32)) = true ∧
    (LMP_LV.LOST (n.val / 16)).clear LMP_PSTAT.FAILED = true ∧ (LMP_LV.LOST (n.val / 16)).clear LMP_PSTAT.OVERDUE = true := by
  revert n; decide

theorem litMeasured_supplyLost {s : State} {n : Fin 64} (hmode : s.get (LMP_CH.MODE n.val) ≠ 2) (cur : Int) (full : Bool) :
    (litMeasured n.val cur full s).supplyLost n.val = s.supplyLost n.val := by
  have hregulate : s.regulate n.val full (codeMa cur) = s := if_pos hmode
  unfold litMeasured
  rw [hregulate]
  exact congrArg (fun v : Nat => decide (v = 1)) (State.get_put_clear s _ _ _ (supplyLost_clear n).1)

theorem testDone_supplyLost (s : State) (n : Fin 64) (kind : Nat) : (s.testDone n.val kind).supplyLost n.val = s.supplyLost n.val := by
  obtain ⟨_, hovd, hfailed, hoverdue⟩ := supplyLost_clear n
  unfold State.testDone State.ovdSync State.provingSync
  refine congrArg (fun v : Nat => decide (v = 1)) ((State.get_puts_clear _ _ ?_ _).trans (State.get_put_clear _ _ _ _ hovd))
  simp [hfailed, hoverdue]

/-! ### Cold tests and off-tests -/

/-- What a cold test of mode `m` does once it counts (R283, R285). -/
def coldJudge (n m : Nat) (cur drain : Int) (s : State) : State :=
  let x := s.prv n
  let icold : Int := 20 * s.get (LMP_PCFG.ICOLD n)
  let weak := if m = 1 then decide (2 * cur < icold)
    else decide (cur < 20 * (s.get (LMP_BAND.LO n) : Int) ∨ 20 * (s.get (LMP_BAND.HI n) : Int) < cur)
  let stuck := if m = 1 then (if 3 * icold < 2 * cur then x.stuck + 1 else 0) else x.stuck
  let cold := if weak then x.cold + 1 else 0
  let s := s.put (LMP_PRV.LAST n) (codeMa cur).toNat
  let s := (s.setPrv n { x with stuck := stuck, cold := cold, darkAt := if m = 1 then s.darkGrid n else x.darkAt }).testDone n (m + 1)
  let s := s.finding n 7 weak
  let s := if m = 1 then s.darkJudge n cur drain else s
  if weak ∧ s.nDark n ≤ cold then s.lampFail n 7 cur drain 0xFF else s

section Cold

variable {s : State} {n : Nat} {cur drain : Int} (hproved : s.proved n = true) (hmode : s.get (LMP_PCFG.COLD n) ≠ 0)
  (hcode : (s.chan n).code = 0) (happlied : (s.chan n).applied = 0) (hheld : s.on (LMP_CH.HELDOFF n) = false)
  (hpending : s.testPending n (s.get (LMP_PCFG.COLD n) + 1) = true) (hdue : s.get (LMP_PCFG.COLD n) = 1 → s.darkDue n = true)
include hproved hmode hcode happlied hheld hpending hdue

theorem opColdTest_taken (absorbed : Bool) :
    opColdTest n cur drain absorbed s = if absorbed then s.testAbsorbed n
      else if s.supplyLost n then s.testDone n (s.get (LMP_PCFG.COLD n) + 1)
      else coldJudge n (s.get (LMP_PCFG.COLD n)) (s.calLs n cur) (s.calLd n drain) s := by
  refine if_neg ?_
  simpa [hproved, hmode, hcode, happlied, hheld, hpending] using hdue

end Cold

/-- What an off-test without neighbours does once it counts (R281, R282). -/
def offJudge (n : Nat) (cur drain : Int) (s : State) : State :=
  let stuck := decide (20 * (s.get (LMP_BAND.DARK n) : Int) < cur) && s.drainLow n drain
  let frozen : Bool := match (s.prv n).lastLit with
    | some c => decide ((cur - c).natAbs < 2) && decide ((s.get (LMP_PCFG.DRAIN n) : Int) * s.lvCode n < 100 * drain)
    | none => false
  let s := (s.finding n 6 stuck).finding n 8 (frozen && !stuck)
  if stuck then s.lampFail n 6 cur drain 0xFF else if frozen then s.lampFail n 8 cur drain 0xFF else s

theorem offJudge_fresh {s : State} {n : Nat} {cur drain : Int} (hlit : (s.prv n).lastLit = none) :
    offJudge n cur drain s =
      (let stuck := decide (20 * (s.get (LMP_BAND.DARK n) : Int) < cur) && s.drainLow n drain
       if stuck = true then ((s.finding n 6 true).finding n 8 false).lampFail n 6 cur drain 0xFF
       else (s.finding n 6 false).finding n 8 false) := by
  unfold offJudge
  rw [hlit]
  by_cases hstuck : (decide (20 * (s.get (LMP_BAND.DARK n) : Int) < cur) && s.drainLow n drain) = true
  · simp only [hstuck, Bool.false_and, ↓reduceIte]
  · simp only [Bool.not_eq_true _ ▸ hstuck, Bool.false_and, Bool.false_eq_true, ↓reduceIte]

theorem offJudge_lit {s : State} {n : Nat} {cur drain lit : Int} (hlit : (s.prv n).lastLit = some lit)
    (hstuck : (decide (20 * (s.get (LMP_BAND.DARK n) : Int) < cur) && s.drainLow n drain) = false) :
    offJudge n cur drain s =
      (let frozen := decide ((cur - lit).natAbs < 2) && decide ((s.get (LMP_PCFG.DRAIN n) : Int) * s.lvCode n < 100 * drain)
       if frozen = true then ((s.finding n 6 false).finding n 8 true).lampFail n 8 cur drain 0xFF
       else (s.finding n 6 false).finding n 8 false) := by
  unfold offJudge
  rw [hlit]
  by_cases hfrozen : (decide ((cur - lit).natAbs < 2) && decide ((s.get (LMP_PCFG.DRAIN n) : Int) * s.lvCode n < 100 * drain)) = true
  · simp only [hstuck, hfrozen, Bool.not_false, Bool.true_and, Bool.false_eq_true, ↓reduceIte]
  · simp only [hstuck, Bool.not_eq_true _ ▸ hfrozen, Bool.not_false, Bool.false_and, Bool.false_eq_true, ↓reduceIte]

section Off

variable {s : State} {n : Nat} {cur drain : Int} {nbrs : List NbrObs} (hproved : s.proved n = true) (happlied : (s.chan n).applied ≠ 0)
  (hheld : s.on (LMP_CH.HELDOFF n) = false) (hpending : s.testPending n 1 = true)
include hproved happlied hheld hpending

theorem opOffTest_absorbed : opOffTest n cur drain nbrs true s = s.testAbsorbed n := by
  refine (if_neg ?_).trans (if_pos rfl)
  simp [hproved, happlied, hheld, hpending]

theorem opOffTest_taken (hnbr : s.on (LMP_PCFG.NBR n) = false) :
    opOffTest n cur drain nbrs false s = if (s.testDone n 1).supplyLost n then s.testDone n 1
      else offJudge n (s.calLs n cur) (s.calLd n drain) (s.testDone n 1) := by
  simp only [opOffTest, hproved, happlied, hheld, hpending, hnbr, Bool.true_eq_false, Bool.false_eq_true, or_self, ↓reduceIte, Bool.false_and]
  rfl

end Off

@[simp] theorem put_testAge (s : State) (f : Fld) (v n kind : Nat) : (s.put f v).testAge n kind = s.testAge n kind := rfl

/-- Settles O37: lit and dark samples, the overcurrent trip, and the cold, off and overdue tests of a channel. -/
theorem lampTestCommands : Obligations.LampTestCommands := by
  unfold Obligations.LampTestCommands
  refine ⟨?litLost, ?litPasses, ?litFails, fun s n cur drain => rfl, ?trip, ?dark, ?coldAbsorbed, ?coldLost, ?coldDrain, ?coldLit,
    ?offLost, ?offFresh, ?offLit, ?offAbsorbed, ?overdue⟩
  case litLost =>
    intro s n cur drain hproved hlit hdue hmode hblank hlost
    refine exec_of_op (exec_litSample s n cur drain false false) ?_
    rw [opLitSample_blank hproved hlit hdue (.inr ((litMeasured_supplyLost hmode _ _).trans hlost)), litMeasured,
      show s.regulate n.val false (codeMa (s.calLs n.val cur)) = s from if_pos hmode]
    rfl
  case litPasses =>
    intro s n cur drain full hproved hlit hdue c r u v hblank hlost hgood
    exact exec_of_op (exec_litSample s n cur drain full false)
      ((opLitSample_judged hproved hlit hdue hblank hlost).trans (litJudge_passes hgood))
  case litFails =>
    intro s n cur drain full hproved hlit hdue c d r u why run v w hblank hlost hbad
    exact exec_of_op (exec_litSample s n cur drain full false)
      ((opLitSample_judged hproved hlit hdue hblank hlost).trans (litJudge_fails hbad))
  case trip =>
    intro s u v n cur drain hproved hheld hwatched hover hu hv
    subst hu hv
    exact exec_of_op (exec_overcurrentTrip s n cur drain) (if_pos ⟨hproved, hheld, hwatched, hover⟩)
  case dark =>
    intro s u n cur drain hproved hlit hdue hlost hu
    subst hu
    refine exec_of_op (exec_darkSample s n cur drain) (if_neg ?_)
    simp [hproved, hlit, hdue, hlost]
  case coldAbsorbed =>
    intro s n cur drain hproved hmode hcode happlied hheld hpending hdue
    exact exec_of_op (exec_coldTest s n cur drain true) (opColdTest_taken hproved hmode hcode happlied hheld hpending hdue true)
  case coldLost =>
    intro s n cur drain hproved hmode hcode happlied hheld hpending hdue hlost
    exact exec_of_op (exec_coldTest s n cur drain false)
      ((opColdTest_taken hproved hmode hcode happlied hheld hpending hdue false).trans (if_pos hlost))
  case coldDrain =>
    intro s n cur drain hproved hmode hcode happlied hheld hpending hdue hlost c d icold weak x cold v w
    refine exec_of_op (exec_coldTest s n cur drain false) ((opColdTest_taken hproved (by simp [hmode]) hcode happlied hheld
      (by rwa [hmode]) (fun _ => hdue) false).trans ((if_neg Bool.false_ne_true).trans ((if_neg (by simp [hlost])).trans ?_)))
    rw [hmode]
    simp only [coldJudge, ↓reduceIte]
    rfl
  case coldLit =>
    intro s n cur drain hproved hmode hcode happlied hheld hpending hlost c weak x cold v w
    have hmode1 : s.get (LMP_PCFG.COLD n.val) ≠ 1 := by omega
    refine exec_of_op (exec_coldTest s n cur drain false) ((opColdTest_taken hproved (by omega) hcode happlied hheld hpending
      (fun h => absurd h hmode1) false).trans ((if_neg Bool.false_ne_true).trans ((if_neg (by simp [hlost])).trans ?_)))
    simp only [coldJudge, if_neg hmode1]
    rfl
  case offLost =>
    intro s n cur drain hproved happlied hheld hpending hnbr hlost
    exact exec_of_op (exec_offTest s n cur drain [] false)
      ((opOffTest_taken hproved happlied hheld hpending hnbr).trans (if_pos ((testDone_supplyLost s n 1).trans hlost)))
  case offFresh =>
    intro s n cur drain nbrs hproved happlied hheld hpending hnbr c d u stuck hlost hlit
    exact exec_of_op (exec_offTest s n cur drain nbrs false)
      ((opOffTest_taken hproved happlied hheld hpending hnbr).trans ((if_neg (by simp [u, hlost])).trans (offJudge_fresh hlit)))
  case offLit =>
    intro s n cur drain lit nbrs hproved happlied hheld hpending hnbr c d u stuck frozen hlost hlit hstuck
    exact exec_of_op (exec_offTest s n cur drain nbrs false)
      ((opOffTest_taken hproved happlied hheld hpending hnbr).trans ((if_neg (by simp [u, hlost])).trans (offJudge_lit hlit hstuck)))
  case offAbsorbed =>
    intro s n cur drain nbrs hproved happlied hheld hpending
    exact exec_of_op (exec_offTest s n cur drain nbrs true) (opOffTest_absorbed hproved happlied hheld hpending)
  case overdue =>
    intro s u n k hproved hserves hfresh hlate hu
    subst hu
    rw [put_testAge]
    exact exec_of_op (exec_testOverdue s n k) (if_pos ⟨hproved, hserves, hfresh, hlate⟩)

end Sys2Proof.Proofs
end

section
/-! PROOF. Bank supplies, test patterns, the matrix test and the counts of proving (R287-R298). -/

namespace Sys2Proof.Proofs

open Sys2Proof.Machine

/-! ### Bank supplies -/

theorem lampsRestore_nil (s : State) (how : Nat) : s.lampsRestore [] how = s := by
  simp [State.lampsRestore, State.headLampsCleared]

theorem bankField_clear (b : Fin 4) : (LMP_LV.LOST b.val).clear (LMP_LV.VOLT b.val) = true ∧ LMP_PSTAT.LOST.clear (LMP_LV.LOST b.val) = true := by
  revert b; decide

theorem lampMode_clear (n : Fin 64) : (LMP_CH.MODE n.val).clear LMP_PCMD.CHAN = true ∧ (LMP_CH.MODE n.val).clear LMP_PSTAT.LOST = true ∧
    (LMP_CH.MODE n.val).clear LMP_PEVT.SUPPLY = true ∧ (∀ b : Fin 4, (LMP_CH.MODE n.val).clear (LMP_LV.LOST b.val) = true) ∧
    recFields.all (fun f => (LMP_CH.MODE n.val).clear f) = true := by
  revert n; decide

theorem emitAt_zero_md (s : State) (src : Nat) (c : Code) (data : List Byte) : (s.emitAt 0 src c data).md = s.md := by
  unfold State.emitAt State.declare
  rw [if_pos rfl, make_md]

/-- The bank's supply is back: the state that its findings start from. -/
def supplyBackState (s : State) (b : Nat) : State :=
  (((s.put (LMP_LV.LOST b) 0).put LMP_PSTAT.LOST (setBitOf (s.get LMP_PSTAT.LOST) b false)).setBank b { s.bank b with okSince := none }).bankRecord b false

/-- What the return of a bank's supply, lost at `lostAt`, does to the channels that it feeds (R287). -/
def supplyBackLamps (b lostAt : Nat) (u : State) : State :=
  let v := (u.bankChans b).foldl (fun s n => s.finding n 0x0A false) u
  v.lampsRestore ((v.bankChans b).filter (fun n => v.lampFailed n && (v.get (LMP_PRV.CAUSE n) = 0x0A ||
    (lostAt ≤ (v.prv n).failAt + 20000000 && (v.prv n).failAt ≤ lostAt)))) 3

theorem opBankSupplyRestored_back {s : State} {b : Fin 4} (hlost : s.on (LMP_LV.LOST b.val) = true) (hback : s.supplyBack b.val = true) :
    opBankSupplyRestored b.val s = supplyBackLamps b.val (s.bank b.val).lostAt (supplyBackState s b.val) := by
  exact if_pos ⟨hlost, hback⟩

theorem bankRecord_restored (s : State) (b : Nat) :
    ∃ data, s.bankRecord b false = (s.put LMP_PEVT.SUPPLY 1).emitAt 0 (srcBlock 7) Code.BANK_SUPPLY data := ⟨_, rfl⟩

theorem supplyBackState_mode (s : State) (b : Nat) : (supplyBackState s b).md = s.md := by
  unfold supplyBackState
  obtain ⟨data, hdata⟩ := bankRecord_restored
    (((s.put (LMP_LV.LOST b) 0).put LMP_PSTAT.LOST (setBitOf (s.get LMP_PSTAT.LOST) b false)).setBank b { s.bank b with okSince := none }) b
  rw [hdata, emitAt_zero_md]
  rfl

theorem supplyBackState_lampMode (s : State) (b : Fin 4) (n : Fin 64) :
    (supplyBackState s b.val).get (LMP_CH.MODE n.val) = s.get (LMP_CH.MODE n.val) := by
  obtain ⟨-, hpstat, hpevt, hlv, hrec⟩ := lampMode_clear n
  unfold supplyBackState
  obtain ⟨data, hdata⟩ := bankRecord_restored
    (((s.put (LMP_LV.LOST b.val) 0).put LMP_PSTAT.LOST (setBitOf (s.get LMP_PSTAT.LOST) b.val false)).setBank b.val
      { s.bank b.val with okSince := none }) b.val
  rw [hdata, (State.emitAt_only _ _ _ _ _).fields _ hrec, State.get_put_clear _ _ _ _ hpevt, State.get_setBank, State.get_put_clear _ _ _ _ hpstat,
    State.get_put_clear _ _ _ _ (hlv b)]

theorem supplyBackState_bankChans (s : State) (b : Fin 4) : (supplyBackState s b.val).bankChans b.val = s.bankChans b.val := by
  refine List.filter_congr fun n hn => ?_
  obtain ⟨k, hk, rfl⟩ := List.mem_map.1 hn
  have hn64 : k + 16 * b.val < 64 := by have := List.mem_range.1 hk; omega
  simp only [State.proved, supplyBackState_mode, supplyBackState_lampMode s b ⟨_, hn64⟩]

/-! ### Counts -/

/-- A field of one register for each number, set to 0 for a list of them. -/
def fieldsCleared (F : Nat → Fld) (l : List Nat) (s : State) : State := l.foldl (fun s n => s.put (F n) 0) s

theorem fieldsCleared_eq (F : Nat → Fld) (l : List Nat) (s : State) : ∃ m, fieldsCleared F l s = { s with regs := m } := by
  induction l generalizing s with
  | nil => exact ⟨s.regs, rfl⟩
  | cons k l ih => exact ih (s.put (F k) 0)

theorem fieldsCleared_get_of_clear {F : Nat → Fld} {g : Fld} (l : List Nat) (s : State) (hclear : ∀ n ∈ l, g.clear (F n) = true) :
    (fieldsCleared F l s).get g = s.get g :=
  List.foldlRecOn (motive := fun t => State.get t g = s.get g) l _ rfl fun _ ht n hn => (State.get_put_clear _ _ _ _ (hclear n hn)).trans ht

theorem fieldsCleared_get {F : Nat → Fld} (hfit : ∀ n, (F n).hi < 32) (happart : ∀ n m, n ≠ m → (F n).addr ≠ (F m).addr) (l : List Nat) (s : State)
    {n : Nat} (hn : n ∈ l ∨ s.get (F n) = 0) : (fieldsCleared F l s).get (F n) = 0 := by
  induction l generalizing s with
  | nil => exact hn.resolve_left List.not_mem_nil
  | cons k l ih =>
    refine ih (s.put (F k) 0) ?_
    by_cases hk : n = k
    · subst hk
      exact .inr ((State.get_put_same _ _ _ (hfit n)).trans (Nat.zero_mod _))
    · rw [State.get_put_addr _ _ _ _ (happart n k hk)]
      exact hn.imp (fun hm => (List.mem_cons.1 hm).resolve_left hk) id

/-! ### Test patterns -/

/-- LIGHT in COMMISSION of a channel whose head already shows a pattern (R293). -/
theorem opLight_in_pattern {s u : State} {n : Fin 64} {h k : Nat} (hu : u = s.put LMP_PCMD.CHAN n.val) (hmode : s.md.mode = .commission)
    (hchan : s.get (LMP_CH.MODE n.val) ≠ 0) (hplace : s.cfg.sig.placeOf n.val = some (h, k)) (hconsent : (s.head h).consent = true)
    (hpattern : ∃ m ∈ s.headChans h, (s.chan m).pattern = true) :
    opLight n.val s = (let v := u.setDuty n.val (u.dutyAt n.val (u.headNat 8 h)) 0
      ((v.setChan n.val { v.chan n.val with pattern := true }).setCode n.val 1 0).patternSync) := by
  have hget : u.get (LMP_CH.MODE n.val) = s.get (LMP_CH.MODE n.val) := hu ▸ State.get_put_clear _ _ _ _ (lampMode_clear n).1
  have hheads : u.patternHeads n.val = [h] := by
    simp only [hu, State.patternHeads, State.put_cfg, hplace]
  have hgo : ¬(u.md.mode ≠ .commission ∨ u.get (LMP_CH.MODE n.val) = 0 ∨ u.consented (u.patternHeads n.val) = false) := by
    rw [hget, hheads]
    simpa [hu, State.consented, hmode, hchan] using hconsent
  have hany : (u.headChans h).any (fun m => (u.chan m).pattern) = true := List.any_eq_true.2 (hu ▸ hpattern)
  have hplace' : u.cfg.sig.placeOf n.val = some (h, k) := hu ▸ hplace
  unfold opLight
  rw [← hu]
  simp only [if_neg hgo, hplace', hany, ↓reduceIte]

/-- Settles O38: bank supplies, the end of failures, test patterns, the matrix test and the counts. -/
theorem lampServiceCommands : Obligations.LampServiceCommands := by
  unfold Obligations.LampServiceCommands
  refine ⟨?sample, ?restoredNone, ?restored, ?clear, ?clearAll, ?auto, ?light, ?darkAll, ?matrix, ?matrixStep, ?counts, ?supCounts⟩
  case sample =>
    intro s b code hsecs hmode hlost hover
    refine exec_of_op (exec_bankSupplySample s b code) ?_
    have hlost' : ∀ v, (s.putSat (LMP_LV.VOLT b.val) v).on (LMP_LV.LOST b.val) = false := fun v =>
      (congrArg (fun v : Nat => decide (v = 1)) (State.get_put_clear s _ _ _ (bankField_clear b).1)).trans hlost
    simp only [opBankSupplySample, hsecs, hmode, hlost', hover, not_true_eq_false, reduceCtorEq, or_self, Bool.false_eq_true, ↓reduceIte,
      Nat.zero_lt_succ]
  case restoredNone =>
    intro s b hlost hback hnone
    refine exec_of_op (exec_bankSupplyRestored s b) ((opBankSupplyRestored_back hlost hback).trans ?_)
    have hchans : (supplyBackState s b.val).bankChans b.val = [] := by
      refine (supplyBackState_bankChans s b).trans (List.filter_eq_nil_iff.2 fun n hn => ?_)
      obtain ⟨k, hk, rfl⟩ := List.mem_map.1 hn
      have hn64 : k + 16 * b.val < 64 := by have := List.mem_range.1 hk; omega
      simp [hnone _ hn64]
    have hkept : (s.put (LMP_LV.LOST b.val) 0).get LMP_PSTAT.LOST = s.get LMP_PSTAT.LOST := State.get_put_clear _ _ _ _ (bankField_clear b).2
    rw [hkept]
    simp only [supplyBackLamps, hchans, List.foldl_nil, List.filter_nil, lampsRestore_nil]
    rfl
  case restored =>
    intro s b hlost hback x p u v
    exact exec_of_op (exec_bankSupplyRestored s b) (opBankSupplyRestored_back hlost hback)
  case clear =>
    intro s n hclear
    exact exec_of_op (exec_lampClear s n) (if_pos hclear)
  case clearAll =>
    intro s
    exact exec_lampClearAll s
  case auto =>
    intro s n hfailed hauto h3 h6 h9 hbad hrecovered
    exact exec_of_op (exec_autoRecovery s n) (if_pos ⟨hfailed, hauto, h3, h6, h9, hbad, hrecovered⟩)
  case light =>
    intro s u n h k hu hmode hchan hplace hconsent hpattern
    exact ⟨_, rfl, exec_of_op (exec_light s n) (opLight_in_pattern hu hmode hchan hplace hconsent hpattern)⟩
  case darkAll =>
    intro s
    exact exec_darkAll s
  case matrix =>
    intro s hmode hconsent hidle
    exact exec_of_op (exec_matrix s) (if_pos ⟨hmode, hconsent, hidle⟩)
  case matrixStep =>
    intro s n rest drive hleft hdue
    refine exec_of_op (exec_matrixDriveStep s drive []) ?_
    have hnone : (List.range 64).filter (fun m => decide (m ∈ ([] : List Nat))) = [] := by
      simp
    simp only [opMatrixDriveStep, hleft, Nat.not_lt.2 hdue, ↓reduceIte, List.filter_nil, List.map_nil, hnone,
      List.sum_nil, List.foldl_nil]
  case counts =>
    intro s
    obtain ⟨m, hm⟩ := fieldsCleared_eq LMP_TCNT.ABS (List.range 64) s
    refine ⟨fieldsCleared LMP_TCNT.ABS (List.range 64) s, exec_provingClearCounts s, hm ▸ rfl, fun n => ⟨?_, ?_⟩⟩
    · exact fieldsCleared_get (fun _ => Nat.lt_succ_self 31) (fun i j hij => by simp [LMP_TCNT.ABS, LMP_TCNT, hij]) _ s (.inl (List.mem_range.2 n.isLt))
    · exact fieldsCleared_get_of_clear _ s fun _ _ => by simp [Fld.clear, LMP_PRV.STATE, LMP_TCNT.ABS]
  case supCounts =>
    intro s
    exact exec_supClearCounts s

end Sys2Proof.Proofs
end

section
/-! PROOF. Calibration, the converters, references and user slots (R268-R275). -/

namespace Sys2Proof.Proofs

open Sys2Proof.Machine

/-! ### The loss of one of two converters -/

/-- The registers of the unit below the output bits of the user slots. -/
def belowSlotBits (f : Fld) : Prop := f.addr < 0x80100

theorem uslotStop_get (s : State) (i : Nat) {f : Fld} (hf : belowSlotBits f) : (s.uslotStop i).get f = s.get f := by
  have hother : f.addr ≠ (SUP_OUT.S (i / 32) (i % 32)).addr := by
    have : f.addr < 0x80100 := hf
    simp only [SUP_OUT.S, SUP_OUT]
    omega
  unfold State.uslotStop
  rw [State.get_put_addr _ _ _ _ hother, State.get_setUslot]

theorem foldl_get_keeps {α : Type} {step : State → α → State} {f : Fld} (hstep : ∀ s a, (step s a).get f = s.get f) (l : List α) (s : State) :
    (l.foldl step s).get f = s.get f :=
  List.foldlRecOn (motive := fun t => State.get t f = s.get f) l step rfl fun t ht a _ => (hstep t a).trans ht

/-- The user slots of a failed converter stopped. -/
def ownSlotsStopped (c : Nat) (s : State) : State :=
  (List.range 256).foldl (fun s i => if (s.uslot (256 * c + i)).active then s.uslotStop (256 * c + i) else s) s

theorem ownSlotsStopped_get (c : Nat) (s : State) {f : Fld} (hf : belowSlotBits f) : (ownSlotsStopped c s).get f = s.get f := by
  refine foldl_get_keeps (fun t i => ?_) _ s
  split
  · exact uslotStop_get t _ hf
  · rfl

/-- A converter marked as failed. -/
def markedFailed (c : Nat) (s : State) : State := (s.put (SUP_STAT.STATE c) 3).put (SUP_EVT.FAIL c) 1

theorem supField_clear (c : Fin 2) : (SUP_STAT.STATE c.val).clear (SUP_EVT.FAIL c.val) = true ∧
    (SUP_STAT.STATE (1 - c.val)).clear (SUP_STAT.STATE c.val) = true ∧ (SUP_STAT.STATE (1 - c.val)).clear (SUP_EVT.FAIL c.val) = true ∧
    recFields.all (fun f => (SUP_STAT.STATE c.val).clear f) = true ∧ recFields.all (fun f => (SUP_EVT.FAIL c.val).clear f) = true ∧
    [SUP_STAT.FAILOVER, LMP_PSTAT.CONV0, LMP_PSTAT.CONV1, SUP_LOAD.USER 0, SUP_LOAD.USER 1].all (fun f => (SUP_STAT.STATE c.val).clear f) = true ∧
    [SUP_STAT.FAILOVER, LMP_PSTAT.CONV0, LMP_PSTAT.CONV1, SUP_LOAD.USER 0, SUP_LOAD.USER 1].all (fun f => (SUP_EVT.FAIL c.val).clear f) = true := by
  revert c; decide

theorem markedFailed_state (s : State) (c : Fin 2) : (markedFailed c.val s).get (SUP_STAT.STATE c.val) = 3 ∧
    (markedFailed c.val s).get (SUP_EVT.FAIL c.val) = 1 ∧
    (markedFailed c.val s).get (SUP_STAT.STATE (1 - c.val)) = s.get (SUP_STAT.STATE (1 - c.val)) := by
  obtain ⟨hown, hstate, hfail, -, -⟩ := supField_clear c
  have hc := c.isLt
  unfold markedFailed
  rw [State.get_put_clear _ _ _ _ hown, State.get_put_clear _ _ _ _ hfail, State.get_put_clear _ _ _ _ hstate,
    State.get_put_same _ _ _ (show 2 * c.val + 1 < 32 by omega), State.get_put_same _ _ _ (show 4 + c.val < 32 by omega)]
  have hstateWidth : (SUP_STAT.STATE c.val).width = 2 := show 2 * c.val + 1 + 1 - 2 * c.val = 2 by omega
  have hevtWidth : (SUP_EVT.FAIL c.val).width = 1 := show 4 + c.val + 1 - (4 + c.val) = 1 by omega
  simp [hstateWidth, hevtWidth]

/-- What the failure of converter `c` does once its own user slots are stopped (R275). -/
def failoverRest (c cause : Nat) (s : State) : State :=
  let o := 1 - c
  let left := s.supsLeft.length
  let room := 256 - s.provingSlots o true
  let act := ((List.range 256).map (· + 256 * o)).filter (fun i => (s.uslot i).active)
  let s := if left = 1 then (act.drop room).foldl (fun s i => s.uslotStop i) s else s
  let s := s.supSync
  let s := s.emitAt (if left = 0 then 3 else 1) (srcBlock 8) Code.SUP_FAIL (le 1 c ++ le 1 cause ++ le 1 left)
  if left = 0 then
    ((List.range 64).filter (fun n => s.proved n)).foldl
      (fun s n => (s.finding n 0x0C true).lampFail n 0x0C 0 0 0xFF) s
  else s

theorem supFail_rest {s : State} {c : Nat} (hc : c ∈ s.supsLeft) (cause : Nat) :
    s.supFail c cause = failoverRest c cause (ownSlotsStopped c (markedFailed c s)) := if_neg (not_not.2 hc)

theorem failoverRest_not_last {s : State} (hleft : s.supsLeft.length = 1) (c cause : Nat) :
    ∃ (u : State) (data : List Byte), failoverRest c cause s = u.supSync.emitAt 1 (srcBlock 8) Code.SUP_FAIL data ∧
      ∀ f, belowSlotBits f → u.get f = s.get f := by
  unfold failoverRest
  simp only [hleft, one_ne_zero, ↓reduceIte]
  exact ⟨_, _, rfl, fun f hf => foldl_get_keeps (fun t i => uslotStop_get t i hf) _ s⟩

theorem supsLeft_both {s : State} (hboth : s.supsLeft = [0, 1]) {c : Nat} (hc : c < 2) :
    s.get (SUP_STAT.STATE c) = 1 ∨ s.get (SUP_STAT.STATE c) = 2 := by
  have hmem : c ∈ s.supsLeft := by
    rw [hboth]
    simp
    omega
  simpa using (List.mem_filter.1 hmem).2

theorem supsLeft_one {s : State} {c : Fin 2} (hfailed : s.get (SUP_STAT.STATE c.val) = 3)
    (hother : s.get (SUP_STAT.STATE (1 - c.val)) = 1 ∨ s.get (SUP_STAT.STATE (1 - c.val)) = 2) : s.supsLeft.length = 1 := by
  match c with
  | 0 => 
    have hfailed' : s.get (SUP_STAT.STATE 0) = 3 := hfailed
    have hother' : s.get (SUP_STAT.STATE 1) = 1 ∨ s.get (SUP_STAT.STATE 1) = 2 := hother
    simp [State.supsLeft, hfailed', hother']
  | 1 =>
    have hfailed' : s.get (SUP_STAT.STATE 1) = 3 := hfailed
    have hother' : s.get (SUP_STAT.STATE 0) = 1 ∨ s.get (SUP_STAT.STATE 0) = 2 := hother
    simp [State.supsLeft, hfailed', hother']

theorem supSync_get (s : State) {f : Fld}
    (hf : [SUP_STAT.FAILOVER, LMP_PSTAT.CONV0, LMP_PSTAT.CONV1, SUP_LOAD.USER 0, SUP_LOAD.USER 1].all (fun g => f.clear g) = true) :
    s.supSync.get f = s.get f := by
  unfold State.supSync
  exact State.get_puts_clear _ _ (by simpa using hf) _

/-- The failure of one of two converters (R275). -/
theorem supFail_of_both {s : State} (hboth : s.supsLeft = [0, 1]) (c : Fin 2) (cause : Nat) :
    (s.supFail c.val cause).get (SUP_STAT.STATE c.val) = 3 ∧ (s.supFail c.val cause).get (SUP_EVT.FAIL c.val) = 1 := by
  have hc : c.val ∈ s.supsLeft := by
    rw [hboth]
    revert c; decide
  obtain ⟨hstate, hevt, hother⟩ := markedFailed_state s c
  have hbelow : ∀ k, belowSlotBits (SUP_STAT.STATE k) ∧ belowSlotBits (SUP_EVT.FAIL k) := fun k =>
    ⟨show 0x80000 < 0x80100 by decide, show 0x80004 < 0x80100 by decide⟩
  have hstopped := fun {f : Fld} (hf : belowSlotBits f) => ownSlotsStopped_get c.val (markedFailed c.val s) hf
  have hleft : (ownSlotsStopped c.val (markedFailed c.val s)).supsLeft.length = 1 := by
    refine supsLeft_one ((hstopped (hbelow _).1).trans hstate) ?_
    rw [hstopped (hbelow _).1, hother]
    exact supsLeft_both hboth (by omega)
  obtain ⟨u, data, hu, hkept⟩ := failoverRest_not_last hleft c.val cause
  have hend : ∀ {f : Fld}, belowSlotBits f → recFields.all (fun g => f.clear g) = true →
      [SUP_STAT.FAILOVER, LMP_PSTAT.CONV0, LMP_PSTAT.CONV1, SUP_LOAD.USER 0, SUP_LOAD.USER 1].all (fun g => f.clear g) = true →
      (s.supFail c.val cause).get f = (markedFailed c.val s).get f := by
    intro f hf hrec hsync
    rw [supFail_rest hc, hu, (State.emitAt_only _ _ _ _ _).fields _ hrec, supSync_get _ hsync, hkept f hf, hstopped hf]
  obtain ⟨-, -, -, hrecState, hrecFail, hsyncState, hsyncFail⟩ := supField_clear c
  exact ⟨(hend (hbelow _).1 hrecState hsyncState).trans hstate, (hend (hbelow _).2 hrecFail hsyncFail).trans hevt⟩

theorem opCalibrationWindow_first_bad {s : State} {n : Nat} {gain ofs : Int} (hproved : s.proved n = true) (hwindow : s.calWindow n = true)
    (hgain : 200 < gain.natAbs) (hgood : (s.prv n).badLd = false) :
    opCalibrationWindow n true gain ofs s =
      (s.setSup (s.proverOf (n / 16)) { s.sup (s.proverOf (n / 16)) with calAt := some s.clk.up }).setPrv n { s.prv n with badLd := true } := by
  have htaken : ¬(s.proved n = false ∨ s.calWindow n = false) := by simp [hproved, hwindow]
  exact (if_neg htaken).trans ((if_neg fun h => absurd h.1 (Nat.not_le.2 hgain)).trans (if_pos hgood))

/-- A user slot's conversion while its converter settles (R274). -/
theorem opUserSlotTrigger_settling {s : State} {i : Nat} {code : Int} (hactive : (s.uslot i).active = true)
    (htrigger : (s.slotTrigger i).isSome = true) (hlast : (s.uslot i).last ≠ s.slotTrigger i) (hstate : s.get (SUP_STAT.STATE (i / 256)) = 2)
    (hlo : -32768 ≤ code) (hhi : code ≤ 32767) :
    opUserSlotTrigger i code false s = s.setUslot i { s.uslot i with
        code := s.slotCode (i / 256) (s.cfg.sig.nat 7 0x13 0x181 [i]) code, ovr := false, settling := true, last := s.slotTrigger i } := by
  have htaken : ¬((s.uslot i).active = false ∨ s.slotTrigger i = none ∨ (s.uslot i).last = s.slotTrigger i) := by
    simp [hactive, hlast, Option.isSome_iff_ne_none.1 htrigger]
  have hovr : decide (code < -32768 ∨ 32767 < code) = false := by
    simp [hlo, hhi]
  refine (if_neg htaken).trans ?_
  simp only [hovr, hstate, decide_true, Bool.false_eq_true, ↓reduceIte]

/-- Settles O39: the calibration window, the converters' checks and failures, user slots and references. -/
theorem converterCommands : Obligations.ConverterCommands := by
  unfold Obligations.ConverterCommands
  refine ⟨?drainGood, ?senseGood, ?firstBad, ?checkGood, ?checkBad, fun s c => exec_converterHandshakeStall s c, ?failed, ?busy, ?settling,
    ?missed, ?settled, ?refLost, ?refBack⟩
  case drainGood =>
    intro s u n gain ofs hproved hwindow hgain hofs hu
    subst hu
    refine exec_of_op (exec_calibrationWindow s n true gain ofs) ?_
    simp only [opCalibrationWindow, hproved, hwindow, hgain, hofs, Bool.true_eq_false, or_self, and_self, ↓reduceIte, Bool.or_false]
    rfl
  case senseGood =>
    intro s u n gain ofs hproved hwindow hgain hofs hu
    subst hu
    refine exec_of_op (exec_calibrationWindow s n false gain ofs) ?_
    simp only [opCalibrationWindow, hproved, hwindow, hgain, hofs, Bool.true_eq_false, Bool.false_eq_true, or_self, and_self, ↓reduceIte,
      Bool.false_or]
    rfl
  case firstBad =>
    intro s u n gain ofs hproved hwindow hgain hgood hu
    subst hu
    exact exec_of_op (exec_calibrationWindow s n true gain ofs) (opCalibrationWindow_first_bad hproved hwindow hgain hgood)
  case checkGood =>
    intro s u c err gain ofs rate hc herr hu
    subst hu
    refine exec_of_op (exec_converterCheck s c err gain ofs rate) ((if_neg (not_not.2 hc)).trans ?_)
    simp only [Nat.not_lt.2 herr, ↓reduceIte, show ¬2 ≤ 0 by decide]
  case checkBad =>
    intro s u c err gain ofs rate hc herr hbad hu
    subst hu
    refine exec_of_op (exec_converterCheck s c err gain ofs rate) ((if_neg (not_not.2 hc)).trans ?_)
    have hbad' : (((((s.puti (SUP_CAL.GAIN c.val) (satS 16 gain)).puti (SUP_CAL.OFS c.val) (satS 16 ofs)).putSat (SUP_LOAD.RATE c.val) rate).sup
      c.val).badCheck = 1) := hbad
    simp only [herr, hbad', ↓reduceIte, Nat.reduceAdd, le_refl]
  case failed =>
    intro s c cause hboth
    exact ⟨_, rfl, supFail_of_both hboth c cause⟩
  case busy =>
    intro s i code hactive htrigger hlast
    refine exec_of_op (exec_userSlotTrigger s i code true) ((if_neg ?_).trans (if_pos rfl))
    simp [hactive, hlast, Option.isSome_iff_ne_none.1 htrigger]
  case settling =>
    intro s i code hactive htrigger hlast hstate hlo hhi
    exact exec_of_op (exec_userSlotTrigger s i code false) (opUserSlotTrigger_settling hactive htrigger hlast hstate hlo hhi)
  case missed =>
    intro s c hskipped hdue
    refine exec_of_op (exec_supMissed s c) (if_neg ?_)
    rintro (h | ⟨hsome, hearly⟩)
    · exact hskipped h
    · exact Nat.not_lt.2 (hdue hsome) hearly
  case settled =>
    intro s c hstate hdue
    exact exec_of_op (exec_referenceSettled s c) (if_pos ⟨hstate, hdue⟩)
  case refLost =>
    intro s c href hleft hgood
    refine exec_of_op (exec_supRef s c false) ((if_neg ?_).trans ((if_neg Bool.false_ne_true).trans (if_pos hgood)))
    exact not_or.2 ⟨not_not.2 href, not_not.2 hleft⟩
  case refBack =>
    intro s c href hleft hbad
    refine exec_of_op (exec_supRef s c true) ((if_neg ?_).trans ((if_pos rfl).trans (if_pos hbad)))
    exact not_or.2 ⟨not_not.2 href, not_not.2 hleft⟩

end Sys2Proof.Proofs
end

section
/-! PROOF. Test-pulse sources, safety inputs and pairs (R302-R308, R328). -/

namespace Sys2Proof.Proofs

open Sys2Proof.Machine

/-! ### Test pulses -/

theorem afterPulse_congr {s t : State} (hsio : t.sio = s.sio) (hclk : t.clk = s.clk) (hperiod : t.patPeriod = s.patPeriod) (k d : Nat) :
    t.afterPulse k d = s.afterPulse k d := by
  unfold State.afterPulse
  rw [hsio, hclk, hperiod]

theorem put_level_midPulse (s : State) (v k : Nat) : (s.put SIO_TPO.LEVEL v).midPulse k = s.midPulse k := by
  have hperiod : (s.put SIO_TPO.LEVEL v).patPeriod = s.patPeriod :=
    congrArg (1000000 * ·) (State.get_put_clear s SIO_GEN.PERIOD _ _ (by decide))
  have hwidth : (s.put SIO_TPO.LEVEL v).get SIO_GEN.WTP = s.get SIO_GEN.WTP := State.get_put_clear _ _ _ _ (by decide)
  unfold State.midPulse
  rw [hperiod, hwidth, afterPulse_congr (State.put_sio _ _ _) (State.put_clk _ _ _) hperiod]

section Pulse

variable {s : State} {k lo hi : Nat} (hlive : s.sioLive = true) (hused : bitOf s.tpoEn k = true) (hpulse : (s.midPulse k).isSome = true)
  (hfresh : (s.tpo k).seen ≠ s.midPulse k)
include hlive hused hpulse hfresh

theorem opTestPulse_good (hlo : lo < 2000) (hhi : 15000 < hi) :
    opTestPulse k lo hi s = (s.put SIO_TPO.LEVEL (setBitOf (s.get SIO_TPO.LEVEL) k true)).setTpo k
      { s.tpo k with seen := s.midPulse k, bad := 0, good := (s.tpo k).good + 1 } := by
  have htaken : ¬(s.sioLive = false ∨ bitOf s.tpoEn k = false ∨ s.midPulse k = none ∨ (s.tpo k).seen = s.midPulse k) := by
    simp [hlive, hused, hfresh, Option.isSome_iff_ne_none.1 hpulse]
  simp only [opTestPulse, if_neg htaken, hlo, hhi, decide_true, Bool.and_self, ↓reduceIte, put_level_midPulse]

theorem opTestPulse_second_bad (hout : 2000 ≤ lo ∨ hi ≤ 15000) (hbad : 1 ≤ (s.tpo k).bad) :
    opTestPulse k lo hi s = ((s.put SIO_TPO.LEVEL (setBitOf (s.get SIO_TPO.LEVEL) k (15000 < hi))).setTpo k
      { s.tpo k with seen := s.midPulse k, bad := (s.tpo k).bad + 1, good := 0 }).tpoFail k (if 15000 < hi then 1 else 2) := by
  have htaken : ¬(s.sioLive = false ∨ bitOf s.tpoEn k = false ∨ s.midPulse k = none ∨ (s.tpo k).seen = s.midPulse k) := by
    simp [hlive, hused, hfresh, Option.isSome_iff_ne_none.1 hpulse]
  have hboth : ¬((decide (lo < 2000) && decide (15000 < hi)) = true) := by
    simp only [Bool.and_eq_true, decide_eq_true_eq]
    omega
  have hcount : 2 ≤ (s.tpo k).bad + 1 := Nat.succ_le_succ hbad
  simp only [opTestPulse, if_neg htaken, if_neg hboth, if_pos hcount, put_level_midPulse, decide_eq_true_eq]

end Pulse

/-- An overload of a source that no input uses (R304). -/
theorem opTpoOverload_of_no_input {s u : State} {k : Nat} (hlive : s.sioLive = true) (hused : bitOf s.tpoEn k = true)
    (hnone : ∀ i < 32, s.get (SIO_ICFG.SRC i) ≠ k + 1)
    (hu : u = s.setTpo k { s.tpo k with overload := some s.clk.up, good := 0 }) :
    opTpoOverload k s = (u.put SIO_TPO.LEVEL (setBitOf (u.get SIO_TPO.LEVEL) k false)).tpoFail k 2 := by
  have htaken : ¬(s.sioLive = false ∨ bitOf s.tpoEn k = false) := by simp [hlive, hused]
  have hinputs : (List.range 32).filter (fun i => (u.put SIO_TPO.LEVEL (setBitOf (u.get SIO_TPO.LEVEL) k false)).useOf i ≠ 0 &&
      (u.put SIO_TPO.LEVEL (setBitOf (u.get SIO_TPO.LEVEL) k false)).get (SIO_ICFG.SRC i) = k + 1) = [] := by
    refine List.filter_eq_nil_iff.2 fun i hi => ?_
    have hsrc : (u.put SIO_TPO.LEVEL (setBitOf (u.get SIO_TPO.LEVEL) k false)).get (SIO_ICFG.SRC i) = s.get (SIO_ICFG.SRC i) := by
      rw [State.get_put_clear _ _ _ _ (by simp [Fld.clear, SIO_ICFG.SRC, SIO_TPO.LEVEL]), hu, State.get_setTpo]
    simp [hsrc, hnone i (List.mem_range.1 hi)]
  unfold opTpoOverload
  rw [if_neg htaken, ← hu]
  simp only [hinputs, List.foldl_nil]

/-! ### Filtering -/

/-- A filtered change that stays within the chatter count (R306). -/
theorem opInputFiltered_calm {s u v : State} {i : Nat} (hlive : s.sioLive = true) (hused : s.useOf i ≠ 0)
    (hedge : s.on (SIO_IST.FILT i) ≠ s.on (SIO_IST.RAW i)) (hdue : (s.sin i).rawAt + 100000 * s.get (SIO_ICFG.FILTER i) ≤ s.clk.up)
    (hu : u = s.putB (SIO_IST.FILT i) (s.on (SIO_IST.RAW i)))
    (hv : v = u.setSin i { u.sin i with
      trans := u.recentTrans i ++ [s.clk.up]
      on := s.on (SIO_IST.RAW i) && ((u.sin i).on || u.get (SIO_ICFG.DEBOUNCE i) = 0)
      filtAt := s.clk.up })
    (hcalm : (u.recentTrans i).length + 1 ≤ (v.putSat (SIO_IST.TRANS i) ((u.recentTrans i).length + 1)).get (SIO_ICFG.CHATCNT i)) :
    opInputFiltered i s = (v.putSat (SIO_IST.TRANS i) ((u.recentTrans i).length + 1)).sioEval := by
  have htaken : ¬(s.sioLive = false ∨ s.useOf i = 0 ∨ s.on (SIO_IST.FILT i) = s.on (SIO_IST.RAW i) ∨
      s.clk.up < (s.sin i).rawAt + 100000 * s.get (SIO_ICFG.FILTER i)) := by
    simp only [hlive, hused, hedge, Nat.not_lt.2 hdue, Bool.true_eq_false, or_self, not_false_eq_true]
  have hlength : (u.recentTrans i ++ [s.clk.up]).length = (u.recentTrans i).length + 1 := by simp
  have hcalm' := Nat.not_lt.2 hcalm
  unfold opInputFiltered
  rw [if_neg htaken]
  simp only [← hu]
  have hclk : u.clk.up = s.clk.up := by rw [hu]; rfl
  simp only [hclk, ← hv, hlength, if_neg hcalm']

/-- Settles O40: test pulses and their sources, the samples, filters and captures of an input, pairs, and the counts. -/
theorem safetyInputCommands : Obligations.SafetyInputCommands := by
  unfold Obligations.SafetyInputCommands
  refine ⟨?pulseGood, ?pulseBad, ?retryGood, ?retryBad, ?overload, ?sample, ?masked, ?filtered, ?debounce, ?capture, ?discrepancy, ?counts⟩
  case pulseGood =>
    intro s k lo hi hlive hused hpulse hfresh hlo hhi
    exact exec_of_op (exec_testPulse s k lo hi) (opTestPulse_good hlive hused hpulse hfresh hlo hhi)
  case pulseBad =>
    intro s k lo hi hlive hused hpulse hfresh hout hbad
    exact exec_of_op (exec_testPulse s k lo hi) (opTestPulse_second_bad hlive hused hpulse hfresh hout hbad)
  case retryGood =>
    intro s k t hover hdue
    refine exec_of_op (exec_tpoRetry s k true) ?_
    simp only [opTpoRetry, hover, if_neg (Nat.not_lt.2 hdue), ↓reduceIte]
  case retryBad =>
    intro s k t hover hdue
    refine exec_of_op (exec_tpoRetry s k false) ?_
    simp only [opTpoRetry, hover, if_neg (Nat.not_lt.2 hdue), Bool.false_eq_true, ↓reduceIte]
  case overload =>
    intro s u k hlive hused hnone hu
    exact exec_of_op (exec_testPulseSourceOverload s k) (opTpoOverload_of_no_input hlive hused hnone hu)
  case sample =>
    intro s i level hlive hused hmask hedge
    refine exec_of_op (exec_inputSample s i level) (if_neg ?_)
    simp [hlive, hused, hmask, hedge]
  case masked =>
    intro s i level hmask
    exact exec_of_op (exec_inputSample s i level) (if_pos (.inr (.inr (.inl hmask))))
  case filtered =>
    intro s u v i hlive hused hedge hdue hu hv hcalm
    exact exec_of_op (exec_inputFiltered s i) (opInputFiltered_calm hlive hused hedge hdue hu hv hcalm)
  case debounce =>
    intro s i hlive hused hfilt hon hdue
    exact exec_of_op (exec_debounceExpiry s i) (if_pos ⟨hlive, hused, hfilt, hon, hdue⟩)
  case capture =>
    intro s u v i src level after hlive htested hused hdue hu hv hedge
    subst hu hv
    refine exec_of_op (exec_inputCapture s i src level after) ((if_neg ?_).trans (if_pos hedge))
    simp [hlive, htested, hused, hdue]
  case discrepancy =>
    intro s u p hlive hpair hdis hu
    subst hu
    exact exec_of_op (exec_discrepancyExpiry s p) (if_pos ⟨hlive, hpair, hdis⟩)
  case counts =>
    intro s
    obtain ⟨m, hm⟩ := fieldsCleared_eq SIO_IST.FAULTS (List.range 32) s
    refine ⟨fieldsCleared SIO_IST.FAULTS (List.range 32) s, exec_sioClearCounts s, hm ▸ rfl, hm ▸ rfl, fun i => ⟨?_, ?_⟩⟩
    · exact fieldsCleared_get (fun _ => Nat.lt_succ_self 31) (fun i j hij => by simp [SIO_IST.FAULTS, SIO_IST, hij]) _ s
        (.inl (List.mem_range.2 i.isLt))
    · exact fieldsCleared_get_of_clear _ s fun _ _ => by simp [Fld.clear, SIO_IST.FAULT, SIO_IST.FAULTS]

end Sys2Proof.Proofs
end

section
/-! PROOF. Safety outputs, their tests and their supervision (R309-R313). -/

namespace Sys2Proof.Proofs

open Sys2Proof.Machine

/-! ### What an output's evaluation can switch on -/

theorem outSync_sio (s : State) (o : Nat) : (s.outSync o).sio = s.sio := by
  unfold State.outSync
  dsimp only
  split <;> rfl

theorem outSwitch_off_stage (s : State) (o cause inp : Nat) : ((s.outSwitch o false cause inp).sout o).stage = false := by
  unfold State.outSwitch
  rw [if_neg (fun h => Bool.false_ne_true h.1)]
  unfold State.sout
  rw [State.emit_sio]
  exact congrArg SOut.stage (State.sout_setSout_same s o _)

/-- A used output's evaluation: it is wanted on only with its mode and permits, and on or with the outputs checked. -/
theorem outEval_used {s : State} {o : Nat} (hused : s.on (SIO_OCFG.USE o) = true) :
    ∃ (x : SOut) (want : Bool) (cause inp : Nat), x.stage = (s.sout o).stage ∧
      (want = true → s.md.mode = .family ∧ s.permitOff (s.get (SIO_OPERM.MASK o)) = none ∧ ((s.sout o).stage || s.outsChecked) = true) ∧
      s.outEval o = (if want = (s.sout o).stage then s.setSout o x else (s.setSout o x).outSwitch o want cause inp).outSync o := by
  unfold State.outEval
  rw [if_neg (by simp [hused])]
  refine ⟨_, _, _, _, ?_, ?_, rfl⟩
  · rfl
  · simp only [Bool.and_eq_true, decide_eq_true_eq, Option.isNone_iff_eq_none]
    rintro ⟨⟨⟨⟨⟨hmode, -⟩, hpermit⟩, -⟩, -⟩, hready⟩
    exact ⟨hmode, hpermit, hready⟩

theorem outSync_stage (s : State) (o : Nat) : ((s.outSync o).sout o).stage = (s.sout o).stage := by
  unfold State.sout
  rw [outSync_sio]

/-- An output is off after its evaluation unless RUN, its permits and its own readiness all hold (R309, R310). -/
theorem outEval_stage_off {s : State} {o : Nat}
    (hoff : ¬(s.md.mode = .family ∧ s.permitOff (s.get (SIO_OPERM.MASK o)) = none ∧ ((s.sout o).stage || s.outsChecked) = true)) :
    ((s.outEval o).sout o).stage = false := by
  cases hused : s.on (SIO_OCFG.USE o) with
  | false =>
    unfold State.outEval
    rw [if_pos hused]
    split
    · rw [outSync_stage, outSwitch_off_stage]
    · next hstage => exact (outSync_stage s o).trans (Bool.eq_false_iff.2 hstage)
  | true =>
    obtain ⟨x, want, cause, inp, hx, hwant, heval⟩ := outEval_used hused
    obtain rfl : want = false := Bool.eq_false_iff.2 fun h => hoff (hwant h)
    rw [heval, outSync_stage]
    split
    · next hstage => rw [State.sout_setSout_same, hx, ← hstage]
    · rw [outSwitch_off_stage]

/-! ### Readback and EDM samples -/

/-- The output's level shown after a readback sample. -/
def readbackShown (o mv : Nat) (s : State) : State :=
  (s.put SIO_OUT.ON (setBitOf (s.get SIO_OUT.ON) o (20 < mv))).putB (SIO_OCFG.ON o) (20 < mv)

theorem opOutputReadbackSample_on {s : State} {o mv : Nat} (hstage : (s.sout o).stage = true) :
    opOutputReadbackSample o mv s = (readbackShown o mv s).setSout o { s.sout o with mv := mv } := if_pos hstage

/-- What a readback sample of an output that is off does once it is shown (R311). -/
def readbackJudge (o mv : Nat) (s : State) : State :=
  let x := { s.sout o with mv := mv }
  let x := if s.on SIO_STAT.CUTOFF then { x with seen := min 2 (x.seen + 1) } else x
  if decide (20 ≤ mv) = true ∧ s.on SIO_STAT.CUTOFF ∧ x.switchedAt + 500000 ≤ s.clk.up then
    let s := s.setSout o { x with stuckN := x.stuckN + 1 }
    if 2 ≤ x.stuckN + 1 then s.outStuck o mv else s
  else
    let t := s.setSout o { x with stuckN := 0 }
    if t.outsChecked ∧ s.outsChecked = false then t.sioEval else t

theorem opOutputReadbackSample_off {s : State} {o mv : Nat} (hstage : (s.sout o).stage = false) :
    opOutputReadbackSample o mv s = readbackJudge o mv (readbackShown o mv s) :=
  if_neg (c := ((readbackShown o mv s).sout o).stage = true) (Bool.eq_false_iff.1 hstage)

theorem readbackJudge_low {s v : State} {o mv : Nat} (hlow : mv < 20)
    (hv : v = s.setSout o { s.sout o with
      mv := mv, stuckN := 0, seen := if s.on SIO_STAT.CUTOFF then min 2 ((s.sout o).seen + 1) else (s.sout o).seen }) :
    readbackJudge o mv s = if v.outsChecked = true ∧ s.outsChecked = false then v.sioEval else v := by
  have hnot : decide (20 ≤ mv) = false := decide_eq_false (Nat.not_le.2 hlow)
  subst hv
  unfold readbackJudge
  cases hcutoff : s.on SIO_STAT.CUTOFF <;> simp only [hnot, Bool.false_eq_true, false_and, ↓reduceIte]

/-- The second high sample of an output that is off while the cutoff is closed (R311). -/
theorem readbackJudge_stuck {s v : State} {o mv : Nat} (hhigh : 20 ≤ mv) (hstuckN : 1 ≤ (s.sout o).stuckN)
    (hdue : (s.sout o).switchedAt + 500000 ≤ s.clk.up) (hcutoff : s.on SIO_STAT.CUTOFF = true)
    (hv : v = s.setSout o { s.sout o with mv := mv, stuckN := (s.sout o).stuckN + 1, seen := min 2 ((s.sout o).seen + 1) }) :
    readbackJudge o mv s = v.outStuck o mv := by
  have hcount : 2 ≤ (s.sout o).stuckN + 1 := Nat.succ_le_succ hstuckN
  subst hv
  simp only [readbackJudge, hcutoff, hhigh, hdue, hcount, decide_true, and_self, ↓reduceIte]

theorem outStuck_fresh {s : State} {o : Nat} (hstuck : (s.sout o).stuck = false) (mv : Nat) :
    s.outStuck o mv = ((s.setSout o { s.sout o with stuck := true }).put SIO_STAT.CUTOFF 0).outFault o 1 3 mv :=
  if_neg (Bool.eq_false_iff.1 hstuck)

/-- An EDM sample shown and kept. -/
def edmShown (o : Nat) (level : Bool) (s : State) : State :=
  (s.put SIO_EDM.LEVEL (setBitOf (s.get SIO_EDM.LEVEL) o level)).setSout o { s.sout o with edm := (level :: (s.sout o).edm).take 2 }

theorem edmShown_on_ocfg (o : Nat) (level : Bool) (s : State) (k : Nat) :
    (edmShown o level s).on (SIO_OCFG.USE k) = s.on (SIO_OCFG.USE k) ∧ (edmShown o level s).on (SIO_OCFG.EDM k) = s.on (SIO_OCFG.EDM k) := by
  have haddr : SIO_OCFG k ≠ SIO_EDM := by simp only [SIO_OCFG, SIO_EDM]; omega
  unfold edmShown
  rw [State.on_setSout]
  exact ⟨congrArg (fun v : Nat => decide (v = 1)) (State.get_put_addr s (SIO_OCFG.USE k) _ _ haddr),
    congrArg (fun v : Nat => decide (v = 1)) (State.get_put_addr s (SIO_OCFG.EDM k) _ _ haddr)⟩

/-- What an EDM sample does once it is shown (R312). -/
def edmJudge (o : Nat) (two level : Bool) (s : State) : State :=
  let x := s.sout o
  let late := decide (x.switchedAt + s.get (SIO_OTIM.EDMT o) * 1000000 ≤ s.clk.up)
  if s.on (SIO_OCFG.USE o) = false ∨ s.on (SIO_OCFG.EDM o) = false ∨ x.edmLost ∨ two = false ∨ late = false then s
  else if x.stage ∧ level then
    (s.setSout o { x with edmLost := true }).outFault o 4 2 x.mv
  else if x.stage = false ∧ level = false ∧ x.welded = false ∧ x.switchedAt ≠ 0 then
    ((s.setSout o { x with welded := true }).outFault o 3 1 x.mv).sioEval
  else s

theorem opEdmSample_eq (o : Nat) (level : Bool) (s : State) :
    opEdmSample o level s = edmJudge o (decide ((s.sout o).edm.head? = some level)) level (edmShown o level s) := rfl

theorem edmJudge_due {s : State} {o : Nat} (level : Bool) (hused : s.on (SIO_OCFG.USE o) = true) (hedm : s.on (SIO_OCFG.EDM o) = true)
    (hlost : (s.sout o).edmLost = false) (hlate : (s.sout o).switchedAt + s.get (SIO_OTIM.EDMT o) * 1000000 ≤ s.clk.up) :
    edmJudge o true level s = if (s.sout o).stage ∧ level then (s.setSout o { s.sout o with edmLost := true }).outFault o 4 2 (s.sout o).mv
      else if (s.sout o).stage = false ∧ level = false ∧ (s.sout o).welded = false ∧ (s.sout o).switchedAt ≠ 0 then
        ((s.setSout o { s.sout o with welded := true }).outFault o 3 1 (s.sout o).mv).sioEval
      else s := by
  refine if_neg ?_
  simp [hused, hedm, hlost, hlate]

/-! ### The cutoff test -/

/-- What the cutoff test does with the first output, if any, that stayed high (R311). -/
def cutoffJudge (mv : List Nat) (high : Option Nat) (s : State) : State :=
  match high with
  | none => s
  | some o =>
    if s.sio.cutFault then s
    else
      let s := { s with sio := { s.sio with cutFault := true } }
      (s.put SIO_EVT.OUTFAULT 1).emitAt 3 srcSio Code.SO_FAULT
        (le 1 5 ++ le 2 (mv.getD o 0) ++ le 2 (min 0xFFFF ((s.clk.up - (s.sout o).switchedAt) / 1000000)))

theorem opCutoffTest_due {s : State} (hdue : s.cutDue = true) (mv : List Nat) :
    opCutoffTest mv s = cutoffJudge mv ((List.range 8).find? (fun o => (s.sout o).stage && decide (20 ≤ mv.getD o 0)))
      { s with sio := { s.sio with cutAt := some s.clk.up } } := by
  unfold opCutoffTest
  rw [if_neg (Bool.not_eq_false _ ▸ hdue)]
  rfl

/-- Settles O41: off-tests, readback, the cutoff test, overloads, EDM, clearing, and what an output's evaluation can switch on. -/
theorem safetyOutputCommands : Obligations.SafetyOutputCommands := by
  unfold Obligations.SafetyOutputCommands
  refine ⟨?offHigh, fun s o mv hstuck => outStuck_fresh hstuck mv, ?offLow, ?readOn, ?readOff, ?cutFault, ?overload, ?edmUnused, ?welded, ?edmLost,
    ?cutGood, ?clear, ?clearAll, ?evalMode, ?evalPermit, ?evalUnchecked, ?readStuck⟩
  case offHigh =>
    intro s o mv hstage hdue hhigh
    refine exec_of_op (exec_outputOffTest s o mv) ((if_neg ?_).trans (if_pos hhigh))
    exact not_or.2 ⟨by simp [hstage], Nat.not_lt.2 hdue⟩
  case offLow =>
    intro s o mv hstage hdue hlow
    refine exec_of_op (exec_outputOffTest s o mv) ((if_neg ?_).trans (if_neg (Nat.not_le.2 hlow)))
    exact not_or.2 ⟨by simp [hstage], Nat.not_lt.2 hdue⟩
  case readOn =>
    intro s o mv hstage
    exact exec_of_op (exec_outputReadbackSample s o mv) (opOutputReadbackSample_on hstage)
  case readOff =>
    intro s u v o mv hstage hlow hu hv
    obtain rfl : u = readbackShown o.val mv s := by rw [hu, readbackShown, decide_eq_false (by omega)]
    exact exec_of_op (exec_outputReadbackSample s o mv) ((opOutputReadbackSample_off hstage).trans (readbackJudge_low hlow hv))
  case cutFault =>
    intro s u mv o hdue hfault hfound hu
    refine exec_of_op (exec_cutoffTest s mv) ((opCutoffTest_due hdue mv).trans ?_)
    rw [hfound, hu]
    exact if_neg (Bool.eq_false_iff.1 hfault)
  case overload =>
    intro s o mv hstage hover
    exact exec_of_op (exec_outputOverload s o mv) (if_pos ⟨hstage, hover⟩)
  case edmUnused =>
    intro s o level hedm
    refine exec_of_op (exec_edmSample s o level) ((opEdmSample_eq o.val level s).trans (if_pos (.inr (.inl ?_))))
    exact (edmShown_on_ocfg o.val level s o.val).2.trans hedm
  case welded =>
    intro s u o hused hedm hhead hstage hwelded hlost hswitched hu hlate
    obtain rfl : u = edmShown o.val false s := hu
    obtain ⟨huse', hedm'⟩ := edmShown_on_ocfg o.val false s o.val
    have hsout : (edmShown o.val false s).sout o.val = { s.sout o.val with edm := (false :: (s.sout o.val).edm).take 2 } :=
      State.sout_setSout_same _ _ _
    refine exec_of_op (exec_edmSample s o false) ((opEdmSample_eq o.val false s).trans ?_)
    rw [hhead, decide_eq_true rfl, edmJudge_due false (huse'.trans hused) (hedm'.trans hedm) (by rw [hsout]; exact hlost)
      (by rw [hsout]; exact hlate), if_neg (fun h => Bool.false_ne_true h.2), if_pos]
    · rw [hsout]
    · rw [hsout]
      exact ⟨hstage, rfl, hwelded, hswitched⟩
  case edmLost =>
    intro s u o hused hedm hhead hstage hlost hu hlate
    obtain rfl : u = edmShown o.val true s := hu
    obtain ⟨huse', hedm'⟩ := edmShown_on_ocfg o.val true s o.val
    have hsout : (edmShown o.val true s).sout o.val = { s.sout o.val with edm := (true :: (s.sout o.val).edm).take 2 } :=
      State.sout_setSout_same _ _ _
    refine exec_of_op (exec_edmSample s o true) ((opEdmSample_eq o.val true s).trans ?_)
    rw [hhead, decide_eq_true rfl, edmJudge_due true (huse'.trans hused) (hedm'.trans hedm) (by rw [hsout]; exact hlost)
      (by rw [hsout]; exact hlate), if_pos]
    · rw [hsout]
    · rw [hsout]
      exact ⟨hstage, rfl⟩
  case cutGood =>
    intro s mv hdue hlow
    have hnone : (List.range 8).find? (fun o => (s.sout o).stage && decide (20 ≤ mv.getD o 0)) = none := by
      refine List.find?_eq_none.2 fun o ho h => ?_
      obtain ⟨hstage, hhigh⟩ := Bool.and_eq_true_iff.1 h
      exact Nat.not_lt.2 (of_decide_eq_true hhigh) (hlow o (List.mem_range.1 ho) hstage)
    exact exec_of_op (exec_cutoffTest s mv) ((opCutoffTest_due hdue mv).trans (hnone ▸ rfl))
  case clear =>
    intro s kind i u hkind hi hu
    refine exec_of_op (exec_sioClear s kind i) ?_
    simp only [opSioClear, hkind, hi, ← hu, one_ne_zero, and_self, ↓reduceIte]
  case clearAll =>
    intro s u hu
    subst hu
    exact exec_sioClearAll s
  case evalMode => exact fun s o hmode => outEval_stage_off fun h => hmode h.1
  case evalPermit =>
    intro s o hused hmode hpermit
    exact outEval_stage_off fun h => Option.isSome_iff_ne_none.1 hpermit h.2.1
  case evalUnchecked =>
    intro s o hchecked hstage
    exact outEval_stage_off fun h => by simp [hchecked, hstage] at h
  case readStuck =>
    intro s u v o mv hstage hstuck hhigh hstuckN hdue hu hcutoff hv
    obtain rfl : u = readbackShown o.val mv s := hu
    refine exec_of_op (exec_outputReadbackSample s o mv) ((opOutputReadbackSample_off hstage).trans
      ((readbackJudge_stuck (s := readbackShown o.val mv s) hhigh hstuckN hdue hcutoff hv).trans (outStuck_fresh ?_ mv)))
    rw [hv, State.sout_setSout_same]
    exact hstuck

end Sys2Proof.Proofs
end

section
/-! PROOF. Brake channels, their checks and tests (R314-R317). -/

namespace Sys2Proof.Proofs

open Sys2Proof.Machine

/-! ### The check after the decay time -/

/-- What the check after the decay time does once the current is shown; `done` tells that the channel was already found
not applied (R315). -/
def decayJudge (k cur : Nat) (done : Bool) (s : State) : State :=
  if s.released k then
    if 10 * s.get (SIO_BCFG.RELLO k) ≤ cur then s
    else
      let s := s.setBrk k { s.brk k with notReleased := true }
      ((s.brkFault k 1 1 0xFF cur 0).brkGates k false 4).sioEval
  else if cur < s.get (SIO_BCFG.APPTHR k) ∨ done then s
  else
    let s := s.brkTestEnd k 3 3
    let s := s.setBrk k { s.brk k with notApplied := true }
    (s.brkSync k).brkFault k 2 3 0xFF cur 0

theorem opBrakeDecayCheck_due {s : State} {k : Nat} (cur : Nat) (hused : s.on (SIO_BCFG.USE k) = true) (hdecay : (s.brk k).decay = true)
    (hdue : s.decayed k = true) :
    opBrakeDecayCheck k cur s =
      decayJudge k cur (s.brk k).notApplied ((s.putSat (SIO_BRK.CURRENT k) cur).setBrk k { s.brk k with decay := false }) := by
  refine if_neg ?_
  simp [hused, hdecay, hdue]

theorem brkTestEnd_of_no_test {s : State} {k : Nat} (htest : (s.brk k).test = none) (result reason : Nat) :
    s.brkTestEnd k result reason = s := by
  unfold State.brkTestEnd
  simp only [htest]

/-! ### Switch tests and encoder edges -/

section SwitchTest

variable {s : State} {k : Nat} (hused : s.on (SIO_BCFG.USE k) = true) (happlied : s.released k = false) (htest : (s.brk k).test = none)
  (hdecayed : s.decayed k = true) (hlive : s.sioLive = true) (hdue : (s.brk k).swAt + 1000000000 * s.get (SIO_BCFG.SWINT k) ≤ s.clk.up)
include hused happlied htest hdecayed hlive hdue

theorem opBrakeSwitchTest_taken {hi lo sw : Nat}
    (hsw : (if s.get (SIO_BCFG.APPTHR k) ≤ hi then 2 else if s.get (SIO_BCFG.APPTHR k) ≤ lo then 1 else 0) = sw) :
    opBrakeSwitchTest k hi lo s =
      (let u := s.setBrk k { s.brk k with swAt := s.clk.up }
       if sw = 0 ∨ (s.brk k).swStuck ≠ 0 then u
       else ((u.setBrk k { u.brk k with swStuck := sw }).brkFault k 3 2 sw (max hi lo) 0).brkSync k) := by
  subst hsw
  refine if_neg ?_
  simp only [hused, happlied, htest, hdecayed, hlive, Nat.not_lt.2 hdue, Bool.true_eq_false, Bool.false_eq_true, Option.isSome_none,
    or_self, not_false_eq_true]

end SwitchTest

theorem opEncoderEdge_forward {s u : State} {k : Nat} (htest : (s.brk k).test = none)
    (hu : u = s.puti (SIO_BPOS.POS k) (s.geti (SIO_BPOS.POS k) + 1)) :
    opEncoderEdge k 0 s = u.setBrk k { s.brk k with
      moves := ((s.brk k).moves.filter (fun q => s.clk.up ≤ q.1 + 100000000) ++
        [(s.clk.up, u.geti (SIO_BPOS.POS k) - 1), (s.clk.up, u.geti (SIO_BPOS.POS k))]) } := by
  have hbrk : ∀ z, (s.puti (SIO_BPOS.POS k) z).brk k = s.brk k := fun _ => rfl
  subst hu
  simp only [opEncoderEdge, ↓reduceIte, hbrk, htest, State.puti_clk]

/-- Settles O42: decay and switch checks, the brake tests, the torque-off delay and encoder edges. -/
theorem brakeCommands : Obligations.BrakeCommands := by
  unfold Obligations.BrakeCommands
  refine ⟨?notApplied, ?decayed, ?held, ?stuck, ?start, ?testEnd, ?retry, ?lapsed, ?torque, ?requestKept, ?requestTaken, ?switchGood, ?edge, ?cond⟩
  case notApplied =>
    intro s u k cur hused hdecay hdue hu happlied hfresh hhigh htest
    have htest' : (u.brk k.val).test = none := by rw [hu, State.brk_setBrk_same]; exact htest
    refine exec_of_op (exec_brakeDecayCheck s k cur) ((opBrakeDecayCheck_due cur hused hdecay hdue).trans ?_)
    rw [← hu, hfresh]
    simp only [decayJudge, happlied, Nat.not_lt.2 hhigh, Bool.false_eq_true, or_self, ↓reduceIte, brkTestEnd_of_no_test htest']
  case decayed =>
    intro s u k cur hused hdecay hdue hu happlied hlow
    refine exec_of_op (exec_brakeDecayCheck s k cur) ((opBrakeDecayCheck_due cur hused hdecay hdue).trans ?_)
    rw [← hu]
    exact (if_neg (Bool.eq_false_iff.1 happlied)).trans (if_pos (.inl hlow))
  case held =>
    intro s u k cur hused hdecay hdue hu hreleased hhigh
    refine exec_of_op (exec_brakeDecayCheck s k cur) ((opBrakeDecayCheck_due cur hused hdecay hdue).trans ?_)
    rw [← hu]
    exact (if_pos hreleased).trans (if_pos hhigh)
  case stuck =>
    intro s u k hi lo hused happlied htest hdecayed hlive hdue hu hhigh hfresh
    subst hu
    refine exec_of_op (exec_brakeSwitchTest s k hi lo)
      ((opBrakeSwitchTest_taken hused happlied htest hdecayed hlive hdue (if_pos hhigh)).trans (if_neg ?_))
    simp [hfresh]
  case start =>
    intro s k hmay
    exact exec_of_op (exec_brakeTestStart s k) (if_pos hmay)
  case testEnd =>
    intro s k t0 p0 move htest hdue
    refine exec_of_op (exec_brakeTestEnd s k) ?_
    simp only [opBrakeTestEnd, htest, if_neg (Nat.not_lt.2 hdue)]
  case retry =>
    intro s k hfails hdue hmay
    refine exec_of_op (exec_brakeTestRetry s k) ((if_neg (not_or.2 ⟨hfails, Nat.not_lt.2 hdue⟩)).trans ((if_pos hmay).trans ?_))
    rw [State.brk_setBrk_same]
    rfl
  case lapsed =>
    intro s u k hused hlapsed hdue hu
    subst hu
    exact exec_of_op (exec_brakeTestLapsed s k) (if_pos ⟨hused, hlapsed, hdue⟩)
  case torque =>
    intro s k hoff hcond
    exact exec_of_op (exec_torqueOffDelay s k) (if_pos ⟨hoff, hcond⟩)
  case requestKept =>
    intro s u k hmode hu hmay
    subst hu
    exact exec_of_op (exec_brkTestRequest s k) ((if_pos (.inr hmode)).trans (if_neg (Bool.eq_false_iff.1 hmay)))
  case requestTaken =>
    intro s u k hmode hu hmay
    subst hu
    exact exec_of_op (exec_brkTestRequest s k) ((if_pos hmode).trans (if_pos hmay))
  case switchGood =>
    intro s k hi lo hused happlied htest hdecayed hlive hdue hhi hlo
    exact exec_of_op (exec_brakeSwitchTest s k hi lo) ((opBrakeSwitchTest_taken hused happlied htest hdecayed hlive hdue
      ((if_neg (Nat.not_le.2 hhi)).trans (if_neg (Nat.not_le.2 hlo)))).trans (if_pos (.inl rfl)))
  case edge =>
    intro s u k htest hu
    exact exec_of_op (exec_encoderEdge s k 0) (opEncoderEdge_forward htest hu)
  case cond =>
    intro s k hmode
    simp [State.brkCond, hmode]

end Sys2Proof.Proofs
end

section
/-! PROOF. Network ports, redundancy and address services (R325-R333). -/

namespace Sys2Proof.Proofs

open Sys2Proof.Machine

/-! ### Frames received -/

theorem prp_inc_rx_port (s : State) (p : Nat) : (s.inc (NET_RX.COUNT p)).prp = s.prp := by
  have haddr : NET_STAT.PRP.addr ≠ (NET_RX.COUNT p).addr := by
    simp only [NET_STAT.PRP, NET_STAT, NET_RX.COUNT, NET_RX]
    omega
  exact congrArg (fun v : Nat => decide (v = 1)) (State.get_put_addr s _ _ _ haddr)

theorem netRx_full {s : State} {c : Carrier} (hlink : s.linkUp c.port.val = true) (hfull : c.full = true) :
    s.netRx c = (false, (s.inc (NET_RX.COUNT c.port.val)).inc (NET_DROP.COUNT c.port.val)) := by
  simp only [State.netRx, hlink, hfull, Bool.true_eq_false, ↓reduceIte]

theorem netRx_duplicate {s : State} {c : Carrier} {q : Nat} (hlink : s.linkUp c.port.val = true) (hprp : s.prp = true) (htrailer : c.trailer = some q)
    (hseen : ∃ e ∈ s.net.seen, e.1 = c.mac ∧ e.2.1 = q ∧ s.clk.up < e.2.2 + 400000000) : (s.netRx c).1 = false := by
  cases hfull : c.full with
  | true => rw [netRx_full hlink hfull]
  | false =>
    have hprp' : (s.inc (NET_RX.COUNT c.port.val)).prp = true := (prp_inc_rx_port s _).trans hprp
    have hany : (s.net.seen.filter (fun e => decide (s.clk.up < e.2.2 + 400000000))).any (fun e => decide (e.1 = c.mac) && decide (e.2.1 = q)) = true := by
      obtain ⟨e, he, hmac, hseq, hlive⟩ := hseen
      exact List.any_eq_true.2 ⟨e, List.mem_filter.2 ⟨he, decide_eq_true hlive⟩, by simp [hmac, hseq]⟩
    simp only [State.netRx, hlink, hfull, hprp', htrailer, Bool.true_eq_false, Bool.false_eq_true, ↓reduceIte, State.inc_net, State.inc_clk]
    exact congrArg Prod.fst (if_pos hany)

/-- Settles O45: links down and up, PRP supervision and sending, address services, the counts, and frames dropped on receipt. -/
theorem portCommands : Obligations.PortCommands := by
  unfold Obligations.PortCommands
  refine ⟨?down, ?up, ?supervision, ?sendPrp, ?sendSingle, ?echo, ?arp, fun s => exec_netClearCounts s, fun s c => netRx_full,
    fun s c q => netRx_duplicate⟩
  case down =>
    intro s u p cause hup hmedia hu
    subst hu
    refine exec_of_op (exec_linkDown s p cause) (if_neg ?_)
    rintro (h | ⟨hc, hm⟩)
    · simp [hup] at h
    · exact hm (hmedia (Fin.ext (Nat.succ_injective hc)))
  case up =>
    intro s p hdown hdis
    refine exec_of_op (exec_linkUp s p) (if_neg ?_)
    simp [hdown, hdis]
  case supervision =>
    intro s hprp hlinks hdue
    have hany : (s.linkUp 0 || s.linkUp 1) = true := by simpa using hlinks
    refine exec_of_op (exec_prpSupervision s) ?_
    cases hsup : s.net.supAt with
    | none => simp only [opPrpSupervision, hsup, hprp, hany, Bool.and_self, ↓reduceIte]
    | some t => simp only [opPrpSupervision, hsup, hprp, hany, hdue t hsup, decide_true, Bool.and_self, ↓reduceIte]
  case sendPrp =>
    intro s cls port addr body hcls hprp
    refine ⟨?_, ?_⟩
    · simp only [send_sent s cls addr port body hcls, State.trafficPorts, hprp, ↓reduceIte]
    · simp only [State.send, hcls, hprp, ↓reduceIte]
  case sendSingle =>
    intro s cls port addr body hcls hprp
    simp only [send_sent s cls addr port body hcls, State.trafficPorts, hprp, Bool.false_eq_true, ↓reduceIte]
  case echo =>
    intro s c payload target hport hroom hlink hprp hmine
    have hmine' : target ∈ (s.inc (NET_RX.COUNT 0)).ownAddrs := hmine
    refine exec_of_op (exec_arpIcmpNdRequest s c 1 target payload) ?_
    unfold opArpIcmpNdRequest
    rw [netRx_single hport hroom hlink hprp]
    exact if_pos (by simp [hmine'])
  case arp =>
    intro s c payload target hport hroom hlink hprp hmine hlength
    have hmine' : target ∈ (s.inc (NET_RX.COUNT 0)).ownAddrs := hmine
    refine exec_of_op (exec_arpIcmpNdRequest s c 0 target payload) ?_
    unfold opArpIcmpNdRequest
    rw [netRx_single hport hroom hlink hprp]
    exact if_pos (by simp [hmine', hlength])

end Sys2Proof.Proofs
end

section
/-! PROOF. Device time (R334-R337). -/

namespace Sys2Proof.Proofs

open Sys2Proof.Machine

/-! ### Time stamps -/

theorem ptpTime_ptpStamp {ns : Nat} (hns : ns < 2 ^ 48 * 1000000000) : ptpTime (ptpStamp ns) = ns := by
  have hseconds : ofBe (slice (ptpStamp ns) 0 6) = ns / 1000000000 % 256 ^ 6 := beAt_be_middle [] (be 4 (ns % 1000000000)) 6 _
  have hrest : ofBe (slice (ptpStamp ns) 6 4) = ns % 1000000000 % 256 ^ 4 := by
    have h := beAt_be_middle (be 6 (ns / 1000000000)) [] 4 (ns % 1000000000)
    rwa [List.append_nil, be_length] at h
  unfold ptpTime
  rw [hseconds, hrest]
  omega

/-! ### The servo -/

/-- The servo with an offset `θ` measured: the state that its judgement starts from (R335). -/
def measured (s : State) (t1 θ : Int) : State :=
  { s.puti NET_OFS.OFS (satS 32 θ) with
    ts := { s.ts with ofs := θ, sync := some (t1, s.clk.dev),
                      inSince := if θ.natAbs ≤ 1000 then s.ts.inSince.or (some s.clk.up) else none } }

/-- What the servo does with a measured offset (R335, R336). -/
def servoJudge (θ : Int) (s : State) : State :=
  let st := s.get NET_TSTAT.STATE
  if st = 0 then (((s.timeStep (-θ) true).put NET_TSTAT.VALID 1).timeState 1)
  else if s.stepThreshold < θ.natAbs then
    let s := s.timeStep (-θ) false
    if st = 2 then s.timeState 1 else s
  else
    let out : Nat := if st = 2 ∧ 1000 < θ.natAbs then s.ts.out + 1 else 0
    let s : State := { s with ts := { s.ts with slew := -θ, out := out } }
    if 3 ≤ out then { s with ts := { s.ts with out := 0 } }.timeState 1 else s

theorem servo_eq (s : State) (t1 : Int) :
    s.servo t1 = servoJudge ((s.clk.dev : Int) - t1 - s.ts.delay) (measured s t1 ((s.clk.dev : Int) - t1 - s.ts.delay)) := rfl

theorem measured_state (s : State) (t1 θ : Int) : (measured s t1 θ).get NET_TSTAT.STATE = s.get NET_TSTAT.STATE :=
  State.get_put_clear s _ _ _ (by decide)

theorem timeStep_dev (s : State) (d : Int) (first : Bool) : (s.timeStep d first).clk.dev = ((s.clk.dev : Int) + d).toNat := by
  simp only [State.timeStep, apply_ite State.clk, (flashRephase_clk_conns _ _ _).1, State.emit_clk, State.put_clk, ite_self]

/-! ### Masters -/

theorem ptpRx_first {s : State} (hport : s.ptpPort = some 0) : s.ptpRx = s.inc (NET_RX.COUNT 0) := by
  unfold State.ptpRx
  rw [hport]

theorem ptpPort_isNone {s : State} (hport : s.ptpPort = some 0) : ¬s.ptpPort.isNone = true := by
  simp [hport]

theorem put_tai_get (s : State) {g : Fld} (hg : g.clear NET_TSTAT.TAI = true) : (s.put NET_TSTAT.TAI 0).get g = s.get g :=
  State.get_put_clear _ _ _ _ hg

/-- The state once the last master is silent (R334). -/
def masterless (s : State) (ferr : Nat) : State :=
  { s.put NET_TSTAT.TAI 0 with
    ts := { s.ts with masters := [], chosen := none, lostAt := s.clk.up, ferr := ferr, out := 0, reqEvery := none, inSince := none } }

theorem opAnnounceTimeout_last {s : State} {m : Master} {ferr : Nat} (hchosen : s.ts.chosen = some m)
    (hsilent : m.heard + 3 * ptpInterval m.every ≤ s.clk.up) (hall : ∀ x ∈ s.ts.masters, x.heard + 3 * ptpInterval x.every ≤ s.clk.up)
    (hstate : s.get NET_TSTAT.STATE = 2) :
    opAnnounceTimeout ferr s = (masterless s ferr).timeState (if s.get PRB_STAT.PPS_IN = 2 ∧ s.get PRB_PPS.MODE = 2 then 3 else 4) := by
  have hany : ¬s.ts.chosen.any (fun m => m.silent s.clk.up) = false := by
    rw [hchosen, Option.any_some]
    exact fun h => of_decide_eq_false h hsilent
  have hrest : s.ts.masters.filter (fun x => !x.silent s.clk.up) = [] := by
    refine List.filter_eq_nil_iff.2 fun x hx => ?_
    rw [show x.silent s.clk.up = true from decide_eq_true (hall x hx)]
    exact Bool.false_ne_true
  have hstate' : (masterless s ferr).get NET_TSTAT.STATE ≠ 0 := by
    rw [show (masterless s ferr).get NET_TSTAT.STATE = s.get NET_TSTAT.STATE from put_tai_get s (by decide), hstate]
    exact two_ne_zero
  have hpps : (masterless s ferr).get PRB_STAT.PPS_IN = s.get PRB_STAT.PPS_IN := put_tai_get s (by decide)
  have hmode : (masterless s ferr).get PRB_PPS.MODE = s.get PRB_PPS.MODE := put_tai_get s (by decide)
  refine (if_neg hany).trans ?_
  rw [hrest]
  refine (if_neg (not_not.2 rfl)).trans ((if_neg hstate').trans ?_)
  rw [← hpps, ← hmode]
  rfl

/-- Settles O46: Sync, the servo, Announce and its timeout, delay measurement, the lock, and what a step of device time moves. -/
theorem deviceTimeCommands : Obligations.DeviceTimeCommands := by
  unfold Obligations.DeviceTimeCommands
  refine ⟨?sync, ?first, ?slew, ?oneStep, ?twoStep, ?announce, ?timeout, ?request, ?response, fun ns => ptpTime_ptpStamp, ?locked,
    fun s d first => ⟨timeStep_dev s d first, timeStep_bornak s d first⟩⟩
  case sync =>
    intro s b fu t1 hport horigin hmaster
    refine exec_of_op (exec_ptpSync s b fu) ((if_neg (ptpPort_isNone hport)).trans ?_)
    have hmaster' : (s.inc (NET_RX.COUNT 0)).ofMaster b = true := hmaster
    simp only [ptpRx_first hport, horigin, hmaster', ↓reduceIte]
  case first =>
    intro s u t1 θ hstate hθ hu
    obtain rfl : u = measured s t1 θ := hu
    rw [servo_eq, ← hθ]
    exact if_pos ((measured_state s t1 θ).trans hstate)
  case slew =>
    intro s u t1 θ hstate hθ hsmall hu
    obtain rfl : u = measured s t1 θ := hu
    have hstate' := (measured_state s t1 θ).trans hstate
    have hsmall' : ¬(measured s t1 θ).stepThreshold < θ.natAbs := Nat.not_lt.2 hsmall
    rw [servo_eq, ← hθ]
    simp only [servoJudge, hstate', if_neg hsmall', one_ne_zero, OfNat.one_ne_ofNat, false_and, ↓reduceIte, nonpos_iff_eq_zero,
      OfNat.ofNat_ne_zero]
  case oneStep => exact fun b fu hone => if_pos hone
  case twoStep =>
    intro b u htwo hsender hseq
    refine (if_neg (by rw [htwo]; exact one_ne_zero)).trans (if_pos ⟨hsender, hseq⟩)
  case announce =>
    intro s b hport hlength hdomain
    refine exec_of_op (exec_announce s b) ((if_neg ?_).trans ?_)
    · simp only [hport, hlength, Option.isNone_some, Bool.false_eq_true, ne_eq, not_true_eq_false, false_or, not_not]
      exact hdomain
    · rw [ptpRx_first hport]
      rfl
  case timeout =>
    intro s u m ferr hchosen hsilent hall hstate hu
    subst hu
    exact exec_of_op (exec_announceTimeout s ferr) (opAnnounceTimeout_last hchosen hsilent hall hstate)
  case request =>
    intro s u hport hchosen hdue hu
    have hdue' : s.delayReqDue = true := by
      unfold State.delayReqDue
      split
      · next t k ht hk => exact decide_eq_true (hdue t k ht hk)
      · rfl
    refine exec_of_op (exec_delayReq s) ((if_pos (by simp [hport, hchosen, hdue'])).trans ?_)
    rw [hu]
    simp only [State.on, decide_eq_true_eq]
    rfl
  case response =>
    intro s b t1 t2 t3 d hport hmaster hident hseq hsync hreq hd
    subst hd
    refine exec_of_op (exec_delayResp s b) ((if_neg (ptpPort_isNone hport)).trans ?_)
    rw [ptpRx_first hport]
    have hmine : ¬((s.inc (NET_RX.COUNT 0)).ofMaster b = false ∨ slice b 44 10 ≠ (s.inc (NET_RX.COUNT 0)).ptpIdent ∨
        (ptpSeqNo b + 1) % 65536 ≠ (s.inc (NET_RX.COUNT 0)).ts.reqSeq) := by
      change ¬(s.ofMaster b = false ∨ slice b 44 10 ≠ s.ptpIdent ∨ (ptpSeqNo b + 1) % 65536 ≠ s.ts.reqSeq)
      simp only [hmaster, hident, hseq, Bool.true_eq_false, ne_eq, not_true_eq_false, or_self, not_false_eq_true]
    refine (if_neg hmine).trans ?_
    simp only [State.inc_ts, hsync, hreq]
    rfl
  case locked =>
    intro s hstate hchosen hin
    obtain ⟨t, ht, hdue⟩ := hin
    have hany : s.ts.inSince.any (fun t => decide (t + 10000000000 ≤ s.clk.up)) = true := by
      rw [ht, Option.any_some]
      exact decide_eq_true hdue
    exact exec_of_op (exec_timeLocked s) (if_pos ⟨hstate, hchosen, hany⟩)

end Sys2Proof.Proofs
end

section
/-! PROOF. The Bornak safe transport (R340-R348). -/

namespace Sys2Proof.Proofs

open Sys2Proof.Machine

/-! ### Frames received -/

/-- What a frame does that its port has taken in and whose connection, if any, is `conn` (R341). -/
def bornakTaken (b : List Byte) (conn : Option Nat) (s : State) : State :=
  let kind := beAt b 0 8 / 2 ^ 62
  let p := s.cfg.sig
  match conn with
  | none => s.bnkUnknown (le 8 (beAt b 0 8))
  | some c =>
    let s := s.bnkDue c
    let l := if kind = 0 then p.lrx c else 8
    let key := p.connKey c
    let tagged := key.isSome
    if kind = 1 ∨ b.length ≠ 22 + l + 8 * b2n tagged then s.setConn c ((s.conn c).bump 4 1)
    else if beAt b (18 + l) 4 ≠ crc32c (b.take (18 + l)) then
      s.setConn c ({ s.conn c with crc := (s.conn c).crc + 1 }.bump 0 1)
    else if tagged ∧ b.drop (22 + l) ≠ slice (Config.cmac (key.getD []) (b.take (22 + l))) 0 8 then s.bnkAuth c
    else
      let seq := beAt b 8 4
      let time := beAt b 12 6
      let payload := slice b 18 l
      if kind = 0 then s.bnkData c seq time payload
      else if kind = 2 then s.bnkReq c payload
      else s.bnkAck c seq time payload

section Received

variable {s : State} {k : Carrier} {b : List Byte} (hport : k.port = 0) (hroom : k.full = false) (hlink : s.linkUp 0 = true)
  (hprp : s.prp = false) (habsent : s.lnk.absent = false)
include hport hroom hlink hprp habsent

theorem bornakRx_taken : s.bornakRx k b = if b.length < 22 then (s.inc (NET_RX.COUNT 0)).bnkUnknown (zeros 8)
    else bornakTaken b (s.cfg.sig.connList.find? (fun c => s.cfg.sig.connNat 1 c % 2 ^ 62 = beAt b 0 8 % 2 ^ 62)) (s.inc (NET_RX.COUNT 0)) := by
  unfold State.bornakRx
  rw [netRx_single hport hroom hlink hprp]
  refine if_neg ?_
  rw [State.inc_lnk]
  simp [habsent]

end Received

theorem bornakTaken_data {s : State} {b : List Byte} {c : Nat} (hkind : beAt b 0 8 / 2 ^ 62 = 0) (hkey : s.cfg.sig.connKey c = none)
    (hlength : b.length = 22 + s.cfg.sig.lrx c) (hcrc : beAt b (18 + s.cfg.sig.lrx c) 4 = crc32c (b.take (18 + s.cfg.sig.lrx c))) :
    bornakTaken b (some c) s = (s.bnkDue c).bnkData c (beAt b 8 4) (beAt b 12 6) (slice b 18 (s.cfg.sig.lrx c)) := by
  simp only [bornakTaken, hkind, hkey, ↓reduceIte, Option.isSome_none]
  rw [if_neg (by simp [hlength, b2n]), if_neg (not_not.2 hcrc), if_neg (fun h => Bool.false_ne_true h.1)]

theorem bornakTaken_control {s : State} {b : List Byte} {c : Nat} (hkind : 2 ≤ beAt b 0 8 / 2 ^ 62) (hkey : s.cfg.sig.connKey c = none)
    (hlength : b.length = 30) (hcrc : beAt b 26 4 = crc32c (b.take 26)) :
    bornakTaken b (some c) s = if beAt b 0 8 / 2 ^ 62 = 2 then (s.bnkDue c).bnkReq c (slice b 18 8)
      else (s.bnkDue c).bnkAck c (beAt b 8 4) (beAt b 12 6) (slice b 18 8) := by
  have h0 : beAt b 0 8 / 2 ^ 62 ≠ 0 := fun h => by rw [h] at hkind; exact absurd hkind (by decide)
  have h1 : beAt b 0 8 / 2 ^ 62 ≠ 1 := fun h => by rw [h] at hkind; exact absurd hkind (by decide)
  simp only [bornakTaken, h0, hkey, ↓reduceIte, Option.isSome_none]
  rw [if_neg (not_or.2 ⟨h1, by simp [hlength, b2n]⟩), if_neg (not_not.2 hcrc), if_neg (fun h => Bool.false_ne_true h.1)]

/-! ### DATA -/

section Data

variable {s : State} {c seq time d : Nat} {payload : List Byte} (hd : d = (seq + 2 ^ 32 - (s.conn c).q % 2 ^ 32) % 2 ^ 32)

theorem bnkData_unsynchronised (hstate : (s.conn c).state < 2) : s.bnkData c seq time payload = s.bnkStale c := if_pos hstate

include hd

theorem bnkData_old (hstate : 2 ≤ (s.conn c).state) (hold : d = 0 ∨ 2 ^ 31 ≤ d) : s.bnkData c seq time payload = s.bnkStale c := by
  subst hd
  exact (if_neg (Nat.not_lt.2 hstate)).trans (if_pos hold)

theorem bnkData_gap (hstate : 2 ≤ (s.conn c).state) (hpos : 0 < d) (hnew : d < 2 ^ 31) (hgap : s.cfg.sig.connNat 7 c < d) :
    s.bnkData c seq time payload = s.bnkState c 1 4 := by
  subst hd
  exact (if_neg (Nat.not_lt.2 hstate)).trans ((if_neg (not_or.2 ⟨Nat.ne_of_gt hpos, Nat.not_le.2 hnew⟩)).trans (if_pos hgap))

theorem bnkData_accepted {u : State} {x : Conn} (hstate : 2 ≤ (s.conn c).state) (hpos : 0 < d) (hnew : d < 2 ^ 31)
    (hwindow : d ≤ s.cfg.sig.connNat 7 c) (hofs : s.senderOfs c time < 2 ^ 47)
    (hage : s.age100 c (s.senderOfs c time) ≤ (s.te c : Int) * 100)
    (hx : x = { s.conn c with q := seq, data := some (time, payload), gaps := (s.conn c).gaps + (d - 1) }.bump 3 (d - 1))
    (hu : u = (s.setConn c x).bnkState c 3 2) (hpeer : u.isPeer c = false) :
    s.bnkData c seq time payload = u.applyItems c (some payload) := by
  subst hd hx hu
  refine (if_neg (Nat.not_lt.2 hstate)).trans ((if_neg (not_or.2 ⟨Nat.ne_of_gt hpos, Nat.not_le.2 hnew⟩)).trans
    ((if_neg (Nat.not_lt.2 hwindow)).trans ((if_neg (not_or.2 ⟨Nat.not_le.2 hofs, Int.not_lt.2 hage⟩)).trans ?_)))
  simp only [hpeer, Bool.false_eq_true, ↓reduceIte]

end Data

/-! ### Counts -/

/-- A part of the state updated by an idempotent `f` for each of a list of indices. -/
theorem foldl_update_get {α : Type} {get : State → Nat → α} {set : State → Nat → α → State}
    (hget : ∀ s c x j, get (set s c x) j = if j = c then x else get s j) {f : α → α} (hf : ∀ x, f (f x) = f x) (l : List Nat) (s : State) (j : Nat) :
    get (l.foldl (fun s c => set s c (f (get s c))) s) j = if j ∈ l then f (get s j) else get s j := by
  induction l generalizing s with
  | nil => rfl
  | cons c l ih =>
    rw [List.foldl_cons, ih, hget]
    by_cases hj : j = c
    · subst hj
      simp [hf]
    · simp [hj]

/-- A connection with its counts at zero (R347). -/
def connCleared (x : Conn) : Conn := { x with crc := 0, tag := 0, stale := 0, late := 0, gaps := 0, resyncs := 0 }

theorem opBnkClearCounts_conn (s : State) (c : Fin 64) : (opBnkClearCounts s).conn c.val = connCleared (s.conn c.val) :=
  (foldl_update_get (get := State.conn) (set := State.setConn) State.conn_setConn (f := connCleared) (fun _ => rfl) (List.range 64) s c.val).trans
    (if_pos (List.mem_range.2 c.isLt))

theorem opBnkClearCounts_frame (s : State) : (opBnkClearCounts s).regs = s.regs ∧ (opBnkClearCounts s).recs = s.recs :=
  List.foldlRecOn (motive := fun t : State => t.regs = s.regs ∧ t.recs = s.recs) _ _ ⟨rfl, rfl⟩ fun _ ht _ _ => ht

theorem dataDue_of {s : State} {c : Nat} (hdue : ∀ t, (s.conn c).txAt = some t → t + s.cfg.sig.connNat 6 c * 1000000 ≤ s.clk.up ∨
    t + 1000000 ≤ s.clk.up ∧ s.txPayload c ≠ (s.conn c).txLast) : s.dataDue c = true := by
  unfold State.dataDue
  dsimp only
  split
  · next t ht => simpa using hdue t ht
  · rfl

/-- Settles O47: frames received, sent, expired and counted, and what a DATA frame does to its connection. -/
theorem bornakCommands : Obligations.BornakCommands := by
  unfold Obligations.BornakCommands
  refine ⟨?short, ?data, ?req, ?ack, ?reqSend, ?dataSend, ?expiry, ?wait, ?errors, ?counts, fun s c seq time payload => bnkData_unsynchronised,
    fun s c seq time d payload => bnkData_old, fun s c seq time d payload => bnkData_gap, fun s u c seq time d payload x hd => bnkData_accepted hd⟩
  case short =>
    intro s k b hport hroom hlink hprp habsent hshort
    have hrx : s.bornakRx k b = (s.inc (NET_RX.COUNT 0)).bnkUnknown (zeros 8) :=
      (bornakRx_taken hport hroom hlink hprp habsent).trans (if_pos hshort)
    exact ⟨exec_of_op (exec_bornakData s k b) hrx, exec_of_op (exec_bornakReq s k b) hrx, exec_of_op (exec_bornakAck s k b) hrx⟩
  case data =>
    intro s u k b c hport hroom hlink hprp habsent hconn hkind hkey hlength hcrc hu
    subst hu
    refine exec_of_op (exec_bornakData s k b) ((bornakRx_taken hport hroom hlink hprp habsent).trans ((if_neg (by omega)).trans ?_))
    rw [hconn]
    exact bornakTaken_data (s := s.inc (NET_RX.COUNT 0)) hkind hkey hlength hcrc
  case req =>
    intro s u k b c hport hroom hlink hprp habsent hconn hkind hkey hlength hcrc hu
    subst hu
    refine exec_of_op (exec_bornakReq s k b) ((bornakRx_taken hport hroom hlink hprp habsent).trans ((if_neg (by omega)).trans ?_))
    rw [hconn]
    exact (bornakTaken_control (s := s.inc (NET_RX.COUNT 0)) (by rw [hkind]) hkey hlength hcrc).trans (if_pos hkind)
  case ack =>
    intro s u k b c hport hroom hlink hprp habsent hconn hkind hkey hlength hcrc hu
    subst hu
    refine exec_of_op (exec_bornakAck s k b) ((bornakRx_taken hport hroom hlink hprp habsent).trans ((if_neg (by omega)).trans ?_))
    rw [hconn]
    exact (bornakTaken_control (s := s.inc (NET_RX.COUNT 0)) (by rw [hkind]; decide) hkey hlength hcrc).trans
      (if_neg (by rw [hkind]; decide))
  case reqSend =>
    intro s c hopen hlink hdue
    exact exec_of_op (exec_bornakReqSend s c) (opBornakReqSend_of_due s c.val hopen hlink ((reqDue_iff s c.val).2 hdue))
  case dataSend =>
    intro s c hopen hlink hdue
    refine exec_of_op (exec_bornakDataSend s c) (if_neg ?_)
    simp [hopen, hlink, dataDue_of hdue]
  case expiry =>
    intro s c hstate hexpired
    exact exec_of_op (exec_bornakExpiry s c) (if_pos ⟨hstate, hexpired⟩)
  case wait =>
    intro s c hstate hlate
    exact exec_of_op (exec_bornakWaitTimeout s c) (if_pos ⟨hstate, hlate⟩)
  case errors =>
    intro s c herrors hdue
    refine exec_of_op (exec_bnkErrors s c) (if_neg (not_or.2 ⟨?_, ?_⟩))
    · simpa using herrors
    · intro h
      obtain ⟨t, ht, hearly⟩ := (Option.any_eq_true _ _).1 h
      exact Nat.not_lt.2 (hdue t ht) (of_decide_eq_true hearly)
  case counts =>
    intro s
    obtain ⟨hregs, hrecs⟩ := opBnkClearCounts_frame s
    refine ⟨_, exec_bnkClearCounts s, hregs, hrecs, fun c => ?_⟩
    rw [opBnkClearCounts_conn]
    exact ⟨rfl, rfl, rfl, rfl, rfl, rfl, rfl, rfl⟩

end Sys2Proof.Proofs
end

section
/-! PROOF. Logic BIST: rotation, slices and results (R385-R393, R412). -/

namespace Sys2Proof.Proofs

open Sys2Proof.Machine

/-! ### Rotation -/

theorem rotationSlot_all {s : State} (hnone : ∀ e < 20, s.eng e ≠ 4) : s.rotationSlot = s.get TST_CTL.ROT_H * 3600000000000 / 20 := by
  have hall : (List.range 20).filter (fun e => s.eng e ≠ 4) = List.range 20 :=
    List.filter_eq_self.2 fun e he => decide_eq_true (hnone e (List.mem_range.1 he))
  unfold State.rotationSlot
  rw [hall, List.length_range]
  rfl

theorem opRotationStep_taken {s : State} {r : Nat} (hon : s.bistOn = true) (hhk : s.gal.hkFailed = false) (hr : s.get GAL_STAT.RESERVE = r)
    (hreserve : r < 20) (hdue : s.bist.rotAt + s.rotationSlot ≤ s.clk.up) :
    opRotationStep s = if s.rotationWaits then s.put TST_STAT.WAIT 1
      else
        (let u : State := { s with bist := { s.bist with rotAt := slotStart s.bist.rotAt s.rotationSlot s.clk.up } }
         if u.eng r = 0 ∨ u.eng r = 3 then (u.put TST_STAT.WAIT 0).testBegin r else u) := by
  subst hr
  refine if_neg ?_
  simp only [hon, hhk, Nat.not_le.2 hreserve, Nat.not_lt.2 hdue, Bool.true_eq_false, Bool.false_eq_true, or_self, not_false_eq_true]

/-! ### Slices -/

theorem sliceFails_seal_good {s : State} {u : Nat} {r : SliceEnd}
    (hseal : r.misr = Config.goldenSeal (if u < 20 then 0 else if u < 23 then 20 else u) (s.unit u).short (s.unit u).slices) :
    s.sliceFails u r = if s.keepsState u && decide (r.restored ≠ r.saved) then some 2 else none := if_neg (not_not.2 hseal)

/-- A slice that is not stopped: the unit `x` in its test mode, the engine or channelizer out of work (R386, R387). -/
def sliceRun (u : Nat) (short : Bool) (x : BistUnit) (s : State) : State :=
  let s := (s.setUnit u { x with state := if short then 3 else x.state }).put TST_STAT.UNIT u
  let s := if short then s
    else if u < 20 then (s.put (GAL_ENG.STATE u) 3).put GAL_STAT.TESTING 1
    else if u < 23 then s.put (ACQ_CHZ.STATE (u - 20)) 4
    else s
  s.shortSync

theorem opBistSlice_run {s : State} {u : Nat} (hmay : s.sliceMay u = true) :
    opBistSlice u none s = sliceRun u (s.shortUnit u)
      (if (s.unit u).active && (s.unit u).short = s.shortUnit u then s.unit u
       else { s.unit u with active := true, short := s.shortUnit u, slices := 0, repeated := 0, since := s.clk.up }) s :=
  if_neg (by simp [hmay])

/-- A slice of a Gallery engine in the rotation, already begun (R386, R387). -/
theorem opBistSlice_begun {s : State} {u : Nat} (hmay : s.sliceMay u = true) (hlong : s.shortUnit u = false) (hengine : u < 20)
    (hactive : (s.unit u).active = true) (hshort : (s.unit u).short = false) :
    opBistSlice u none s = ((((s.setUnit u (s.unit u)).put TST_STAT.UNIT u).put (GAL_ENG.STATE u) 3).put GAL_STAT.TESTING 1).shortSync := by
  have hbegun : ((s.unit u).active && decide ((s.unit u).short = s.shortUnit u)) = true := by
    rw [hactive, hshort, hlong]
    rfl
  rw [opBistSlice_run hmay, if_pos hbegun, hlong]
  simp only [sliceRun, Bool.false_eq_true, hengine, ↓reduceIte]

/-- The state in which a Signal unit's slice is judged (R388). -/
def signalSliceState (s : State) (u : Nat) (short : Bool) : State :=
  let w : State := { s with bist := { s.bist with sigAt := some s.clk.up } }
  (w.setUnit u { s.unit u with short := short }).shortSync

/-- What the end of a Signal unit's slice does (R388, R391). -/
def signalSliceJudge (u : Nat) (short : Bool) (r : SliceEnd) (fails : Option Nat) (s : State) : State :=
  let x := s.unit u
  match fails with
  | some how => s.bistFail u x.slices r.addr r.bit how
  | none =>
    if x.slices + 1 < s.sliceCount u then s.setUnit u { x with slices := x.slices + 1 }
    else s.setUnit u { x with slices := 0, state := if short then 3 else 1, passes := x.passes + 1, lastPass := some s.clk.up }

theorem opSignalDieSlice_taken {s : State} {u : Nat} {short : Bool} (r : SliceEnd) (hon : s.bistOn = true) (hstate : (s.unit u).state ≠ 2)
    (hlo : 32 ≤ u) (hhi : u ≤ 36) (hslice : s.signalSlice u = some short) (hdue : ∀ t, s.bist.sigAt = some t → t + 375000000 ≤ s.clk.up) :
    opSignalDieSlice u r s =
      signalSliceJudge u short r ((signalSliceState s u short).sliceFails u r) (signalSliceState s u short) := by
  have hwait : s.bist.sigAt.any (fun t => decide (s.clk.up < t + 375000000)) = false := by
    cases hsig : s.bist.sigAt with
    | none => rfl
    | some t =>
      rw [Option.any_some]
      exact decide_eq_false (Nat.not_lt.2 (hdue t hsig))
  have htaken : ¬(s.bistOn = false ∨ (s.unit u).state = 2 ∨ u < 32 ∨ 36 < u ∨ s.bist.sigAt.any (fun t => decide (s.clk.up < t + 375000000)) = true) := by
    rw [hon, hwait]
    simp [hstate, hlo, hhi]
  unfold opSignalDieSlice
  rw [if_neg htaken, hslice]
  rfl

/-! ### The converters and TEST_NOW -/

theorem signalSlice_converter (s : State) (c : Fin 2) : s.signalSlice (33 + c.val) =
    if s.get (SUP_STAT.STATE (1 - c.val)) ≤ 1 then some false
    else if s.get (SUP_STAT.STATE (1 - c.val)) = 2 then none
    else if c.val ∈ s.supsLeft then some true else none := by
  have hc := c.isLt
  unfold State.signalSlice
  rw [if_pos (by omega)]
  simp only [Nat.add_sub_cancel_left]
  generalize s.get (SUP_STAT.STATE (1 - c.val)) = n
  match n with
  | 0 => rfl
  | 1 => rfl
  | 2 => rfl
  | n + 3 => exact ((if_neg (show ¬n + 3 ≤ 1 by omega)).trans (if_neg (show n + 3 ≠ 2 by omega))).symm

theorem opTestNow_on {s v : State} {u : Nat} (hv : v = s.put TST_CMD.UNIT u) (hon : v.bistOn = true) (hhk : s.gal.hkFailed = false) :
    opTestNow u s = if u < 20 then
        (if u = v.get GAL_STAT.RESERVE then (if v.rotationWaits then v.put TST_STAT.WAIT 1 else v.testBegin u)
         else { v with bist := { v.bist with want := some u } })
      else if u < 23 then (if v.get (ACQ_CHZ.STATE (u - 20)) = 0 then v.testBegin u else v)
      else if u = 24 then v.testBegin u
      else v := by
  subst hv
  refine if_neg (not_or.2 ⟨fun h => Bool.false_ne_true (h.symm.trans hon), Bool.eq_false_iff.1 hhk⟩)

theorem sliceCount_signal (s : State) {u : Nat} (hu : 32 ≤ u) : s.sliceCount u = 32 := if_pos hu

/-- Settles O54: the rotation's steps, slices of engines and of Signal units and what ends them, TEST_NOW, and the counts. -/
theorem bistCommands : Obligations.BistCommands := by
  unfold Obligations.BistCommands
  refine ⟨?waits, ?begins, ?early, fun s hnone => ⟨rotationSlot_all hnone, rfl⟩, ?chz, ?slice, ?endPass, ?endFail, ?sealEngine, ?sealSaved, ?signalPass,
    ?signalFail, ?converterShort, ?converterLong, ?nowUnit, ?nowEngine, fun s => exec_tstClearCounts s, fun s hidle c => if_pos hidle⟩
  case waits =>
    intro s hon hhk hreserve hdue hwaits
    exact exec_of_op (exec_rotationStep s) ((opRotationStep_taken hon hhk rfl hreserve hdue).trans (if_pos hwaits))
  case begins =>
    intro s r hon hhk hr hreserve hwaits hspare hdue
    exact exec_of_op (exec_rotationStep s) ((opRotationStep_taken hon hhk hr hreserve hdue).trans
      ((if_neg (Bool.eq_false_iff.1 hwaits)).trans (if_pos (.inl hspare))))
  case early =>
    intro s hearly
    exact exec_of_op (exec_rotationStep s) (if_pos (.inr (.inr (.inr hearly))))
  case chz =>
    intro s c hon hhk hfound hdue
    refine exec_of_op (exec_chzRotationStep s) ?_
    have htaken : ¬(s.bistOn = false ∨ s.gal.hkFailed = true ∨ s.clk.up < s.bist.chzAt + s.chzSlot) := by
      simp only [hon, hhk, Nat.not_lt.2 hdue, Bool.true_eq_false, Bool.false_eq_true, or_self, not_false_eq_true]
    have hfound' : (List.range 3).find? (fun c => ({ s with bist := { s.bist with
        chzAt := slotStart s.bist.chzAt s.chzSlot s.clk.up } } : State).get (ACQ_CHZ.STATE c) = 0) = some c := hfound
    unfold opChzRotationStep
    rw [if_neg htaken]
    simp only [hfound']
  case slice =>
    intro s u hmay hlong hengine hactive hshort
    exact exec_of_op (exec_bistSlice s u none) (opBistSlice_begun hmay hlong hengine hactive hshort)
  case endPass =>
    intro s u r hu hbusy hgood v
    refine exec_of_op (exec_bistSliceEnd s r) ?_
    subst hu
    simp only [opBistSliceEnd, if_neg hbusy, hgood]
    rfl
  case endFail =>
    intro s u how r hu hbusy hbad
    refine exec_of_op (exec_bistSliceEnd s r) ?_
    subst hu
    simp only [opBistSliceEnd, if_neg hbusy, hbad]
  case sealEngine =>
    intro s u r hengine hseal hkeeps
    have hnot : ¬23 ≤ u := by omega
    refine (sliceFails_seal_good (by rw [if_pos hengine]; exact hseal)).trans (if_neg ?_)
    simpa [State.keepsState, hnot] using hkeeps
  case sealSaved =>
    intro s u r hunit hseal hsaved
    refine (sliceFails_seal_good ?_).trans (if_pos ?_)
    · rw [if_neg (by omega), if_neg (by omega)]
      exact hseal
    · simp [State.keepsState, hunit, hsaved]
  case signalPass =>
    intro s u r short hon hstate hslice hdue w v x hgood
    have hv : v = signalSliceState s (u.val + 32) short := rfl
    refine exec_of_op (exec_signalDieSlice s u r)
      ((opSignalDieSlice_taken r hon hstate (by omega) (by omega) hslice hdue).trans ?_)
    rw [← hv, hgood]
    simp only [signalSliceJudge, sliceCount_signal v (Nat.le_add_left 32 u.val)]
    rfl
  case signalFail =>
    intro s u r short how hon hstate hslice hdue w v hbad
    have hv : v = signalSliceState s (u.val + 32) short := rfl
    refine exec_of_op (exec_signalDieSlice s u r)
      ((opSignalDieSlice_taken r hon hstate (by omega) (by omega) hslice hdue).trans ?_)
    rw [← hv, hbad]
    rfl
  case converterShort =>
    intro s c hstate hleft
    rw [signalSlice_converter, if_neg (by omega), if_neg (by omega), if_pos hleft]
  case converterLong =>
    intro s c hstate
    rw [signalSlice_converter, if_pos (by omega)]
  case nowUnit =>
    intro s v u hv hon hhk hu
    refine exec_of_op (exec_testNow s u) ((opTestNow_on hv hon hhk).trans ?_)
    rw [hu]
    rfl
  case nowEngine =>
    intro s v u hv hon hhk hengine hother
    exact exec_of_op (exec_testNow s u) ((opTestNow_on hv hon hhk).trans ((if_pos hengine).trans (if_neg hother)))

end Sys2Proof.Proofs
end

section
/-! PROOF. Memory repair, scrubbing and the Lichen monitors (R395-R401). -/

namespace Sys2Proof.Proofs

open Sys2Proof.Machine

/-! ### Repair -/

/-- A row replaced by a good spare (R395). -/
theorem repairMem_row {s v : State} {a : Nat} {m : MemFault} (hrow : m.byCol = false) (hbad : m.badSpares = 0) (hleft : 0 < s.sparesLeft a 1)
    (hroom : s.repair.length < 4096) (hv : v = ((s.repairEntry a 1 m.row (s.repairsOf a 1)).memSync).put TST_EVT.REPAIR 1) :
    s.repairMem a 1 m = v.emit (0xC000 + a) Code.MEM_REPAIR
      (le 1 1 ++ le 2 m.row ++ le 2 (s.repairsOf a 1) ++ le 2 (s.sparesLeft a 1 - 1) ++ le 1 1) := by
  subst hv
  simp only [State.repairMem, hrow, hbad, Bool.false_eq_true, ↓reduceIte, Nat.not_le.2 hleft, Nat.ne_of_lt hroom, Nat.zero_add, Nat.add_zero, Nat.sub_zero,
    List.range_one, List.foldl_cons, List.foldl_nil]

/-- The first correction at a place (R397). -/
theorem opScrub_first {s : State} {a k : Nat} {m : MemFault} (hk : k = (a * 65536 + m.row) * 65536 + m.col) (hfresh : sparseGet [] s.corr k = []) :
    opScrub a (some m) s = { s with corr := sparseSet [] s.corr k [s.clk.up] } := by
  subst hk
  simp only [opScrub, hfresh, List.filter_nil, List.length_cons, List.length_nil, Nat.zero_add, Nat.reduceLeDiff, ↓reduceIte]

/-! ### Monitors -/

section Read

variable {s : State} {m : Nat} (hworks : (s.mon m).failed = false) (hdue : ∀ t, (s.mon m).readAt = some t → t + 60000000000 ≤ s.clk.up)
include hworks hdue

theorem opLichenRead_taken (reading : Option Nat) (tj : Int) :
    opLichenRead m reading tj s = match reading with
      | none => s.monFails m 1 (s.mon m).val
      | some v => (s.setMon m { s.mon m with hour := (v, tj) :: (s.mon m).hour, readAt := some s.clk.up }).dayReads tj := by
  refine if_neg (not_or.2 ⟨Bool.eq_false_iff.1 hworks, fun h => ?_⟩)
  obtain ⟨t, ht, hearly⟩ := (Option.any_eq_true _ _).1 h
  exact Nat.not_lt.2 (hdue t ht) (of_decide_eq_true hearly)

end Read

/-- The monitors' daily values (R399). -/
def dailyKept (s : State) : State :=
  (List.range 48).foldl (fun s m =>
    let x := s.mon m
    if x.failed then s else s.setMon m { x with daily := ((10000 + x.drift) :: x.daily).take 400 }) s

theorem dailyKept_frame (s : State) : (dailyKept s).led = s.led ∧ (dailyKept s).gal = s.gal ∧ (dailyKept s).recs = s.recs ∧ (dailyKept s).clk = s.clk := by
  refine List.foldlRecOn (motive := fun t : State => t.led = s.led ∧ t.gal = s.gal ∧ t.recs = s.recs ∧ t.clk = s.clk) _ _ ⟨rfl, rfl, rfl, rfl⟩
    fun t ht m _ => ?_
  dsimp only
  split
  · exact ht
  · exact ht

/-- A day closed (R399): the days' highest temperatures and the units' peaks. -/
def dayClosed (s : State) : State :=
  let s : State := { s with
    led := { s.led with dayAt := s.clk.up, days := s.led.days + 1, dayMax := (s.led.dayTop.toList ++ s.led.dayMax).take 400, dayTop := none }
    gal := { s.gal with dayPeak := [], dayPeaks := (s.gal.dayPeak :: s.gal.dayPeaks).take 30 } }
  s.putSat LCH_STAT.DAYS s.led.days

/-- What the planner's forecast of a date writes, and when it is recorded (R400, R401). -/
def forecastWritten (worst : Nat) (far : Bool) (date : Nat) (s : State) : State :=
  let s := s.puts [(LCH_FCAST_LO.T, date % 2 ^ 32), (LCH_FCAST_HI.T, date / 2 ^ 32 % 2 ^ 32), (LCH_STAT.FCAST, 1),
    (LCH_STAT.FAR, b2n far)]
  let due : Bool := match s.led.fcast with
    | none => true
    | some (d, t) => decide (d + 30 * 86400000000000 < date ∨ date + 30 * 86400000000000 < d ∨ t + 30 * 86400000000000 ≤ s.clk.up)
  if due then
    let s : State := { s with led := { s.led with fcast := some (date, s.clk.up) } }
    (s.put LCH_EVT.FCAST 1).emit srcPlanner Code.LICHEN_FORECAST (le 8 date ++ le 1 (b2n far) ++ le 1 worst)
  else s

theorem forecastWritten_first {s : State} (hnone : s.led.fcast = none) (worst : Nat) (far : Bool) (date : Nat) :
    forecastWritten worst far date s =
      (let v := s.puts [(LCH_FCAST_LO.T, date % 2 ^ 32), (LCH_FCAST_HI.T, date / 2 ^ 32 % 2 ^ 32), (LCH_STAT.FCAST, 1), (LCH_STAT.FAR, b2n far)]
       (({ v with led := { v.led with fcast := some (date, v.clk.up) } } : State).put LCH_EVT.FCAST 1).emit srcPlanner Code.LICHEN_FORECAST
        (le 8 date ++ le 1 (b2n far) ++ le 1 worst)) := by
  simp only [forecastWritten, State.puts_led, hnone, ↓reduceIte]

/-- The forecast from the first unit below target, if any (R400). -/
def forecastOf (first : Option (Nat × Rat)) (s : State) : State :=
  let (worst, ahead) := match first with
    | some (u, d) => (u, d.floor.toNat)
    | none => (0xFF, 18262)
  forecastWritten worst first.isNone (s.clk.dev + ahead * 86400000000000) s

theorem opLichenForecast_taken {s : State} (hdays : 90 ≤ s.led.days) (hhk : s.gal.hkFailed = false)
    (hdue : ∀ t, s.led.foreAt = some t → t + 86400000000000 ≤ s.clk.up) :
    opLichenForecast s = forecastOf (lowest (s.planUnits.filterMap (fun u => (s.crossDay u).map (fun d => (u, (d : Rat))))))
      { s with led := { s.led with foreAt := some s.clk.up } } := by
  have hwait : ¬s.led.foreAt.any (fun t => decide (s.clk.up < t + 86400000000000)) = true := by
    intro h
    obtain ⟨t, ht, hearly⟩ := (Option.any_eq_true _ _).1 h
    exact Nat.not_lt.2 (hdue t ht) (of_decide_eq_true hearly)
  have htaken : ¬(s.led.days < 90 ∨ s.gal.hkFailed = true ∨ s.led.foreAt.any (fun t => decide (s.clk.up < t + 86400000000000)) = true) :=
    not_or.2 ⟨Nat.not_lt.2 hdays, not_or.2 ⟨Bool.eq_false_iff.1 hhk, hwait⟩⟩
  exact if_neg htaken

/-- Settles O55: rows repaired, corrections counted, and the monitors' reads, hours, days and forecast. -/
theorem ageingCommands : Obligations.AgeingCommands := by
  unfold Obligations.AgeingCommands
  refine ⟨fun s a => exec_marchRow s a none, fun s a m => exec_marchRow s a (some m), fun s v a m => repairMem_row, ?scrub, ?failed, ?read, ?hourly, ?hour,
    ?daily, ?forecast⟩
  case scrub =>
    intro s a k m hk hfresh
    exact exec_of_op (exec_scrub s a (some m)) (opScrub_first hk hfresh)
  case failed =>
    intro s m tj hworks hdue
    exact exec_of_op (exec_lichenRead s m none tj) (opLichenRead_taken hworks hdue none tj)
  case read =>
    intro s m v tj hworks hdue
    exact exec_of_op (exec_lichenRead s m (some v) tj) (opLichenRead_taken hworks hdue (some v) tj)
  case hourly =>
    intro s hdue
    exact exec_of_op (exec_lichenHourly s) (if_neg (Nat.not_lt.2 hdue))
  case hour =>
    intro s m n mean tj v hworks hread hn hmean htj hv t
    subst hn hmean htj hv
    exact if_neg (not_or.2 ⟨Bool.eq_false_iff.1 hworks, hread⟩)
  case daily =>
    intro s hdue
    obtain ⟨hled, hgal, hrecs, hclk⟩ := dailyKept_frame s
    have hday : opLichenDaily s = dayClosed (dailyKept s) := by
      simp only [opLichenDaily, if_neg (Nat.not_lt.2 hdue), dayClosed, dailyKept]
    refine ⟨dayClosed (dailyKept s), exec_of_op (exec_lichenDaily s) hday, ?_⟩
    simp only [dayClosed, State.putSat_led, State.putSat_gal, State.putSat_recs, hled, hgal, hrecs, hclk, and_self]
  case forecast =>
    intro s date worst far first hdays hhk hnone hdue hfirst hfar hworst hdate v
    refine exec_of_op (exec_lichenForecast s) ((opLichenForecast_taken hdays hhk hdue).trans ?_)
    rw [← hfirst]
    have hwritten : forecastOf first { s with led := { s.led with foreAt := some s.clk.up } } =
        forecastWritten worst far date { s with led := { s.led with foreAt := some s.clk.up } } := by
      rw [hworst, hfar, hdate]
      cases first with
      | none => rfl
      | some p => rfl
    exact hwritten.trans (forecastWritten_first (s := { s with led := { s.led with foreAt := some s.clk.up } }) hnone worst far date)

end Sys2Proof.Proofs
end

section
/-! PROOF. A statement on supplies and temperatures that misses a part of what the model does: the temperature that a resume reads. -/

namespace Sys2Proof.Proofs

open Sys2Proof.Machine

/-- After reset with the front end stopped for its temperature. -/
def frontEndStopped : State := { State.reset with pw := { State.reset.pw with feStop := true } }

/-- The front end resumed at 0 °C, with the last temperatures of the dies as `reads`. -/
def resumedWith (reads : List (Nat × Int)) : State :=
  let u : State := { (frontEndStopped.dieReads 2 0).put PWR_STAT.FE_STOP 0 with
    pw := { frontEndStopped.pw with feStop := false, reads := reads } }
  { u with tb := { u.tb with target := u.nextTarget, targetDirect := u.tb.xoFailed } }

theorem resumedWith_calm (reads : List (Nat × Int)) : (resumedWith reads).calm := by
  have hcause : bitOf ((resumedWith []).get MOD_SCAUSE.CAUSE) 7 = false := by decide
  exact calm_of_reset rfl rfl rfl hcause rfl

theorem opFrontEndTemperatureResume_frontEndStopped :
    opFrontEndTemperatureResume 0 frontEndStopped = resumedWith (sparseSet (-32768) frontEndStopped.pw.reads 2 0) := by
  unfold opFrontEndTemperatureResume
  rw [if_neg (by decide)]
  rfl

/-- Refutes O60: the clause for the front end's resume takes the supplies' state from before the command, but the command also notes
the temperature it reads. After reset at 0 °C the model notes die 2, the clause nothing. -/
theorem not_powerCommands : ¬ Obligations.PowerCommands := by
  unfold Obligations.PowerCommands
  rintro ⟨_, _, _, _, _, _, _, _, _, _, _, _, _, _, hresume, _⟩
  have hclause : exec (.frontEndTemperatureResume 0) frontEndStopped = .next (State.finish (resumedWith frontEndStopped.pw.reads)) :=
    hresume frontEndStopped _ 0 rfl (by decide) rfl
  have hmodel := exec_of_op (exec_frontEndTemperatureResume frontEndStopped 0) opFrontEndTemperatureResume_frontEndStopped
  have hreads := congrArg (fun t : State => t.pw.reads) (left_unique (resumedWith_calm _) (resumedWith_calm _) hclause hmodel)
  exact absurd hreads (by decide : ¬ [] = sparseSet (-32768) [] 2 (0 : Int))

end Sys2Proof.Proofs
end

section
/-! PROOF. Resets, RST_N, the way to HOLD and the handling of faults (R413, R418-R421, R424-R426). -/

namespace Sys2Proof.Proofs

open Sys2Proof.Machine

/-! ### What a reset empties -/

/-- No zone, no connection and no event. -/
def Emptied (s : State) : Prop := s.zones = [] ∧ s.conns = [] ∧ s.events = []

theorem Emptied.put {s : State} (h : Emptied s) (f : Fld) (v : Nat) : Emptied (s.put f v) := h

theorem Emptied.puts {s : State} (h : Emptied s) (l : List (Fld × Nat)) : Emptied (s.puts l) :=
  ⟨(State.puts_zones _ _).trans h.1, (State.puts_conns _ _).trans h.2.1, (State.puts_events _ _).trans h.2.2⟩

theorem Emptied.setSlot {s : State} (h : Emptied s) (n : Nat) (x : Slot) : Emptied (s.setSlot n x) := by
  unfold State.setSlot
  exact Emptied.puts (s := { s with slots := sparseSet .reset s.slots n x }) h _

theorem Emptied.foldl {α : Type} {step : State → α → State} {s : State} (h : Emptied s) (hstep : ∀ u a, Emptied u → Emptied (step u a))
    (l : List α) : Emptied (l.foldl step s) :=
  List.foldlRecOn (motive := Emptied) l step h fun u hu a _ => hstep u a hu

theorem Emptied.showStore {s : State} (h : Emptied s) : Emptied s.showStore := by
  unfold State.showStore
  dsimp only
  have hslots : ∀ (u : State) (n : Nat), Emptied u → Emptied
      (if u.slot n = Slot.reset then u else u.setSlot n (if (u.slot n).state = 1 then ⟨3, []⟩ else u.slot n)) := by
    intro u n hu
    split
    · exact hu
    · exact hu.setSlot n _
  have hshown := fun l l' => ((h.foldl hslots (List.range 4)).foldl (fun u e hu => hu.put (GAL_ENG.STATE e) 4) l).foldl
    (fun u e hu => hu.put (ACQ_CHZ.STATE (e - 20)) 5) l'
  split
  · exact ((hshown _ _).puts _).put _ _
  · exact (hshown _ _).puts _

theorem resetUnits_emptied (s : State) (cold : Bool) (deg : Deg) : Emptied (s.resetUnits cold deg) := by
  unfold State.resetUnits
  exact Emptied.showStore ⟨rfl, rfl, rfl⟩

theorem countReset_warm (s : State) (cause : Nat) : s.countReset false cause =
    (({ s with md := { s.md with resetCause := cause } } : State).puts
      [(MOD_RESET.CAUSE, cause), (MOD_RESET.COLD, 0), (MOD_RESET.PIN, b2n s.pins.rstN)]).inc MOD_RSTCNT.WARM := rfl

theorem countReset_warm_cause (s : State) {cause : Nat} (hcause : cause < 16) : (s.countReset false cause).get MOD_RESET.CAUSE = cause := by
  rw [countReset_warm, State.inc, State.putSat, State.get_put_clear _ _ _ _ (by decide), State.puts_cons, State.get_puts_clear _ _ (by rfl),
    State.get_put_same _ _ _ (show 3 < 32 by decide)]
  exact Nat.mod_eq_of_lt hcause

theorem Emptied.countReset_warm {s : State} (h : Emptied s) (cause : Nat) : Emptied (s.countReset false cause) :=
  Emptied.put (Emptied.puts (s := { s with md := { s.md with resetCause := cause } }) h _) _ _

/-- A warm reset by cause 5 leaves its cause and no zone, connection or event (R418). -/
theorem warmReset_leaves {s : State} (hmode : s.md.mode ≠ .reset) :
    (s.warmReset 5).get MOD_RESET.CAUSE = 5 ∧ Emptied (s.warmReset 5) := by
  unfold State.warmReset
  rw [if_neg hmode]
  refine ⟨?_, ((resetUnits_emptied _ _ _).countReset_warm 5).put _ _⟩
  rw [State.get_put_clear _ _ _ _ (by decide), countReset_warm_cause _ (by decide)]

/-! ### RST_N -/

/-- RST_N low, as the part sees it first (R419). -/
def pinLow (s : State) : State :=
  { ({ s with pins := { s.pins with rstN := false } } : State).put MOD_RESET.PIN 0 with
    md := { s.md with rstLowSince := some (s.md.rstLowSince.getD (s.clk.up - 10000000)) } }

theorem pinLow_ignored (s : State) : (pinLow s).on MOD_RESET.IGNORED = s.on MOD_RESET.IGNORED :=
  congrArg (fun v : Nat => decide (v = 1)) (State.get_put_clear s _ _ _ (by decide))

theorem opRstNAssert_ignored {s : State} (hignored : s.on MOD_RESET.IGNORED = true) : opRstNAssert s = pinLow s :=
  if_pos (.inl ((pinLow_ignored s).trans hignored))

theorem opRstNAssert_resets {s : State} (hheard : (pinLow s).on MOD_RESET.IGNORED = false) (hloss : s.pw.lossAt = none)
    (hmode : s.md.mode ≠ .reset) :
    opRstNAssert s = ({ (pinLow s).warmReset 3 with md := { ((pinLow s).warmReset 3).md with pinReset := true, f4Wait := false } } : State).put
      MOD_RESET.F4HOLD 0 := by
  have hgo : ¬((pinLow s).on MOD_RESET.IGNORED = true ∨ (pinLow s).pw.lossAt.isSome = true) :=
    not_or.2 ⟨Bool.eq_false_iff.1 hheard, by simp [pinLow, hloss]⟩
  have hmode' : ¬(pinLow s).md.mode = .reset := hmode
  have hreset : opRstNAssert s = (let u := if (pinLow s).md.mode = .reset then pinLow s else (pinLow s).warmReset 3
      ({ u with md := { u.md with pinReset := true, f4Wait := false } } : State).put MOD_RESET.F4HOLD 0) := if_neg hgo
  rw [hreset, if_neg hmode']

/-- RST_N held low too long: ignored from now on (R421). -/
def stuckSeen (s : State) (t : Nat) : State :=
  { s.puts [(MOD_RESET.IGNORED, 1), (MOD_RESET.INDICATE, 1)] with
    sio := { s.sio with indicate := true }
    md := { s.md with stuckRec := some ((s.clk.up - t) / 1000000, if s.md.resetCold then 1 else 2) } }

theorem stuckSeen_ignored (s : State) (t : Nat) :
    (({ stuckSeen s t with md := { (stuckSeen s t).md with resetCause := 4, f4Wait := false } } : State).put MOD_RESET.CAUSE 4).on
      MOD_RESET.IGNORED = true := by
  have hget : ((s.put MOD_RESET.IGNORED 1).puts [(MOD_RESET.INDICATE, 1)]).get MOD_RESET.IGNORED = 1 :=
    (State.get_puts_clear _ _ (by decide) _).trans (State.get_put_same _ _ _ (by decide))
  exact decide_eq_true ((State.get_put_clear (stuckSeen s t) MOD_RESET.IGNORED MOD_RESET.CAUSE 4 (by decide)).trans hget)

theorem opRstStuck_taken {s : State} {t : Nat} (hlow : s.md.rstLowSince = some t) (hdue : t + 8000000000 ≤ s.clk.up) (hpin : s.pins.rstN = false)
    (hheard : s.on MOD_RESET.IGNORED = false) (hloss : s.pw.lossAt = none) :
    opRstStuck s = if s.md.mode = .reset then
        (let u := ({ stuckSeen s t with md := { (stuckSeen s t).md with resetCause := 4, f4Wait := false } } : State).put MOD_RESET.CAUSE 4
         if u.resetMayEnd then u.leaveReset else u)
      else stuckSeen s t := by
  have hgo : ¬(s.pins.rstN = true ∨ s.on MOD_RESET.IGNORED = true ∨ s.pw.lossAt.isSome = true ∨ s.clk.up < t + 8000000000) := by
    refine not_or.2 ⟨Bool.eq_false_iff.1 hpin, not_or.2 ⟨Bool.eq_false_iff.1 hheard, not_or.2 ⟨by simp [hloss], Nat.not_lt.2 hdue⟩⟩⟩
  unfold opRstStuck
  rw [hlow]
  exact if_neg hgo

/-! ### The end of RESET -/

theorem resetMayEnd_iff (s : State) : s.resetMayEnd = true ↔ s.md.mode = .reset ∧ s.suppliesValid = true ∧
    ((s.md.pinReset = false ∧ s.pins.rstN = true) ∨ s.on MOD_RESET.IGNORED = true) ∧ s.md.f4Wait = false ∧ s.on MOD_RESET.F4HOLD = false := by
  simp [State.resetMayEnd, and_assoc]

theorem opF4HoldExpiry_due {s : State} (hwait : s.md.f4Wait = true) (hdue : s.md.f4At + 10000000000 ≤ s.clk.up) :
    opF4HoldExpiry s = (let u : State := { s with md := { s.md with f4Wait := false } }
      if u.resetMayEnd then u.leaveReset else u) :=
  if_neg (not_or.2 ⟨by simp [hwait], Nat.not_lt.2 hdue⟩)

/-! ### The way to HOLD -/

/-- Out of LOAD: SAFE where a cause is latched, else HOLD (R426). -/
def holdOrSafe (s : State) : State :=
  match s.md.latched with
  | some (c, src) => s.enterSafe c src
  | none => s.enterMode .hold 4

/-- What LOAD shows and records of the profile it took (R424). -/
def loadShown (p : Plane) (slot refused : Nat) (s : State) : State :=
  let s := s.puts [(CFG_STAT.ACTIVE, slot), (CFG_STAT.STRICT, p.nat 11 0 0x081 []), (CFG_SECT.ACTIVE, refused)]
  let s : State := { s with cfg := { s.cfg with logActive := if slot = 4 then .empty else s.cfg.logLast } }
  holdOrSafe (s.loadedRecord slot 1 refused)

/-- The way from LOAD with a profile chosen (R424-R426). -/
def loadWith (p : Plane) (slot : Nat) (s : State) : State :=
  loadShown p slot (if slot = 4 then 0 else s.cfg.shadowRefused) (s.applyPlane p)

theorem loadShown_fallback (p : Plane) (s : State) :
    loadShown p 4 0 s = holdOrSafe (({ s.puts [(CFG_STAT.ACTIVE, 4), (CFG_STAT.STRICT, p.nat 11 0 0x081 []), (CFG_SECT.ACTIVE, 0)] with
      cfg := { s.cfg with logActive := .empty } } : State).loadedRecord 4 1 0) := rfl

theorem loadWith_fallback (p : Plane) (s : State) : loadWith p 4 s = loadShown p 4 0 (s.applyPlane p) :=
  congrArg (fun refused => loadShown p 4 refused (s.applyPlane p)) (if_pos rfl)

/-- The way from LOAD with what the selection gave. -/
def loadSelected (r : Plane × Nat × State) : State := loadWith r.1 r.2.1 r.2.2

/-- The state that the selection of LOAD starts from. -/
def loadFrom (s : State) (pins : Nat) : State :=
  { s with pins := { s.pins with profSel := pins }, cfg := { s.cfg with shadowClamps := 0, shadowRefused := 0 } }

theorem opLoadComplete_taken {s t : State} {pins slot : Nat} {settled : Bool} {p : Plane} (hmode : s.md.mode = .load)
    (hselect : (if (loadFrom s pins).on CFG_CTL.PIN_EN ∧ 2 ≤ s.cls.lc then (loadFrom s pins).put CFG_STAT.PINS pins else loadFrom s pins).selectLoad
      pins settled = (p, slot, t)) :
    opLoadComplete pins settled s = loadWith p slot t := by
  have hload : opLoadComplete pins settled s = loadSelected
      ((if (loadFrom s pins).on CFG_CTL.PIN_EN ∧ 2 ≤ s.cls.lc then (loadFrom s pins).put CFG_STAT.PINS pins else loadFrom s pins).selectLoad
        pins settled) := if_neg (not_not.2 hmode)
  rw [hload, hselect, loadSelected]

theorem opLoadComplete_fallback {s : State} {pins : Nat} {settled : Bool} (hmode : s.md.mode = .load) (hlc : s.cls.lc < 2) :
    opLoadComplete pins settled s = loadShown .profileF 4 0 ((loadFrom s pins).applyPlane .profileF) := by
  have hselect : (if (loadFrom s pins).on CFG_CTL.PIN_EN ∧ 2 ≤ s.cls.lc then (loadFrom s pins).put CFG_STAT.PINS pins
      else loadFrom s pins).selectLoad pins settled = (.profileF, 4, loadFrom s pins) := by
    rw [if_neg fun h => Nat.not_le.2 hlc h.2]
    exact if_pos hlc
  exact (opLoadComplete_taken hmode hselect).trans (loadWith_fallback _ _)

/-- Settles O59: resets, RST_N, the end of RESET, the way to HOLD, fault handling and the peer's cause. -/
theorem resetCommands : Obligations.ResetCommands := by
  unfold Obligations.ResetCommands
  refine ⟨?leaves, ?reset, ?ignored, ?pinLeaves, ?pin, fun s => exec_rstNRelease s, fun s => exec_rstNRearm s, ?stuckRun, ?holdKept, ?holdEnds, ?early,
    ?stuckReset, ?exit, ?loadF, ?load, ?handling, ?peer⟩
  case leaves =>
    intro s hmode
    obtain ⟨hreset, hcode⟩ := State.warmReset_md s 5 hmode
    obtain ⟨hcause, hzones, hconns, hevents⟩ := warmReset_leaves hmode
    exact ⟨s.warmReset 5, exec_reset s, hreset, hcode, hcause, hzones, hconns, hevents⟩
  case reset =>
    intro s u v w hmode hu hv hw
    subst hu hv hw
    exact exec_of_op (exec_reset s) (if_neg hmode)
  case ignored =>
    intro s hignored
    exact ⟨pinLow s, exec_of_op (exec_rstNAssert s) (opRstNAssert_ignored hignored), rfl, rfl⟩
  case pinLeaves =>
    intro s hheard hloss hmode
    refine ⟨_, exec_of_op (exec_rstNAssert s) (opRstNAssert_resets ((pinLow_ignored s).trans hheard) hloss hmode), ?_, rfl⟩
    exact (State.warmReset_md (pinLow s) 3 hmode).1
  case pin =>
    intro s u v hu hheard hloss hmode hv
    obtain rfl : u = pinLow s := hu
    subst hv
    exact exec_of_op (exec_rstNAssert s) (opRstNAssert_resets hheard hloss hmode)
  case stuckRun =>
    intro s t hlow hdue hpin hheard hloss hmode
    exact exec_of_op (exec_rstStuck s) ((opRstStuck_taken hlow hdue hpin hheard hloss).trans (if_neg hmode))
  case holdKept =>
    intro s hwait hdue hmode hpin hheard
    refine exec_of_op (exec_f4HoldExpiry s) ((opF4HoldExpiry_due hwait hdue).trans (if_neg ?_))
    intro h
    obtain ⟨-, -, hpins, -, -⟩ := (resetMayEnd_iff _).1 h
    rcases hpins with ⟨-, hhigh⟩ | hignored
    · exact absurd (hhigh.symm.trans hpin) (by decide)
    · exact absurd (hignored.symm.trans hheard) (by decide)
  case holdEnds =>
    intro s u hwait hdue hmode hpin hpinReset hhold hu hsupplies
    subst hu
    refine exec_of_op (exec_f4HoldExpiry s) ((opF4HoldExpiry_due hwait hdue).trans (if_pos ?_))
    exact (resetMayEnd_iff _).2 ⟨hmode, hsupplies, .inl ⟨hpinReset, hpin⟩, rfl, hhold⟩
  case early =>
    intro s hearly
    exact exec_of_op (exec_f4HoldExpiry s) (if_pos (.inr hearly))
  case stuckReset =>
    intro s u t hlow hdue hpin hheard hloss hmode hu hsupplies hhold
    subst hu
    refine exec_of_op (exec_rstStuck s) ((opRstStuck_taken hlow hdue hpin hheard hloss).trans ((if_pos hmode).trans (if_pos ?_)))
    refine (resetMayEnd_iff _).2 ⟨hmode, hsupplies, .inr ?_, rfl, hhold⟩
    exact stuckSeen_ignored s t
  case exit =>
    intro s hend hzero harmed rmaN
    exact exec_of_op (exec_resetExit s rmaN) (if_pos hend)
  case loadF =>
    intro s u w pins settled hmode hlc hu hw
    obtain rfl : u = (loadFrom s pins.val).applyPlane .profileF := hu
    have hload : opLoadComplete pins.val settled s = holdOrSafe w := by
      rw [hw, opLoadComplete_fallback hmode hlc, loadShown_fallback]
    exact exec_of_op (exec_loadComplete s pins settled) hload
  case load =>
    intro s r t u w pins settled p slot n hmode hlc hpins hr hselect hn hu hw
    have hpins' : (loadFrom s pins.val).on CFG_CTL.PIN_EN ∧ 2 ≤ s.cls.lc := ⟨hpins, hlc⟩
    have hchosen : (if (loadFrom s pins.val).on CFG_CTL.PIN_EN ∧ 2 ≤ s.cls.lc then (loadFrom s pins.val).put CFG_STAT.PINS pins.val
        else loadFrom s pins.val).selectLoad pins.val settled = (p, slot, t) := by
      rw [if_pos hpins', ← hselect, hr]
      rfl
    have hload : opLoadComplete pins.val settled s = holdOrSafe w := by
      rw [opLoadComplete_taken hmode hchosen, hw, hu, hn]
      rfl
    exact exec_of_op (exec_loadComplete s pins settled) hload
  case handling =>
    intro s signal lvl hlow
    refine exec_of_op (exec_faultHandling s signal lvl) (if_neg ?_)
    intro h
    obtain ⟨l, hl, hhigher⟩ := List.any_eq_true.1 h
    obtain ⟨hlvl, hactive⟩ := Bool.and_eq_true_iff.1 hhigher
    exact absurd (hactive.symm.trans (hlow l (List.mem_range.1 hl) (of_decide_eq_true hlvl))) (by decide)
  case peer =>
    intro s hcompares hmatched
    exact exec_of_op (exec_peerCauseCleared s) (if_pos ⟨hcompares, hmatched⟩)

end Sys2Proof.Proofs
end
